-- ==== Sys2Proof/Word.lean ====
section
/-! DEFINITION. The plainest types of the model: a byte, the 32-bit word of a Lantern core, and the number types the
registers of the device are written in. -/

namespace Sys2Proof

/-- One byte. -/
abbrev Byte := BitVec 8

/-- A 32-bit word: the D and A registers of a Lantern core and the words SHA-256 works on. -/
abbrev Word := BitVec 32

end Sys2Proof
end

