-- ==== Sys2Proof/Machine/Bits.lean ====
section
/-! DEFINITION. Byte order, sign extension and saturation helpers, shared by every unit. Multi-byte values are
little-endian in every serialisation (R10). -/

namespace Sys2Proof.Machine

/-- The low `n` bytes of `v`, least significant first (R10). -/
def leBytes : Nat → Nat → List Byte
  | 0, _ => []
  | n + 1, v => BitVec.ofNat 8 v :: leBytes n (v / 256)

/-- The number a little-endian byte string spells (R10). -/
def leNat : List Byte → Nat
  | [] => 0
  | b :: t => b.toNat + 256 * leNat t

/-- The low `n` bytes of `v`, most significant first (structures of a named standard, R10, R532). -/
def beBytes (n v : Nat) : List Byte := (leBytes n v).reverse

/-- The number a big-endian byte string spells. -/
def beNat (l : List Byte) : Nat := l.foldl (fun a b => 256 * a + b.toNat) 0

/-- The two's complement reading of the low `bits` bits of `v`. -/
def toSigned (bits v : Nat) : Int :=
  let m := v % 2 ^ bits
  if m < 2 ^ (bits - 1) then (m : Int) else (m : Int) - (2 ^ bits : Nat)

/-- The low `bits` bits of the two's complement encoding of `v`. -/
def toUnsigned (bits : Nat) (v : Int) : Nat := (v % ((2 ^ bits : Nat) : Int)).toNat

/-- `v` limited to `lo` … `hi`. -/
def clampI (lo hi v : Int) : Int := if v < lo then lo else if hi < v then hi else v

/-- Saturation of a number to a signed field of `bits` bits. -/
def satS (bits : Nat) (v : Int) : Int := clampI (-((2 ^ (bits - 1) : Nat) : Int)) (((2 ^ (bits - 1) : Nat) : Int) - 1) v

/-- Saturation of a number to an unsigned field of `bits` bits. -/
def satU (bits v : Nat) : Nat := if v < 2 ^ bits then v else 2 ^ bits - 1

/-- `v` with bit `i` made `b`. -/
def withBit (v i : Nat) (b : Bool) : Nat :=
  if v.testBit i = b then v else v ^^^ 2 ^ i

/-- `v` with every bit of `m` cleared. -/
def clearBits (v m : Nat) : Nat := v ^^^ (v &&& m)

/-- Bits `hi` down to `lo` of a number. -/
def field (v hi lo : Nat) : Nat := (v / 2 ^ lo) % 2 ^ (hi + 1 - lo)

/-- The number of 1 bits among the low `n` bits of `v`. -/
def popcount : Nat → Nat → Nat
  | 0, _ => 0
  | n + 1, v => v % 2 + popcount n (v / 2)

/-- Division rounded to the nearest integer, ties away from zero. -/
def divRound (a : Int) (b : Nat) : Int :=
  if 0 ≤ a then (2 * a + b) / (2 * b) else -((2 * (-a) + b) / (2 * b))

/-- Quotient rounded up. -/
def ceilDiv (a b : Nat) : Nat := (a + b - 1) / b

/-- `n` copies of the zero byte. -/
def zeroBytes (n : Nat) : List Byte := List.replicate n 0

/-- The first `n` bytes of `l`, padded with 0x00 at the end. -/
def padTo (n : Nat) (l : List Byte) : List Byte := l.take n ++ zeroBytes (n - l.length)

/-- The `n` bytes of `l` from offset `o`, short when `l` ends first. -/
def slice (l : List Byte) (o n : Nat) : List Byte := (l.drop o).take n

/-- A little-endian number of `n` bytes at offset `o`. -/
def leAt (l : List Byte) (o n : Nat) : Nat := leNat (slice l o n)

end Sys2Proof.Machine
end

