-- ==== Sys2Proof/Machine/Tab.lean ====
section
/-! DEFINITION. Sparse tables: a list of (key, value) pairs in one canonical form (keys strictly rising, no entry equal to
what an unlisted key reads as). Object values, memories and per-instance engine state are all held so. -/

namespace Sys2Proof.Machine

/-- What key `k` reads as, `dflt` being what an unlisted key reads as. -/
def Tab.get {α : Type} (dflt : α) : List (Nat × α) → Nat → α
  | [], _ => dflt
  | (j, v) :: t, k => if k = j then v else Tab.get dflt t k

/-- The table without an entry for `k`. -/
def Tab.erase {α : Type} : List (Nat × α) → Nat → List (Nat × α)
  | [], _ => []
  | (j, v) :: t, k => if k = j then Tab.erase t k else (j, v) :: Tab.erase t k

/-- An entry put before the first larger key. -/
def Tab.insert {α : Type} (k : Nat) (v : α) : List (Nat × α) → List (Nat × α)
  | [] => [(k, v)]
  | (j, w) :: t => if k < j then (k, v) :: (j, w) :: t else (j, w) :: Tab.insert k v t

/-- Key `k` made to read as `v`; writing what an unlisted key reads as removes the entry. -/
def Tab.set {α : Type} [DecidableEq α] (dflt : α) (t : List (Nat × α)) (k : Nat) (v : α) : List (Nat × α) :=
  if v = dflt then Tab.erase t k else Tab.insert k v (Tab.erase t k)

/-- Whether a table lists `k`. -/
def Tab.has {α : Type} : List (Nat × α) → Nat → Bool
  | [], _ => false
  | (j, _) :: t, k => if k = j then true else Tab.has t k

/-- Keys strictly rising from above `lo` (`none`: no bound yet). -/
def Tab.rising {α : Type} : Option Nat → List (Nat × α) → Bool
  | _, [] => true
  | none, (j, _) :: t => Tab.rising (some j) t
  | some lo, (j, _) :: t => decide (lo < j) && Tab.rising (some j) t

/-- The canonical form, for a default that may depend on the key. -/
def Tab.wf {α : Type} [DecidableEq α] (dflt : Nat → α) (t : List (Nat × α)) : Bool :=
  Tab.rising none t && t.all (fun p => decide (p.2 ≠ dflt p.1))

end Sys2Proof.Machine
end

