-- ==== Sys2Proof/Machine/Value.lean ====
section
/-! DEFINITION. Object values (Table 0.5), their types, persistence classes (Table 0.6), roles (Table 0.7) and result
codes (Table 13.2). -/

namespace Sys2Proof.Machine

/-- The value of an object: a number (every fixed-size numeric type, signed types as their signed reading), or a byte
string (DIGEST256, STR, BLOB). -/
inductive Val where
  | num (n : Int)
  | bytes (b : List Byte)
  deriving DecidableEq, Repr

/-- The number of a value; a byte string has none and reads 0. -/
def Val.int : Val → Int
  | .num n => n
  | .bytes _ => 0

/-- The bytes of a byte-string value; a number has none. -/
def Val.raw : Val → List Byte
  | .num _ => []
  | .bytes b => b

/-- Data types of Table 0.5. -/
inductive Ty where
  | bool | u8 | u16 | u32 | u64 | s8 | s16 | s32 | s64 | q15 | q31 | f32 | time64 | freq | level | enum8 | oid | digest
  | str (n : Nat) | blob (n : Nat)
  deriving DecidableEq, Repr

/-- Persistence classes of Table 0.6. -/
inductive Cls where
  | V | P | C | K | S
  deriving DecidableEq, Repr

/-- One of the four rights of R12. -/
inductive Rt where
  | none | r | w | rw
  deriving DecidableEq, Repr

/-- Roles of Table 0.7. -/
inductive Role where
  | H | N | S | F | D | M
  deriving DecidableEq, Repr

/-- The ROLE byte of a log entry (Table 13.9). -/
def Role.code : Role → Nat
  | .H => 0 | .N => 1 | .S => 2 | .F => 3 | .D => 4 | .M => 5

/-- Result codes of Table 13.2. -/
inductive RC where
  | ok | absent | rights | invalidValue | state | resource | length | superseded | notApplied | tooLarge | storeFailed
  deriving DecidableEq, Repr

/-- The number of a result code (Table 13.2). -/
def RC.code : RC → Nat
  | .ok => 0 | .absent => 1 | .rights => 2 | .invalidValue => 3 | .state => 4 | .resource => 5 | .length => 6
  | .superseded => 7 | .notApplied => 8 | .tooLarge => 9 | .storeFailed => 10

/-- Bytes of a fixed-size type (Table 0.5); 0 for STR and BLOB. -/
def Ty.size : Ty → Nat
  | .bool | .u8 | .s8 | .enum8 => 1
  | .u16 | .s16 | .q15 | .level => 2
  | .u32 | .s32 | .q31 | .f32 | .freq | .oid => 4
  | .u64 | .s64 | .time64 => 8
  | .digest => 32
  | .str _ | .blob _ => 0

/-- The TYPE byte of a serialisation record (Table 13.6). -/
def Ty.code : Ty → Nat
  | .bool => 0 | .u8 => 1 | .u16 => 2 | .u32 => 3 | .u64 => 4 | .s8 => 5 | .s16 => 6 | .s32 => 7 | .s64 => 8
  | .q15 => 9 | .q31 => 10 | .f32 => 11 | .time64 => 12 | .freq => 13 | .level => 14 | .enum8 => 15 | .oid => 16
  | .digest => 17 | .str _ => 18 | .blob _ => 19

/-- Whether a numeric type is two's complement. -/
def Ty.signed : Ty → Bool
  | .s8 | .s16 | .s32 | .s64 | .q15 | .q31 | .level => true
  | _ => false

/-- Least and greatest number of a numeric type. -/
def Ty.range (t : Ty) : Int × Int :=
  if t.signed then (-((2 ^ (8 * t.size - 1) : Nat) : Int), ((2 ^ (8 * t.size - 1) : Nat) : Int) - 1)
  else (0, ((2 ^ (8 * t.size) : Nat) : Int) - 1)

/-- The bytes of a value of type `t`: Table 0.5, without the BLOB length prefix (R397, Table 13.5). -/
def Ty.encode (t : Ty) (v : Val) : List Byte :=
  match t with
  | .digest => padTo 32 v.raw
  | .str n => padTo n v.raw
  | .blob _ => v.raw
  | _ => leBytes t.size (toUnsigned (8 * t.size) v.int)

/-- The value a byte string of the right length spells for type `t`; an STR is stored padded to n bytes (R364). -/
def Ty.decode (t : Ty) (b : List Byte) : Val :=
  match t with
  | .digest => .bytes b
  | .str n => .bytes (padTo n b)
  | .blob _ => .bytes b
  | _ => if t.signed then .num (toSigned (8 * t.size) (leNat b)) else .num (leNat b)

/-- Whether a byte string is well-formed UTF-8 (RFC 3629). `n` is how many continuation bytes are still due, `lo` and
`hi` the bounds of the next one. -/
def utf8From : Nat → Nat → Nat → List Byte → Bool
  | 0, _, _, [] => true
  | _ + 1, _, _, [] => false
  | 0, _, _, b :: t =>
    let v := b.toNat
    if v < 0x80 then utf8From 0 0x80 0xBF t
    else if 0xC2 ≤ v ∧ v ≤ 0xDF then utf8From 1 0x80 0xBF t
    else if v = 0xE0 then utf8From 2 0xA0 0xBF t
    else if v = 0xED then utf8From 2 0x80 0x9F t
    else if 0xE1 ≤ v ∧ v ≤ 0xEF then utf8From 2 0x80 0xBF t
    else if v = 0xF0 then utf8From 3 0x90 0xBF t
    else if 0xF1 ≤ v ∧ v ≤ 0xF3 then utf8From 3 0x80 0xBF t
    else if v = 0xF4 then utf8From 3 0x80 0x8F t
    else false
  | n + 1, lo, hi, b :: t => if lo ≤ b.toNat ∧ b.toNat ≤ hi then utf8From n 0x80 0xBF t else false

/-- A string value without its trailing 0x00 padding is UTF-8 (Table 0.5, R363). -/
def utf8Ok (l : List Byte) : Bool := utf8From 0 0x80 0xBF ((l.reverse.dropWhile (· == 0)).reverse)

end Sys2Proof.Machine
end

