-- ==== Sys2Proof/Syntax.lean ====
section
/-! DEFINITION. The commands of the block: one constructor per row of the opcode table, with the row's operands. Operands
are what reaches the device from outside with the command (an origin and a value for a write, a message, a packet), or
what the row's occurrence reports (a detector reading, a decoded block, the outcome of an analogue or eNVM process): the
spec describes these as inputs of the rule the row names. -/

namespace Sys2Proof

open Sys2Proof.Machine

/-- Who sends a write (R362, Table 13.9): role, PORT code, Tender session and SOURCE. -/
structure Origin where
  role : Role
  port : Nat
  session : Nat
  source : Nat
  deriving DecidableEq, Repr

/-- A Tender message as a command takes it from a transport's receive queue (Table 14.1): transport (PORT code of Table
14.4), requester on that transport, SOURCE for the log, header fields, body, and the MAC bytes that follow (none without
MFLAGS bit 1). -/
structure TMsg where
  port : Nat
  src : Nat
  source : Nat
  opcode : Nat
  mflags : Nat
  session : Nat
  tag : Nat
  seq : Nat
  body : List Byte
  mac : List Byte
  deriving DecidableEq, Repr

/-- A detection in a context (R122, Tables 6.2 and 7.2): the antenna-list entry of its tap, mode, frequency offset (Hz), predicted timing and instant
(tap sample indices), its strength (C/N, or the correlation peak over the floor, 0.01 dB), and for DAB the depth of the dip (0.01 dB) and its length in
samples. -/
structure HypDet where
  entry : Nat
  mode : Nat
  offset : Int
  timing : Int
  sample : Nat
  peak : Int
  depth : Int
  len : Nat
  deriving DecidableEq, Repr

/-- Signal parameters that a digital signal signals (Tables 7.13 and 7.20): D_MODE, D_PARAM, DRM interleaving, MSC mapping,
services, NRSC-5 secondary mode. -/
structure SigInfo where
  mode : Nat
  param : Nat
  interleave : Nat
  mscMap : Nat
  services : Nat
  smode : Nat
  deriving DecidableEq, Repr

/-- What confirmed a hypothesis or verified a held signal (R124, R167, R198): the entry of its tap, the tap sample index of the null, frame start or block
boundary tested, whether the pattern there was found and the FAC or block counts passed, the FAC decoded at a DRM lock, and the delay of each entry
against entry 0 (0.1 ns). -/
structure Confirm where
  entry : Nat
  at_ : Nat
  ok : Bool
  fac : SigInfo
  delays : List Int
  deriving DecidableEq, Repr

/-- What follows the header of a received Buoy packet: the payload bytes of a GFSK packet, or the data symbols of an OFDM uplink, each the equalised points of its
data subcarriers in ascending k, I and Q in 1/4096 of the amplitude of unit mean power (R424). -/
inductive BlData where
  | bytes (b : List Byte)
  | points (l : List (List (Int × Int)))
  deriving DecidableEq, Repr

/-- A transfer that a stretch has held up (R448): the port, and the written data bytes acknowledged so far. -/
structure TwStall where
  port : Nat
  acked : Nat
  deriving DecidableEq, Repr

/-- One element of a converter stage as item 0 measures it (R302): sub-converter, stage, capacitor unit or comparator, its number, whether it failed, and its
error in 0.1 % of the range of the stage's trim DAC. -/
structure ElemMeas where
  sub : Nat
  stage : Nat
  cap : Bool
  idx : Nat
  failed : Bool
  err : Nat
  deriving DecidableEq, Repr

/-- What the calibration of a lane measured (Tables 11.1 and 11.3): the figures of each item, one for each sub-converter, door, state or step, the elements of
the converter stages, and the trim range that each trim has left, in percent. -/
structure LaneReport where
  figs : List (List Int)
  elems : List ElemMeas
  margins : List Nat
  deriving DecidableEq, Repr

/-- What a power-up calibration measured (R306, R307): the doors at which the tone was not detected (bit 3n + d), its duration, a report for each of the lanes A
to G, the coarse corner selections of each chain's doors (item 4), and the figure of the L-band synthesiser (item 9). -/
structure CalReport where
  noTone : Nat
  us : Nat
  lanes : List LaneReport
  corners : List (List Nat)
  synth : Int
  deriving DecidableEq, Repr

/-- An alignment estimate (R312): delay (0.001 sample), gains (0.01 dB) and phases (0.01 degree) of regions H, V, C. -/
structure Align where
  delay : Int
  gains : List Int
  phases : List Int
  deriving DecidableEq, Repr

/-- A decoded item of a digital signal (Table 7.14): entry type, source, whether its CRC failed, RS bytes corrected (255: uncorrectable), COUNTER, tap
sample index at the end of its last symbol, the tap samples that its symbols cover, and content. -/
structure DigEnt where
  ety : Nat
  src : Nat
  bad : Bool
  err : Nat
  counter : Nat
  sample : Nat
  span : Nat
  content : List Byte
  deriving DecidableEq, Repr

/-- The output of a selector's decoder for one coded audio frame that passed its check (R212): selector, one channel or two, and the samples at the coded
rate. -/
structure CodedOut where
  sel : Nat
  mono : Bool
  pcm : List (Int × Int)
  deriving DecidableEq, Repr

/-- What a run of a digital context decoded (Tables 7.13 and 7.15): every item of Table 7.16, the counter of its last frame, the absolute L1 frame number,
whether synchronisation was found at each frame or block of the run, and the audio of its selectors. -/
structure DigRun where
  entries : List DigEnt
  counter : Nat
  alfn : Nat
  sync : List Bool
  audio : List CodedOut
  deriving DecidableEq, Repr

/-- What one run of a context delivered (R128): per-entry SNR and loop weight (0.01 dB), the tap output of an IQ export context (Q31), and what a digital
type decoded. -/
structure RunReport where
  snr : List Int
  weights : List Int
  iq : List (Int × Int)
  dig : DigRun
  deriving DecidableEq, Repr

/-- One millisecond of signal at an FM or AM chain (R165, R166, Table 6.7): the complex samples of each entry's 6.144 MSa/s stream (none where its tap
delivers none), what is measured on it (LEVEL, SNR, MULTIPATH in 0.01 dB; none: it cannot be measured), C/N and carrier offset of each entry (0.01 dB,
Hz), and the adjacency ratios of the lower and the upper side (0.01 dB, R172, R173). -/
structure SigIn where
  taps : List (List (Int × Int))
  level : Option Int
  snr : Option Int
  multipath : Option Int
  cn : List (Int × Int)
  lo : Int
  hi : Int
  deriving DecidableEq, Repr

/-- Ten milliseconds of signal at a digital chain: the indicators of Table 7.12 (D_LEVEL, D_SNR, D_MER, D_OFFSET, D_DELAY_SPREAD, D_CDNO; none: it cannot
be measured), and for each symbol of the verifying slot whether its guard correlation was found (Table 7.2, part (a)). -/
structure DigIn where
  vals : List (Option Int)
  guard : List Bool
  deriving DecidableEq, Repr

/-- What a MEAS window measured beside its indicator intervals (Tables 6.11, 7.17 and 7.18): injection deviation of the RDS streams (10 Hz), FIC bit error
rate (10^-9), Doppler spread (0.01 Hz), weighted MER, and the transmitters found (main, sub, level in 0.01 dB and delay in ns from any reference). -/
structure MeasRep where
  rdsDev : List Nat
  errRate : Nat
  doppler : Nat
  wmer : Int
  tii : List (Nat × Nat × Int × Int)
  deriving DecidableEq, Repr

/-- An audio service signalled (Tables 7.9 and 7.11): identifier, component number (SubChId, stream or program), codec, coded
sample rate, and its place in the multiplex: start, size, protection (R205). -/
structure SvcEnt where
  sid : Nat
  comp : Nat
  codec : Nat
  fs : Nat
  start : Nat
  size : Nat
  prot : Nat
  deriving DecidableEq, Repr

/-- A complete set of service information (R209): ensemble identifier, signal parameters and audio services. -/
structure SvcRep where
  eid : Nat
  info : SigInfo
  services : List SvcEnt
  deriving DecidableEq, Repr

/-- What reaches the audio island for an internal frame (R326 to R328, R347): per source (a ROUTE_SRC value; selector 4 is a warning selector) how many
of the samples that its context produced completed the crossing since the frame before. -/
structure AudioIn where
  arr : List (Nat × Nat)
  deriving DecidableEq, Repr

/-- The commands, one per row of the opcode table. -/
inductive Instr where
  /-- RESET_RELEASE (R571). With every supply good and RESET_N high (or after a STANDBY wake), the start-up sequence
  begins: straps are latched, device time starts at 0, PLLs lock and the boot ROM starts on K0. -/
  | resetRelease (straps : Nat)
  /-- RESET_PIN (R566). RESET_N held low for at least 1 µs resets the device and records the reset cause. -/
  | resetPin
  /-- SUPPLY_WARNING (R559). A supply falls below its warning threshold, which sets SUPPLY_WARN, raises event 4 and
  begins a power-fail condition. -/
  | supplyWarning (v : Nat) (mv : Nat)
  /-- BROWN_OUT (R559). A supply stays below its brown-out threshold for 2 µs and the device resets with cause
  BROWN_OUT, or POWER_ON for VDD_AO. -/
  | brownOut (v : Nat)
  /-- PFAIL_ONSET (R560). With WAKE1_PFAIL = 1, WAKE1 goes low; eNVM erase and program work is deferred and
  PFAIL_COUNT is counted. -/
  | pfailOnset
  /-- PFAIL_CLEAR (R560). The power-fail condition clears and the deferred stores and log copies start. -/
  | pfailClear
  /-- REFCLK_LOSS (R563). No REFCLK edge arrives for 10 µs; the AO island resets the device and holds it in reset
  until edges return. -/
  | refclkLoss
  /-- WATCHDOG_WARNING (R568). WDT_MS/2 passes without a Keeper restarting its watchdog, and event 7 is raised. -/
  | watchdogWarning (k : Nat)
  /-- WATCHDOG_EXPIRY (R568). WDT_MS passes without a restart; the device resets with cause WATCHDOG. -/
  | watchdogExpiry (k : Nat)
  /-- BOOT_WATCHDOG (R568). K0 has not executed ENTER.REG within 2 s of RESET_N release, and the device resets with
  detail 0xFF. -/
  | bootWatchdog
  /-- KEEPER_HALT_RESET (R569). HALT_RESET_MS after a K1–K3 double fault, the device resets with cause KEEPER_HALT.
  -/
  | keeperHaltReset (k : Nat)
  /-- CONFIG_RESTORE (R378). Once firmware runs, it takes the valid configuration bank, restores P objects, restores
  statistics and resumes the log SEQ; host links then answer. -/
  | configRestore
  /-- BOOT_IMAGE_SELECT (R159). At start-up the early watch is checked and run, then the full image in BOOT_BANK, or
  else the other area, is checked and activated. -/
  | bootImageSelect
  /-- FULL_OPERATION (R572). Every enabled chain is in RUN, the watch image and the Light List are settled and the
  transports are up; event 0 is raised and PW_STATE becomes RUN. -/
  | fullOperation
  /-- PW_REQUEST_READY (R552). PW_REQUEST = 1 releases contexts, stops the Watch and powers down the lanes and feeds
  at the next period start. -/
  | pwRequestReady (org : Origin)
  /-- PW_REQUEST_RUN (R552). PW_REQUEST = 2 starts the lanes with power-up calibration and activates the image as at
  start-up. -/
  | pwRequestRun (org : Origin)
  /-- PW_REQUEST_SENTRY (R554). PW_REQUEST = 3 starts SENTRY entry: other contexts are released, lanes and islands
  are stopped and the wake configuration is copied to AO. -/
  | pwRequestSentry (org : Origin)
  /-- SENTRY_REACHED (R554). SENTRY entry completes, and any wake or warning latched during the entry then acts. -/
  | sentryReached
  /-- PW_REQUEST_STANDBY (R556). PW_REQUEST = 4 starts STANDBY entry: contexts are released and stores, checkpoint
  and log copies complete. -/
  | pwRequestStandby (org : Origin)
  /-- STANDBY_REACHED (R556). STANDBY entry ends: SUPPLY_EN goes low and every island except AO powers down. -/
  | standbyReached
  /-- PW_REQUEST_RESET (R552). PW_REQUEST = 5 schedules a reset with cause SOFTWARE 10 ms after the reply. -/
  | pwRequestReset (org : Origin)
  /-- DEFERRED_RESET (R552). The delay after a SOFTWARE, FW_UPDATE or RECOVERY reset request ends and the device
  resets. -/
  | deferredReset
  /-- WAKE_PIN (R557). A WAKE0 or WAKE1 condition has held for WAKE_DEBOUNCE_MS; the device wakes from STANDBY or
  SENTRY and WAKE_CAUSE is recorded. -/
  | wakePin (pin : Nat)
  /-- WAKE_TIMER (R557). WAKE_TIMER_S expires in STANDBY or SENTRY and wakes the device. -/
  | wakeTimer
  /-- TEMP_SAMPLE (R570). Every 1 ms the sensors are read; TH_WARN, the 150 °C thermal shutdown and lane and
  synthesiser temperature triggers follow from the reading. -/
  | tempSample (temps : List Int)
  /-- THERMAL_RESTART_CHECK (R570). In thermal shutdown with THERM_RESTART = 1, sensor 8 is read every 1 s and the
  device wakes below 120 °C. -/
  | thermalRestartCheck (t8 : Int)
  /-- THERM_RANK_RISE (R158). At the 140 °C crossing, and every 100 ms while the reading stays at or above 140 °C,
  THERM_RANK rises by 1. -/
  | thermRankRise
  /-- THERM_RANK_FALL (R158). Every 1 s below 135 °C THERM_RANK falls by 1, with event 57 when it reaches 0. -/
  | thermRankFall
  /-- PERIOD_START (R151). A watch period starts: resync and storm handling, image take-over, mask use, shedding,
  context skips and releases, then slot starts. -/
  | periodStart
  /-- SLOT_START (R136). A slot starts at the later of its grid offset and the completion of the previous slot on
  its track. `us` is the longest Light List lookup that the slot's job makes (R258). -/
  | slotStart (slot : Nat) (us : Nat)
  /-- SLOT_RUN_DONE (R137). A slot run completes, and overruns beyond EST_US are counted. -/
  | slotRunDone (slot : Nat) (us : Nat)
  /-- ACTIVATE (R146). A write of 1 or 2 to ACTIVATE starts the checks of a watch image in flash area A or B. -/
  | activate (org : Origin) (v : Nat)
  /-- WATCH_CHECKS_DONE (R146). The activation checks end; a failure sets ACT_RESULT and raises event 55, and a pass
  waits for the next period start. -/
  | watchChecksDone
  /-- SLOT_MASK (R149). A write to SLOT_MASK commits and applies from the next period start; earlier pending writes
  are superseded. -/
  | slotMask (org : Origin) (elem : Nat) (v : Nat)
  /-- STORM_EXIT (R156). A write of 1 to STORM_EXIT returns the full plan at the next period start. -/
  | stormExit (org : Origin) (v : Nat)
  /-- EARLY_TRACK_UPDATE (R160). After 10 s of feeding routing entry 0, and at most once per 60 s, firmware writes
  the EARLY_* objects. -/
  | earlyTrackUpdate (c : Nat)
  /-- CONTEXT_RUN_END (R128). A context run ends: an output frame is produced into the output buffer, or discarded
  when the buffer is full, and the status bits update. -/
  | contextRunEnd (c : Nat) (rep : RunReport)
  /-- TAP_FILL_DONE (R83). A tap's filter history is complete and the tap delivers its first sample on the grid. -/
  | tapFillDone (t : Nat)
  /-- HYP_DETECTION (R122). A detection by the type's criterion enters a hypothesis slot, possibly pre-empting the
  verifying slot. -/
  | hypDetection (c : Nat) (det : HypDet)
  /-- HYP_VERIFY_FAIL (R122). Verification of the VERIFYING hypothesis fails; the slot is cleared, event 75 is
  raised and the latest saved slot resumes. -/
  | hypVerifyFail (c : Nat)
  /-- HYP_CONFIRMED (R198). Verification succeeds; the context goes to LOCKED or SHADOW, records T_LOCK, starts
  combining and raises event 64. -/
  | hypConfirmed (c : Nat) (cf : Confirm)
  /-- SIGNAL_LOSS (R117). Loss of signal by the type's criterion, or all taps muted or idle, sends the context to
  HOLD. -/
  | signalLoss (c : Nat)
  /-- HOLD_REVERIFIED (R167). A held signal is verified again, and the context resumes in LOCKED or SHADOW. -/
  | holdReverified (c : Nat) (cf : Confirm)
  /-- HOLD_TIMEOUT (R117). HOLD_TIMEOUT_MS elapses; held state is discarded and the context returns to ACQUIRING. -/
  | holdTimeout (c : Nat)
  /-- ACQ_TIMEOUT (R117). ACQ_TIMEOUT_MS elapses in ACQUIRING; event 67 is raised and the search continues. -/
  | acqTimeout (c : Nat)
  /-- SELECT_SWITCH (R125). A tap exceeds the chosen one by SWITCH_HYST for SWITCH_HOLD_MS, and SELECT moves to it
  with a 32-sample crossfade. -/
  | selectSwitch (c : Nat) (entry : Nat)
  /-- REQUEST (R117). A write of REQUEST (RELEASE, RUN or SHADOW) to a context; it takes effect at the next run. -/
  | request (org : Origin) (c : Nat) (v : Nat)
  /-- SWEEP_FRAME (R86). Every 166.667 µs the Sweep computes a Hann-windowed DFT frame of every sub-band of every
  running chain. -/
  | sweepFrame
  /-- SWEEP_INTERVAL_END (R92). A reporting interval ends; channel records are formed and queued, or discarded whole
  and counted when the queue is full. -/
  | sweepIntervalEnd (seg : Nat) (chain : Nat) (frames : List (Nat × List (Nat × List (Int × Int))))
  /-- LSYN_NEEDED (R41). A chain comes to need LO_L; the L-band synthesiser powers up and starts calibration, or
  restarts it from UNLOCKED. -/
  | lsynNeeded
  /-- LSYN_LOCKED (R41). The synthesiser locks within 1.2 ms of calibration start; the time and temperature are
  recorded and the mixers unmuted. -/
  | lsynLocked
  /-- LSYN_CAL_TIMEOUT (R41). No lock within 1.2 ms: calibration restarts, or after 3 attempts the synthesiser goes
  to UNLOCKED with event 46. -/
  | lsynCalTimeout
  /-- LSYN_LOCK_DROP (R41). The lock detector drops; the L-band mixers mute, event 46 is raised and calibration
  starts. -/
  | lsynLockDrop
  /-- LSYN_CAL_CMD (R41). A write of 1 to LSYN_CAL_CMD mutes the mixers and starts calibration. -/
  | lsynCalCmd (org : Origin) (v : Nat)
  /-- LSYN_NOT_NEEDED (R41). No chain needs LO_L and the synthesiser powers down. -/
  | lsynNotNeeded
  /-- DOOR_C_BAND (R43). A write of DOOR_C_BAND mutes door C, switches its filters and LO path and holds its
  contexts. -/
  | doorCBand (org : Origin) (chain : Nat) (v : Nat)
  /-- BAND_SWITCH_DONE (R43). Door C is unmuted within 500 µs of the band-switch commit, plus any synthesiser
  calibration time. -/
  | bandSwitchDone (chain : Nat)
  /-- GAIN_TICK (R50). Every 1 ms each enabled door's gain control computes gt from the detector and applies a step
  or a release. -/
  | gainTick (det : List Int) (peak : List Int)
  /-- GAIN_STEP_DEFERRED (R52). A tick result deferred by the 2 µs step spacing is applied at the end of the
  interval, unless an overload step intervened. -/
  | gainStepDeferred (chain : Nat) (door : Nat)
  /-- OVERLOAD_DECLARED (R53). OVL_CLIP_COUNT clipped samples fall within 64; the selected doors step by OVL_STEP
  and event 16+4n is raised. -/
  | overloadDeclared (chain : Nat) (codes : List Int × List Int) (det : List Int)
  /-- OVERLOAD_PERSIST (R55). Clipping continues for PERSIST_MS with every selected door at g = 55, and event 17+4n
  is raised once. -/
  | overloadPersist (chain : Nat)
  /-- OVERLOAD_CONTINUITY_END (R55). More than 1 ms passes without an overload declaration and the clipping
  continuity ends. -/
  | overloadContinuityEnd (chain : Nat)
  /-- OVERLOAD_PERSIST_REARM (R55). 1 s without any overload declaration re-arms event 17+4n. -/
  | overloadPersistRearm (chain : Nat)
  /-- CHAIN_ENABLE (R69). A write of CHAIN_ENABLE powers the lane down (holding contexts and releasing lane G), or
  starts power-up calibration of the chain. -/
  | chainEnable (org : Origin) (chain : Nat) (v : Nat)
  /-- FEED_ENABLE (R66). A write of FEED_ENABLE starts the feed (OFF to RAMP) or turns it off, restoring the retry
  allowance. -/
  | feedEnable (org : Origin) (chain : Nat) (v : Nat)
  /-- FEED_TRIP (R64). The fast comparator fires above I_TRIP; FEED_x_EN goes low within 10 µs, event 18+4n is
  raised and the feed goes to RETRY_WAIT or LATCHED. -/
  | feedTrip (chain : Nat)
  /-- FEED_INRUSH_END (R66). INRUSH_MS elapses in RAMP and the feed goes to ON with the open and limit checks
  enabled. -/
  | feedInrushEnd (chain : Nat)
  /-- FEED_OPEN_DETECT (R66). The current stays below I_OPEN for 50 ms; the feed goes to OPEN with event 18+4n. -/
  | feedOpenDetect (chain : Nat)
  /-- FEED_OPEN_RECOVER (R66). The current stays at or above I_OPEN + 2 mA for 50 ms and the feed returns to ON. -/
  | feedOpenRecover (chain : Nat)
  /-- FEED_LIMIT_DWELL (R66). The current stays above I_LIMIT for 10 ms and the feed trips. -/
  | feedLimitDwell (chain : Nat)
  /-- FEED_ON_10S (R66). After 10 s continuously ON the retry allowance is restored to RETRY_COUNT. -/
  | feedOn10s (chain : Nat)
  /-- FEED_RETRY_EXPIRED (R66). RETRY_MS elapses; FEED_x_EN goes high and RAMP starts. -/
  | feedRetryExpired (chain : Nat)
  /-- FEED_RESET (R66). A write of 1 to FEED_RESET leaves LATCHED and restarts the feed when FEED_ENABLE is 1. -/
  | feedReset (org : Origin) (chain : Nat) (v : Nat)
  /-- INDICATOR_INTERVAL (R189). Each 1 ms an FM or AM context computes its quality indicators and feeds its filter
  channels. -/
  | indicatorInterval (c : Nat) (r : SigIn)
  /-- DIGITAL_INDICATOR_INTERVAL (R215). Each 10 ms a digital context computes its indicators and feeds its filter
  channels. -/
  | digitalIndicatorInterval (c : Nat) (r : DigIn)
  /-- AUDIO_QUALITY_TICK (R178). Each 1 ms AQ sets the blend, high-cut and soft-mute targets, which are then
  smoothed. -/
  | audioQualityTick (c : Nat)
  /-- IFBW_DECISION (R172). Each 1 ms in AUTO the IF or AM bandwidth target is chosen and applied, with a crossfade
  or a release step. -/
  | ifbwDecision (c : Nat) (lo : Int) (hi : Int)
  /-- STEREO_CHANGE (R175). The pilot deviation has held above 3 kHz or below 2 kHz for 100 ms and STEREO changes.
  -/
  | stereoChange (c : Nat) (v : Bool)
  /-- RDS_BLOCK (R184). A 26-bit RDS block ends; synchronisation is judged and the block is corrected and delivered.
  -/
  | rdsBlock (c : Nat) (stream : Nat) (chips : Nat) (sample : Nat) (first : Nat)
  /-- AM_PLL_LOCK (R188). The rms phase error has stayed below 20° for 50 ms and the carrier PLL is locked. -/
  | amPllLock (c : Nat)
  /-- AM_PLL_UNLOCK (R188). The rms phase error has stayed above 45° for 20 ms and the carrier PLL is unlocked. -/
  | amPllUnlock (c : Nat)
  /-- AM_DETECTOR_CHANGE (R187). AUTO mode changes the AM detector with a 10 ms crossfade. -/
  | amDetectorChange (c : Nat) (v : Nat)
  /-- MEAS_WINDOW_END (R191). A MEAS window ends at a multiple of MEAS_WINDOW_MS and its measurement record is
  carried in that run's frame. -/
  | measWindowEnd (c : Nat) (r : MeasRep)
  /-- SERVICE_INFO_COMPLETE (R209). A complete set of service information is decoded and selectors resolve, go to
  NOT_FOUND or wait. -/
  | serviceInfoComplete (c : Nat) (r : SvcRep)
  /-- DAB_RECONFIG (R205). A DAB multiplex reconfiguration CIF applies the new configuration and returns changed
  selectors to RESOLVING. -/
  | dabReconfig (c : Nat) (cif : Nat) (r : SvcRep)
  /-- DRM_RECONFIG (R206). A DRM FAC change applies at the named superframe boundary. -/
  | drmReconfig (c : Nat) (services : List SvcEnt) (info : SigInfo)
  /-- NRSC5_MODE_CHANGE (R207). An NRSC-5 service-mode change takes effect at the next L1 frame boundary and logical
  channels restart. -/
  | nrsc5ModeChange (c : Nat) (info : SigInfo)
  /-- CODED_FRAME_FAILED (R214). A coded audio frame fails its check; PCM fades to silence and DEC_ERR is counted.
  -/
  | codedFrameFailed (c : Nat) (sel : Nat)
  /-- MOT_TIMEOUT (R232). The segments of a MOT object are held for 60 s without completion and are discarded. -/
  | motTimeout (c : Nat) (sub : Nat) (tid : Nat)
  /-- SVC_AGE_OUT (R235). A service-list entry without a source for SVC_AGE_S is removed and a removal record is
  produced. -/
  | svcAgeOut (row : Nat)
  /-- SVC_DUMP (R235). A write of 1 to SVC_DUMP produces one record per service-list entry. -/
  | svcDump (org : Origin)
  /-- SD_STREAM_STALL (R246). A side-data stream queue stays full for 1 s and firmware disables the stream with
  event 123. -/
  | sdStreamStall (stream : Nat)
  /-- FH_INDICATION (R238). A warning indication reaches K0, which advances the warning slot through confirmation or
  end. It is the oldest on its way, `us` after it was decoded. -/
  | fhIndication (us : Nat)
  /-- FH_END_TIMEOUT (R238). No indication arrives for the class's 10 s or 5 s limit and the warning ends. -/
  | fhEndTimeout (w : Nat)
  /-- FH_SOURCE_LOST (R241). Every source context stays in HOLD for 5 s and the warning ends with cause source lost.
  -/
  | fhSourceLost (w : Nat)
  /-- FH_SOURCE_READY (R243). The warning's audio source is ready; the outputs in FH_PORTS and FH_AVTP are pre-
  empted by crossfade and the slot goes ROUTED. -/
  | fhSourceReady (w : Nat)
  /-- WARN_DISMISS (R241). A write of 1 to WARN_DISMISS ends a dismissable warning. -/
  | warnDismiss (org : Origin) (w : Nat)
  /-- LL_ACTIVATE (R259). A write of 1 or 2 to LL_ACTIVATE starts the Light List checks of an area. -/
  | llActivate (org : Origin) (v : Nat)
  /-- LL_CHECKS_DONE (R256). The Light List checks end; a failure raises event 124 with cause 7, and a pass takes
  effect at the next job 0x0001 run. -/
  | llChecksDone
  /-- LL_BLOCK_FETCH (R257). A fetched block is hashed against its leaf; it is retried once and marked BAD on a
  second mismatch. -/
  | llBlockFetch (b : Nat)
  /-- POSITION_WRITE (R262). A transaction writes POS_LAT and POS_LON together, and POS_T takes the commit time. -/
  | positionWrite (org : Origin) (lat : Int) (lon : Int)
  /-- FOLLOW_ENABLE (R271). A write of FOLLOW_ENABLE starts a follow slot searching, or releases its contexts. -/
  | followEnable (org : Origin) (f : Nat) (v : Nat)
  /-- SHADOW_ID_TIMEOUT (R267). A shadow is not identified within ID_TIMEOUT_MS; it is released and its candidate
  backs off. -/
  | shadowIdTimeout (f : Nat) (c : Nat)
  /-- CORR_REFRESH (R273). Every CORR_REFRESH_S the correlator finds the lag and levels of a shadow against the
  active source. -/
  | corrRefresh (f : Nat) (c : Nat) (al : List Int) (ar : List Int) (sl : List Int) (sr : List Int)
  /-- FOLLOW_XFADE_START (R275). At the first 1 ms boundary after the target runs LOCKED and its line holds
  d_target, the follow crossfade starts. -/
  | followXfadeStart (f : Nat)
  /-- FOLLOW_XFADE_DONE (R271). The blend completes; the line roles exchange, SWITCH_COUNT is incremented and event
  124 with cause 1 is raised. -/
  | followXfadeDone (f : Nat)
  /-- MF_INPUT (R281). A measurement-channel input is processed through median and filter, and produces outputs and
  threshold decisions at grid times. -/
  | mfInput (ch : Nat) (vals : List Int)
  /-- MF_RECORD_TIMEOUT (R298). 100 ms after its first output, a filter record is queued on the measurement streams.
  -/
  | mfRecordTimeout (ch : Nat)
  /-- FILTER_SETTINGS_WRITE (R291). A write of MEDIAN, PRESET or DOMAIN starts a new filter that crossfades in after
  settling. -/
  | filterSettingsWrite (org : Origin) (oid : Nat) (v : Nat)
  /-- OUT_MS (R293). A write of OUT_MS restarts the channel as after a CLEAR at the next grid point of the new
  T_out. -/
  | outMs (org : Origin) (oid : Nat) (v : Nat)
  /-- THR_CHANNEL (R297). A write of THR_CHANNEL sets the threshold's zone to UNKNOWN without a report. -/
  | thrChannel (org : Origin) (elem : Nat) (v : Nat)
  /-- POWERUP_CAL_DONE (R306). A power-up calibration completes: CQFs are set, chains enter RUN or FAULT and event
  42 is raised. -/
  | powerupCalDone (rep : CalReport)
  /-- LANE_DUE_TIME (R308). INTERVAL_S has passed since LANE_LAST_T and the lane falls due. -/
  | laneDueTime (lane : Nat)
  /-- LANE_CAL_CMD (R308). A write of 1 to LANE_CAL_CMD marks the lane due. -/
  | laneCalCmd (org : Origin) (lane : Nat) (v : Nat)
  /-- LANEG_WARM_DONE (R311). 200 µs after lane G powers up, it self-calibrates or connects to the chain for
  overlap. -/
  | lanegWarmDone
  /-- LANEG_SELF_CAL_DONE (R311). Lane G's self-calibration completes; it continues to overlap or powers down with
  event 43. -/
  | lanegSelfCalDone (rep : LaneReport)
  /-- OVERLAP_IN_DONE (R311). After 2 ms of overlap the alignment is judged; the crossfade onto lane G starts or the
  hand-over aborts with event 44. -/
  | overlapInDone (al : Align)
  /-- XFADE_IN_DONE (R311). The 1 ms crossfade ends; lane G serves the chain and lane n recalibrates. -/
  | xfadeInDone
  /-- LANE_RECAL_DONE (R311). Lane n's recalibration completes or fails, and lane n reconnects for the overlap. -/
  | laneRecalDone (ok : Bool) (rep : LaneReport)
  /-- OVERLAP_OUT_DONE (R311). After 2 ms the alignment is measured and the alignment term is ramped. -/
  | overlapOutDone (al : Align)
  /-- RAMP_OUT_DONE (R311). The alignment ramp completes and the crossfade back onto lane n starts. -/
  | rampOutDone
  /-- XFADE_OUT_DONE (R311). The crossfade ends; lane G powers down, the due cause is cleared and event 43 is
  raised. -/
  | xfadeOutDone
  /-- CAL_RAMP_STEP (R305). Every RAMP_MS/256 a ramped correction takes one of its 256 steps. -/
  | calRampStep (ramp : Nat)
  /-- REF_CMD (R315). A write of 1 to REF_CMD starts the reference procedure in WAITING. -/
  | refCmd (org : Origin) (v : Nat)
  /-- REF_MEASURE_DONE (R316). A REFIN measurement ends; on a pass ABS_CORR is ramped, and after the last target the
  record is stored and event 43 is raised. -/
  | refMeasureDone (tone : Int) (offset : Int) (snr : Int)
  /-- LINK_CAL_CMD (R322). A write of 1 to LINK_CAL_CMD recalibrates all eight Buoy-link synthesiser channels. -/
  | linkCalCmd (org : Origin) (v : Nat)
  /-- CFG_STORE_START (R376). STORE_DELAY_MS after the first unstored commit, with no other bank store running, a
  configuration store begins. -/
  | cfgStoreStart
  /-- CFG_STORE_DONE (R376). The marker is written and the bank becomes active, or the store fails with event 127.
  -/
  | cfgStoreDone (ok : Bool)
  /-- CAL_STORE_START (R320). A due calibration store begins with CAL_STORE_BEGIN and erases the inactive bank. -/
  | calStoreStart
  /-- CAL_STORE_DONE (R320). The calibration bank marker is written and CAL_STORE_END is logged. -/
  | calStoreDone (ok : Bool)
  /-- STATS_CHECKPOINT (R372). Every CKPT_S the statistics checkpoint is written to the inactive bank and a CKPT
  record is logged. -/
  | statsCheckpoint
  /-- LMS_STORE_START (R546). An LMS-state store begins to reserve further attestation indices. -/
  | lmsStoreStart
  /-- LMS_STORE_DONE (R546). The LMS-state bank is written and LIMIT rises, or the store fails and is retried after
  100 ms. -/
  | lmsStoreDone (ok : Bool)
  /-- LOG_NV_COPY (R382). A log entry reaches the eNVM ring, and a write failure raises event 127. -/
  | logNvCopy (ok : Bool)
  /-- LOG_SUMMARY (R383). At each whole minute, KIND 2 summaries of written V objects are logged. -/
  | logSummary
  /-- HEARTBEAT (R391). At each second plus HB_PHASE_MS a heartbeat is published. -/
  | heartbeat
  /-- HEARTBEAT_ON_CHANGE (R391). Within 2 ms of a Daymark or DM_STATE change, a heartbeat is published. -/
  | heartbeatOnChange
  /-- OBJECT_WRITE (R368). A write of an object that has no row of its own is applied at T_C, logged and reflected
  in the Daymarks and CFG_DIRTY. -/
  | objectWrite (org : Origin) (oid : Nat) (value : List Byte)
  /-- DEFAULTS_RESTORE (R371). DEFAULTS_CMD = 1 sets the P objects of the selected areas to their user or factory
  defaults. -/
  | defaultsRestore (org : Origin) (areas : Nat)
  /-- DEFAULTS_FACTORY (R371). DEFAULTS_CMD = 2 sets the P objects of the selected areas to factory defaults and
  removes user defaults. -/
  | defaultsFactory (org : Origin) (areas : Nat)
  /-- STATS_CLEAR (R372). A write of an area mask to STATS_CLEAR zeroes the S objects of those areas. -/
  | statsClear (org : Origin) (areas : Nat)
  /-- SEGMENT_RX (R400). A transport segment arrives and is reassembled; a completed message enters the receive
  queue or is dropped. -/
  | segmentRx (port : Nat) (src : Nat) (source : Nat) (seg : List Byte)
  /-- REASSEMBLY_TIMEOUT (R400). A message is not completed within 100 ms of its SEG 0 and is discarded. -/
  | reassemblyTimeout (port : Nat) (src : Nat)
  /-- READ (R396). A Tender READ transaction is checked and executed and its values are returned. -/
  | read (m : TMsg)
  /-- WRITE (R396). A Tender WRITE of exactly one item is checked, applied and logged. -/
  | write (m : TMsg)
  /-- MULTI (R367). A MULTI transaction of 1–64 mixed items is checked in steps and applied atomically, or refused
  whole. -/
  | multi (m : TMsg)
  /-- SUBSCRIBE (R406). SUBSCRIBE creates a subscription of a kind, or is refused. -/
  | subscribe (m : TMsg)
  /-- UNSUBSCRIBE (R406). UNSUBSCRIBE ends the named subscription of the requester. -/
  | unsubscribe (m : TMsg)
  /-- LOG_READ (R398). LOG_READ returns up to COUNT log entries at or above START from the named ring. -/
  | logRead (m : TMsg)
  /-- DAYMARK (R398). DAYMARK returns the Daymarks, DM_STATE, CFG_DIRTY and, optionally, the leaves. -/
  | daymark (m : TMsg)
  /-- AUTH_HELLO (R403). AUTH_HELLO allocates a session number and returns a device nonce, or BUSY. -/
  | authHello (m : TMsg)
  /-- AUTH_PROVE (R403). AUTH_PROVE checks the host proof and opens the session with DEV_PROOF, or fails with
  AUTH_FAILED. -/
  | authProve (m : TMsg)
  /-- CLOSE (R405). CLOSE ends the session and its subscriptions. -/
  | close (m : TMsg)
  /-- PING (R396). PING echoes its body. -/
  | ping (m : TMsg)
  /-- UNKNOWN_OPCODE (R399). A message with an opcode not in Table 14.2 gets the UNKNOWN_OPCODE error reply. -/
  | unknownOpcode (m : TMsg)
  /-- DEVICE_OPCODE_RECEIVED (R396). A received message with a device-only opcode is discarded. -/
  | deviceOpcodeReceived (m : TMsg)
  /-- AUTH_PROVE_TIMEOUT (R403). No AUTH_PROVE arrives within 5 s and the session number is freed. -/
  | authProveTimeout (session : Nat)
  /-- SESSION_IDLE (R405). SESS_IDLE_S passes without a valid message and the session ends. -/
  | sessionIdle (session : Nat)
  /-- AUTH_LOCKOUT_END (R405). The 60 s lockout of a requester whose proofs failed ends. -/
  | authLockoutEnd (port : Nat) (src : Nat)
  /-- LINK_CHANGE (R417). A link goes up or down or CAN_STATE changes; sessions on a lost link end and event 96 is
  raised. -/
  | linkChange (link : Nat) (v : Nat)
  /-- PLCA_BEACON (R401). A 10BASE-T1S follower hears a BEACON and uses PLCA. -/
  | plcaBeacon
  /-- PLCA_BEACON_TIMEOUT (R401). No BEACON for 4 ms and the follower returns to CSMA/CD. -/
  | plcaBeaconTimeout
  /-- CHANGE_INTERVAL_END (R407). At the end of MIN_MS, a changed value is sent as a CHANGE notification. -/
  | changeIntervalEnd (sub : Nat)
  /-- STREAM_RECORD_SEND (R408). A record is sent as STREAM on a subscription, or counted in LOST with event 100. -/
  | streamRecordSend (sub : Nat)
  /-- SPI_PUT (R402). The SPI PUT command takes one segment from the host. -/
  | spiPut (seg : List Byte) (cut : Bool)
  /-- SPI_GET (R402). The SPI GET command returns one waiting segment. -/
  | spiGet (cut : Bool)
  /-- SPI_STATUS (R402). The SPI STATUS command returns the segment and room flags. -/
  | spiStatus
  /-- PTP_SYNC (R412). A Sync with Follow_Up gives an offset; device time is stepped or slewed and its state
  advances. -/
  | ptpSync (gm : Nat) (gtime : Nat) (rate : Int)
  /-- PTP_ANNOUNCE (R412). An Announce carries the grandmaster identity, and an identity change discards the
  measured offsets. -/
  | ptpAnnounce (gm : Nat)
  /-- PTP_SYNC_TIMEOUT (R412). No Sync for 3 intervals, or an Announce timeout, moves the time to FREE_RUN or
  HOLDOVER. -/
  | ptpSyncTimeout
  /-- PEER_DELAY_REQUEST (R413). The device answers an IEEE 802.1AS peer-delay request. -/
  | peerDelayRequest
  /-- PTP_ENABLE (R412). A write of 0 to PTP_ENABLE returns device time to FREE_RUN. -/
  | ptpEnable (org : Origin) (v : Nat)
  /-- TIME_SET (R414). A write of TIME_SET steps device time, raises event 102 and increments STEP_COUNT. -/
  | timeSet (org : Origin) (v : Nat)
  /-- BUOY_POLL_ENTRY (R430). A due Buoy-poll entry hops the synthesiser, sends queued downlinks and its closing
  message, and takes the answer. -/
  | buoyPollEntry (slot : Nat)
  /-- BL_ACK_TIMEOUT (R431). No sync word is detected by the ACK deadline; the downlink is retried, or it stays
  queued and the entry is abandoned. -/
  | blAckTimeout
  /-- BL_DETECTION (R432). A receiver detects a GFSK or OFDM preamble and sync; races with the current reception are
  decided. -/
  | blDetection (n : Nat) (kind : Nat) (dt : Nat) (strength : Int)
  /-- BL_HEADER_END (R433). A packet header ends; it is validated, or reception resumes from a saved detection. -/
  | blHeaderEnd (n : Nat) (w : Nat)
  /-- BL_PACKET_END (R434). A packet ends; if accepted and addressed to the device it is queued, or discarded when
  the queue is full. -/
  | blPacketEnd (n : Nat) (body : BlData) (crc : Nat) (eye : Nat) (powers : List Int)
  /-- BL_ACK_SEND (R435). 24 µs after a stored packet with ACK_REQ, the ACK is sent, or omitted when the transmitter
  is busy on another port. -/
  | blAckSend (n : Nat)
  /-- BL_SYNTH_LOCK (R436). The Buoy-link synthesiser locks and transmission begins 5 µs later. -/
  | blSynthLock (ns : Nat)
  /-- BL_SYNTH_LOCK_TIMEOUT (R436). No lock within 200 µs; the transmission aborts with event 114 and the channel
  calibration is invalidated. -/
  | blSynthLockTimeout
  /-- BL_NOISE_MEASURE (R426). An idle receiver measures per-subcarrier noise and smooths it into N(chain, channel,
  k). -/
  | blNoiseMeasure (n : Nat) (powers : List Int)
  /-- BUOY_FEED_SETTLE (R428). The feed has been ON for 200 ms and a FEED_OFF Buoy slot goes to LOST. -/
  | buoyFeedSettle (n : Nat)
  /-- DL_MSG (R442). A write of DL_MSG queues one downlink for a Buoy. -/
  | dlMsg (org : Origin) (b : Nat) (msg : List Byte)
  /-- FW_CMD (R439). A write of 1 to FW_CMD starts a Buoy firmware update from flash. -/
  | fwCmd (org : Origin) (v : Nat)
  /-- LINK_ENABLE (R428). A write of LINK_ENABLE enables a chain's receiver; a write of 0 empties its Buoy slots. -/
  | linkEnable (org : Origin) (chain : Nat) (v : Nat)
  /-- ROLE (R444). A write of ROLE or SPEED takes effect at the next bus-free instant. -/
  | role (org : Origin) (p : Nat) (what : Nat) (v : Nat) (sda : Nat)
  /-- TW_BUS_FREE (R445). tBUF after a STOP, or 100 µs with both lines high, the bus is free and a queued transfer
  or retry starts. -/
  | twBusFree (p : Nat)
  /-- X_GO (R449). A write of 1 to X_GO queues a controller transfer with the current X_* values. -/
  | xGo (org : Origin) (p : Nat) (v : Nat)
  /-- TW_XFER_DONE (R450). A controller transfer ends in DONE with its X_RESULT, and event 104+4p is raised. -/
  | twXferDone (p : Nat) (addr : Bool) (addr2 : Bool) (acked : Nat) (data : List Byte)
  /-- TW_ARB_LOST (R451). The controller reads SDA low where it sent high, or sees a foreign START or STOP; it
  releases the bus and retries later. -/
  | twArbLost (p : Nat) (byte : Nat) (bit : Nat) (own : Bool)
  /-- TW_STRETCH_TIMEOUT (R448). SCL does not rise within CTL_STRETCH_MS and the transfer ends with STRETCH_TIMEOUT.
  -/
  | twStretchTimeout (p : TwStall)
  /-- TW_SCL_STUCK (R448). SCL stays low for a further 4 × CTL_STRETCH_MS and the port goes to STUCK. -/
  | twSclStuck (p : Nat)
  /-- RECOVER (R454). A write of 1 to RECOVER runs the stuck-SDA check with up to nine clock pulses. -/
  | recover (org : Origin) (p : Nat) (v : Nat) (sda : Nat)
  /-- TW_TARGET_TIMEOUT (R455). No SCL edge for TGT_TIMEOUT_MS within an addressed transfer; the target state resets
  with event 106+4p. -/
  | twTargetTimeout (p : Nat) (put : Bool)
  /-- TW_IBR_DETECTED (R453). A controller sees an in-band request pulse, reads the census and records the winner
  with event 107+4p. -/
  | twIbrDetected (p : Nat) (ack : Bool) (census : Nat)
  /-- TW_IBR_REPEAT (R453). Every 10 ms the target repeats its in-band request while a segment waits. -/
  | twIbrRepeat (p : Nat)
  /-- TW_WINDOW_STATUS (R456). The window STATUS pointer returns the segment-waiting flags and the next length. -/
  | twWindowStatus (p : Nat) (ctrl : Nat)
  /-- TW_WINDOW_PUT (R457). The window PUT pointer takes one segment from the controller. -/
  | twWindowPut (p : Nat) (ctrl : Nat) (seg : List Byte) (cut : Bool)
  /-- TW_WINDOW_GET (R457). The window GET pointer returns one waiting segment for the CTRL_ID. -/
  | twWindowGet (p : Nat) (ctrl : Nat) (cut : Bool)
  /-- SIDE_ENABLE (R337). A write of ENABLE to an audio port side checks the configuration and starts the side (or
  arms it), or starts its tail. -/
  | sideEnable (org : Origin) (port : Nat) (side : Nat) (v : Nat)
  /-- GROUP_GO (R339). A write to GROUP_GO starts the armed sides of a group on a common start instant. -/
  | groupGo (org : Origin) (v : Nat)
  /-- AUDIO_TX_FRAME (R341). A TX side reaches a frame's WS edge and sends the frame, zero or the last frame,
  counting XRUN. -/
  | audioTxFrame (port : Nat) (bclks : Nat)
  /-- AUDIO_RX_FRAME (R341). An RX side completes a frame and writes it into its FIFO, or drops it and counts XRUN
  or FRAMING. -/
  | audioRxFrame (port : Nat) (bclks : Nat) (sd : List Bool)
  /-- SLAVE_CLOCK_LOSS (R333). A slave side sees no WS edge for four frames; RATE_CLASS reads 0 and a running side
  waits for its clock. -/
  | slaveClockLoss (port : Nat) (side : Nat)
  /-- SLAVE_CLOCK_RETURN (R337). The clock returns to a side in WAIT_CLOCK, which fixes its start or resumes
  running. -/
  | slaveClockReturn (port : Nat) (side : Nat) (edges : List Nat)
  /-- RATE_MEASURE (R333). Every 100 ms a slave side computes MEAS_RATE, RATE_CLASS and RATE_PPM, raising event
  80+2p on a change or a tolerance breach. -/
  | rateMeasure (port : Nat) (side : Nat) (edges : List Nat)
  /-- AUDIO_INTERNAL_FRAME (R328). Internal frame k mixes live sources into destinations; late source samples count
  in ROUTE_GAPS. -/
  | audioInternalFrame (inp : AudioIn)
  /-- ROUTE_WRITE (R348). A committed routing-table write is passed to the audio island within 1 ms. -/
  | routeWrite (org : Origin) (oid : Nat) (value : List Byte)
  /-- ROUTE_APPLY (R348). At the first internal frame after its crossing, a routing write takes effect with a
  crossfade. -/
  | routeApply (r : Nat)
  /-- AUDIO_SLOT_MASK (R343). A write of a side's SLOT_MASK applies at the first frame after its crossing; earlier
  writes are superseded. -/
  | audioSlotMask (org : Origin) (port : Nat) (side : Nat) (v : Nat)
  /-- RING_FRAMES (R350). A write of RING_FRAMES allocates or removes a memory ring. -/
  | ringFrames (org : Origin) (ring : Nat) (v : Nat)
  /-- RING_INDEX_WRITE (R350). A write of RING_WR or RING_RD advances a ring's producer or consumer index. -/
  | ringIndexWrite (org : Origin) (oid : Nat) (v : Nat)
  /-- AVTP_ENABLE (R353). A write of AVTP_ENABLE enables a stream within the 256-channel limit. -/
  | avtpEnable (org : Origin) (stream : Nat) (v : Nat)
  /-- AVTP_PACKET (R352). Every 125 µs or 250 µs an AAF packet of each enabled stream is sent with its presentation
  time. -/
  | avtpPacket (stream : Nat)
  /-- MCLK_SEL (R355). A write of MCLKn_SEL changes the MCLK output at its next falling edge. -/
  | mclkSel (org : Origin) (n : Nat) (v : Nat)
  /-- EVENT_OCCURRENCE (R521). An occurrence reaches the event router, which latches, counts and drives the pins,
  lines and coalescing windows. -/
  | eventOccurrence (e : Nat) (stamp : Nat) (arg : Nat)
  /-- EV_ACK (R522). A write of 1 to an EV_ACK bit acknowledges an event and releases or re-pulses the host pins. -/
  | evAck (org : Origin) (elem : Nat) (v : Nat)
  /-- EV_MASK (R524). A write of EV_MASK masks events; clearing a bit of a latched event drives its destinations at
  once. -/
  | evMask (org : Origin) (elem : Nat) (v : Nat)
  /-- HOSTIRQ_REASSERT (R525). 1.0–1.5 µs after an acknowledge that leaves the pin asserted, the pin is asserted
  again. -/
  | hostirqReassert (pin : Nat)
  /-- EVENT_WINDOW_END (R527). A coalescing window ends and one EVENT frame is queued for the subscription. -/
  | eventWindowEnd (sub : Nat) (e : Nat)
  /-- FW_ACTIVATE (R540). A write of FW_ACTIVATE verifies a firmware area and, on a newer pass, schedules a reset
  with cause FW_UPDATE. -/
  | fwActivate (org : Origin) (v : Nat)
  /-- RECOVER_CMD (R541). A write of 1 to RECOVER_CMD resets the device into recovery. -/
  | recoverCmd (org : Origin) (v : Nat)
  /-- ROLLBACK_ADV (R536). A write of k to ROLLBACK_ADV raises counter k to the version of its running image, with
  event 10. -/
  | rollbackAdv (org : Origin) (v : Nat)
  /-- KEY_WRITE (R542). Role M writes a session key or the debug key once into OTP. -/
  | keyWrite (org : Origin) (oid : Nat) (key : List Byte)
  /-- KEY_REVOKE (R542). A write of KEY_REVOKE revokes session key slots for good. -/
  | keyRevoke (org : Origin) (v : Nat)
  /-- CUST_ROOT (R534). Role M programs a customer root hash slot, `elem` 0 or 1, once. -/
  | custRoot (org : Origin) (elem : Nat) (hash : List Byte)
  /-- ROOT_REVOKE (R534). A write of ROOT_REVOKE revokes a customer root slot. -/
  | rootRevoke (org : Origin) (v : Nat)
  /-- DEBUG_DISABLE (R544). Role M writes DEBUG_DISABLE to 1 and debug unlock is disabled for good. -/
  | debugDisable (org : Origin) (v : Nat)
  /-- DEBUG_CHALLENGE (R544). A read of the debug challenge returns a new 32-byte random value. -/
  | debugChallenge
  /-- DEBUG_RESPONSE (R544). A debug response is checked; DEBUG_STATE is set or a failure is counted, leading to
  LOCKED_OUT after three. -/
  | debugResponse (level : Nat) (resp : List Byte)
  /-- ATTEST_GEN (R545). A write of 1 to ATTEST_GEN starts generation of the attestation key. -/
  | attestGen (org : Origin) (v : Nat)
  /-- ATTEST_GEN_DONE (R545). Key generation completes with the seed and public key in OTP and bank A stored. -/
  | attestGenDone
  /-- ATTEST_TREES_BUILT (R546). After boot the lower trees are rebuilt and ATTEST_STATE leaves BUILDING. -/
  | attestTreesBuilt
  /-- ATTEST_NONCE (R547). A write of ATTEST_NONCE in READY starts a quote. -/
  | attestNonce (org : Origin) (nonce : List Byte)
  /-- ATTEST_QUOTE_DONE (R547). The quote is signed with leaf INDEX and held in ATTEST_QUOTE, with event 12. -/
  | attestQuoteDone
  /-- PROG_ENABLE (R485). A write of PROG_ENABLE loads a service program, or unloads it. -/
  | progEnable (org : Origin) (prog : Nat) (v : Nat)
  /-- PROG_LOAD_DONE (R485). Loading ends with the program READY or REJECTED with its PROG_RESULT. -/
  | progLoadDone (prog : Nat)
  /-- PROG_RUN_ABORT (R483). A run exceeds MAX_RUN_US and is aborted through TIMER; the third consecutive abort
  faults the program. -/
  | progRunAbort
  /-- BUNDLE (R471). A register-mode bundle executes: every read before every write, all writes at completion. -/
  | bundle (k : Nat)
  /-- INTERRUPT_ENTRY (R473). An enabled pending interrupt above IPL is taken at a bundle boundary or between REP
  elements. -/
  | interruptEntry (k : Nat)
  /-- REP_ELEMENT (R509). One element of a REP string syllable is processed and SC is decremented. -/
  | repElement (k : Nat)
  /-- TIMER_COMPARE (R476). Device time reaches TIMER_CMP and vector 16 is raised. -/
  | timerCompare (k : Nat)
  /-- WAIT_WAKE (R516). An interrupt above IPL becomes pending and a WAITing core resumes issue. -/
  | waitWake (k : Nat)
  /-- LIT (R488). Stack mode: pushes the literal 0–31 given by the opcode. -/
  | smLit (k : Nat) (n : Nat)
  /-- PUSH8 (R488). Stack mode: pushes a sign-extended 8-bit operand. -/
  | push8 (k : Nat) (x : Nat)
  /-- PUSH16 (R488). Stack mode: pushes a sign-extended 16-bit operand. -/
  | push16 (k : Nat) (x : Nat)
  /-- PUSH32 (R488). Stack mode: pushes a 32-bit operand. -/
  | push32 (k : Nat) (x : Nat)
  /-- DUP (R488). Stack mode: duplicates the top cell. -/
  | smDup (k : Nat)
  /-- DROP (R488). Stack mode: drops the top cell. -/
  | smDrop (k : Nat)
  /-- SWAP (R488). Stack mode: swaps the top two cells. -/
  | smSwap (k : Nat)
  /-- OVER (R488). Stack mode: copies the second cell to the top. -/
  | smOver (k : Nat)
  /-- ROT (R488). Stack mode: rotates the top three cells. -/
  | smRot (k : Nat)
  /-- PICK (R488). Stack mode: copies the cell n below the top. -/
  | smPick (k : Nat)
  /-- TOR (R488). Stack mode: moves a cell to the return stack. -/
  | tor (k : Nat)
  /-- FROMR (R488). Stack mode: moves a cell from the return stack. -/
  | fromr (k : Nat)
  /-- DEPTH (R488). Stack mode: pushes the stack depth. -/
  | smDepth (k : Nat)
  /-- SM_ADD (R488). Stack mode ADD: a + b. -/
  | smAdd (k : Nat)
  /-- SM_SUB (R488). Stack mode SUB: a − b. -/
  | smSub (k : Nat)
  /-- SM_MUL (R488). Stack mode MUL: low 32 bits of the product. -/
  | smMul (k : Nat)
  /-- SM_AND (R488). Stack mode AND. -/
  | smAnd (k : Nat)
  /-- SM_OR (R488). Stack mode OR. -/
  | smOr (k : Nat)
  /-- SM_XOR (R488). Stack mode XOR. -/
  | smXor (k : Nat)
  /-- NOT (R488). Stack mode: bitwise NOT. -/
  | smNot (k : Nat)
  /-- SM_SHL (R489). Stack mode SHL: shift left. -/
  | smShl (k : Nat)
  /-- SM_SHR (R489). Stack mode SHR: logical shift right. -/
  | smShr (k : Nat)
  /-- SM_SAR (R489). Stack mode SAR: arithmetic shift right. -/
  | smSar (k : Nat)
  /-- EQ (R488). Stack mode: equality compare. -/
  | smEq (k : Nat)
  /-- LT (R488). Stack mode: signed less-than. -/
  | smLt (k : Nat)
  /-- LTU (R488). Stack mode: unsigned less-than. -/
  | ltu (k : Nat)
  /-- ZEQ (R488). Stack mode: test for zero. -/
  | zeq (k : Nat)
  /-- LDW (R491). Stack mode: 32-bit load. -/
  | ldw (k : Nat)
  /-- STW (R491). Stack mode: 32-bit store. -/
  | stw (k : Nat)
  /-- LDB (R491). Stack mode: byte load. -/
  | ldb (k : Nat)
  /-- STB (R491). Stack mode: byte store. -/
  | stb (k : Nat)
  /-- MOVE (R491). Stack mode: copies n bytes in ascending order. -/
  | smMove (k : Nat)
  /-- BR8 (R490). Stack mode: branch with an 8-bit offset. -/
  | br8 (k : Nat) (x : Nat)
  /-- BR16 (R490). Stack mode: branch with a 16-bit offset. -/
  | br16 (k : Nat) (x : Nat)
  /-- BZ8 (R490). Stack mode: branch if zero, 8-bit offset. -/
  | bz8 (k : Nat) (x : Nat)
  /-- BZ16 (R490). Stack mode: branch if zero, 16-bit offset. -/
  | bz16 (k : Nat) (x : Nat)
  /-- CALL16 (R490). Stack mode: relative call. -/
  | call16 (k : Nat) (x : Nat)
  /-- CALLX (R490). Stack mode: call to the popped address. -/
  | callx (k : Nat)
  /-- RET (R490). Stack mode: return to the popped return address. -/
  | smRet (k : Nat)
  /-- SHA_INIT (R488). Stack mode: starts a SHA-256 computation. -/
  | shaInit (k : Nat)
  /-- SHA_DATA (R488). Stack mode: hashes n bytes. -/
  | shaData (k : Nat)
  /-- SHA_FINAL (R488). Stack mode: writes the digest. -/
  | shaFinal (k : Nat)
  /-- SIG_VERIFY (R492). Stack mode: verifies a signed image and sets the verified-image range. -/
  | sigVerify (k : Nat)
  /-- OTP_RD (R488). Stack mode: reads an OTP word. -/
  | otpRd (k : Nat)
  /-- CTR_RD (R488). Stack mode: reads an anti-rollback counter. -/
  | ctrRd (k : Nat)
  /-- CTR_ADV (R492). Stack mode: raises an anti-rollback counter. -/
  | ctrAdv (k : Nat)
  /-- OSPI_RD (R488). Stack mode: copies bytes from flash. -/
  | ospiRd (k : Nat)
  /-- ENTER_REG (R480). Stack mode: enters register mode at a verified target, clearing the registers. -/
  | enterReg (k : Nat)
  /-- FW_CHECKS_DONE (R540). The verification of a firmware area started by FW_ACTIVATE ends, setting FW_ACT_RESULT
  and, on a newer pass, scheduling the FW_UPDATE reset. -/
  | fwChecksDone
  /-- LINK_CHANNEL_CAL_DONE (R322). The calibration of one Buoy-link synthesiser channel (up to 1.5 ms, at power-up
  or after LINK_CAL_CMD) completes and its LINK_CAL_VALID bit is set. -/
  | linkChannelCalDone (ch : Nat)
  /-- REFCLK_RETURN (R563). REFCLK edges return after a REFCLK_LOSS reset and the device leaves reset to run the
  start-up sequence. -/
  | refclkReturn
  /-- POSITION_STALE (R262). POS_TIMEOUT_MS after POS_T the position stops being fresh and POS_STATE changes from
  fresh to stale. -/
  | positionStale
  /-- FH_CONFIRM_WINDOW_END (R241). A CONFIRMING DAB_EWF warning that is not seen in n frames within 2 s returns its
  slot to IDLE. -/
  | fhConfirmWindowEnd (w : Nat)
  /-- SIDE_LEAD_START (R338). At the instant LEAD_FRAMES frames before the first data edge, a master side starts
  BCLK and WS (or a slave side starts its zero-data lead). -/
  | sideLeadStart (port : Nat) (side : Nat)
  /-- TW_BUS_START_SEEN (R445). A START sent by another controller on an idle bus makes the bus not free and
  PORT_STATE BUSY. -/
  | twBusStartSeen (p : Nat)
  /-- TW_CENSUS_RESPONSE (R453). Another controller reads census address 0x03 while the device as target has a
  request pending, and the device sends its address by wired-AND and wins or drops out. -/
  | twCensusResponse (p : Nat) (lowest : Nat)
  /-- PLCA_BEACON_SEND (R401). As PLCA coordinator (node ID 0), the device sends the BEACON that opens each PLCA
  cycle for PLCA_NODE_COUNT nodes. -/
  | plcaBeaconSend
  /-- DEBUG_HALT (R543). At level CONTROL, the authenticated debug port halts a Keeper, which stops its watchdog. -/
  | debugHalt (k : Nat) (arm : Bool)
  /-- DEBUG_SINGLE_STEP (R543). At level CONTROL, the debug port single-steps a halted Keeper. -/
  | debugSingleStep (k : Nat)
  /-- DEBUG_RESET (R567). At level CONTROL, the debug port resets the device with reset cause DEBUG. -/
  | debugReset
  deriving DecidableEq, Repr

end Sys2Proof
end

