-- ==== Sys2Proof/Machine/Num.lean ====
section
/-! DEFINITION. Real-valued rules in fixed-point arithmetic: decibels, smoothing, powers and filter windows. The spec gives
these rules over the real numbers and gives no word lengths; they are computed here to at least 40 fraction bits and rounded
to the unit of the object or record at the end (log 17). -/

namespace Sys2Proof.Machine

/-- The unit of the fixed-point numbers, 2^64. -/
def fxOne : Nat := 2 ^ 64

/-- Product of two fixed-point numbers. -/
def fxMul (a b : Nat) : Nat := a * b / fxOne

/-- The integer square root, by Newton steps from above; `fuel` bounds them. -/
def isqrtFrom : Nat → Nat → Nat → Nat
  | 0, _, x => x
  | f + 1, n, x =>
    let y := (x + n / x) / 2
    if y < x then isqrtFrom f n y else x

/-- The largest number whose square is at most `n`. -/
def isqrt (n : Nat) : Nat := if n = 0 then 0 else isqrtFrom 400 n (2 ^ (n.log2 / 2 + 1))

/-- 10^(1/1000), with 192 fraction bits. -/
def dbStep : Nat := 6291571949325944250792693819413814709655738988303350466443

/-- `dbStep` to a power, by squaring; `fuel` bounds the bits of the exponent. -/
def dbPow : Nat → Nat → Nat → Nat → Nat
  | 0, _, _, acc => acc
  | f + 1, n, b, acc => if n = 0 then acc else dbPow f (n / 2) (b * b / 2 ^ 192) (if n % 2 = 1 then acc * b / 2 ^ 192 else acc)

/-- The power that `v` hundredths of a decibel stand for, times 10^33 and 2^192. -/
def dbLin (v : Int) : Nat := dbPow 17 (v + 33000).toNat dbStep (2 ^ 192)

/-- The largest `lo + k`, k below 2^`f`, that satisfies a condition which holds up to some point. -/
def lastWhere : Nat → (Int → Bool) → Int → Int
  | 0, _, lo => lo
  | f + 1, p, lo => let m := lo + (2 ^ f : Nat); lastWhere f p (if p m then m else lo)

/-- The hundredths of a decibel nearest to a power on the scale of `dbLin`. -/
def linDb (x : Nat) : Int := lastWhere 16 (fun v => decide (dbLin v * dbLin (v - 1) ≤ x * x)) (-32768)

/-- The mean of some levels in linear power, in 0.01 dB; −327.68 of none. -/
def meanDb (l : List Int) : Int := if l.isEmpty then -32768 else linDb ((l.map dbLin).sum / l.length)

/-- Amplitude gain of some hundredths of a decibel, in fixed point. -/
def gainFx (v : Int) : Nat := isqrt (dbLin v * fxOne * fxOne / dbLin 0)

/-- e^(−1/τ), in fixed point, by its series: `k` counts the terms. -/
def expTerms : Nat → Nat → Int → Int → Nat → Int
  | 0, _, acc, _, _ => acc
  | f + 1, k, acc, term, tau => let t := -(term / ((k * tau : Nat) : Int)); expTerms f (k + 1) (acc + t) t tau

/-- e^(−1/τ) for a whole number τ ≥ 1. -/
def expNegInv (tau : Nat) : Nat := (expTerms 20 1 (fxOne : Int) (fxOne : Int) tau).toNat

/-- One step of a first-order smoothing of `v` towards `target` with time constant `tau` steps. -/
def smooth (v target : Int) (tau : Nat) : Int := target + (v - target) * (expNegInv tau : Int) / (fxOne : Int)

/-- `r`^`h` for a fixed-point `r` ≥ 1 and a fixed-point `h` in 0 … 1, bit by bit of `h` from the top with repeated roots. -/
def fxPow : Nat → Nat → Nat → Nat → Nat
  | 0, _, _, acc => acc
  | f + 1, r, h, acc =>
    let s := isqrt (r * fxOne)
    let h2 := 2 * h
    if fxOne ≤ h2 then fxPow f s (h2 - fxOne) (fxMul acc s) else fxPow f s h2 acc

/-- 2π in fixed point. -/
def twoPi : Nat := 115904311329233965478

/-- The series of the cosine at a fixed-point angle, from term `k`. -/
def cosTerms : Nat → Nat → Int → Int → Int → Int
  | 0, _, acc, _, _ => acc
  | f + 1, k, acc, term, x2 => let t := -(term * x2 / (fxOne : Int) / ((k * (k + 1) : Nat) : Int)); cosTerms f (k + 2) (acc + t) t x2

/-- cos(2π a / b), in fixed point, for a ≤ b. -/
def cosTurn (a b : Nat) : Int :=
  let q := if 2 * a ≤ b then a else b - a
  let flip := decide (b < 4 * q)
  let q2 := if flip then b - 2 * q else 2 * q
  let x : Int := ((twoPi * q2 / (2 * b) : Nat) : Int)
  let c := cosTerms 16 1 (fxOne : Int) (fxOne : Int) (x * x / (fxOne : Int))
  if flip then -c else c

end Sys2Proof.Machine
end

