-- ==== Sys2Proof/Config.lean ====
section
/-! DEFINITION. What an implementation fixes, and the free values: constants without a body, so that nothing can be proved
of their values. Each is named in a row of notes/assumptions. -/

namespace Sys2Proof.Config

/-- What a counter object reads once it has passed its width; the spec does not say (log 4). -/
opaque counterPast : (oid value : Nat) → Int

/-- Whether a transport's send queue has room at the n-th question; its size and drain rate are not given (log 6). -/
opaque sendRoom : (port n : Nat) → Bool

/-- The n-th draw of a random byte string of a length (R403, R544, R545; log 7). -/
opaque random : (len n : Nat) → List Byte

/-- Whether the Sweep record queue has room at the n-th question; its size is not given (log 9). -/
opaque sweepRoom : (n : Nat) → Bool

/-- Calibrated minus nominal gain of a door band at gain index g after the chain's run-th calibration, in 0.01 dB: a
measured value (R47; log 10). -/
opaque gainError : (run chain band g : Nat) → Int

/-- Calibrated command-to-effect delay of a door, in converter samples: a measured value (R60; log 10). -/
opaque doorDelay : (run chain door : Nat) → Nat

/-- The band that the L-band synthesiser's n-th calibration finds (item 9 of Table 11.1; log 116). -/
opaque lsynBand : (n : Nat) → Nat

/-- The concealment payload of a context's frame for a skipped period (R121; log 11). -/
opaque concealed : (ctx ty seq : Nat) → List Byte

/-- Largest output-frame payload of a context type with its settings, which sizes its ring (R518; log 12). -/
opaque frameLargest : (ty : Nat) → Nat

/-- DEC_LAG of a selector that starts to decode: what the signal and the decoder add up to (R213; log 16). -/
opaque decLag : (n : Nat) → Nat

/-- The attestation public key that SEED and I give: how the key is derived is not stated (R545; log 20). -/
opaque attestPub : (seed ident : List Byte) → List Byte

/-- The attestation signature over a message with a leaf (R547; log 20). -/
opaque attestSig : (seed ident : List Byte) → (index : Nat) → (msg : List Byte) → List Byte

/-- What a side's rate converter makes of the frames about an instant, each with its distance from the instant in ns and its sample (R327; log 21). -/
opaque resample : (frames : List (Int × Int)) → Int

/-- Offset in shared SRAM, in blocks of 64 bytes, at which a memory ring is allocated (R350; log 22). -/
opaque ringAddr : (n : Nat) → Nat

/-- TAG of an RDS group whose block B is missing or uncorrectable (R226; log 23). -/
opaque groupTag : (n : Nat) → Nat

/-- UTF-8 of a character of the RDS basic set of IEC 62106 (R231; log 24). -/
opaque rdsChar : (code : Nat) → List Byte

/-- Call letters of a PI under RBDS (R229; log 24). -/
opaque rbdsCall : (pid : Nat) → List Byte

/-- Which of the free things is taken where the spec names no rule: the n-th such choice among some (log 25). -/
opaque pick : (n count : Nat) → Nat

/-- SEQ in the n-th ACK the device sends: the spec numbers messages, and gives an ACK no number of its own (R422; log 27). -/
opaque ackSeq : (n : Nat) → Nat

/-- Band search of the Buoy-link synthesiser on a channel, begun at a time, ns: at most 300 µs of it are taken (R322, R436, log 79). -/
opaque bandSearch : (channel at_ : Nat) → Nat

/-- Whether a GPIO ball that the device does not drive stands high at an instant: what drives it from outside is no command (R608; log 28). -/
opaque gpioLevel : (ball at_ : Nat) → Bool

/-- What the monitor of a supply in its window measures at an instant, in mV above its warning threshold (Table 21.4; log 28). -/
opaque supplyAbove : (supply at_ : Nat) → Nat

/-- SUB_ID in the reply to a SUBSCRIBE that is refused; the spec gives it no value (R406; log 29). -/
opaque refusedSub : (n : Nat) → Nat

/-- A byte that a load returns where the spec gives it no content: the stream window outside its records, RSP of a dictionary port
while it is BUSY (R517, R518; log 32). -/
opaque busByte : (n at_ : Nat) → Byte

/-- SIZE of a measurement stream's ring, as a power of two from 4 KiB (R518; log 32). -/
opaque streamRing : (stream : Nat) → Nat

/-- The cycle count of a core (CYCLES_LO and CYCLES_HI); timing is left out (log 33). -/
opaque cycles : (core n : Nat) → Nat

/-- A byte of the boot ROM; its contents are not given (R478; log 34). -/
opaque romByte : (at_ : Nat) → Byte

/-- An OTP word whose layout the spec does not give, or past the OTP (R530; log 34). -/
opaque otpWord : (index n : Nat) → Word

/-- CTR_RD of a number that names no counter (R488; log 34). -/
opaque noCounter : (k n : Nat) → Word

/-- The 512 bytes of a lane's coarse selections and trims in a calibration bank, whose format is internal (Table 11.4): its replaced elements and corners spelled as
numbers (log 5). -/
opaque seedBytes : (lane : Nat) → (sel : List Nat) → List Byte

/-- The highest log SEQ that the active bank of a store covers, where no store record of that bank stands in the eNVM log; `kind` 0
configuration, 1 calibration (R379, R321; log 36). -/
opaque coverLost : (kind seq : Nat) → Nat

/-- How far an island's follower counter stands from the master at a device time, ns; Table 1.4 bounds it (R23; log 101). Islands: 0 AO, 1 lamp
lanes, 2 Lens and Gallery, 3 + k Keeper k, 7 Harbour, 8 audio core. -/
opaque follower : (island at_ : Nat) → Int

/-- A stage of signal processing whose response the spec gives in outline only: its passband, its delay, its function. -/
inductive Stage where
  /-- tap decimation of an entry (R79), and the fractional delay of an entry (R124) -/
  | decimate (entry : Nat)
  | align (entry : Nat)
  /-- combining weights of the constant-modulus loop or of MRC (Table 4.6) -/
  | weights
  /-- the IF or AM bandwidth filter at a setting (Tables 6.4 and 6.5) -/
  | band (setting : Nat)
  /-- the discriminator (R174), MPX between 100 and 150 kHz (R169), the pilot PLL, and L+R and L−R at 48 kSa/s (R175, R176) -/
  | discriminate
  | mpxHigh
  | pilot
  | stereo
  /-- the high-cut low-pass of a channel (R178), and de-emphasis of a channel (Table 6.1) -/
  | highCut (channel : Nat)
  | deemphasis (channel : Nat)
  /-- the AM carrier PLL (R186), a sideband of the carrier-locked signal (R187), and the 48 kSa/s output (R166) -/
  | carrierPll
  | sideband (detector : Nat)
  | rate48
  /-- the resampler of a selector's decoder (R212) -/
  | decoderRate (sel : Nat)
  /-- the 3 kSa/s that the correlator searches first (R273) -/
  | correlate
  deriving DecidableEq, Repr

/-- What a stage makes of its settings, its memory and its input: its new memory and its output; the responses are not given sample by sample (log 107). -/
opaque stage : (what : Stage) → (settings memory input : List Int) → List Int × List Int

/-- What the content of an output-frame entry holds once decoded as its broadcast standard lays it out: a segment of a dynamic label (toggle, first, last, segment
number, character set, character codes); a DL Plus command (link, item toggle, item running, tags as content type, start, length in characters); a MOT segment
(directory or object, header or body, TransportId, segment number, last, data); a TPEG frame (service component, CRC failed); a text with its item code of Table 8.4,
identifier and toggle, in UTF-8; a broadcast time; a service with PTY, audio and data; the stream of an alarm announcement; frequencies of alternatives; and
identities linked to a programme (type code, identity). -/
inductive SideItem where
  | label (toggle first last : Bool) (seg charset : Nat) (chars : List Nat)
  | plus (link toggle running : Bool) (tags : List (Nat × Nat × Nat))
  | mot (dir header : Bool) (tid idx : Nat) (last : Bool) (data : List Byte)
  | tpeg (comp : Nat) (bad : Bool) (frame : List Byte)
  | text (code ident : Nat) (toggle : Bool) (utf8 : List Byte)
  | time (utc : Int) (ms : Nat) (off : Int) (res : Nat)
  | svc (ident pty : Nat) (audio data : Bool)
  | alarm (stream : Nat)
  | alts (rf : List Nat)
  | links (ids : List (Nat × Nat))
  deriving DecidableEq, Repr

/-- What the decoder of an entry type makes of its memory and of an entry's content: X-PAD, packets and data groups, FAC, SDC, data streams and PIDS are laid out by
standards that the spec names and does not restate (R230 to R234; log 114). -/
opaque sideItems : (ety : Nat) → (memory content : List Byte) → List Byte × List SideItem

/-- Location codes in a FIG 0/19 (TS 104 089; R239; log 114). -/
opaque figLocations : (fig : List Byte) → List Nat

/-- Alternatives and linked identities in a FIG 0/21 or 0/6 (R264; log 114). -/
opaque figLinks : (fig : List Byte) → List Nat × List (Nat × Nat)

/-- UTF-8 of a character of a character set of ETSI TS 101 756 (R231; log 24). -/
opaque dabChar : (charset code : Nat) → List Byte

/-- The weight, in 2^-64, of the part that goes, `done` samples into a fade or crossfade of `len`: its shape is not given (R120, R125, R172, R187, R205,
R214; log 107). -/
opaque fadeShape : (done len : Nat) → Nat

/-- A sample of the audio by which a decoder covers the fade of a coded frame that failed (R214; log 107). -/
opaque concealPcm : (n : Nat) → Int

end Sys2Proof.Config
end

