-- ==== Sys2Proof/Machine/Oid.lean ====
section
/-! DEFINITION. The object identifiers of the dictionary, by the names of the spec's object tables (Tables 2.10 to
23.8). The numeric form is area<<20 | item<<8 | element (R4); per-instance blocks are laid out as Table 0.4 gives (R7). -/

namespace Sys2Proof.Machine.O

/-- The numeric form of an OID (R4, Table 0.2). -/
abbrev mk (area item elem : Nat) : Nat := area * 1048576 + item * 256 + elem

/-- Area number, item and element of a numeric OID (Table 0.2). -/
def area (o : Nat) : Nat := o / 1048576
/-- Item of a numeric OID. -/
def item (o : Nat) : Nat := (o / 256) % 4096
/-- Element of a numeric OID. -/
def elem (o : Nat) : Nat := o % 256

/-- CP.100.00 CHAIN_ENABLE. -/
abbrev cpChainEnable (n : Nat) : Nat := mk 0x5 (0x100 + 0x20*n) (0x0)
/-- CP.100.01 CHAIN_STATE. -/
abbrev cpChainState (n : Nat) : Nat := mk 0x5 (0x100 + 0x20*n) (0x1)
/-- CP.100.02 LANE. -/
abbrev cpLane (n : Nat) : Nat := mk 0x5 (0x100 + 0x20*n) (0x2)
/-- CP.100.03 DOOR_C_BAND. -/
abbrev cpDoorCBand (n : Nat) : Nat := mk 0x5 (0x100 + 0x20*n) (0x3)
/-- CP.100.04 BAND_SWITCHING. -/
abbrev cpBandSwitching (n : Nat) : Nat := mk 0x5 (0x100 + 0x20*n) (0x4)
/-- CP.100.05 SAMPLE_COUNT. -/
abbrev cpSampleCount (n : Nat) : Nat := mk 0x5 (0x100 + 0x20*n) (0x5)
/-- CP.10d.00 DOOR_ENABLE. -/
abbrev cpDoorEnable (n d : Nat) : Nat := mk 0x5 (0x101 + 0x20*n + d) (0x0)
/-- CP.10d.01 GAIN_MODE. -/
abbrev cpGainMode (n d : Nat) : Nat := mk 0x5 (0x101 + 0x20*n + d) (0x1)
/-- CP.10d.02 MAN_LNA. -/
abbrev cpManLna (n d : Nat) : Nat := mk 0x5 (0x101 + 0x20*n + d) (0x2)
/-- CP.10d.03 MAN_ATTEN. -/
abbrev cpManAtten (n d : Nat) : Nat := mk 0x5 (0x101 + 0x20*n + d) (0x3)
/-- CP.10d.04 HEADROOM_TARGET. -/
abbrev cpHeadroomTarget (n d : Nat) : Nat := mk 0x5 (0x101 + 0x20*n + d) (0x4)
/-- CP.10d.05 GRED_MIN. -/
abbrev cpGredMin (n d : Nat) : Nat := mk 0x5 (0x101 + 0x20*n + d) (0x5)
/-- CP.10d.06 GRED_MAX. -/
abbrev cpGredMax (n d : Nat) : Nat := mk 0x5 (0x101 + 0x20*n + d) (0x6)
/-- CP.10d.07 HOLD_MS. -/
abbrev cpHoldMs (n d : Nat) : Nat := mk 0x5 (0x101 + 0x20*n + d) (0x7)
/-- CP.10d.08 RELEASE_MS. -/
abbrev cpReleaseMs (n d : Nat) : Nat := mk 0x5 (0x101 + 0x20*n + d) (0x8)
/-- CP.10d.09 LNA_NOW. -/
abbrev cpLnaNow (n d : Nat) : Nat := mk 0x5 (0x101 + 0x20*n + d) (0x9)
/-- CP.10d.0A ATTEN_NOW. -/
abbrev cpAttenNow (n d : Nat) : Nat := mk 0x5 (0x101 + 0x20*n + d) (0xA)
/-- CP.10d.0B GAIN_NOW. -/
abbrev cpGainNow (n d : Nat) : Nat := mk 0x5 (0x101 + 0x20*n + d) (0xB)
/-- CP.10d.0C PIN_FS. -/
abbrev cpPinFs (n d : Nat) : Nat := mk 0x5 (0x101 + 0x20*n + d) (0xC)
/-- CP.10d.0D DET_LEVEL. -/
abbrev cpDetLevel (n d : Nat) : Nat := mk 0x5 (0x101 + 0x20*n + d) (0xD)
/-- CP.10d.0E STEP_COUNT. -/
abbrev cpStepCount (n d : Nat) : Nat := mk 0x5 (0x101 + 0x20*n + d) (0xE)
/-- CP.104.00 OVL_ENABLE. -/
abbrev cpOvlEnable (n : Nat) : Nat := mk 0x5 (0x104 + 0x20*n) (0x0)
/-- CP.104.01 OVL_STEP. -/
abbrev cpOvlStep (n : Nat) : Nat := mk 0x5 (0x104 + 0x20*n) (0x1)
/-- CP.104.02 OVL_CLIP_COUNT. -/
abbrev cpOvlClipCount (n : Nat) : Nat := mk 0x5 (0x104 + 0x20*n) (0x2)
/-- CP.104.03 PERSIST_MS. -/
abbrev cpPersistMs (n : Nat) : Nat := mk 0x5 (0x104 + 0x20*n) (0x3)
/-- CP.104.04 OVL_ACTIVE. -/
abbrev cpOvlActive (n : Nat) : Nat := mk 0x5 (0x104 + 0x20*n) (0x4)
/-- CP.104.05 OVL_COUNT. -/
abbrev cpOvlCount (n : Nat) : Nat := mk 0x5 (0x104 + 0x20*n) (0x5)
/-- CP.104.06 CLIP_SAMPLES. -/
abbrev cpClipSamples (n : Nat) : Nat := mk 0x5 (0x104 + 0x20*n) (0x6)
/-- CP.104.07 LAST_OVL. -/
abbrev cpLastOvl (n : Nat) : Nat := mk 0x5 (0x104 + 0x20*n) (0x7)
/-- CP.105.00 GCOMP_ENABLE. -/
abbrev cpGcompEnable (n : Nat) : Nat := mk 0x5 (0x105 + 0x20*n) (0x0)
/-- CP.105.01 LAST_MARK_SAMPLE. -/
abbrev cpLastMarkSample (n : Nat) : Nat := mk 0x5 (0x105 + 0x20*n) (0x1)
/-- CP.105.02 LAST_MARK_TIME. -/
abbrev cpLastMarkTime (n : Nat) : Nat := mk 0x5 (0x105 + 0x20*n) (0x2)
/-- CP.105.03 LAST_MARK_DOORS. -/
abbrev cpLastMarkDoors (n : Nat) : Nat := mk 0x5 (0x105 + 0x20*n) (0x3)
/-- CP.105.04 MARK_COUNT. -/
abbrev cpMarkCount (n : Nat) : Nat := mk 0x5 (0x105 + 0x20*n) (0x4)
/-- CP.106.00 FEED_ENABLE. -/
abbrev cpFeedEnable (n : Nat) : Nat := mk 0x5 (0x106 + 0x20*n) (0x0)
/-- CP.106.01 SNS_GAIN. -/
abbrev cpSnsGain (n : Nat) : Nat := mk 0x5 (0x106 + 0x20*n) (0x1)
/-- CP.106.02 I_OPEN. -/
abbrev cpIOpen (n : Nat) : Nat := mk 0x5 (0x106 + 0x20*n) (0x2)
/-- CP.106.03 I_LIMIT. -/
abbrev cpILimit (n : Nat) : Nat := mk 0x5 (0x106 + 0x20*n) (0x3)
/-- CP.106.04 I_TRIP. -/
abbrev cpITrip (n : Nat) : Nat := mk 0x5 (0x106 + 0x20*n) (0x4)
/-- CP.106.05 INRUSH_MS. -/
abbrev cpInrushMs (n : Nat) : Nat := mk 0x5 (0x106 + 0x20*n) (0x5)
/-- CP.106.06 RETRY_COUNT. -/
abbrev cpRetryCount (n : Nat) : Nat := mk 0x5 (0x106 + 0x20*n) (0x6)
/-- CP.106.07 RETRY_MS. -/
abbrev cpRetryMs (n : Nat) : Nat := mk 0x5 (0x106 + 0x20*n) (0x7)
/-- CP.106.08 FEED_STATE. -/
abbrev cpFeedState (n : Nat) : Nat := mk 0x5 (0x106 + 0x20*n) (0x8)
/-- CP.106.09 FEED_CURRENT. -/
abbrev cpFeedCurrent (n : Nat) : Nat := mk 0x5 (0x106 + 0x20*n) (0x9)
/-- CP.106.0A FEED_RESET. -/
abbrev cpFeedReset (n : Nat) : Nat := mk 0x5 (0x106 + 0x20*n) (0xA)
/-- CP.106.0B FAULT_COUNT. -/
abbrev cpFaultCount (n : Nat) : Nat := mk 0x5 (0x106 + 0x20*n) (0xB)
/-- CP.010.00 LSYN_STATE. -/
abbrev cpLsynState : Nat := mk 0x5 (0x10) (0x0)
/-- CP.010.01 LSYN_CAL_CMD. -/
abbrev cpLsynCalCmd : Nat := mk 0x5 (0x10) (0x1)
/-- CP.010.02 LSYN_TEMP_DELTA. -/
abbrev cpLsynTempDelta : Nat := mk 0x5 (0x10) (0x2)
/-- CP.010.03 LSYN_LAST_CAL. -/
abbrev cpLsynLastCal : Nat := mk 0x5 (0x10) (0x3)
/-- CP.010.04 LSYN_CAL_TEMP. -/
abbrev cpLsynCalTemp : Nat := mk 0x5 (0x10) (0x4)
/-- CP.010.05 LSYN_UNLOCK_COUNT. -/
abbrev cpLsynUnlockCount : Nat := mk 0x5 (0x10) (0x5)
/-- LN.000.00 TAPS_RESERVED. -/
abbrev lnTapsReserved : Nat := mk 0x6 (0x0) (0x0)
/-- LN.000.01 TAPS_ASSIGNED. -/
abbrev lnTapsAssigned : Nat := mk 0x6 (0x0) (0x1)
/-- LN.000.02 TAP_REFUSALS. -/
abbrev lnTapRefusals : Nat := mk 0x6 (0x0) (0x2)
/-- LN.001.00 SWEEP_FRAMES. -/
abbrev lnSweepFrames : Nat := mk 0x6 (0x1) (0x0)
/-- LN.001.01 SWEEP_LOST. -/
abbrev lnSweepLost : Nat := mk 0x6 (0x1) (0x1)
/-- LN.001.02 PLAN_RATE. -/
abbrev lnPlanRate : Nat := mk 0x6 (0x1) (0x2)
/-- LN.001.03 PLAN_SLOW. -/
abbrev lnPlanSlow : Nat := mk 0x6 (0x1) (0x3)
/-- LN.001.04 PLAN_SEGMENTS. -/
abbrev lnPlanSegments : Nat := mk 0x6 (0x1) (0x4)
/-- LN.300.s STREAM_ENABLE. -/
abbrev lnStreamEnable (s : Nat) : Nat := mk 0x6 (0x300) (s)
/-- LN.301.s STREAM_CHAINS. -/
abbrev lnStreamChains (s : Nat) : Nat := mk 0x6 (0x301) (s)
/-- LN.302.s STREAM_SEGMENTS. -/
abbrev lnStreamSegments (s : Nat) : Nat := mk 0x6 (0x302) (s)
/-- LN.303.s STREAM_UNIT. -/
abbrev lnStreamUnit (s : Nat) : Nat := mk 0x6 (0x303) (s)
/-- LN.304.s STREAM_SEQ. -/
abbrev lnStreamSeq (s : Nat) : Nat := mk 0x6 (0x304) (s)
/-- LN.305.s STREAM_LOST. -/
abbrev lnStreamLost (s : Nat) : Nat := mk 0x6 (0x305) (s)
/-- LN.400.t TAP_STATE. -/
abbrev lnTapState (t : Nat) : Nat := mk 0x6 (0x400) (t)
/-- LN.401.t TAP_CONTEXT. -/
abbrev lnTapContext (t : Nat) : Nat := mk 0x6 (0x401) (t)
/-- LN.402.t TAP_CHAIN. -/
abbrev lnTapChain (t : Nat) : Nat := mk 0x6 (0x402) (t)
/-- LN.403.t TAP_DOOR. -/
abbrev lnTapDoor (t : Nat) : Nat := mk 0x6 (0x403) (t)
/-- LN.404.t TAP_RF. -/
abbrev lnTapRf (t : Nat) : Nat := mk 0x6 (0x404) (t)
/-- LN.405.t TAP_RATE. -/
abbrev lnTapRate (t : Nat) : Nat := mk 0x6 (0x405) (t)
/-- LN.406.t TAP_SUBBAND. -/
abbrev lnTapSubband (t : Nat) : Nat := mk 0x6 (0x406) (t)
/-- LN.407.t TAP_SUBBANDS. -/
abbrev lnTapSubbands (t : Nat) : Nat := mk 0x6 (0x407) (t)
/-- LN.408.t TAP_NCO. -/
abbrev lnTapNco (t : Nat) : Nat := mk 0x6 (0x408) (t)
/-- LN.409.t TAP_INDEX. -/
abbrev lnTapIndex (t : Nat) : Nat := mk 0x6 (0x409) (t)
/-- LN.40A.t TAP_TAGGED. -/
abbrev lnTapTagged (t : Nat) : Nat := mk 0x6 (0x40A) (t)
/-- LN.500.c IQ_FORMAT. -/
abbrev lnIqFormat (c : Nat) : Nat := mk 0x6 (0x500) (c)
/-- LN.501.c IQ_SHIFT. -/
abbrev lnIqShift (c : Nat) : Nat := mk 0x6 (0x501) (c)
/-- LN.502.c IQ_SAMPLES. -/
abbrev lnIqSamples (c : Nat) : Nat := mk 0x6 (0x502) (c)
/-- CX.110.00 REQUEST. -/
abbrev cxRequest (c : Nat) : Nat := mk 0x8 (0x100 + 0x10*c) (0x0)
/-- CX.110.01 TYPE. -/
abbrev cxType (c : Nat) : Nat := mk 0x8 (0x100 + 0x10*c) (0x1)
/-- CX.110.02 RF. -/
abbrev cxRf (c : Nat) : Nat := mk 0x8 (0x100 + 0x10*c) (0x2)
/-- CX.110.03 DOOR. -/
abbrev cxDoor (c : Nat) : Nat := mk 0x8 (0x100 + 0x10*c) (0x3)
/-- CX.110.04 ANT_COUNT. -/
abbrev cxAntCount (c : Nat) : Nat := mk 0x8 (0x100 + 0x10*c) (0x4)
/-- CX.110.05 SLOT. -/
abbrev cxSlot (c : Nat) : Nat := mk 0x8 (0x100 + 0x10*c) (0x5)
/-- CX.110.06 SUBJECT. -/
abbrev cxSubject (c : Nat) : Nat := mk 0x8 (0x100 + 0x10*c) (0x6)
/-- CX.110.07 IQ_RATE. -/
abbrev cxIqRate (c : Nat) : Nat := mk 0x8 (0x100 + 0x10*c) (0x7)
/-- CX.110.08 OWNER. -/
abbrev cxOwner (c : Nat) : Nat := mk 0x8 (0x100 + 0x10*c) (0x8)
/-- CX.110.09 STATE. -/
abbrev cxState (c : Nat) : Nat := mk 0x8 (0x100 + 0x10*c) (0x9)
/-- CX.110.0A COST. -/
abbrev cxCost (c : Nat) : Nat := mk 0x8 (0x100 + 0x10*c) (0xA)
/-- CX.110.0B SLOT_NOW. -/
abbrev cxSlotNow (c : Nat) : Nat := mk 0x8 (0x100 + 0x10*c) (0xB)
/-- CX.110.0C T_STATE. -/
abbrev cxTState (c : Nat) : Nat := mk 0x8 (0x100 + 0x10*c) (0xC)
/-- CX.110.0D T_LOCK. -/
abbrev cxTLock (c : Nat) : Nat := mk 0x8 (0x100 + 0x10*c) (0xD)
/-- CX.111.00–05 ANT_CHAIN. -/
abbrev cxAntChain (c i : Nat) : Nat := mk 0x8 (0x101 + 0x10*c) (i)
/-- CX.111.08–0D TAP. -/
abbrev cxTap (c i : Nat) : Nat := mk 0x8 (0x101 + 0x10*c) (0x8 + i)
/-- CX.112.00 CMB_MODE. -/
abbrev cxCmbMode (c : Nat) : Nat := mk 0x8 (0x102 + 0x10*c) (0x0)
/-- CX.112.01 EXCLUDE_DB. -/
abbrev cxExcludeDb (c : Nat) : Nat := mk 0x8 (0x102 + 0x10*c) (0x1)
/-- CX.112.02 SWITCH_HYST. -/
abbrev cxSwitchHyst (c : Nat) : Nat := mk 0x8 (0x102 + 0x10*c) (0x2)
/-- CX.112.03 SWITCH_HOLD_MS. -/
abbrev cxSwitchHoldMs (c : Nat) : Nat := mk 0x8 (0x102 + 0x10*c) (0x3)
/-- CX.112.04 INCLUDED. -/
abbrev cxIncluded (c : Nat) : Nat := mk 0x8 (0x102 + 0x10*c) (0x4)
/-- CX.112.05 BEST. -/
abbrev cxBest (c : Nat) : Nat := mk 0x8 (0x102 + 0x10*c) (0x5)
/-- CX.112.08–0D ANT_SNR. -/
abbrev cxAntSnr (c i : Nat) : Nat := mk 0x8 (0x102 + 0x10*c) (0x8 + i)
/-- CX.113.00–05 ANT_DELAY. -/
abbrev cxAntDelay (c i : Nat) : Nat := mk 0x8 (0x103 + 0x10*c) (i)
/-- CX.113.08–0D ANT_WEIGHT. -/
abbrev cxAntWeight (c i : Nat) : Nat := mk 0x8 (0x103 + 0x10*c) (0x8 + i)
/-- CX.114.00 ACQ_TIMEOUT_MS. -/
abbrev cxAcqTimeoutMs (c : Nat) : Nat := mk 0x8 (0x104 + 0x10*c) (0x0)
/-- CX.114.01 HOLD_TIMEOUT_MS. -/
abbrev cxHoldTimeoutMs (c : Nat) : Nat := mk 0x8 (0x104 + 0x10*c) (0x1)
/-- CX.114.02 ACQ_TIMEOUTS. -/
abbrev cxAcqTimeouts (c : Nat) : Nat := mk 0x8 (0x104 + 0x10*c) (0x2)
/-- CX.114.03 HOLD_COUNT. -/
abbrev cxHoldCount (c : Nat) : Nat := mk 0x8 (0x104 + 0x10*c) (0x3)
/-- CX.114.04 HYP_PREEMPTED. -/
abbrev cxHypPreempted (c : Nat) : Nat := mk 0x8 (0x104 + 0x10*c) (0x4)
/-- CX.114.05 HYP_REJECTED. -/
abbrev cxHypRejected (c : Nat) : Nat := mk 0x8 (0x104 + 0x10*c) (0x5)
/-- CX.114.08–0B HYP_STATE. -/
abbrev cxHypState (c i : Nat) : Nat := mk 0x8 (0x104 + 0x10*c) (0x8 + i)
/-- CX.115.00 OUT_DEPTH. -/
abbrev cxOutDepth (c : Nat) : Nat := mk 0x8 (0x105 + 0x10*c) (0x0)
/-- CX.115.01 OUT_SEQ. -/
abbrev cxOutSeq (c : Nat) : Nat := mk 0x8 (0x105 + 0x10*c) (0x1)
/-- CX.115.02 OUT_LOST. -/
abbrev cxOutLost (c : Nat) : Nat := mk 0x8 (0x105 + 0x10*c) (0x2)
/-- CX.115.03 SKIP_COUNT. -/
abbrev cxSkipCount (c : Nat) : Nat := mk 0x8 (0x105 + 0x10*c) (0x3)
/-- CX.115.04 RUN_COUNT. -/
abbrev cxRunCount (c : Nat) : Nat := mk 0x8 (0x105 + 0x10*c) (0x4)
/-- CX.000.00 WU_USED. -/
abbrev cxWuUsed : Nat := mk 0x8 (0x0) (0x0)
/-- CX.000.01 WU_CAPACITY. -/
abbrev cxWuCapacity : Nat := mk 0x8 (0x0) (0x1)
/-- CX.000.02 ACTIVE. -/
abbrev cxActive : Nat := mk 0x8 (0x0) (0x2)
/-- CX.000.03 N_DAB. -/
abbrev cxNDab : Nat := mk 0x8 (0x0) (0x3)
/-- CX.000.04 N_DRM. -/
abbrev cxNDrm : Nat := mk 0x8 (0x0) (0x4)
/-- CX.000.05 N_FM. -/
abbrev cxNFm : Nat := mk 0x8 (0x0) (0x5)
/-- CX.000.06 N_NRSC5. -/
abbrev cxNNrsc5 : Nat := mk 0x8 (0x0) (0x6)
/-- CX.000.07 N_SENTRY. -/
abbrev cxNSentry : Nat := mk 0x8 (0x0) (0x7)
/-- CX.000.08 REFUSALS. -/
abbrev cxRefusals : Nat := mk 0x8 (0x0) (0x8)
/-- CX.000.09 LAST_REFUSAL. -/
abbrev cxLastRefusal : Nat := mk 0x8 (0x0) (0x9)
/-- CX.000.0A RELEASE_LOST. -/
abbrev cxReleaseLost : Nat := mk 0x8 (0x0) (0xA)
/-- CX.001.00–0F EVENT_CONTEXTS. -/
abbrev cxEventContexts (i : Nat) : Nat := mk 0x8 (0x1) (i)
/-- WT.000.00 WATCH_STATE. -/
abbrev wtWatchState : Nat := mk 0x9 (0x0) (0x0)
/-- WT.000.01 PERIOD_US. -/
abbrev wtPeriodUs : Nat := mk 0x9 (0x0) (0x1)
/-- WT.000.02 PERIOD_INDEX. -/
abbrev wtPeriodIndex : Nat := mk 0x9 (0x0) (0x2)
/-- WT.000.03 LATE_NS. -/
abbrev wtLateNs : Nat := mk 0x9 (0x0) (0x3)
/-- WT.000.04 LATE_RUN. -/
abbrev wtLateRun : Nat := mk 0x9 (0x0) (0x4)
/-- WT.000.05 LATE_COUNT. -/
abbrev wtLateCount : Nat := mk 0x9 (0x0) (0x5)
/-- WT.000.06 SHED_COUNT. -/
abbrev wtShedCount : Nat := mk 0x9 (0x0) (0x6)
/-- WT.000.07 STORM_COUNT. -/
abbrev wtStormCount : Nat := mk 0x9 (0x0) (0x7)
/-- WT.000.08 RESYNC_COUNT. -/
abbrev wtResyncCount : Nat := mk 0x9 (0x0) (0x8)
/-- WT.000.09 MAX_LATE_NS. -/
abbrev wtMaxLateNs : Nat := mk 0x9 (0x0) (0x9)
/-- WT.000.0A THERM_RANK. -/
abbrev wtThermRank : Nat := mk 0x9 (0x0) (0xA)
/-- WT.001.00 ACTIVATE. -/
abbrev wtActivate : Nat := mk 0x9 (0x1) (0x0)
/-- WT.001.01 ACT_RESULT. -/
abbrev wtActResult : Nat := mk 0x9 (0x1) (0x1)
/-- WT.001.02 RUN_BANK. -/
abbrev wtRunBank : Nat := mk 0x9 (0x1) (0x2)
/-- WT.001.03 BOOT_BANK. -/
abbrev wtBootBank : Nat := mk 0x9 (0x1) (0x3)
/-- WT.001.04 IMAGE_ID. -/
abbrev wtImageId : Nat := mk 0x9 (0x1) (0x4)
/-- WT.001.05 IMAGE_VERSION. -/
abbrev wtImageVersion : Nat := mk 0x9 (0x1) (0x5)
/-- WT.001.06 IMAGE_DIGEST. -/
abbrev wtImageDigest : Nat := mk 0x9 (0x1) (0x6)
/-- WT.001.07 STORM_RETURN. -/
abbrev wtStormReturn : Nat := mk 0x9 (0x1) (0x7)
/-- WT.001.08 STORM_EXIT. -/
abbrev wtStormExit : Nat := mk 0x9 (0x1) (0x8)
/-- WT.002.00–03 SLOT_MASK. -/
abbrev wtSlotMask (i : Nat) : Nat := mk 0x9 (0x2) (i)
/-- WT.002.04 MASK_PERIOD. -/
abbrev wtMaskPeriod : Nat := mk 0x9 (0x2) (0x4)
/-- WT.002.05 MASK_SUPERSEDED. -/
abbrev wtMaskSuperseded : Nat := mk 0x9 (0x2) (0x5)
/-- WT.100.s SLOT_STATE. -/
abbrev wtSlotState (s : Nat) : Nat := mk 0x9 (0x100) (s)
/-- WT.101.s SLOT_LAST_US. -/
abbrev wtSlotLastUs (s : Nat) : Nat := mk 0x9 (0x101) (s)
/-- WT.102.s SLOT_OVERRUNS. -/
abbrev wtSlotOverruns (s : Nat) : Nat := mk 0x9 (0x102) (s)
/-- WT.103.s SLOT_SHED. -/
abbrev wtSlotShed (s : Nat) : Nat := mk 0x9 (0x103) (s)
/-- WT.003.00 EARLY_ENABLE. -/
abbrev wtEarlyEnable : Nat := mk 0x9 (0x3) (0x0)
/-- WT.003.01 EARLY_TYPE. -/
abbrev wtEarlyType : Nat := mk 0x9 (0x3) (0x1)
/-- WT.003.02 EARLY_RF. -/
abbrev wtEarlyRf : Nat := mk 0x9 (0x3) (0x2)
/-- WT.003.03 EARLY_DOOR. -/
abbrev wtEarlyDoor : Nat := mk 0x9 (0x3) (0x3)
/-- WT.003.04 EARLY_CHAINS. -/
abbrev wtEarlyChains : Nat := mk 0x9 (0x3) (0x4)
/-- WT.003.05 EARLY_TRACK. -/
abbrev wtEarlyTrack : Nat := mk 0x9 (0x3) (0x5)
/-- CX.116.00 DEEMPH. -/
abbrev cxDeemph (c : Nat) : Nat := mk 0x8 (0x106 + 0x10*c) (0x0)
/-- CX.116.01 STEREO_MODE. -/
abbrev cxStereoMode (c : Nat) : Nat := mk 0x8 (0x106 + 0x10*c) (0x1)
/-- CX.116.02 IFBW_MODE. -/
abbrev cxIfbwMode (c : Nat) : Nat := mk 0x8 (0x106 + 0x10*c) (0x2)
/-- CX.116.03 IFBW_FIXED. -/
abbrev cxIfbwFixed (c : Nat) : Nat := mk 0x8 (0x106 + 0x10*c) (0x3)
/-- CX.116.04 IFBW_XFADE. -/
abbrev cxIfbwXfade (c : Nat) : Nat := mk 0x8 (0x106 + 0x10*c) (0x4)
/-- CX.116.05 IFBW_RELEASE_MS. -/
abbrev cxIfbwReleaseMs (c : Nat) : Nat := mk 0x8 (0x106 + 0x10*c) (0x5)
/-- CX.116.06 BLEND_LO. -/
abbrev cxBlendLo (c : Nat) : Nat := mk 0x8 (0x106 + 0x10*c) (0x6)
/-- CX.116.07 BLEND_HI. -/
abbrev cxBlendHi (c : Nat) : Nat := mk 0x8 (0x106 + 0x10*c) (0x7)
/-- CX.116.08 HICUT_LO. -/
abbrev cxHicutLo (c : Nat) : Nat := mk 0x8 (0x106 + 0x10*c) (0x8)
/-- CX.116.09 HICUT_HI. -/
abbrev cxHicutHi (c : Nat) : Nat := mk 0x8 (0x106 + 0x10*c) (0x9)
/-- CX.116.0A HICUT_MIN. -/
abbrev cxHicutMin (c : Nat) : Nat := mk 0x8 (0x106 + 0x10*c) (0xA)
/-- CX.116.0B MUTE_LO. -/
abbrev cxMuteLo (c : Nat) : Nat := mk 0x8 (0x106 + 0x10*c) (0xB)
/-- CX.116.0C MUTE_HI. -/
abbrev cxMuteHi (c : Nat) : Nat := mk 0x8 (0x106 + 0x10*c) (0xC)
/-- CX.116.0D MUTE_MAX. -/
abbrev cxMuteMax (c : Nat) : Nat := mk 0x8 (0x106 + 0x10*c) (0xD)
/-- CX.116.0E ATTACK_MS. -/
abbrev cxAttackMs (c : Nat) : Nat := mk 0x8 (0x106 + 0x10*c) (0xE)
/-- CX.116.0F RELEASE_MS. -/
abbrev cxReleaseMs (c : Nat) : Nat := mk 0x8 (0x106 + 0x10*c) (0xF)
/-- CX.117.00 AM_MODE. -/
abbrev cxAmMode (c : Nat) : Nat := mk 0x8 (0x107 + 0x10*c) (0x0)
/-- CX.117.01 AM_BW_MODE. -/
abbrev cxAmBwMode (c : Nat) : Nat := mk 0x8 (0x107 + 0x10*c) (0x1)
/-- CX.117.02 AM_BW_FIXED. -/
abbrev cxAmBwFixed (c : Nat) : Nat := mk 0x8 (0x107 + 0x10*c) (0x2)
/-- CX.117.03 AM_PLL_BW. -/
abbrev cxAmPllBw (c : Nat) : Nat := mk 0x8 (0x107 + 0x10*c) (0x3)
/-- CX.117.04 AM_SIDEBAND. -/
abbrev cxAmSideband (c : Nat) : Nat := mk 0x8 (0x107 + 0x10*c) (0x4)
/-- CX.117.05 BLANK_ENABLE. -/
abbrev cxBlankEnable (c : Nat) : Nat := mk 0x8 (0x107 + 0x10*c) (0x5)
/-- CX.117.06 BLANK_THRESH. -/
abbrev cxBlankThresh (c : Nat) : Nat := mk 0x8 (0x107 + 0x10*c) (0x6)
/-- CX.117.07 BLANK_MAX_US. -/
abbrev cxBlankMaxUs (c : Nat) : Nat := mk 0x8 (0x107 + 0x10*c) (0x7)
/-- CX.117.08 BLANK_COUNT. -/
abbrev cxBlankCount (c : Nat) : Nat := mk 0x8 (0x107 + 0x10*c) (0x8)
/-- CX.117.09 MPX_BLANK_ENABLE. -/
abbrev cxMpxBlankEnable (c : Nat) : Nat := mk 0x8 (0x107 + 0x10*c) (0x9)
/-- CX.117.0A DEV_COMP. -/
abbrev cxDevComp (c : Nat) : Nat := mk 0x8 (0x107 + 0x10*c) (0xA)
/-- CX.117.0B DEV_GAIN. -/
abbrev cxDevGain (c : Nat) : Nat := mk 0x8 (0x107 + 0x10*c) (0xB)
/-- CX.118.00 Q_LEVEL. -/
abbrev cxQLevel (c : Nat) : Nat := mk 0x8 (0x108 + 0x10*c) (0x0)
/-- CX.118.01 Q_SNR. -/
abbrev cxQSnr (c : Nat) : Nat := mk 0x8 (0x108 + 0x10*c) (0x1)
/-- CX.118.02 Q_USN. -/
abbrev cxQUsn (c : Nat) : Nat := mk 0x8 (0x108 + 0x10*c) (0x2)
/-- CX.118.03 Q_MULTIPATH. -/
abbrev cxQMultipath (c : Nat) : Nat := mk 0x8 (0x108 + 0x10*c) (0x3)
/-- CX.118.04 Q_OFFSET. -/
abbrev cxQOffset (c : Nat) : Nat := mk 0x8 (0x108 + 0x10*c) (0x4)
/-- CX.118.05 Q_DEVIATION. -/
abbrev cxQDeviation (c : Nat) : Nat := mk 0x8 (0x108 + 0x10*c) (0x5)
/-- CX.118.06 Q_PILOT. -/
abbrev cxQPilot (c : Nat) : Nat := mk 0x8 (0x108 + 0x10*c) (0x6)
/-- CX.118.07 Q_AQ. -/
abbrev cxQAq (c : Nat) : Nat := mk 0x8 (0x108 + 0x10*c) (0x7)
/-- CX.118.08 STEREO. -/
abbrev cxStereo (c : Nat) : Nat := mk 0x8 (0x108 + 0x10*c) (0x8)
/-- CX.118.09 BLEND. -/
abbrev cxBlend (c : Nat) : Nat := mk 0x8 (0x108 + 0x10*c) (0x9)
/-- CX.118.0A IFBW. -/
abbrev cxIfbw (c : Nat) : Nat := mk 0x8 (0x108 + 0x10*c) (0xA)
/-- CX.118.0B HICUT. -/
abbrev cxHicut (c : Nat) : Nat := mk 0x8 (0x108 + 0x10*c) (0xB)
/-- CX.118.0C MUTE_ATTEN. -/
abbrev cxMuteAtten (c : Nat) : Nat := mk 0x8 (0x108 + 0x10*c) (0xC)
/-- CX.118.0D SYNC_LOCK. -/
abbrev cxSyncLock (c : Nat) : Nat := mk 0x8 (0x108 + 0x10*c) (0xD)
/-- CX.118.0E AUDIO_SAT. -/
abbrev cxAudioSat (c : Nat) : Nat := mk 0x8 (0x108 + 0x10*c) (0xE)
/-- CX.118.0F Q_TIME. -/
abbrev cxQTime (c : Nat) : Nat := mk 0x8 (0x108 + 0x10*c) (0xF)
/-- CX.119.00 RDS_ENABLE. -/
abbrev cxRdsEnable (c : Nat) : Nat := mk 0x8 (0x109 + 0x10*c) (0x0)
/-- CX.119.01 RDS_ERR_MAX. -/
abbrev cxRdsErrMax (c : Nat) : Nat := mk 0x8 (0x109 + 0x10*c) (0x1)
/-- CX.119.02 RDS_SYNC. -/
abbrev cxRdsSync (c : Nat) : Nat := mk 0x8 (0x109 + 0x10*c) (0x2)
/-- CX.119.03 RDS_BLOCKS. -/
abbrev cxRdsBlocks (c : Nat) : Nat := mk 0x8 (0x109 + 0x10*c) (0x3)
/-- CX.119.04 RDS_UNCORR. -/
abbrev cxRdsUncorr (c : Nat) : Nat := mk 0x8 (0x109 + 0x10*c) (0x4)
/-- CX.119.05 MEAS_WINDOW_MS. -/
abbrev cxMeasWindowMs (c : Nat) : Nat := mk 0x8 (0x109 + 0x10*c) (0x5)
/-- CX.119.06 DEV_REF. -/
abbrev cxDevRef (c : Nat) : Nat := mk 0x8 (0x109 + 0x10*c) (0x6)
/-- CX.119.07 MPX_POWER. -/
abbrev cxMpxPower (c : Nat) : Nat := mk 0x8 (0x109 + 0x10*c) (0x7)
/-- CX.119.08 DEV_EXCEED. -/
abbrev cxDevExceed (c : Nat) : Nat := mk 0x8 (0x109 + 0x10*c) (0x8)
/-- CX.11A.00 D_LEVEL. -/
abbrev cxDLevel (c : Nat) : Nat := mk 0x8 (0x10A + 0x10*c) (0x0)
/-- CX.11A.01 D_SNR. -/
abbrev cxDSnr (c : Nat) : Nat := mk 0x8 (0x10A + 0x10*c) (0x1)
/-- CX.11A.02 D_MER. -/
abbrev cxDMer (c : Nat) : Nat := mk 0x8 (0x10A + 0x10*c) (0x2)
/-- CX.11A.03 D_OFFSET. -/
abbrev cxDOffset (c : Nat) : Nat := mk 0x8 (0x10A + 0x10*c) (0x3)
/-- CX.11A.04 D_DELAY_SPREAD. -/
abbrev cxDDelaySpread (c : Nat) : Nat := mk 0x8 (0x10A + 0x10*c) (0x4)
/-- CX.11A.05 D_MODE. -/
abbrev cxDMode (c : Nat) : Nat := mk 0x8 (0x10A + 0x10*c) (0x5)
/-- CX.11A.06 D_PARAM. -/
abbrev cxDParam (c : Nat) : Nat := mk 0x8 (0x10A + 0x10*c) (0x6)
/-- CX.11A.07 D_CDNO. -/
abbrev cxDCdno (c : Nat) : Nat := mk 0x8 (0x10A + 0x10*c) (0x7)
/-- CX.11A.08 D_SYNC_FAIL. -/
abbrev cxDSyncFail (c : Nat) : Nat := mk 0x8 (0x10A + 0x10*c) (0x8)
/-- CX.11A.09 D_RECONFIG. -/
abbrev cxDReconfig (c : Nat) : Nat := mk 0x8 (0x10A + 0x10*c) (0x9)
/-- CX.11A.0A D_TIME. -/
abbrev cxDTime (c : Nat) : Nat := mk 0x8 (0x10A + 0x10*c) (0xA)
/-- CX.11B.00 DAB_MODES. -/
abbrev cxDabModes (c : Nat) : Nat := mk 0x8 (0x10B + 0x10*c) (0x0)
/-- CX.11B.01 SUBCH_FRAMES. -/
abbrev cxSubchFrames (c : Nat) : Nat := mk 0x8 (0x10B + 0x10*c) (0x1)
/-- CX.11B.02 PKT_FRAMES. -/
abbrev cxPktFrames (c : Nat) : Nat := mk 0x8 (0x10B + 0x10*c) (0x2)
/-- CX.11B.03 FIB_FRAMES. -/
abbrev cxFibFrames (c : Nat) : Nat := mk 0x8 (0x10B + 0x10*c) (0x3)
/-- CX.11B.04 TII_MAX. -/
abbrev cxTiiMax (c : Nat) : Nat := mk 0x8 (0x10B + 0x10*c) (0x4)
/-- CX.11B.05 EID. -/
abbrev cxEid (c : Nat) : Nat := mk 0x8 (0x10B + 0x10*c) (0x5)
/-- CX.11B.06 CIF_COUNT. -/
abbrev cxCifCount (c : Nat) : Nat := mk 0x8 (0x10B + 0x10*c) (0x6)
/-- CX.11C.00 DRM_MODES. -/
abbrev cxDrmModes (c : Nat) : Nat := mk 0x8 (0x10C + 0x10*c) (0x0)
/-- CX.11C.01 STREAM_FRAMES. -/
abbrev cxStreamFrames (c : Nat) : Nat := mk 0x8 (0x10C + 0x10*c) (0x1)
/-- CX.11C.02 FAC_FRAMES. -/
abbrev cxFacFrames (c : Nat) : Nat := mk 0x8 (0x10C + 0x10*c) (0x2)
/-- CX.11C.03 DRM_INTERLEAVE. -/
abbrev cxDrmInterleave (c : Nat) : Nat := mk 0x8 (0x10C + 0x10*c) (0x3)
/-- CX.11C.04 DRM_MSC_MAP. -/
abbrev cxDrmMscMap (c : Nat) : Nat := mk 0x8 (0x10C + 0x10*c) (0x4)
/-- CX.11C.05 DRM_SERVICES. -/
abbrev cxDrmServices (c : Nat) : Nat := mk 0x8 (0x10C + 0x10*c) (0x5)
/-- CX.11D.00 LC_FRAMES. -/
abbrev cxLcFrames (c : Nat) : Nat := mk 0x8 (0x10D + 0x10*c) (0x0)
/-- CX.11D.01 AUDIO_FRAMES. -/
abbrev cxAudioFrames (c : Nat) : Nat := mk 0x8 (0x10D + 0x10*c) (0x1)
/-- CX.11D.02 PSD_FRAMES. -/
abbrev cxPsdFrames (c : Nat) : Nat := mk 0x8 (0x10D + 0x10*c) (0x2)
/-- CX.11D.03 NR_SMODE. -/
abbrev cxNrSmode (c : Nat) : Nat := mk 0x8 (0x10D + 0x10*c) (0x3)
/-- CX.11D.04 NR_ALFN. -/
abbrev cxNrAlfn (c : Nat) : Nat := mk 0x8 (0x10D + 0x10*c) (0x4)
/-- CX.11D.05 NR_PROGRAMS. -/
abbrev cxNrPrograms (c : Nat) : Nat := mk 0x8 (0x10D + 0x10*c) (0x5)
/-- CX.11E.00–03 SEL_ID. -/
abbrev cxSelId (c i : Nat) : Nat := mk 0x8 (0x10E + 0x10*c) (i)
/-- CX.11E.04–07 SEL_MODE. -/
abbrev cxSelMode (c i : Nat) : Nat := mk 0x8 (0x10E + 0x10*c) (0x4 + i)
/-- CX.11E.08–0B SEL_STATE. -/
abbrev cxSelState (c i : Nat) : Nat := mk 0x8 (0x10E + 0x10*c) (0x8 + i)
/-- CX.11E.0C–0F SEL_CODEC. -/
abbrev cxSelCodec (c i : Nat) : Nat := mk 0x8 (0x10E + 0x10*c) (0xC + i)
/-- CX.11F.00–03 DEC_SLOT. -/
abbrev cxDecSlot (c i : Nat) : Nat := mk 0x8 (0x10F + 0x10*c) (i)
/-- CX.11F.04–07 DEC_LAG. -/
abbrev cxDecLag (c i : Nat) : Nat := mk 0x8 (0x10F + 0x10*c) (0x4 + i)
/-- CX.11F.08–0B DEC_ERR. -/
abbrev cxDecErr (c i : Nat) : Nat := mk 0x8 (0x10F + 0x10*c) (0x8 + i)
/-- CX.11F.0C–0F DEC_FS. -/
abbrev cxDecFs (c i : Nat) : Nat := mk 0x8 (0x10F + 0x10*c) (0xC + i)
/-- CX.002.00 DEC_USED. -/
abbrev cxDecUsed : Nat := mk 0x8 (0x2) (0x0)
/-- CX.002.01 DEC_CAPACITY. -/
abbrev cxDecCapacity : Nat := mk 0x8 (0x2) (0x1)
/-- CX.002.02 DEC_WAITING. -/
abbrev cxDecWaiting : Nat := mk 0x8 (0x2) (0x2)
/-- CX.002.03 DEC_PREEMPTED. -/
abbrev cxDecPreempted : Nat := mk 0x8 (0x2) (0x3)
/-- CX.002.04 DEC_GRANTS. -/
abbrev cxDecGrants : Nat := mk 0x8 (0x2) (0x4)
/-- SD.000.00 RDS_STANDARD. -/
abbrev sdRdsStandard : Nat := mk 0xB (0x0) (0x0)
/-- SD.000.01 GROUP_MODE. -/
abbrev sdGroupMode : Nat := mk 0xB (0x0) (0x1)
/-- SD.000.02 FIG_MODE. -/
abbrev sdFigMode : Nat := mk 0xB (0x0) (0x2)
/-- SD.000.03 MOT_MAX_KIB. -/
abbrev sdMotMaxKib : Nat := mk 0xB (0x0) (0x3)
/-- SD.000.04 MOT_DISCARDED. -/
abbrev sdMotDiscarded : Nat := mk 0xB (0x0) (0x4)
/-- SD.000.05 DUP_SUPPRESSED. -/
abbrev sdDupSuppressed : Nat := mk 0xB (0x0) (0x5)
/-- SD.000.06 MOT_FRAG_BYTES. -/
abbrev sdMotFragBytes : Nat := mk 0xB (0x0) (0x6)
/-- SD.001.00 SVC_COUNT. -/
abbrev sdSvcCount : Nat := mk 0xB (0x1) (0x0)
/-- SD.001.01 SVC_CAPACITY. -/
abbrev sdSvcCapacity : Nat := mk 0xB (0x1) (0x1)
/-- SD.001.02 SVC_AGE_S. -/
abbrev sdSvcAgeS : Nat := mk 0xB (0x1) (0x2)
/-- SD.001.03 SVC_DUMP. -/
abbrev sdSvcDump : Nat := mk 0xB (0x1) (0x3)
/-- SD.001.04 SVC_FULL. -/
abbrev sdSvcFull : Nat := mk 0xB (0x1) (0x4)
/-- SD.002.00 BT_UTC. -/
abbrev sdBtUtc : Nat := mk 0xB (0x2) (0x0)
/-- SD.002.01 BT_OFFSET. -/
abbrev sdBtOffset : Nat := mk 0xB (0x2) (0x1)
/-- SD.002.02 BT_CONTEXT. -/
abbrev sdBtContext : Nat := mk 0xB (0x2) (0x2)
/-- SD.002.03 BT_T_RX. -/
abbrev sdBtTRx : Nat := mk 0xB (0x2) (0x3)
/-- SD.010.k FH_ACTION. -/
abbrev sdFhAction (k : Nat) : Nat := mk 0xB (0x10) (k)
/-- SD.011.k FH_PRIORITY. -/
abbrev sdFhPriority (k : Nat) : Nat := mk 0xB (0x11) (k)
/-- SD.012.k FH_PORTS. -/
abbrev sdFhPorts (k : Nat) : Nat := mk 0xB (0x12) (k)
/-- SD.013.k FH_AVTP. -/
abbrev sdFhAvtp (k : Nat) : Nat := mk 0xB (0x13) (k)
/-- SD.014.k FH_WAKE. -/
abbrev sdFhWake (k : Nat) : Nat := mk 0xB (0x14) (k)
/-- SD.015.k FH_DISMISSABLE. -/
abbrev sdFhDismissable (k : Nat) : Nat := mk 0xB (0x15) (k)
/-- SD.016.k FH_XFADE_MS. -/
abbrev sdFhXfadeMs (k : Nat) : Nat := mk 0xB (0x16) (k)
/-- SD.017.00 FH_CONFIRM. -/
abbrev sdFhConfirm : Nat := mk 0xB (0x17) (0x0)
/-- SD.017.01 LOC_FILTER. -/
abbrev sdLocFilter : Nat := mk 0xB (0x17) (0x1)
/-- SD.017.02 FH_COUNT. -/
abbrev sdFhCount : Nat := mk 0xB (0x17) (0x2)
/-- SD.017.03 FH_OVERFLOW. -/
abbrev sdFhOverflow : Nat := mk 0xB (0x17) (0x3)
/-- SD.017.04 FH_NO_ROOM. -/
abbrev sdFhNoRoom : Nat := mk 0xB (0x17) (0x4)
/-- SD.017.05 FH_NO_DECODER. -/
abbrev sdFhNoDecoder : Nat := mk 0xB (0x17) (0x5)
/-- SD.018.00–07 LOCATION. -/
abbrev sdLocation (i : Nat) : Nat := mk 0xB (0x18) (i)
/-- SD.020.w WARN_STATE. -/
abbrev sdWarnState (w : Nat) : Nat := mk 0xB (0x20) (w)
/-- SD.021.w WARN_CLASS. -/
abbrev sdWarnClass (w : Nat) : Nat := mk 0xB (0x21) (w)
/-- SD.022.w WARN_CONTEXT. -/
abbrev sdWarnContext (w : Nat) : Nat := mk 0xB (0x22) (w)
/-- SD.023.w WARN_SID. -/
abbrev sdWarnSid (w : Nat) : Nat := mk 0xB (0x23) (w)
/-- SD.024.w WARN_T_START. -/
abbrev sdWarnTStart (w : Nat) : Nat := mk 0xB (0x24) (w)
/-- SD.025.w WARN_PORTS. -/
abbrev sdWarnPorts (w : Nat) : Nat := mk 0xB (0x25) (w)
/-- SD.026.w WARN_DISMISS. -/
abbrev sdWarnDismiss (w : Nat) : Nat := mk 0xB (0x26) (w)
/-- SD.027.w WARN_END_CAUSE. -/
abbrev sdWarnEndCause (w : Nat) : Nat := mk 0xB (0x27) (w)
/-- SD.300.s SD_STREAM_ENABLE. -/
abbrev sdSdStreamEnable (s : Nat) : Nat := mk 0xB (0x300) (s)
/-- SD.301.s SD_STREAM_CONTEXTS. -/
abbrev sdSdStreamContexts (s : Nat) : Nat := mk 0xB (0x301) (s)
/-- SD.302.s SD_STREAM_TYPES. -/
abbrev sdSdStreamTypes (s : Nat) : Nat := mk 0xB (0x302) (s)
/-- SD.303.s SD_STREAM_SEQ. -/
abbrev sdSdStreamSeq (s : Nat) : Nat := mk 0xB (0x303) (s)
/-- SD.304.s SD_STREAM_STALLS. -/
abbrev sdSdStreamStalls (s : Nat) : Nat := mk 0xB (0x304) (s)
/-- LL.000.00 LL_STATE. -/
abbrev llLlState : Nat := mk 0xA (0x0) (0x0)
/-- LL.000.01 LL_ACTIVATE. -/
abbrev llLlActivate : Nat := mk 0xA (0x0) (0x1)
/-- LL.000.02 LL_ACT_RESULT. -/
abbrev llLlActResult : Nat := mk 0xA (0x0) (0x2)
/-- LL.000.03 LL_RUN_BANK. -/
abbrev llLlRunBank : Nat := mk 0xA (0x0) (0x3)
/-- LL.000.04 LL_BOOT_BANK. -/
abbrev llLlBootBank : Nat := mk 0xA (0x0) (0x4)
/-- LL.000.05 LL_IMAGE_ID. -/
abbrev llLlImageId : Nat := mk 0xA (0x0) (0x5)
/-- LL.000.06 LL_VERSION. -/
abbrev llLlVersion : Nat := mk 0xA (0x0) (0x6)
/-- LL.000.07 LL_ROOT. -/
abbrev llLlRoot : Nat := mk 0xA (0x0) (0x7)
/-- LL.000.08 LL_RECORDS. -/
abbrev llLlRecords : Nat := mk 0xA (0x0) (0x8)
/-- LL.000.09 LL_SERVICES. -/
abbrev llLlServices : Nat := mk 0xA (0x0) (0x9)
/-- LL.000.0A LL_CACHE_BLOCKS. -/
abbrev llLlCacheBlocks : Nat := mk 0xA (0x0) (0xA)
/-- LL.000.0B LL_CACHE_MISS. -/
abbrev llLlCacheMiss : Nat := mk 0xA (0x0) (0xB)
/-- LL.000.0C LL_BLOCK_FAIL. -/
abbrev llLlBlockFail : Nat := mk 0xA (0x0) (0xC)
/-- LL.000.0D LL_BLOCKS_BAD. -/
abbrev llLlBlocksBad : Nat := mk 0xA (0x0) (0xD)
/-- LL.000.0E LL_LOOKUP_MAX_US. -/
abbrev llLlLookupMaxUs : Nat := mk 0xA (0x0) (0xE)
/-- LL.000.0F LL_EVENT_CAUSE. -/
abbrev llLlEventCause : Nat := mk 0xA (0x0) (0xF)
/-- LL.001.00 POS_LAT. -/
abbrev llPosLat : Nat := mk 0xA (0x1) (0x0)
/-- LL.001.01 POS_LON. -/
abbrev llPosLon : Nat := mk 0xA (0x1) (0x1)
/-- LL.001.02 POS_ALT. -/
abbrev llPosAlt : Nat := mk 0xA (0x1) (0x2)
/-- LL.001.03 POS_UNC. -/
abbrev llPosUnc : Nat := mk 0xA (0x1) (0x3)
/-- LL.001.04 POS_SPEED. -/
abbrev llPosSpeed : Nat := mk 0xA (0x1) (0x4)
/-- LL.001.05 POS_HEADING. -/
abbrev llPosHeading : Nat := mk 0xA (0x1) (0x5)
/-- LL.001.06 POS_T. -/
abbrev llPosT : Nat := mk 0xA (0x1) (0x6)
/-- LL.001.07 POS_STATE. -/
abbrev llPosState : Nat := mk 0xA (0x1) (0x7)
/-- LL.001.08 POS_TIMEOUT_MS. -/
abbrev llPosTimeoutMs : Nat := mk 0xA (0x1) (0x8)
/-- LL.001.09 CELL_LAT. -/
abbrev llCellLat : Nat := mk 0xA (0x1) (0x9)
/-- LL.001.0A CELL_LON. -/
abbrev llCellLon : Nat := mk 0xA (0x1) (0xA)
/-- LL.001.0B CELL_HYST_M. -/
abbrev llCellHystM : Nat := mk 0xA (0x1) (0xB)
/-- LL.001.0C LOOKAHEAD_S. -/
abbrev llLookaheadS : Nat := mk 0xA (0x1) (0xC)
/-- LL.002.00 REC_INDEX. -/
abbrev llRecIndex : Nat := mk 0xA (0x2) (0x0)
/-- LL.002.01 REC_DATA. -/
abbrev llRecData : Nat := mk 0xA (0x2) (0x1)
/-- LL.002.02 SVC_INDEX. -/
abbrev llSvcIndex : Nat := mk 0xA (0x2) (0x2)
/-- LL.002.03 SVC_DATA. -/
abbrev llSvcData : Nat := mk 0xA (0x2) (0x3)
/-- LL.003.00 CORR_WINDOW_MS. -/
abbrev llCorrWindowMs : Nat := mk 0xA (0x3) (0x0)
/-- LL.003.01 CORR_MIN. -/
abbrev llCorrMin : Nat := mk 0xA (0x3) (0x1)
/-- LL.003.02 CORR_REFRESH_S. -/
abbrev llCorrRefreshS : Nat := mk 0xA (0x3) (0x2)
/-- LL.003.03 GAIN_LIMIT. -/
abbrev llGainLimit : Nat := mk 0xA (0x3) (0x3)
/-- LL.003.04 ID_TIMEOUT_MS. -/
abbrev llIdTimeoutMs : Nat := mk 0xA (0x3) (0x4)
/-- LL.003.05 FAIL_BACKOFF_S. -/
abbrev llFailBackoffS : Nat := mk 0xA (0x3) (0x5)
/-- LL.003.06 FALLBACK_MIN_LEVEL. -/
abbrev llFallbackMinLevel : Nat := mk 0xA (0x3) (0x6)
/-- LL.003.07 RULES_SOURCE. -/
abbrev llRulesSource : Nat := mk 0xA (0x3) (0x7)
/-- LL.010.f FOLLOW_ENABLE. -/
abbrev llFollowEnable (f : Nat) : Nat := mk 0xA (0x10) (f)
/-- LL.011.f FOLLOW_FAMILY. -/
abbrev llFollowFamily (f : Nat) : Nat := mk 0xA (0x11) (f)
/-- LL.012.f FOLLOW_STD. -/
abbrev llFollowStd (f : Nat) : Nat := mk 0xA (0x12) (f)
/-- LL.013.f FOLLOW_ID. -/
abbrev llFollowId (f : Nat) : Nat := mk 0xA (0x13) (f)
/-- LL.014.f FOLLOW_CLASSES. -/
abbrev llFollowClasses (f : Nat) : Nat := mk 0xA (0x14) (f)
/-- LL.015.f FOLLOW_CHAINS. -/
abbrev llFollowChains (f : Nat) : Nat := mk 0xA (0x15) (f)
/-- LL.016.f SHADOW_MAX. -/
abbrev llShadowMax (f : Nat) : Nat := mk 0xA (0x16) (f)
/-- LL.017.f FOLLOW_DELAY. -/
abbrev llFollowDelay (f : Nat) : Nat := mk 0xA (0x17) (f)
/-- LL.018.f HOLDOFF_MS. -/
abbrev llHoldoffMs (f : Nat) : Nat := mk 0xA (0x18) (f)
/-- LL.019.f FOLLOW_STATE. -/
abbrev llFollowState (f : Nat) : Nat := mk 0xA (0x19) (f)
/-- LL.01A.f ACTIVE_CONTEXT. -/
abbrev llActiveContext (f : Nat) : Nat := mk 0xA (0x1A) (f)
/-- LL.01B.f SHADOW_CONTEXTS. -/
abbrev llShadowContexts (f : Nat) : Nat := mk 0xA (0x1B) (f)
/-- LL.01C.f CAND_SOURCE. -/
abbrev llCandSource (f : Nat) : Nat := mk 0xA (0x1C) (f)
/-- LL.01D.f OUT_DELAY. -/
abbrev llOutDelay (f : Nat) : Nat := mk 0xA (0x1D) (f)
/-- LL.01E.f OUT_GAIN. -/
abbrev llOutGain (f : Nat) : Nat := mk 0xA (0x1E) (f)
/-- LL.01F.f LAST_LAG. -/
abbrev llLastLag (f : Nat) : Nat := mk 0xA (0x1F) (f)
/-- LL.020.f SWITCH_COUNT. -/
abbrev llSwitchCount (f : Nat) : Nat := mk 0xA (0x20) (f)
/-- LL.021.f UNALIGNED. -/
abbrev llUnaligned (f : Nat) : Nat := mk 0xA (0x21) (f)
/-- LL.022.f NO_ROOM. -/
abbrev llNoRoom (f : Nat) : Nat := mk 0xA (0x22) (f)
/-- LL.023.f CAND_COUNT. -/
abbrev llCandCount (f : Nat) : Nat := mk 0xA (0x23) (f)
/-- LL.024.f LAST_SWITCH. -/
abbrev llLastSwitch (f : Nat) : Nat := mk 0xA (0x24) (f)
/-- MF.000.00 MF_CHANNELS. -/
abbrev mfMfChannels : Nat := mk 0xC (0x0) (0x0)
/-- MF.000.01 SWEEP_FILTERED. -/
abbrev mfSweepFiltered : Nat := mk 0xC (0x0) (0x1)
/-- MF.000.02 SWEEP_UNFILTERED. -/
abbrev mfSweepUnfiltered : Nat := mk 0xC (0x0) (0x2)
/-- MF.000.03 SUPERSEDED. -/
abbrev mfSuperseded : Nat := mk 0xC (0x0) (0x3)
/-- MF.001.00–03 THR_PENDING. -/
abbrev mfThrPending (i : Nat) : Nat := mk 0xC (0x1) (i)
/-- MF.010.00 READ_CHANNEL. -/
abbrev mfReadChannel : Nat := mk 0xC (0x10) (0x0)
/-- MF.010.01 READ_VALUE. -/
abbrev mfReadValue : Nat := mk 0xC (0x10) (0x1)
/-- MF.010.02 READ_FLAGS. -/
abbrev mfReadFlags : Nat := mk 0xC (0x10) (0x2)
/-- MF.010.03 READ_TIME. -/
abbrev mfReadTime : Nat := mk 0xC (0x10) (0x3)
/-- MF.101.00–05 MEDIAN. -/
abbrev mfMedian (c i : Nat) : Nat := mk 0xC (0x100 + c) (i)
/-- MF.200 + n, MEDIAN of chain n. -/
abbrev mfMedianChain (n i : Nat) : Nat := mk 0xC (0x200 + n) (0x0 + i)
/-- MF.300 + g, MEDIAN of Sweep segment g. -/
abbrev mfMedianSeg (g i : Nat) : Nat := mk 0xC (0x300 + g) (0x0 + i)
/-- MF.101.08–0D PRESET. -/
abbrev mfPreset (c i : Nat) : Nat := mk 0xC (0x100 + c) (0x8 + i)
/-- MF.200 + n, PRESET of chain n. -/
abbrev mfPresetChain (n i : Nat) : Nat := mk 0xC (0x200 + n) (0x8 + i)
/-- MF.300 + g, PRESET of Sweep segment g. -/
abbrev mfPresetSeg (g i : Nat) : Nat := mk 0xC (0x300 + g) (0x8 + i)
/-- MF.101.10–15 OUT_MS. -/
abbrev mfOutMs (c i : Nat) : Nat := mk 0xC (0x100 + c) (0x10 + i)
/-- MF.200 + n, OUT_MS of chain n. -/
abbrev mfOutMsChain (n i : Nat) : Nat := mk 0xC (0x200 + n) (0x10 + i)
/-- MF.300 + g, OUT_MS of Sweep segment g. -/
abbrev mfOutMsSeg (g i : Nat) : Nat := mk 0xC (0x300 + g) (0x10 + i)
/-- MF.101.18–1D XFADE. -/
abbrev mfXfade (c i : Nat) : Nat := mk 0xC (0x100 + c) (0x18 + i)
/-- MF.200 + n, XFADE of chain n. -/
abbrev mfXfadeChain (n i : Nat) : Nat := mk 0xC (0x200 + n) (0x18 + i)
/-- MF.300 + g, XFADE of Sweep segment g. -/
abbrev mfXfadeSeg (g i : Nat) : Nat := mk 0xC (0x300 + g) (0x18 + i)
/-- MF.101.20–25 DOMAIN. -/
abbrev mfDomain (c i : Nat) : Nat := mk 0xC (0x100 + c) (0x20 + i)
/-- MF.200 + n, DOMAIN of chain n. -/
abbrev mfDomainChain (n i : Nat) : Nat := mk 0xC (0x200 + n) (0x20 + i)
/-- MF.300 + g, DOMAIN of Sweep segment g. -/
abbrev mfDomainSeg (g i : Nat) : Nat := mk 0xC (0x300 + g) (0x20 + i)
/-- MF.101.28–2D STREAMS. -/
abbrev mfStreams (c i : Nat) : Nat := mk 0xC (0x100 + c) (0x28 + i)
/-- MF.200 + n, STREAMS of chain n. -/
abbrev mfStreamsChain (n i : Nat) : Nat := mk 0xC (0x200 + n) (0x28 + i)
/-- MF.300 + g, STREAMS of Sweep segment g. -/
abbrev mfStreamsSeg (g i : Nat) : Nat := mk 0xC (0x300 + g) (0x28 + i)
/-- MF.101.30–35 VALUE. -/
abbrev mfValue (c i : Nat) : Nat := mk 0xC (0x100 + c) (0x30 + i)
/-- MF.200 + n, VALUE of chain n. -/
abbrev mfValueChain (n i : Nat) : Nat := mk 0xC (0x200 + n) (0x30 + i)
/-- MF.101.38–3D OFLAGS. -/
abbrev mfOflags (c i : Nat) : Nat := mk 0xC (0x100 + c) (0x38 + i)
/-- MF.200 + n, OFLAGS of chain n. -/
abbrev mfOflagsChain (n i : Nat) : Nat := mk 0xC (0x200 + n) (0x38 + i)
/-- MF.101.40–45 T_OUT. -/
abbrev mfTOut (c i : Nat) : Nat := mk 0xC (0x100 + c) (0x40 + i)
/-- MF.200 + n, T_OUT of chain n. -/
abbrev mfTOutChain (n i : Nat) : Nat := mk 0xC (0x200 + n) (0x40 + i)
/-- MF.400.t THR_CHANNEL. -/
abbrev mfThrChannel (t : Nat) : Nat := mk 0xC (0x400) (t)
/-- MF.401.t THR_UPPER. -/
abbrev mfThrUpper (t : Nat) : Nat := mk 0xC (0x401) (t)
/-- MF.402.t THR_LOWER. -/
abbrev mfThrLower (t : Nat) : Nat := mk 0xC (0x402) (t)
/-- MF.403.t THR_HYST. -/
abbrev mfThrHyst (t : Nat) : Nat := mk 0xC (0x403) (t)
/-- MF.404.t THR_DWELL_MS. -/
abbrev mfThrDwellMs (t : Nat) : Nat := mk 0xC (0x404) (t)
/-- MF.405.t THR_STREAMS. -/
abbrev mfThrStreams (t : Nat) : Nat := mk 0xC (0x405) (t)
/-- MF.406.t THR_NOTIFY. -/
abbrev mfThrNotify (t : Nat) : Nat := mk 0xC (0x406) (t)
/-- MF.407.t THR_ZONE. -/
abbrev mfThrZone (t : Nat) : Nat := mk 0xC (0x407) (t)
/-- MF.408.t THR_T. -/
abbrev mfThrT (t : Nat) : Nat := mk 0xC (0x408) (t)
/-- MF.409.t THR_COUNT. -/
abbrev mfThrCount (t : Nat) : Nat := mk 0xC (0x409) (t)
/-- CA.000.00 CAL_STATE. -/
abbrev caCalState : Nat := mk 0x7 (0x0) (0x0)
/-- CA.000.01 RAMP_MS. -/
abbrev caRampMs : Nat := mk 0x7 (0x0) (0x1)
/-- CA.000.02 TEMP_DELTA. -/
abbrev caTempDelta : Nat := mk 0x7 (0x0) (0x2)
/-- CA.000.03 INTERVAL_S. -/
abbrev caIntervalS : Nat := mk 0x7 (0x0) (0x3)
/-- CA.000.04 CAL_BANK. -/
abbrev caCalBank : Nat := mk 0x7 (0x0) (0x4)
/-- CA.000.05 CAL_SEQ. -/
abbrev caCalSeq : Nat := mk 0x7 (0x0) (0x5)
/-- CA.000.06 STORE_INCOMPLETE. -/
abbrev caStoreIncomplete : Nat := mk 0x7 (0x0) (0x6)
/-- CA.000.07 LAST_CAUSE. -/
abbrev caLastCause : Nat := mk 0x7 (0x0) (0x7)
/-- CA.000.08 POWERUP_US. -/
abbrev caPowerupUs : Nat := mk 0x7 (0x0) (0x8)
/-- CA.001.00 REF_LEVEL. -/
abbrev caRefLevel : Nat := mk 0x7 (0x1) (0x0)
/-- CA.001.01 REF_FREQ. -/
abbrev caRefFreq : Nat := mk 0x7 (0x1) (0x1)
/-- CA.001.02 REF_UNC. -/
abbrev caRefUnc : Nat := mk 0x7 (0x1) (0x2)
/-- CA.001.03 REF_ID. -/
abbrev caRefId : Nat := mk 0x7 (0x1) (0x3)
/-- CA.001.04 REF_TARGETS. -/
abbrev caRefTargets : Nat := mk 0x7 (0x1) (0x4)
/-- CA.001.05 REF_CMD. -/
abbrev caRefCmd : Nat := mk 0x7 (0x1) (0x5)
/-- CA.001.06 REF_STATE. -/
abbrev caRefState : Nat := mk 0x7 (0x1) (0x6)
/-- CA.001.07 REF_DONE. -/
abbrev caRefDone : Nat := mk 0x7 (0x1) (0x7)
/-- CA.001.08 REF_FAILED. -/
abbrev caRefFailed : Nat := mk 0x7 (0x1) (0x8)
/-- CA.010.00–0B CQF_MIN. -/
abbrev caCqfMin (i : Nat) : Nat := mk 0x7 (0x10) (i)
/-- CA.020.00 LINK_TEMP_DELTA. -/
abbrev caLinkTempDelta : Nat := mk 0x7 (0x20) (0x0)
/-- CA.020.01 LINK_CAL_CMD. -/
abbrev caLinkCalCmd : Nat := mk 0x7 (0x20) (0x1)
/-- CA.020.02 LINK_CAL_VALID. -/
abbrev caLinkCalValid : Nat := mk 0x7 (0x20) (0x2)
/-- CA.030.00 FX_COUNT. -/
abbrev caFxCount : Nat := mk 0x7 (0x30) (0x0)
/-- CA.030.01 FX_INDEX. -/
abbrev caFxIndex : Nat := mk 0x7 (0x30) (0x1)
/-- CA.030.02 FX_ENTRY. -/
abbrev caFxEntry : Nat := mk 0x7 (0x30) (0x2)
/-- CA.100.00 LANE_CAL_CMD. -/
abbrev caLaneCalCmd (n : Nat) : Nat := mk 0x7 (0x100 + 0x10*n) (0x0)
/-- CA.100.01 LANE_DUE. -/
abbrev caLaneDue (n : Nat) : Nat := mk 0x7 (0x100 + 0x10*n) (0x1)
/-- CA.100.02 LANE_LAST_T. -/
abbrev caLaneLastT (n : Nat) : Nat := mk 0x7 (0x100 + 0x10*n) (0x2)
/-- CA.100.03 LANE_LAST_TEMP. -/
abbrev caLaneLastTemp (n : Nat) : Nat := mk 0x7 (0x100 + 0x10*n) (0x3)
/-- CA.100.04 LANE_CAL_COUNT. -/
abbrev caLaneCalCount (n : Nat) : Nat := mk 0x7 (0x100 + 0x10*n) (0x4)
/-- CA.100.05 SPARES_USED. -/
abbrev caSparesUsed (n : Nat) : Nat := mk 0x7 (0x100 + 0x10*n) (0x5)
/-- CA.100.06 TRIM_MARGIN. -/
abbrev caTrimMargin (n : Nat) : Nat := mk 0x7 (0x100 + 0x10*n) (0x6)
/-- CA.101.00–0B CQF. -/
abbrev caCqf (n i : Nat) : Nat := mk 0x7 (0x101 + 0x10*n) (i)
/-- CA.300.j ABS_CORR. -/
abbrev caAbsCorr (j : Nat) : Nat := mk 0x7 (0x300) (j)
/-- CA.301.j LEVEL_UNC. -/
abbrev caLevelUnc (j : Nat) : Nat := mk 0x7 (0x301) (j)
/-- CA.302.j REF_T. -/
abbrev caRefT (j : Nat) : Nat := mk 0x7 (0x302) (j)
/-- CA.400.00–0F AF_FREQ. -/
abbrev caAfFreq (j i : Nat) : Nat := mk 0x7 (0x400 + j) (i)
/-- CA.400.10–1F AF_VALUE. -/
abbrev caAfValue (j i : Nat) : Nat := mk 0x7 (0x400 + j) (0x10 + i)
/-- CA.400.20 AF_POINTS. -/
abbrev caAfPoints (j : Nat) : Nat := mk 0x7 (0x400 + j) (0x20)
/-- CP.1C0.00 LANEG_STAGE. -/
abbrev cpLanegStage : Nat := mk 0x5 (0x1C0) (0x0)
/-- CP.1C0.01 LANEG_CHAIN. -/
abbrev cpLanegChain : Nat := mk 0x5 (0x1C0) (0x1)
/-- CP.1C0.02 ALIGN_DELAY. -/
abbrev cpAlignDelay : Nat := mk 0x5 (0x1C0) (0x2)
/-- CP.1C0.03–05 ALIGN_GAIN. -/
abbrev cpAlignGain (i : Nat) : Nat := mk 0x5 (0x1C0) (0x3 + i)
/-- CP.1C0.06–08 ALIGN_PHASE. -/
abbrev cpAlignPhase (i : Nat) : Nat := mk 0x5 (0x1C0) (0x6 + i)
/-- CP.1C0.09 HANDOVERS. -/
abbrev cpHandovers : Nat := mk 0x5 (0x1C0) (0x9)
/-- CP.1C0.0A ABORTS. -/
abbrev cpAborts : Nat := mk 0x5 (0x1C0) (0xA)
/-- AU.000.00 GROUP_GO. -/
abbrev auGroupGo : Nat := mk 0xD (0x0) (0x0)
/-- AU.000.01 GROUP_AT. -/
abbrev auGroupAt : Nat := mk 0xD (0x0) (0x1)
/-- AU.000.02 MCLK0_SEL. -/
abbrev auMclk0Sel : Nat := mk 0xD (0x0) (0x2)
/-- AU.000.03 MCLK1_SEL. -/
abbrev auMclk1Sel : Nat := mk 0xD (0x0) (0x3)
/-- AU.000.04 AVTP_CH_USED. -/
abbrev auAvtpChUsed : Nat := mk 0xD (0x0) (0x4)
/-- AU.010.r ROUTE_SRC. -/
abbrev auRouteSrc (r : Nat) : Nat := mk 0xD (0x10) (r)
/-- AU.011.r ROUTE_DST. -/
abbrev auRouteDst (r : Nat) : Nat := mk 0xD (0x11) (r)
/-- AU.012.r ROUTE_MAP. -/
abbrev auRouteMap (r : Nat) : Nat := mk 0xD (0x12) (r)
/-- AU.013.r ROUTE_GAIN. -/
abbrev auRouteGain (r : Nat) : Nat := mk 0xD (0x13) (r)
/-- AU.014.r ROUTE_XFADE_MS. -/
abbrev auRouteXfadeMs (r : Nat) : Nat := mk 0xD (0x14) (r)
/-- AU.015.r ROUTE_STATE. -/
abbrev auRouteState (r : Nat) : Nat := mk 0xD (0x15) (r)
/-- AU.016.r ROUTE_GAPS. -/
abbrev auRouteGaps (r : Nat) : Nat := mk 0xD (0x16) (r)
/-- AU.017.r ROUTE_T_APPLIED. -/
abbrev auRouteTApplied (r : Nat) : Nat := mk 0xD (0x17) (r)
/-- AU.200.s AVTP_ENABLE. -/
abbrev auAvtpEnable (s : Nat) : Nat := mk 0xD (0x200) (s)
/-- AU.201.s AVTP_STREAM_ID. -/
abbrev auAvtpStreamId (s : Nat) : Nat := mk 0xD (0x201) (s)
/-- AU.202.s AVTP_DEST. -/
abbrev auAvtpDest (s : Nat) : Nat := mk 0xD (0x202) (s)
/-- AU.203.s AVTP_VLAN. -/
abbrev auAvtpVlan (s : Nat) : Nat := mk 0xD (0x203) (s)
/-- AU.204.s AVTP_CH. -/
abbrev auAvtpCh (s : Nat) : Nat := mk 0xD (0x204) (s)
/-- AU.205.s AVTP_FORMAT. -/
abbrev auAvtpFormat (s : Nat) : Nat := mk 0xD (0x205) (s)
/-- AU.206.s AVTP_CLASS. -/
abbrev auAvtpClass (s : Nat) : Nat := mk 0xD (0x206) (s)
/-- AU.207.s AVTP_OFFSET. -/
abbrev auAvtpOffset (s : Nat) : Nat := mk 0xD (0x207) (s)
/-- AU.208.s AVTP_SENT. -/
abbrev auAvtpSent (s : Nat) : Nat := mk 0xD (0x208) (s)
/-- AU.209.s AVTP_UNSYNC. -/
abbrev auAvtpUnsync (s : Nat) : Nat := mk 0xD (0x209) (s)
/-- AU.20A.s AVTP_SAT. -/
abbrev auAvtpSat (s : Nat) : Nat := mk 0xD (0x20A) (s)
/-- AU.300.r RING_DIR. -/
abbrev auRingDir (r : Nat) : Nat := mk 0xD (0x300) (r)
/-- AU.301.r RING_CH. -/
abbrev auRingCh (r : Nat) : Nat := mk 0xD (0x301) (r)
/-- AU.302.r RING_PACK. -/
abbrev auRingPack (r : Nat) : Nat := mk 0xD (0x302) (r)
/-- AU.303.r RING_FRAMES. -/
abbrev auRingFrames (r : Nat) : Nat := mk 0xD (0x303) (r)
/-- AU.304.r RING_ADDR. -/
abbrev auRingAddr (r : Nat) : Nat := mk 0xD (0x304) (r)
/-- AU.305.r RING_WR. -/
abbrev auRingWr (r : Nat) : Nat := mk 0xD (0x305) (r)
/-- AU.306.r RING_RD. -/
abbrev auRingRd (r : Nat) : Nat := mk 0xD (0x306) (r)
/-- AU.307.r RING_XRUN. -/
abbrev auRingXrun (r : Nat) : Nat := mk 0xD (0x307) (r)
/-- AU.10d.00 ENABLE. -/
abbrev auEnable (p d : Nat) : Nat := mk 0xD (0x100 + 0x20*p + d) (0x0)
/-- AU.10d.01 CLK_ROLE. -/
abbrev auClkRole (p d : Nat) : Nat := mk 0xD (0x100 + 0x20*p + d) (0x1)
/-- AU.10d.02 FORMAT. -/
abbrev auFormat (p d : Nat) : Nat := mk 0xD (0x100 + 0x20*p + d) (0x2)
/-- AU.10d.03 SLOTS. -/
abbrev auSlots (p d : Nat) : Nat := mk 0xD (0x100 + 0x20*p + d) (0x3)
/-- AU.10d.04 SLOT_BITS. -/
abbrev auSlotBits (p d : Nat) : Nat := mk 0xD (0x100 + 0x20*p + d) (0x4)
/-- AU.10d.05 WORD_BITS. -/
abbrev auWordBits (p d : Nat) : Nat := mk 0xD (0x100 + 0x20*p + d) (0x5)
/-- AU.10d.06 RATE. -/
abbrev auRate (p d : Nat) : Nat := mk 0xD (0x100 + 0x20*p + d) (0x6)
/-- AU.10d.07 WIRE_FLAGS. -/
abbrev auWireFlags (p d : Nat) : Nat := mk 0xD (0x100 + 0x20*p + d) (0x7)
/-- AU.10d.08 SLOT_MASK. -/
abbrev auSlotMask (p d : Nat) : Nat := mk 0xD (0x100 + 0x20*p + d) (0x8)
/-- AU.10d.09 BUF_FRAMES. -/
abbrev auBufFrames (p d : Nat) : Nat := mk 0xD (0x100 + 0x20*p + d) (0x9)
/-- AU.10d.0A LEAD_FRAMES. -/
abbrev auLeadFrames (p d : Nat) : Nat := mk 0xD (0x100 + 0x20*p + d) (0xA)
/-- AU.10d.0B TAIL_FRAMES. -/
abbrev auTailFrames (p d : Nat) : Nat := mk 0xD (0x100 + 0x20*p + d) (0xB)
/-- AU.10d.0C UNDERRUN_FILL. -/
abbrev auUnderrunFill (p d : Nat) : Nat := mk 0xD (0x100 + 0x20*p + d) (0xC)
/-- AU.10d.0D GROUP. -/
abbrev auGroup (p d : Nat) : Nat := mk 0xD (0x100 + 0x20*p + d) (0xD)
/-- AU.10d.0E RATE_TOL. -/
abbrev auRateTol (p d : Nat) : Nat := mk 0xD (0x100 + 0x20*p + d) (0xE)
/-- AU.10d.10 SIDE_STATE. -/
abbrev auSideState (p d : Nat) : Nat := mk 0xD (0x100 + 0x20*p + d) (0x10)
/-- AU.10d.11 FRAME. -/
abbrev auFrame (p d : Nat) : Nat := mk 0xD (0x100 + 0x20*p + d) (0x11)
/-- AU.10d.12 T_FIRST. -/
abbrev auTFirst (p d : Nat) : Nat := mk 0xD (0x100 + 0x20*p + d) (0x12)
/-- AU.10d.13 MEAS_RATE. -/
abbrev auMeasRate (p d : Nat) : Nat := mk 0xD (0x100 + 0x20*p + d) (0x13)
/-- AU.10d.14 RATE_CLASS. -/
abbrev auRateClass (p d : Nat) : Nat := mk 0xD (0x100 + 0x20*p + d) (0x14)
/-- AU.10d.15 RATE_PPM. -/
abbrev auRatePpm (p d : Nat) : Nat := mk 0xD (0x100 + 0x20*p + d) (0x15)
/-- AU.10d.16 FILL. -/
abbrev auFill (p d : Nat) : Nat := mk 0xD (0x100 + 0x20*p + d) (0x16)
/-- AU.10d.17 XRUN. -/
abbrev auXrun (p d : Nat) : Nat := mk 0xD (0x100 + 0x20*p + d) (0x17)
/-- AU.10d.18 LATE. -/
abbrev auLate (p d : Nat) : Nat := mk 0xD (0x100 + 0x20*p + d) (0x18)
/-- AU.10d.19 FRAMING. -/
abbrev auFraming (p d : Nat) : Nat := mk 0xD (0x100 + 0x20*p + d) (0x19)
/-- AU.10d.1A FAULT. -/
abbrev auFault (p d : Nat) : Nat := mk 0xD (0x100 + 0x20*p + d) (0x1A)
/-- AU.10d.1B MIX_SAT. -/
abbrev auMixSat (p d : Nat) : Nat := mk 0xD (0x100 + 0x20*p + d) (0x1B)
/-- AU.10d.1C MASK_FRAME. -/
abbrev auMaskFrame (p d : Nat) : Nat := mk 0xD (0x100 + 0x20*p + d) (0x1C)
/-- AU.10d.1D MASK_SUPERSEDED. -/
abbrev auMaskSuperseded (p d : Nat) : Nat := mk 0xD (0x100 + 0x20*p + d) (0x1D)
/-- SY.000.00 PART. -/
abbrev syPart : Nat := mk 0x0 (0x0) (0x0)
/-- SY.000.01 CHAIN_COUNT. -/
abbrev syChainCount : Nat := mk 0x0 (0x0) (0x1)
/-- SY.000.02 SILICON_REV. -/
abbrev sySiliconRev : Nat := mk 0x0 (0x0) (0x2)
/-- SY.000.03 FW_VERSION. -/
abbrev syFwVersion : Nat := mk 0x0 (0x0) (0x3)
/-- SY.000.04 DEVICE_ID. -/
abbrev syDeviceId : Nat := mk 0x0 (0x0) (0x4)
/-- SY.000.05 DEVICE_LABEL. -/
abbrev syDeviceLabel : Nat := mk 0x0 (0x0) (0x5)
/-- SY.001.00 DEFAULTS_CMD. -/
abbrev syDefaultsCmd : Nat := mk 0x0 (0x1) (0x0)
/-- SY.001.01 DEFAULTS_AREAS. -/
abbrev syDefaultsAreas : Nat := mk 0x0 (0x1) (0x1)
/-- SY.001.02 STATS_CLEAR. -/
abbrev syStatsClear : Nat := mk 0x0 (0x1) (0x2)
/-- SY.001.03 CFG_LOCK. -/
abbrev syCfgLock : Nat := mk 0x0 (0x1) (0x3)
/-- SY.002.00 TXN_COUNT. -/
abbrev syTxnCount : Nat := mk 0x0 (0x2) (0x0)
/-- SY.002.01 TXN_REFUSED. -/
abbrev syTxnRefused : Nat := mk 0x0 (0x2) (0x1)
/-- SY.002.02 TXN_LAST_CODE. -/
abbrev syTxnLastCode : Nat := mk 0x0 (0x2) (0x2)
/-- LG.000.00 LOG_SEQ. -/
abbrev lgLogSeq : Nat := mk 0x3 (0x0) (0x0)
/-- LG.000.01 LOG_RAM_FIRST. -/
abbrev lgLogRamFirst : Nat := mk 0x3 (0x0) (0x1)
/-- LG.000.02 LOG_NV_FIRST. -/
abbrev lgLogNvFirst : Nat := mk 0x3 (0x0) (0x2)
/-- LG.000.03 LOG_NV_PENDING. -/
abbrev lgLogNvPending : Nat := mk 0x3 (0x0) (0x3)
/-- LG.000.04 SUMMARY_MAX. -/
abbrev lgSummaryMax : Nat := mk 0x3 (0x0) (0x4)
/-- LG.000.05 SUMMARY_DROPPED. -/
abbrev lgSummaryDropped : Nat := mk 0x3 (0x0) (0x5)
/-- LG.000.06 LG_ALERT_CAUSE. -/
abbrev lgLgAlertCause : Nat := mk 0x3 (0x0) (0x6)
/-- LG.001.00 CFG_BANK. -/
abbrev lgCfgBank : Nat := mk 0x3 (0x1) (0x0)
/-- LG.001.01 CFG_SEQ. -/
abbrev lgCfgSeq : Nat := mk 0x3 (0x1) (0x1)
/-- LG.001.02 CFG_DIRTY. -/
abbrev lgCfgDirty : Nat := mk 0x3 (0x1) (0x2)
/-- LG.001.03 STORE_DELAY_MS. -/
abbrev lgStoreDelayMs : Nat := mk 0x3 (0x1) (0x3)
/-- LG.001.04 CFG_STORE_INCOMPLETE. -/
abbrev lgCfgStoreIncomplete : Nat := mk 0x3 (0x1) (0x4)
/-- LG.001.05 CFG_LAST_STORE. -/
abbrev lgCfgLastStore : Nat := mk 0x3 (0x1) (0x5)
/-- LG.001.06 CFG_LEN. -/
abbrev lgCfgLen : Nat := mk 0x3 (0x1) (0x6)
/-- LG.001.07 CKPT_S. -/
abbrev lgCkptS : Nat := mk 0x3 (0x1) (0x7)
/-- LG.001.08 BOOT_DISCARDED. -/
abbrev lgBootDiscarded : Nat := mk 0x3 (0x1) (0x8)
/-- LG.010.00 CFG_DAYMARK. -/
abbrev lgCfgDaymark : Nat := mk 0x3 (0x10) (0x0)
/-- LG.010.01 CAL_DAYMARK. -/
abbrev lgCalDaymark : Nat := mk 0x3 (0x10) (0x1)
/-- LG.010.02 DM_T. -/
abbrev lgDmT : Nat := mk 0x3 (0x10) (0x2)
/-- LG.011.aa CFG_LEAF. -/
abbrev lgCfgLeaf (a : Nat) : Nat := mk 0x3 (0x11) (a)
/-- LG.012.aa CAL_LEAF. -/
abbrev lgCalLeaf (a : Nat) : Nat := mk 0x3 (0x12) (a)
/-- LG.020.00 EXPECT_CFG. -/
abbrev lgExpectCfg : Nat := mk 0x3 (0x20) (0x0)
/-- LG.020.01 EXPECT_CAL. -/
abbrev lgExpectCal : Nat := mk 0x3 (0x20) (0x1)
/-- LG.020.02 DM_STATE. -/
abbrev lgDmState : Nat := mk 0x3 (0x20) (0x2)
/-- LG.020.03 DM_MISMATCHES. -/
abbrev lgDmMismatches : Nat := mk 0x3 (0x20) (0x3)
/-- LG.021.00 HB_ENABLE. -/
abbrev lgHbEnable : Nat := mk 0x3 (0x21) (0x0)
/-- LG.021.01 HB_PHASE_MS. -/
abbrev lgHbPhaseMs : Nat := mk 0x3 (0x21) (0x1)
/-- LG.021.02 HB_ON_CHANGE. -/
abbrev lgHbOnChange : Nat := mk 0x3 (0x21) (0x2)
/-- LG.021.03 HB_SEQ. -/
abbrev lgHbSeq : Nat := mk 0x3 (0x21) (0x3)
/-- LG.030.00 LOG_READ_SEQ. -/
abbrev lgLogReadSeq : Nat := mk 0x3 (0x30) (0x0)
/-- LG.030.01 LOG_READ_SRC. -/
abbrev lgLogReadSrc : Nat := mk 0x3 (0x30) (0x1)
/-- LG.030.02 LOG_ENTRY. -/
abbrev lgLogEntry : Nat := mk 0x3 (0x30) (0x2)
/-- NT.000.00 UDP_PORT. -/
abbrev ntUdpPort : Nat := mk 0xE (0x0) (0x0)
/-- NT.000.01 SESS_IDLE_S. -/
abbrev ntSessIdleS : Nat := mk 0xE (0x0) (0x1)
/-- NT.000.02 SESSIONS. -/
abbrev ntSessions : Nat := mk 0xE (0x0) (0x2)
/-- NT.000.03 AUTH_FAIL. -/
abbrev ntAuthFail : Nat := mk 0xE (0x0) (0x3)
/-- NT.000.04 SUBS. -/
abbrev ntSubs : Nat := mk 0xE (0x0) (0x4)
/-- NT.000.05 NT_EVENT_CAUSE. -/
abbrev ntNtEventCause : Nat := mk 0xE (0x0) (0x5)
/-- NT.001.00 T1_ENABLE. -/
abbrev ntT1Enable : Nat := mk 0xE (0x1) (0x0)
/-- NT.001.01 T1_MAC. -/
abbrev ntT1Mac : Nat := mk 0xE (0x1) (0x1)
/-- NT.001.02 T1_LINK. -/
abbrev ntT1Link : Nat := mk 0xE (0x1) (0x2)
/-- NT.001.03 T1_IPV4. -/
abbrev ntT1Ipv4 : Nat := mk 0xE (0x1) (0x3)
/-- NT.001.04 T1_PREFIX. -/
abbrev ntT1Prefix : Nat := mk 0xE (0x1) (0x4)
/-- NT.001.05 T1_RX_DROPPED. -/
abbrev ntT1RxDropped : Nat := mk 0xE (0x1) (0x5)
/-- NT.002.00 T1S_ENABLE. -/
abbrev ntT1sEnable : Nat := mk 0xE (0x2) (0x0)
/-- NT.002.01 T1S_MAC. -/
abbrev ntT1sMac : Nat := mk 0xE (0x2) (0x1)
/-- NT.002.02 PLCA_ENABLE. -/
abbrev ntPlcaEnable : Nat := mk 0xE (0x2) (0x2)
/-- NT.002.03 PLCA_NODE_ID. -/
abbrev ntPlcaNodeId : Nat := mk 0xE (0x2) (0x3)
/-- NT.002.04 PLCA_NODE_COUNT. -/
abbrev ntPlcaNodeCount : Nat := mk 0xE (0x2) (0x4)
/-- NT.002.05 PLCA_TO. -/
abbrev ntPlcaTo : Nat := mk 0xE (0x2) (0x5)
/-- NT.002.06 PLCA_BURST. -/
abbrev ntPlcaBurst : Nat := mk 0xE (0x2) (0x6)
/-- NT.002.07 PLCA_BURST_TMR. -/
abbrev ntPlcaBurstTmr : Nat := mk 0xE (0x2) (0x7)
/-- NT.002.08 T1S_IPV4. -/
abbrev ntT1sIpv4 : Nat := mk 0xE (0x2) (0x8)
/-- NT.002.09 T1S_STATUS. -/
abbrev ntT1sStatus : Nat := mk 0xE (0x2) (0x9)
/-- NT.002.0A T1S_RX_DROPPED. -/
abbrev ntT1sRxDropped : Nat := mk 0xE (0x2) (0xA)
/-- NT.003.00 CAN_ENABLE. -/
abbrev ntCanEnable : Nat := mk 0xE (0x3) (0x0)
/-- NT.003.01 CAN_NOM_KBPS. -/
abbrev ntCanNomKbps : Nat := mk 0xE (0x3) (0x1)
/-- NT.003.02 CAN_DATA_KBPS. -/
abbrev ntCanDataKbps : Nat := mk 0xE (0x3) (0x2)
/-- NT.003.03 CAN_BASE. -/
abbrev ntCanBase : Nat := mk 0xE (0x3) (0x3)
/-- NT.003.04 CAN_NODE. -/
abbrev ntCanNode : Nat := mk 0xE (0x3) (0x4)
/-- NT.003.05 CAN_STATE. -/
abbrev ntCanState : Nat := mk 0xE (0x3) (0x5)
/-- NT.003.06 CAN_RX_DROPPED. -/
abbrev ntCanRxDropped : Nat := mk 0xE (0x3) (0x6)
/-- NT.004.00 SPI_ENABLE. -/
abbrev ntSpiEnable : Nat := mk 0xE (0x4) (0x0)
/-- NT.004.01 SPI_RX_DROPPED. -/
abbrev ntSpiRxDropped : Nat := mk 0xE (0x4) (0x1)
/-- NT.010.k SESS_ROLE. -/
abbrev ntSessRole (k : Nat) : Nat := mk 0xE (0x10) (k)
/-- NT.011.k SESS_PORT. -/
abbrev ntSessPort (k : Nat) : Nat := mk 0xE (0x11) (k)
/-- NT.012.k SESS_SOURCE. -/
abbrev ntSessSource (k : Nat) : Nat := mk 0xE (0x12) (k)
/-- TM.000.00 TIME_NOW. -/
abbrev tmTimeNow : Nat := mk 0x12 (0x0) (0x0)
/-- TM.000.01 TIME_STATE. -/
abbrev tmTimeState : Nat := mk 0x12 (0x0) (0x1)
/-- TM.000.02 TIME_OFFSET. -/
abbrev tmTimeOffset : Nat := mk 0x12 (0x0) (0x2)
/-- TM.000.03 TIME_RATE. -/
abbrev tmTimeRate : Nat := mk 0x12 (0x0) (0x3)
/-- TM.000.04 GM_ID. -/
abbrev tmGmId : Nat := mk 0x12 (0x0) (0x4)
/-- TM.000.05 STEP_COUNT. -/
abbrev tmStepCount : Nat := mk 0x12 (0x0) (0x5)
/-- TM.000.06 LAST_STEP. -/
abbrev tmLastStep : Nat := mk 0x12 (0x0) (0x6)
/-- TM.001.00 PTP_ENABLE. -/
abbrev tmPtpEnable : Nat := mk 0x12 (0x1) (0x0)
/-- TM.001.01 STEP_NS. -/
abbrev tmStepNs : Nat := mk 0x12 (0x1) (0x1)
/-- TM.001.02 SLEW_PPM. -/
abbrev tmSlewPpm : Nat := mk 0x12 (0x1) (0x2)
/-- TM.001.03 TIME_SET. -/
abbrev tmTimeSet : Nat := mk 0x12 (0x1) (0x3)
/-- BL.000.00 CHANNEL_NOW. -/
abbrev blChannelNow : Nat := mk 0xF (0x0) (0x0)
/-- BL.000.01 CAPTURE_DB. -/
abbrev blCaptureDb : Nat := mk 0xF (0x0) (0x1)
/-- BL.000.02 DL_RETRIES. -/
abbrev blDlRetries : Nat := mk 0xF (0x0) (0x2)
/-- BL.000.03 MISS_LIMIT. -/
abbrev blMissLimit : Nat := mk 0xF (0x0) (0x3)
/-- BL.000.04 DL_PER_POLL. -/
abbrev blDlPerPoll : Nat := mk 0xF (0x0) (0x4)
/-- BL.000.05 LOAD_MARGIN. -/
abbrev blLoadMargin : Nat := mk 0xF (0x0) (0x5)
/-- BL.000.06 MAP_REFRESH_S. -/
abbrev blMapRefreshS : Nat := mk 0xF (0x0) (0x6)
/-- BL.000.07 NOISE_TAU_MS. -/
abbrev blNoiseTauMs : Nat := mk 0xF (0x0) (0x7)
/-- BL.000.08 BL_STREAMS. -/
abbrev blBlStreams : Nat := mk 0xF (0x0) (0x8)
/-- BL.000.09 TX_ABORTS. -/
abbrev blTxAborts : Nat := mk 0xF (0x0) (0x9)
/-- BL.000.0A ACK_OMITTED. -/
abbrev blAckOmitted : Nat := mk 0xF (0x0) (0xA)
/-- BL.000.0B RXQ_LOST. -/
abbrev blRxqLost : Nat := mk 0xF (0x0) (0xB)
/-- BL.000.0C CAPTURE_LOST. -/
abbrev blCaptureLost : Nat := mk 0xF (0x0) (0xC)
/-- BL.000.0D HDR_FAIL. -/
abbrev blHdrFail : Nat := mk 0xF (0x0) (0xD)
/-- BL.000.0E PREEMPTED. -/
abbrev blPreempted : Nat := mk 0xF (0x0) (0xE)
/-- BL.000.0F POLLS_SKIPPED. -/
abbrev blPollsSkipped : Nat := mk 0xF (0x0) (0xF)
/-- BL.000.10 DISC_FULL. -/
abbrev blDiscFull : Nat := mk 0xF (0x0) (0x10)
/-- BL.001.00–1F TX_POWER_TABLE. -/
abbrev blTxPowerTable (i : Nat) : Nat := mk 0xF (0x1) (i)
/-- BL.002.00 FW_TARGET. -/
abbrev blFwTarget : Nat := mk 0xF (0x2) (0x0)
/-- BL.002.01 FW_SRC. -/
abbrev blFwSrc : Nat := mk 0xF (0x2) (0x1)
/-- BL.002.02 FW_LEN. -/
abbrev blFwLen : Nat := mk 0xF (0x2) (0x2)
/-- BL.002.03 FW_CMD. -/
abbrev blFwCmd : Nat := mk 0xF (0x2) (0x3)
/-- BL.002.04 FW_STATE. -/
abbrev blFwState : Nat := mk 0xF (0x2) (0x4)
/-- BL.002.05 FW_SENT. -/
abbrev blFwSent : Nat := mk 0xF (0x2) (0x5)
/-- BL.003.00 NOISE_SEL. -/
abbrev blNoiseSel : Nat := mk 0xF (0x3) (0x0)
/-- BL.003.01 NOISE_DATA. -/
abbrev blNoiseData : Nat := mk 0xF (0x3) (0x1)
/-- BL.010.n LINK_ENABLE. -/
abbrev blLinkEnable (n : Nat) : Nat := mk 0xF (0x10) (n)
/-- BL.011.n DISC_RATE. -/
abbrev blDiscRate (n : Nat) : Nat := mk 0xF (0x11) (n)
/-- BL.012.n DISC_POWER. -/
abbrev blDiscPower (n : Nat) : Nat := mk 0xF (0x12) (n)
/-- BL.013.n PKT_RX. -/
abbrev blPktRx (n : Nat) : Nat := mk 0xF (0x13) (n)
/-- BL.014.n PKT_TX. -/
abbrev blPktTx (n : Nat) : Nat := mk 0xF (0x14) (n)
/-- BL.100.00 BUOY_STATE. -/
abbrev blBuoyState (b : Nat) : Nat := mk 0xF (0x100 + 0x10*b) (0x0)
/-- BL.100.01 UID. -/
abbrev blUid (b : Nat) : Nat := mk 0xF (0x100 + 0x10*b) (0x1)
/-- BL.100.02 DL_RATE. -/
abbrev blDlRate (b : Nat) : Nat := mk 0xF (0x100 + 0x10*b) (0x2)
/-- BL.100.03 TX_POWER_IDX. -/
abbrev blTxPowerIdx (b : Nat) : Nat := mk 0xF (0x100 + 0x10*b) (0x3)
/-- BL.100.04 MAP_ID. -/
abbrev blMapId (b : Nat) : Nat := mk 0xF (0x100 + 0x10*b) (0x4)
/-- BL.100.05 MAP_BITS. -/
abbrev blMapBits (b : Nat) : Nat := mk 0xF (0x100 + 0x10*b) (0x5)
/-- BL.100.06 EYE_WIDTH. -/
abbrev blEyeWidth (b : Nat) : Nat := mk 0xF (0x100 + 0x10*b) (0x6)
/-- BL.100.07 RX_LEVEL. -/
abbrev blRxLevel (b : Nat) : Nat := mk 0xF (0x100 + 0x10*b) (0x7)
/-- BL.100.08 SNR_MIN. -/
abbrev blSnrMin (b : Nat) : Nat := mk 0xF (0x100 + 0x10*b) (0x8)
/-- BL.100.09 MISSES. -/
abbrev blMisses (b : Nat) : Nat := mk 0xF (0x100 + 0x10*b) (0x9)
/-- BL.100.0A DL_SENT. -/
abbrev blDlSent (b : Nat) : Nat := mk 0xF (0x100 + 0x10*b) (0xA)
/-- BL.100.0B DL_NOACK. -/
abbrev blDlNoack (b : Nat) : Nat := mk 0xF (0x100 + 0x10*b) (0xB)
/-- BL.100.0C UL_RX. -/
abbrev blUlRx (b : Nat) : Nat := mk 0xF (0x100 + 0x10*b) (0xC)
/-- BL.100.0D LAST_RX. -/
abbrev blLastRx (b : Nat) : Nat := mk 0xF (0x100 + 0x10*b) (0xD)
/-- BL.100.0E HW_FW. -/
abbrev blHwFw (b : Nat) : Nat := mk 0xF (0x100 + 0x10*b) (0xE)
/-- BL.101.00 DL_MSG. -/
abbrev blDlMsg (b : Nat) : Nat := mk 0xF (0x101 + 0x10*b) (0x0)
/-- BL.101.01 DL_QUEUED. -/
abbrev blDlQueued (b : Nat) : Nat := mk 0xF (0x101 + 0x10*b) (0x1)
/-- BL.101.02 MAP_DATA. -/
abbrev blMapData (b : Nat) : Nat := mk 0xF (0x101 + 0x10*b) (0x2)
/-- TW.100.00 ROLE. -/
abbrev twRole (p : Nat) : Nat := mk 0x10 (0x100 + 0x10*p) (0x0)
/-- TW.100.01 SPEED. -/
abbrev twSpeed (p : Nat) : Nat := mk 0x10 (0x100 + 0x10*p) (0x1)
/-- TW.100.02 TGT_ADDR. -/
abbrev twTgtAddr (p : Nat) : Nat := mk 0x10 (0x100 + 0x10*p) (0x2)
/-- TW.100.03 TGT_TIMEOUT_MS. -/
abbrev twTgtTimeoutMs (p : Nat) : Nat := mk 0x10 (0x100 + 0x10*p) (0x3)
/-- TW.100.04 CTL_STRETCH_MS. -/
abbrev twCtlStretchMs (p : Nat) : Nat := mk 0x10 (0x100 + 0x10*p) (0x4)
/-- TW.100.05 ARB_RETRIES. -/
abbrev twArbRetries (p : Nat) : Nat := mk 0x10 (0x100 + 0x10*p) (0x5)
/-- TW.100.06 IBR_ENABLE. -/
abbrev twIbrEnable (p : Nat) : Nat := mk 0x10 (0x100 + 0x10*p) (0x6)
/-- TW.100.07 CENSUS_ENABLE. -/
abbrev twCensusEnable (p : Nat) : Nat := mk 0x10 (0x100 + 0x10*p) (0x7)
/-- TW.100.08 WINDOW_ENABLE. -/
abbrev twWindowEnable (p : Nat) : Nat := mk 0x10 (0x100 + 0x10*p) (0x8)
/-- TW.100.09 PORT_STATE. -/
abbrev twPortState (p : Nat) : Nat := mk 0x10 (0x100 + 0x10*p) (0x9)
/-- TW.100.0A RECOVER. -/
abbrev twRecover (p : Nat) : Nat := mk 0x10 (0x100 + 0x10*p) (0xA)
/-- TW.100.0B FAULT_CAUSE. -/
abbrev twFaultCause (p : Nat) : Nat := mk 0x10 (0x100 + 0x10*p) (0xB)
/-- TW.100.0C ARB_LOST_COUNT. -/
abbrev twArbLostCount (p : Nat) : Nat := mk 0x10 (0x100 + 0x10*p) (0xC)
/-- TW.100.0D ARB_LAST. -/
abbrev twArbLast (p : Nat) : Nat := mk 0x10 (0x100 + 0x10*p) (0xD)
/-- TW.100.0E STUCK_COUNT. -/
abbrev twStuckCount (p : Nat) : Nat := mk 0x10 (0x100 + 0x10*p) (0xE)
/-- TW.100.0F TGT_TIMEOUTS. -/
abbrev twTgtTimeouts (p : Nat) : Nat := mk 0x10 (0x100 + 0x10*p) (0xF)
/-- TW.100.10 IBR_LAST. -/
abbrev twIbrLast (p : Nat) : Nat := mk 0x10 (0x100 + 0x10*p) (0x10)
/-- TW.100.11 IBR_SPURIOUS. -/
abbrev twIbrSpurious (p : Nat) : Nat := mk 0x10 (0x100 + 0x10*p) (0x11)
/-- TW.100.12 RX_DROPPED. -/
abbrev twRxDropped (p : Nat) : Nat := mk 0x10 (0x100 + 0x10*p) (0x12)
/-- TW.101.00 X_ADDR. -/
abbrev twXAddr (p : Nat) : Nat := mk 0x10 (0x101 + 0x10*p) (0x0)
/-- TW.101.01 X_WRITE. -/
abbrev twXWrite (p : Nat) : Nat := mk 0x10 (0x101 + 0x10*p) (0x1)
/-- TW.101.02 X_READ_LEN. -/
abbrev twXReadLen (p : Nat) : Nat := mk 0x10 (0x101 + 0x10*p) (0x2)
/-- TW.101.03 X_QUICK_DIR. -/
abbrev twXQuickDir (p : Nat) : Nat := mk 0x10 (0x101 + 0x10*p) (0x3)
/-- TW.101.04 X_GO. -/
abbrev twXGo (p : Nat) : Nat := mk 0x10 (0x101 + 0x10*p) (0x4)
/-- TW.101.05 X_STATE. -/
abbrev twXState (p : Nat) : Nat := mk 0x10 (0x101 + 0x10*p) (0x5)
/-- TW.101.06 X_RESULT. -/
abbrev twXResult (p : Nat) : Nat := mk 0x10 (0x101 + 0x10*p) (0x6)
/-- TW.101.07 X_READ. -/
abbrev twXRead (p : Nat) : Nat := mk 0x10 (0x101 + 0x10*p) (0x7)
/-- TW.101.08 X_ACKED. -/
abbrev twXAcked (p : Nat) : Nat := mk 0x10 (0x101 + 0x10*p) (0x8)
/-- TW.101.09 X_T_DONE. -/
abbrev twXTDone (p : Nat) : Nat := mk 0x10 (0x101 + 0x10*p) (0x9)
/-- KP.000.k CORE_STATE. -/
abbrev kpCoreState (k : Nat) : Nat := mk 0x11 (0x0) (k)
/-- KP.001.k HALT_CAUSE. -/
abbrev kpHaltCause (k : Nat) : Nat := mk 0x11 (0x1) (k)
/-- KP.002.00 CODE_POOL_FREE. -/
abbrev kpCodePoolFree : Nat := mk 0x11 (0x2) (0x0)
/-- KP.002.01 DATA_POOL_FREE. -/
abbrev kpDataPoolFree : Nat := mk 0x11 (0x2) (0x1)
/-- KP.010.i PROG_ENABLE. -/
abbrev kpProgEnable (i : Nat) : Nat := mk 0x11 (0x10) (i)
/-- KP.011.i PROG_SRC. -/
abbrev kpProgSrc (i : Nat) : Nat := mk 0x11 (0x11) (i)
/-- KP.012.i PROG_STATE. -/
abbrev kpProgState (i : Nat) : Nat := mk 0x11 (0x12) (i)
/-- KP.013.i PROG_RESULT. -/
abbrev kpProgResult (i : Nat) : Nat := mk 0x11 (0x13) (i)
/-- KP.014.i PROG_ID. -/
abbrev kpProgId (i : Nat) : Nat := mk 0x11 (0x14) (i)
/-- KP.015.i PROG_VERSION. -/
abbrev kpProgVersion (i : Nat) : Nat := mk 0x11 (0x15) (i)
/-- KP.016.i PROG_FAULTS. -/
abbrev kpProgFaults (i : Nat) : Nat := mk 0x11 (0x16) (i)
/-- KP.017.i PROG_LAST_CAUSE. -/
abbrev kpProgLastCause (i : Nat) : Nat := mk 0x11 (0x17) (i)
/-- KP.018.i PROG_ABORTS. -/
abbrev kpProgAborts (i : Nat) : Nat := mk 0x11 (0x18) (i)
/-- KP.019.i PROG_RUN_MAX_US. -/
abbrev kpProgRunMaxUs (i : Nat) : Nat := mk 0x11 (0x19) (i)
/-- EV.000.00–01 EV_LATCHED. -/
abbrev evEvLatched (i : Nat) : Nat := mk 0x4 (0x0) (i)
/-- EV.001.00–01 EV_ACK. -/
abbrev evEvAck (i : Nat) : Nat := mk 0x4 (0x1) (i)
/-- EV.002.00–01 EV_MASK. -/
abbrev evEvMask (i : Nat) : Nat := mk 0x4 (0x2) (i)
/-- EV.003.00 EV_HOSTIRQ_MODE. -/
abbrev evEvHostirqMode : Nat := mk 0x4 (0x3) (0x0)
/-- EV.003.01 EV_HOSTIRQ_STATE. -/
abbrev evEvHostirqState : Nat := mk 0x4 (0x3) (0x1)
/-- EV.100.e EV_HOST. -/
abbrev evEvHost (e : Nat) : Nat := mk 0x4 (0x100) (e)
/-- EV.101.e EV_KEEPERS. -/
abbrev evEvKeepers (e : Nat) : Nat := mk 0x4 (0x101) (e)
/-- EV.102.e EV_LINE. -/
abbrev evEvLine (e : Nat) : Nat := mk 0x4 (0x102) (e)
/-- EV.103.e EV_COALESCE_US. -/
abbrev evEvCoalesceUs (e : Nat) : Nat := mk 0x4 (0x103) (e)
/-- EV.104.e EV_COUNT. -/
abbrev evEvCount (e : Nat) : Nat := mk 0x4 (0x104) (e)
/-- EV.105.e EV_PEND_COUNT. -/
abbrev evEvPendCount (e : Nat) : Nat := mk 0x4 (0x105) (e)
/-- EV.106.e EV_T_FIRST. -/
abbrev evEvTFirst (e : Nat) : Nat := mk 0x4 (0x106) (e)
/-- EV.107.e EV_T_LAST. -/
abbrev evEvTLast (e : Nat) : Nat := mk 0x4 (0x107) (e)
/-- EV.108.e EV_ARG. -/
abbrev evEvArg (e : Nat) : Nat := mk 0x4 (0x108) (e)
/-- SC.000.00 BOOT_AREA. -/
abbrev scBootArea : Nat := mk 0x2 (0x0) (0x0)
/-- SC.000.01 FW_HASH. -/
abbrev scFwHash : Nat := mk 0x2 (0x0) (0x1)
/-- SC.000.02 BOOT_REJECTS. -/
abbrev scBootRejects : Nat := mk 0x2 (0x0) (0x2)
/-- SC.000.03 FW_ACTIVATE. -/
abbrev scFwActivate : Nat := mk 0x2 (0x0) (0x3)
/-- SC.000.04 FW_ACT_RESULT. -/
abbrev scFwActResult : Nat := mk 0x2 (0x0) (0x4)
/-- SC.000.05 RECOVER_CMD. -/
abbrev scRecoverCmd : Nat := mk 0x2 (0x0) (0x5)
/-- SC.001.00 SKENUM_ROOT. -/
abbrev scSkenumRoot : Nat := mk 0x2 (0x1) (0x0)
/-- SC.001.01–02 CUST_ROOT. -/
abbrev scCustRoot (i : Nat) : Nat := mk 0x2 (0x1) (0x1 + i)
/-- SC.001.03 ROOT_STATE. -/
abbrev scRootState : Nat := mk 0x2 (0x1) (0x3)
/-- SC.001.04 ROOT_REVOKE. -/
abbrev scRootRevoke : Nat := mk 0x2 (0x1) (0x4)
/-- SC.002.k ROLLBACK. -/
abbrev scRollback (k : Nat) : Nat := mk 0x2 (0x2) (k)
/-- SC.003.00 ROLLBACK_ADV. -/
abbrev scRollbackAdv : Nat := mk 0x2 (0x3) (0x0)
/-- SC.010.s N_KEY. -/
abbrev scNKey (s : Nat) : Nat := mk 0x2 (0x10) (s)
/-- SC.011.s M_KEY. -/
abbrev scMKey (s : Nat) : Nat := mk 0x2 (0x11) (s)
/-- SC.012.00 KEY_STATE. -/
abbrev scKeyState : Nat := mk 0x2 (0x12) (0x0)
/-- SC.012.01 KEY_REVOKE. -/
abbrev scKeyRevoke : Nat := mk 0x2 (0x12) (0x1)
/-- SC.020.00 DEBUG_STATE. -/
abbrev scDebugState : Nat := mk 0x2 (0x20) (0x0)
/-- SC.020.01 DEBUG_KEY. -/
abbrev scDebugKey : Nat := mk 0x2 (0x20) (0x1)
/-- SC.020.02 DEBUG_DISABLE. -/
abbrev scDebugDisable : Nat := mk 0x2 (0x20) (0x2)
/-- SC.020.03 DEBUG_FAILS. -/
abbrev scDebugFails : Nat := mk 0x2 (0x20) (0x3)
/-- SC.030.00 ATTEST_STATE. -/
abbrev scAttestState : Nat := mk 0x2 (0x30) (0x0)
/-- SC.030.01 ATTEST_GEN. -/
abbrev scAttestGen : Nat := mk 0x2 (0x30) (0x1)
/-- SC.030.02 ATTEST_PUB. -/
abbrev scAttestPub : Nat := mk 0x2 (0x30) (0x2)
/-- SC.030.03 ATTEST_NONCE. -/
abbrev scAttestNonce : Nat := mk 0x2 (0x30) (0x3)
/-- SC.030.04 ATTEST_QUOTE. -/
abbrev scAttestQuote : Nat := mk 0x2 (0x30) (0x4)
/-- SC.030.05 ATTEST_QSEQ. -/
abbrev scAttestQseq : Nat := mk 0x2 (0x30) (0x5)
/-- SC.030.06 ATTEST_INDEX. -/
abbrev scAttestIndex : Nat := mk 0x2 (0x30) (0x6)
/-- SC.030.07 ATTEST_LIMIT. -/
abbrev scAttestLimit : Nat := mk 0x2 (0x30) (0x7)
/-- SC.030.08 LMS_STORE_INCOMPLETE. -/
abbrev scLmsStoreIncomplete : Nat := mk 0x2 (0x30) (0x8)
/-- PW.000.00 PW_STATE. -/
abbrev pwPwState : Nat := mk 0x1 (0x0) (0x0)
/-- PW.000.01 PW_REQUEST. -/
abbrev pwPwRequest : Nat := mk 0x1 (0x0) (0x1)
/-- PW.000.02 RESET_CAUSE. -/
abbrev pwResetCause : Nat := mk 0x1 (0x0) (0x2)
/-- PW.000.03 WAKE_CAUSE. -/
abbrev pwWakeCause : Nat := mk 0x1 (0x0) (0x3)
/-- PW.000.04 T_EARLY_AUDIO. -/
abbrev pwTEarlyAudio : Nat := mk 0x1 (0x0) (0x4)
/-- PW.000.05 T_FULL. -/
abbrev pwTFull : Nat := mk 0x1 (0x0) (0x5)
/-- PW.000.06 BOOT_COUNT. -/
abbrev pwBootCount : Nat := mk 0x1 (0x0) (0x6)
/-- PW.001.00 WAKE0_MODE. -/
abbrev pwWake0Mode : Nat := mk 0x1 (0x1) (0x0)
/-- PW.001.01 WAKE1_MODE. -/
abbrev pwWake1Mode : Nat := mk 0x1 (0x1) (0x1)
/-- PW.001.02 WAKE_DEBOUNCE_MS. -/
abbrev pwWakeDebounceMs : Nat := mk 0x1 (0x1) (0x2)
/-- PW.001.03 WAKE_TIMER_S. -/
abbrev pwWakeTimerS : Nat := mk 0x1 (0x1) (0x3)
/-- PW.001.04 WAKE1_PFAIL. -/
abbrev pwWake1Pfail : Nat := mk 0x1 (0x1) (0x4)
/-- PW.001.05 SUPPLY_CTRL. -/
abbrev pwSupplyCtrl : Nat := mk 0x1 (0x1) (0x5)
/-- PW.001.06 THERM_WARN_C. -/
abbrev pwThermWarnC : Nat := mk 0x1 (0x1) (0x6)
/-- PW.001.07 THERM_RESTART. -/
abbrev pwThermRestart : Nat := mk 0x1 (0x1) (0x7)
/-- PW.001.08 HALT_RESET_MS. -/
abbrev pwHaltResetMs : Nat := mk 0x1 (0x1) (0x8)
/-- PW.001.09 WDT_MS. -/
abbrev pwWdtMs : Nat := mk 0x1 (0x1) (0x9)
/-- PW.002.s TEMP. -/
abbrev pwTemp (s : Nat) : Nat := mk 0x1 (0x2) (s)
/-- PW.003.00 TEMP_MAX. -/
abbrev pwTempMax : Nat := mk 0x1 (0x3) (0x0)
/-- PW.004.v SUPPLY_MV. -/
abbrev pwSupplyMv (v : Nat) : Nat := mk 0x1 (0x4) (v)
/-- PW.005.00 SUPPLY_WARN. -/
abbrev pwSupplyWarn : Nat := mk 0x1 (0x5) (0x0)
/-- PW.005.01 BOR_COUNT. -/
abbrev pwBorCount : Nat := mk 0x1 (0x5) (0x1)
/-- PW.005.02 PFAIL_COUNT. -/
abbrev pwPfailCount : Nat := mk 0x1 (0x5) (0x2)
/-- PW.005.03 WDT_COUNT. -/
abbrev pwWdtCount : Nat := mk 0x1 (0x5) (0x3)
/-- PW.006.k KEEPER_FREQ. -/
abbrev pwKeeperFreq (k : Nat) : Nat := mk 0x1 (0x6) (k)
/-- PW.007.k KEEPER_FMAX. -/
abbrev pwKeeperFmax (k : Nat) : Nat := mk 0x1 (0x7) (k)
/-- SY.010.00 GPIO_DIR. -/
abbrev syGpioDir : Nat := mk 0x0 (0x10) (0x0)
/-- SY.010.01 GPIO_OUT. -/
abbrev syGpioOut : Nat := mk 0x0 (0x10) (0x1)
/-- SY.010.02 GPIO_ODRAIN. -/
abbrev syGpioOdrain : Nat := mk 0x0 (0x10) (0x2)
/-- SY.010.03 GPIO_PULL. -/
abbrev syGpioPull : Nat := mk 0x0 (0x10) (0x3)
/-- SY.010.04 GPIO_IN. -/
abbrev syGpioIn : Nat := mk 0x0 (0x10) (0x4)
/-- SY.011.00 STRAPS. -/
abbrev syStraps : Nat := mk 0x0 (0x11) (0x0)

end Sys2Proof.Machine.O
end

