-- ==== Sys2Proof/Machine/DictRows.lean ====
section
/-! DEFINITION. The object dictionary: one row per object (or block of like objects) of the spec's object tables, with
type, class, rights of H, N and S, factory default and the values a write may carry (R359, R364, R365). -/

namespace Sys2Proof.Machine

/-- What values step 6 of Table 13.4 accepts for an object, beside the range of its type. -/
inductive Check where
  /-- every value of the type -/
  | any
  /-- `lo` to `hi` -/
  | range (lo hi : Int)
  /-- `lo` to `hi`, or one value beside it -/
  | rangeOr (lo hi other : Int)
  /-- 0, or `lo` to `hi` -/
  | zeroOrRange (lo hi : Int)
  /-- `lo` to `hi` in steps -/
  | step (lo hi by' : Int)
  /-- one of a list -/
  | oneOf (l : List Int)
  /-- no bit outside the mask -/
  | bits (mask : Nat)
  /-- no bit outside the mask, and not 0 -/
  | bitsNZ (mask : Nat)
  /-- a measurement-channel number that is not reserved, or 0xFFFF (R278) -/
  | channel
  /-- a source of Table 12.4 (R345) -/
  | routeSrc
  /-- a destination of Table 12.4 (R345) -/
  | routeDst
  /-- chain in [6:4] and channel in [2:0] (R441) -/
  | noiseSel
  /-- a Buoy index that exists on the part (Table 15.11, R1) -/
  | buoy
  /-- first byte CONTROL, READ, SNAP_REQ or USER (R442) -/
  | dlMsg
  /-- a 7-bit address 0x08–0x77, or bit 15 with a 10-bit address (Table 16.5) -/
  | twAddr
  deriving DecidableEq, Repr

/-- A factory default: a number, one per element, a given byte string, or that many 0x00. -/
inductive Dflt where
  | num (n : Int)
  | tab (l : List Int)
  | bytes (b : List Byte)
  | zeros (n : Nat)
  deriving DecidableEq, Repr

/-- One row: `na` blocks `sa` items apart, in each `nb` blocks `sb` items apart, and elements `e0` … `e0 + ne - 1`. -/
structure Row where
  base : Nat
  na : Nat
  sa : Nat
  nb : Nat
  sb : Nat
  e0 : Nat
  ne : Nat
  ty : Ty
  cls : Cls
  rH : Rt
  rN : Rt
  rS : Rt
  dflt : Dflt
  chk : Check
  /-- marked Local (R374) -/
  loc : Bool
  /-- role M may write it though its class is K (R361, R549) -/
  mw : Bool
  /-- least length of a BLOB (R359) -/
  minLen : Nat
  deriving DecidableEq, Repr

/-- A row that is not Local, grants M no K-class write and states no least length. -/
def row (base na sa nb sb e0 ne : Nat) (ty : Ty) (cls : Cls) (rH rN rS : Rt) (dflt : Dflt) (chk : Check) : Row :=
  { base, na, sa, nb, sb, e0, ne, ty, cls, rH, rN, rS, dflt, chk, loc := false, mw := false, minLen := 0 }

/-- Objects of area SY (Tables 13.13 and 23.8). -/
def rowsSY : List Row := [
  -- SY.000.00 PART
  row 0x0 1 0 1 0 0 1 (.enum8) .K .r .r .r (.num 0) (.any),
  -- SY.000.01 CHAIN_COUNT
  row 0x0 1 0 1 0 1 1 (.u8) .K .r .r .r (.num 0) (.any),
  -- SY.000.02 SILICON_REV
  row 0x0 1 0 1 0 2 1 (.str 4) .K .r .r .r (.bytes [0x42, 0x30, 0, 0]) (.any),
  -- SY.000.03 FW_VERSION
  row 0x0 1 0 1 0 3 1 (.u32) .V .r .r .r (.num 262146) (.any),
  -- SY.000.04 DEVICE_ID
  row 0x0 1 0 1 0 4 1 (.u64) .K .r .r .r (.num 0) (.any),
  -- SY.000.05 DEVICE_LABEL
  { (row 0x0 1 0 1 0 5 1 (.str 32) .P .rw .rw .r (.zeros 32) (.any)) with loc := true },
  -- SY.001.00 DEFAULTS_CMD
  row 0x1 1 0 1 0 0 1 (.enum8) .V .w .w .none (.num 0) (.oneOf [1, 2]),
  -- SY.001.01 DEFAULTS_AREAS
  row 0x1 1 0 1 0 1 1 (.u32) .V .rw .rw .none (.num 0) (.any),
  -- SY.001.02 STATS_CLEAR
  row 0x1 1 0 1 0 2 1 (.u32) .V .w .w .none (.num 0) (.any),
  -- SY.001.03 CFG_LOCK
  row 0x1 1 0 1 0 3 1 (.bool) .P .r .rw .r (.num 0) (.any),
  -- SY.002.00 TXN_COUNT
  row 0x2 1 0 1 0 0 1 (.u32) .S .r .r .r (.num 0) (.any),
  -- SY.002.01 TXN_REFUSED
  row 0x2 1 0 1 0 1 1 (.u32) .S .r .r .r (.num 0) (.any),
  -- SY.002.02 TXN_LAST_CODE
  row 0x2 1 0 1 0 2 1 (.enum8) .V .r .r .r (.num 0) (.any),
  -- SY.010.00 GPIO_DIR
  row 0x10 1 0 1 0 0 1 (.u16) .P .rw .rw .r (.num 0) (.any),
  -- SY.010.01 GPIO_OUT
  row 0x10 1 0 1 0 1 1 (.u16) .P .rw .rw .rw (.num 0) (.any),
  -- SY.010.02 GPIO_ODRAIN
  row 0x10 1 0 1 0 2 1 (.u16) .P .rw .rw .r (.num 0) (.any),
  -- SY.010.03 GPIO_PULL
  row 0x10 1 0 1 0 3 1 (.u16) .P .rw .rw .r (.num 32767) (.any),
  -- SY.010.04 GPIO_IN
  row 0x10 1 0 1 0 4 1 (.u16) .V .r .r .r (.num 0) (.any),
  -- SY.011.00 STRAPS
  row 0x11 1 0 1 0 0 1 (.u8) .V .r .r .r (.num 0) (.any)]

/-- Objects of area PW (Tables 21.8). -/
def rowsPW : List Row := [
  -- PW.000.00 PW_STATE
  row 0x0 1 0 1 0 0 1 (.enum8) .V .r .r .r (.num 0) (.any),
  -- PW.000.01 PW_REQUEST
  row 0x0 1 0 1 0 1 1 (.enum8) .V .w .w .none (.num 0) (.oneOf [1, 2, 3, 4, 5]),
  -- PW.000.02 RESET_CAUSE
  row 0x0 1 0 1 0 2 1 (.u32) .V .r .r .r (.num 0) (.any),
  -- PW.000.03 WAKE_CAUSE
  row 0x0 1 0 1 0 3 1 (.enum8) .V .r .r .r (.num 0) (.any),
  -- PW.000.04 T_EARLY_AUDIO
  row 0x0 1 0 1 0 4 1 (.time64) .V .r .r .r (.num 0) (.any),
  -- PW.000.05 T_FULL
  row 0x0 1 0 1 0 5 1 (.time64) .V .r .r .r (.num 0) (.any),
  -- PW.000.06 BOOT_COUNT
  row 0x0 1 0 1 0 6 1 (.u32) .S .r .r .r (.num 0) (.any),
  -- PW.001.00 WAKE0_MODE
  row 0x1 1 0 1 0 0 1 (.enum8) .P .rw .rw .r (.num 2) (.range (0) (5)),
  -- PW.001.01 WAKE1_MODE
  row 0x1 1 0 1 0 1 1 (.enum8) .P .rw .rw .r (.num 0) (.range (0) (5)),
  -- PW.001.02 WAKE_DEBOUNCE_MS
  row 0x1 1 0 1 0 2 1 (.u16) .P .rw .rw .r (.num 10) (.range (0) (1000)),
  -- PW.001.03 WAKE_TIMER_S
  row 0x1 1 0 1 0 3 1 (.u32) .P .rw .rw .r (.num 0) (.any),
  -- PW.001.04 WAKE1_PFAIL
  row 0x1 1 0 1 0 4 1 (.bool) .P .rw .rw .r (.num 0) (.any),
  -- PW.001.05 SUPPLY_CTRL
  row 0x1 1 0 1 0 5 1 (.bool) .P .rw .rw .r (.num 0) (.any),
  -- PW.001.06 THERM_WARN_C
  row 0x1 1 0 1 0 6 1 (.s16) .P .rw .rw .r (.num 13000) (.range (10000) (14500)),
  -- PW.001.07 THERM_RESTART
  row 0x1 1 0 1 0 7 1 (.bool) .P .rw .rw .r (.num 1) (.any),
  -- PW.001.08 HALT_RESET_MS
  row 0x1 1 0 1 0 8 1 (.u16) .P .r .rw .r (.num 100) (.any),
  -- PW.001.09 WDT_MS
  row 0x1 1 0 1 0 9 1 (.u16) .P .r .rw .r (.num 500) (.range (50) (10000)),
  -- PW.002.s TEMP
  row 0x2 1 0 1 0 0 9 (.s16) .V .r .r .r (.num 0) (.any),
  -- PW.003.00 TEMP_MAX
  row 0x3 1 0 1 0 0 1 (.s16) .S .r .r .r (.num 0) (.any),
  -- PW.004.v SUPPLY_MV
  row 0x4 1 0 1 0 0 6 (.u16) .V .r .r .r (.num 0) (.any),
  -- PW.005.00 SUPPLY_WARN
  row 0x5 1 0 1 0 0 1 (.u8) .V .r .r .r (.num 0) (.any),
  -- PW.005.01 BOR_COUNT
  row 0x5 1 0 1 0 1 1 (.u32) .S .r .r .r (.num 0) (.any),
  -- PW.005.02 PFAIL_COUNT
  row 0x5 1 0 1 0 2 1 (.u32) .S .r .r .r (.num 0) (.any),
  -- PW.005.03 WDT_COUNT
  row 0x5 1 0 1 0 3 1 (.u32) .S .r .r .r (.num 0) (.any),
  -- PW.006.k KEEPER_FREQ
  row 0x6 1 0 1 0 0 4 (.u16) .V .r .r .r (.num 0) (.any),
  -- PW.007.k KEEPER_FMAX
  row 0x7 1 0 1 0 0 4 (.u16) .P .rw .rw .r (.num 800) (.step (100) (800) (100))]

/-- Objects of area SC (Tables 20.10). -/
def rowsSC : List Row := [
  -- SC.000.00 BOOT_AREA
  row 0x0 1 0 1 0 0 1 (.enum8) .V .r .r .r (.num 0) (.any),
  -- SC.000.01 FW_HASH
  row 0x0 1 0 1 0 1 1 (.digest) .V .r .r .r (.zeros 32) (.any),
  -- SC.000.02 BOOT_REJECTS
  row 0x0 1 0 1 0 2 1 (.u8) .V .r .r .r (.num 0) (.any),
  -- SC.000.03 FW_ACTIVATE
  row 0x0 1 0 1 0 3 1 (.enum8) .V .w .w .none (.num 0) (.oneOf [1, 2]),
  -- SC.000.04 FW_ACT_RESULT
  row 0x0 1 0 1 0 4 1 (.enum8) .V .r .r .r (.num 0) (.any),
  -- SC.000.05 RECOVER_CMD
  row 0x0 1 0 1 0 5 1 (.bool) .V .none .w .none (.num 0) (.any),
  -- SC.001.00 SKENUM_ROOT
  row 0x1 1 0 1 0 0 1 (.digest) .K .r .r .r (.zeros 32) (.any),
  -- SC.001.01–02 CUST_ROOT
  { (row 0x1 1 0 1 0 1 2 (.digest) .K .r .r .r (.zeros 32) (.any)) with mw := true },
  -- SC.001.03 ROOT_STATE
  row 0x1 1 0 1 0 3 1 (.u8) .K .r .r .r (.num 0) (.any),
  -- SC.001.04 ROOT_REVOKE
  { (row 0x1 1 0 1 0 4 1 (.u8) .K .none .none .none (.num 0) (.any)) with mw := true },
  -- SC.002.k ROLLBACK
  row 0x2 1 0 1 0 0 5 (.u16) .K .r .r .r (.num 0) (.any),
  -- SC.002.k ROLLBACK
  row 0x2 1 0 1 0 16 16 (.u16) .K .r .r .r (.num 0) (.any),
  -- SC.003.00 ROLLBACK_ADV
  row 0x3 1 0 1 0 0 1 (.u8) .V .none .w .none (.num 0) (.oneOf ([0, 1, 2, 3, 4, 16, 17, 18, 19, 20, 21, 22, 23] ++ [24, 25, 26, 27, 28, 29, 30, 31])),
  -- SC.010.s N_KEY
  { (row 0x10 1 0 1 0 0 4 (.blob 32) .K .none .none .none (.zeros 0) (.any)) with mw := true, minLen := 32 },
  -- SC.011.s M_KEY
  { (row 0x11 1 0 1 0 0 4 (.blob 32) .K .none .none .none (.zeros 0) (.any)) with mw := true, minLen := 32 },
  -- SC.012.00 KEY_STATE
  row 0x12 1 0 1 0 0 1 (.u16) .K .r .r .r (.num 0) (.any),
  -- SC.012.01 KEY_REVOKE
  { (row 0x12 1 0 1 0 1 1 (.u8) .K .none .none .none (.num 0) (.any)) with mw := true },
  -- SC.020.00 DEBUG_STATE
  row 0x20 1 0 1 0 0 1 (.enum8) .V .r .r .r (.num 0) (.any),
  -- SC.020.01 DEBUG_KEY
  { (row 0x20 1 0 1 0 1 1 (.blob 32) .K .none .none .none (.zeros 0) (.any)) with mw := true, minLen := 32 },
  -- SC.020.02 DEBUG_DISABLE
  { (row 0x20 1 0 1 0 2 1 (.bool) .K .r .r .r (.num 0) (.any)) with mw := true },
  -- SC.020.03 DEBUG_FAILS
  row 0x20 1 0 1 0 3 1 (.u32) .S .r .r .r (.num 0) (.any),
  -- SC.030.00 ATTEST_STATE
  row 0x30 1 0 1 0 0 1 (.enum8) .V .r .r .r (.num 0) (.any),
  -- SC.030.01 ATTEST_GEN
  { (row 0x30 1 0 1 0 1 1 (.bool) .K .none .none .none (.num 0) (.any)) with mw := true },
  -- SC.030.02 ATTEST_PUB
  row 0x30 1 0 1 0 2 1 (.blob 60) .K .r .r .r (.zeros 0) (.any),
  -- SC.030.03 ATTEST_NONCE
  { (row 0x30 1 0 1 0 3 1 (.blob 32) .V .rw .rw .rw (.zeros 0) (.any)) with minLen := 32 },
  -- SC.030.04 ATTEST_QUOTE
  row 0x30 1 0 1 0 4 1 (.blob 4648) .V .r .r .r (.zeros 0) (.any),
  -- SC.030.05 ATTEST_QSEQ
  row 0x30 1 0 1 0 5 1 (.u32) .V .r .r .r (.num 0) (.any),
  -- SC.030.06 ATTEST_INDEX
  row 0x30 1 0 1 0 6 1 (.u32) .V .r .r .r (.num 0) (.any),
  -- SC.030.07 ATTEST_LIMIT
  row 0x30 1 0 1 0 7 1 (.u32) .V .r .r .r (.num 0) (.any),
  -- SC.030.08 LMS_STORE_INCOMPLETE
  row 0x30 1 0 1 0 8 1 (.u32) .S .r .r .r (.num 0) (.any)]

/-- Objects of area LG (Tables 13.14). -/
def rowsLG : List Row := [
  -- LG.000.00 LOG_SEQ
  row 0x0 1 0 1 0 0 1 (.u64) .V .r .r .r (.num 0) (.any),
  -- LG.000.01 LOG_RAM_FIRST
  row 0x0 1 0 1 0 1 1 (.u64) .V .r .r .r (.num 0) (.any),
  -- LG.000.02 LOG_NV_FIRST
  row 0x0 1 0 1 0 2 1 (.u64) .V .r .r .r (.num 0) (.any),
  -- LG.000.03 LOG_NV_PENDING
  row 0x0 1 0 1 0 3 1 (.u16) .V .r .r .r (.num 0) (.any),
  -- LG.000.04 SUMMARY_MAX
  row 0x0 1 0 1 0 4 1 (.u16) .P .rw .rw .r (.num 64) (.range (0) (1024)),
  -- LG.000.05 SUMMARY_DROPPED
  row 0x0 1 0 1 0 5 1 (.u32) .S .r .r .r (.num 0) (.any),
  -- LG.000.06 LG_ALERT_CAUSE
  row 0x0 1 0 1 0 6 1 (.enum8) .V .r .r .r (.num 0) (.any),
  -- LG.001.00 CFG_BANK
  row 0x1 1 0 1 0 0 1 (.enum8) .V .r .r .r (.num 0) (.any),
  -- LG.001.01 CFG_SEQ
  row 0x1 1 0 1 0 1 1 (.u32) .V .r .r .r (.num 0) (.any),
  -- LG.001.02 CFG_DIRTY
  row 0x1 1 0 1 0 2 1 (.bool) .V .r .r .r (.num 0) (.any),
  -- LG.001.03 STORE_DELAY_MS
  row 0x1 1 0 1 0 3 1 (.u16) .P .rw .rw .r (.num 20) (.range (0) (1000)),
  -- LG.001.04 CFG_STORE_INCOMPLETE
  row 0x1 1 0 1 0 4 1 (.u32) .S .r .r .r (.num 0) (.any),
  -- LG.001.05 CFG_LAST_STORE
  row 0x1 1 0 1 0 5 1 (.time64) .V .r .r .r (.num 0) (.any),
  -- LG.001.06 CFG_LEN
  row 0x1 1 0 1 0 6 1 (.u32) .V .r .r .r (.num 0) (.any),
  -- LG.001.07 CKPT_S
  row 0x1 1 0 1 0 7 1 (.u16) .P .rw .rw .r (.num 600) (.range (60) (3600)),
  -- LG.001.08 BOOT_DISCARDED
  row 0x1 1 0 1 0 8 1 (.u32) .V .r .r .r (.num 0) (.any),
  -- LG.010.00 CFG_DAYMARK
  row 0x10 1 0 1 0 0 1 (.digest) .V .r .r .r (.zeros 32) (.any),
  -- LG.010.01 CAL_DAYMARK
  row 0x10 1 0 1 0 1 1 (.digest) .V .r .r .r (.zeros 32) (.any),
  -- LG.010.02 DM_T
  row 0x10 1 0 1 0 2 1 (.time64) .V .r .r .r (.num 0) (.any),
  -- LG.011.aa CFG_LEAF
  row 0x11 1 0 1 0 0 19 (.digest) .V .r .r .r (.zeros 32) (.any),
  -- LG.012.aa CAL_LEAF
  row 0x12 1 0 1 0 0 19 (.digest) .V .r .r .r (.zeros 32) (.any),
  -- LG.020.00 EXPECT_CFG
  { (row 0x20 1 0 1 0 0 1 (.digest) .P .r .rw .r (.zeros 32) (.any)) with loc := true },
  -- LG.020.01 EXPECT_CAL
  { (row 0x20 1 0 1 0 1 1 (.digest) .P .r .rw .r (.zeros 32) (.any)) with loc := true },
  -- LG.020.02 DM_STATE
  row 0x20 1 0 1 0 2 1 (.u8) .V .r .r .r (.num 0) (.any),
  -- LG.020.03 DM_MISMATCHES
  row 0x20 1 0 1 0 3 1 (.u32) .S .r .r .r (.num 0) (.any),
  -- LG.021.00 HB_ENABLE
  row 0x21 1 0 1 0 0 1 (.bool) .P .rw .rw .r (.num 1) (.any),
  -- LG.021.01 HB_PHASE_MS
  { (row 0x21 1 0 1 0 1 1 (.u16) .P .rw .rw .r (.num 0) (.range (0) (999))) with loc := true },
  -- LG.021.02 HB_ON_CHANGE
  row 0x21 1 0 1 0 2 1 (.bool) .P .rw .rw .r (.num 1) (.any),
  -- LG.021.03 HB_SEQ
  row 0x21 1 0 1 0 3 1 (.u32) .V .r .r .r (.num 0) (.any),
  -- LG.030.00 LOG_READ_SEQ
  row 0x30 1 0 1 0 0 1 (.u64) .V .rw .rw .rw (.num 0) (.any),
  -- LG.030.01 LOG_READ_SRC
  row 0x30 1 0 1 0 1 1 (.enum8) .V .rw .rw .rw (.num 0) (.oneOf [0, 1]),
  -- LG.030.02 LOG_ENTRY
  row 0x30 1 0 1 0 2 1 (.blob 64) .V .r .r .r (.zeros 0) (.any)]

/-- Objects of area EV (Tables 19.4). -/
def rowsEV : List Row := [
  -- EV.000.00–01 EV_LATCHED
  row 0x0 1 0 1 0 0 2 (.u64) .V .r .r .r (.num 0) (.any),
  -- EV.001.00–01 EV_ACK
  row 0x1 1 0 1 0 0 2 (.u64) .V .w .w .w (.num 0) (.any),
  -- EV.002.00–01 EV_MASK
  row 0x2 1 0 1 0 0 2 (.u64) .P .rw .rw .r (.num 0) (.any),
  -- EV.003.00 EV_HOSTIRQ_MODE
  row 0x3 1 0 1 0 0 1 (.u8) .P .rw .rw .r (.num 0) (.bits 0x3),
  -- EV.003.01 EV_HOSTIRQ_STATE
  row 0x3 1 0 1 0 1 1 (.u8) .V .r .r .r (.num 0) (.any),
  -- EV.100.e EV_HOST
  row 0x100 1 0 1 0 0 128 (.u8) .P .rw .rw .r (.num 0) (.bits 0x3),
  -- EV.101.e EV_KEEPERS
  row 0x101 1 0 1 0 0 128 (.u8) .V .r .r .r (.num 0) (.any),
  -- EV.102.e EV_LINE
  row 0x102 1 0 1 0 0 128 (.u8) .V .r .r .r (.num 255) (.any),
  -- EV.103.e EV_COALESCE_US
  row 0x103 1 0 1 0 0 128 (.u16) .P .rw .rw .r (.num 1000) (.range (0) (60000)),
  -- EV.104.e EV_COUNT
  row 0x104 1 0 1 0 0 128 (.u32) .S .r .r .r (.num 0) (.any),
  -- EV.105.e EV_PEND_COUNT
  row 0x105 1 0 1 0 0 128 (.u16) .V .r .r .r (.num 0) (.any),
  -- EV.106.e EV_T_FIRST
  row 0x106 1 0 1 0 0 128 (.time64) .V .r .r .r (.num 0) (.any),
  -- EV.107.e EV_T_LAST
  row 0x107 1 0 1 0 0 128 (.time64) .V .r .r .r (.num 0) (.any),
  -- EV.108.e EV_ARG
  row 0x108 1 0 1 0 0 128 (.u32) .V .r .r .r (.num 0) (.any)]

/-- Objects of area CP (Tables 2.10, 2.11 and 11.9), part 1. -/
def rowsCP0 : List Row := [
  -- CP.100.00 CHAIN_ENABLE
  row 0x100 6 32 1 0 0 1 (.bool) .P .rw .rw .r (.num 1) (.any),
  -- CP.100.01 CHAIN_STATE
  row 0x100 6 32 1 0 1 1 (.enum8) .V .r .r .r (.num 0) (.any),
  -- CP.100.02 LANE
  row 0x100 6 32 1 0 2 1 (.enum8) .V .r .r .r (.num 0) (.any),
  -- CP.100.03 DOOR_C_BAND
  row 0x100 6 32 1 0 3 1 (.enum8) .P .rw .rw .r (.num 0) (.oneOf [0, 1]),
  -- CP.100.04 BAND_SWITCHING
  row 0x100 6 32 1 0 4 1 (.bool) .V .r .r .r (.num 0) (.any),
  -- CP.100.05 SAMPLE_COUNT
  row 0x100 6 32 1 0 5 1 (.u64) .V .r .r .r (.num 0) (.any),
  -- CP.10d.00 DOOR_ENABLE
  row 0x101 6 32 3 1 0 1 (.bool) .P .rw .rw .r (.num 1) (.any),
  -- CP.10d.01 GAIN_MODE
  row 0x101 6 32 3 1 1 1 (.enum8) .P .rw .rw .r (.num 0) (.oneOf [0, 1]),
  -- CP.10d.02 MAN_LNA
  row 0x101 6 32 3 1 2 1 (.enum8) .P .rw .rw .r (.num 0) (.oneOf [0, 1, 2]),
  -- CP.10d.03 MAN_ATTEN
  row 0x101 6 32 3 1 3 1 (.u8) .P .rw .rw .r (.num 0) (.range (0) (31)),
  -- CP.10d.04 HEADROOM_TARGET
  row 0x101 6 32 3 1 4 1 (.level) .P .rw .rw .r (.num (-1200)) (.range (-3000) (-300)),
  -- CP.10d.05 GRED_MIN
  row 0x101 6 32 3 1 5 1 (.u8) .P .rw .rw .r (.num 0) (.range (0) (55)),
  -- CP.10d.06 GRED_MAX
  row 0x101 6 32 3 1 6 1 (.u8) .P .rw .rw .r (.num 55) (.range (0) (55)),
  -- CP.10d.07 HOLD_MS
  row 0x101 6 32 3 1 7 1 (.u16) .P .rw .rw .r (.num 100) (.any),
  -- CP.10d.08 RELEASE_MS
  row 0x101 6 32 3 1 8 1 (.u16) .P .rw .rw .r (.num 10) (.range (1) (1000)),
  -- CP.10d.09 LNA_NOW
  row 0x101 6 32 3 1 9 1 (.enum8) .V .r .r .r (.num 0) (.any),
  -- CP.10d.0A ATTEN_NOW
  row 0x101 6 32 3 1 10 1 (.u8) .V .r .r .r (.num 0) (.any),
  -- CP.10d.0B GAIN_NOW
  row 0x101 6 32 3 1 11 1 (.level) .V .r .r .r (.num 0) (.any),
  -- CP.10d.0C PIN_FS
  row 0x101 6 32 3 1 12 1 (.level) .V .r .r .r (.num 0) (.any),
  -- CP.10d.0D DET_LEVEL
  row 0x101 6 32 3 1 13 1 (.level) .V .r .r .r (.num 0) (.any),
  -- CP.10d.0E STEP_COUNT
  row 0x101 6 32 3 1 14 1 (.u32) .S .r .r .r (.num 0) (.any),
  -- CP.104.00 OVL_ENABLE
  row 0x104 6 32 1 0 0 1 (.bool) .P .rw .rw .r (.num 1) (.any),
  -- CP.104.01 OVL_STEP
  row 0x104 6 32 1 0 1 1 (.u8) .P .rw .rw .r (.num 6) (.range (1) (12)),
  -- CP.104.02 OVL_CLIP_COUNT
  row 0x104 6 32 1 0 2 1 (.u8) .P .rw .rw .r (.num 2) (.range (1) (8)),
  -- CP.104.03 PERSIST_MS
  row 0x104 6 32 1 0 3 1 (.u16) .P .rw .rw .r (.num 50) (.any),
  -- CP.104.04 OVL_ACTIVE
  row 0x104 6 32 1 0 4 1 (.bool) .V .r .r .r (.num 0) (.any),
  -- CP.104.05 OVL_COUNT
  row 0x104 6 32 1 0 5 1 (.u32) .S .r .r .r (.num 0) (.any),
  -- CP.104.06 CLIP_SAMPLES
  row 0x104 6 32 1 0 6 1 (.u64) .S .r .r .r (.num 0) (.any),
  -- CP.104.07 LAST_OVL
  row 0x104 6 32 1 0 7 1 (.time64) .V .r .r .r (.num 0) (.any),
  -- CP.105.00 GCOMP_ENABLE
  row 0x105 6 32 1 0 0 1 (.bool) .P .r .rw .r (.num 1) (.any),
  -- CP.105.01 LAST_MARK_SAMPLE
  row 0x105 6 32 1 0 1 1 (.u64) .V .r .r .r (.num 0) (.any),
  -- CP.105.02 LAST_MARK_TIME
  row 0x105 6 32 1 0 2 1 (.time64) .V .r .r .r (.num 0) (.any),
  -- CP.105.03 LAST_MARK_DOORS
  row 0x105 6 32 1 0 3 1 (.u8) .V .r .r .r (.num 0) (.any),
  -- CP.105.04 MARK_COUNT
  row 0x105 6 32 1 0 4 1 (.u32) .S .r .r .r (.num 0) (.any),
  -- CP.106.00 FEED_ENABLE
  row 0x106 6 32 1 0 0 1 (.bool) .P .rw .rw .r (.num 0) (.any),
  -- CP.106.01 SNS_GAIN
  row 0x106 6 32 1 0 1 1 (.u16) .P .rw .rw .r (.num 250) (.range (1) (2000)),
  -- CP.106.02 I_OPEN
  row 0x106 6 32 1 0 2 1 (.u16) .P .rw .rw .r (.num 5) (.any),
  -- CP.106.03 I_LIMIT
  row 0x106 6 32 1 0 3 1 (.u16) .P .rw .rw .r (.num 200) (.any),
  -- CP.106.04 I_TRIP
  row 0x106 6 32 1 0 4 1 (.u16) .P .rw .rw .r (.num 300) (.any),
  -- CP.106.05 INRUSH_MS
  row 0x106 6 32 1 0 5 1 (.u16) .P .rw .rw .r (.num 5) (.any)]

/-- Objects of area CP (Tables 2.10, 2.11 and 11.9), part 2. -/
def rowsCP1 : List Row := [
  -- CP.106.06 RETRY_COUNT
  row 0x106 6 32 1 0 6 1 (.u8) .P .rw .rw .r (.num 3) (.any),
  -- CP.106.07 RETRY_MS
  row 0x106 6 32 1 0 7 1 (.u16) .P .rw .rw .r (.num 1000) (.range (1) (65535)),
  -- CP.106.08 FEED_STATE
  row 0x106 6 32 1 0 8 1 (.enum8) .V .r .r .r (.num 0) (.any),
  -- CP.106.09 FEED_CURRENT
  row 0x106 6 32 1 0 9 1 (.s32) .V .r .r .r (.num 0) (.any),
  -- CP.106.0A FEED_RESET
  row 0x106 6 32 1 0 10 1 (.bool) .V .w .w .none (.num 0) (.any),
  -- CP.106.0B FAULT_COUNT
  row 0x106 6 32 1 0 11 1 (.u32) .S .r .r .r (.num 0) (.any),
  -- CP.010.00 LSYN_STATE
  row 0x10 1 0 1 0 0 1 (.enum8) .V .r .r .r (.num 0) (.any),
  -- CP.010.01 LSYN_CAL_CMD
  row 0x10 1 0 1 0 1 1 (.bool) .V .w .w .none (.num 0) (.any),
  -- CP.010.02 LSYN_TEMP_DELTA
  row 0x10 1 0 1 0 2 1 (.u8) .P .rw .rw .r (.num 10) (.any),
  -- CP.010.03 LSYN_LAST_CAL
  row 0x10 1 0 1 0 3 1 (.time64) .V .r .r .r (.num 0) (.any),
  -- CP.010.04 LSYN_CAL_TEMP
  row 0x10 1 0 1 0 4 1 (.s16) .V .r .r .r (.num 0) (.any),
  -- CP.010.05 LSYN_UNLOCK_COUNT
  row 0x10 1 0 1 0 5 1 (.u32) .S .r .r .r (.num 0) (.any),
  -- CP.1C0.00 LANEG_STAGE
  row 0x1C0 1 0 1 0 0 1 (.enum8) .V .r .r .r (.num 0) (.any),
  -- CP.1C0.01 LANEG_CHAIN
  row 0x1C0 1 0 1 0 1 1 (.u8) .V .r .r .r (.num 255) (.any),
  -- CP.1C0.02 ALIGN_DELAY
  row 0x1C0 1 0 1 0 2 1 (.s16) .V .r .r .r (.num 0) (.any),
  -- CP.1C0.03–05 ALIGN_GAIN
  row 0x1C0 1 0 1 0 3 3 (.level) .V .r .r .r (.num 0) (.any),
  -- CP.1C0.06–08 ALIGN_PHASE
  row 0x1C0 1 0 1 0 6 3 (.s16) .V .r .r .r (.num 0) (.any),
  -- CP.1C0.09 HANDOVERS
  row 0x1C0 1 0 1 0 9 1 (.u32) .S .r .r .r (.num 0) (.any),
  -- CP.1C0.0A ABORTS
  row 0x1C0 1 0 1 0 10 1 (.u32) .S .r .r .r (.num 0) (.any)]

/-- Objects of area CP. -/
def rowsCP : List Row := rowsCP0 ++ rowsCP1

/-- Objects of area LN (Tables 3.11). -/
def rowsLN : List Row := [
  -- LN.000.00 TAPS_RESERVED
  row 0x0 1 0 1 0 0 1 (.u8) .V .r .r .r (.num 0) (.any),
  -- LN.000.01 TAPS_ASSIGNED
  row 0x0 1 0 1 0 1 1 (.u8) .V .r .r .r (.num 0) (.any),
  -- LN.000.02 TAP_REFUSALS
  row 0x0 1 0 1 0 2 1 (.u32) .S .r .r .r (.num 0) (.any),
  -- LN.001.00 SWEEP_FRAMES
  row 0x1 1 0 1 0 0 1 (.u64) .V .r .r .r (.num 0) (.any),
  -- LN.001.01 SWEEP_LOST
  row 0x1 1 0 1 0 1 1 (.u32) .S .r .r .r (.num 0) (.any),
  -- LN.001.02 PLAN_RATE
  row 0x1 1 0 1 0 2 1 (.u32) .V .r .r .r (.num 0) (.any),
  -- LN.001.03 PLAN_SLOW
  row 0x1 1 0 1 0 3 1 (.u8) .V .r .r .r (.num 1) (.any),
  -- LN.001.04 PLAN_SEGMENTS
  row 0x1 1 0 1 0 4 1 (.u8) .V .r .r .r (.num 0) (.any),
  -- LN.300.s STREAM_ENABLE
  row 0x300 1 0 1 0 0 8 (.bool) .P .rw .rw .r (.num 0) (.any),
  -- LN.301.s STREAM_CHAINS
  row 0x301 1 0 1 0 0 8 (.u8) .P .rw .rw .r (.num 63) (.bits 0x3F),
  -- LN.302.s STREAM_SEGMENTS
  row 0x302 1 0 1 0 0 8 (.u64) .P .rw .rw .r (.num 18446744073709551615) (.any),
  -- LN.303.s STREAM_UNIT
  row 0x303 1 0 1 0 0 8 (.enum8) .P .rw .rw .r (.num 0) (.oneOf [0, 1]),
  -- LN.304.s STREAM_SEQ
  row 0x304 1 0 1 0 0 8 (.u32) .V .r .r .r (.num 0) (.any),
  -- LN.305.s STREAM_LOST
  row 0x305 1 0 1 0 0 8 (.u32) .S .r .r .r (.num 0) (.any),
  -- LN.400.t TAP_STATE
  row 0x400 1 0 1 0 0 128 (.enum8) .V .r .r .r (.num 0) (.any),
  -- LN.401.t TAP_CONTEXT
  row 0x401 1 0 1 0 0 128 (.u8) .V .r .r .r (.num 0) (.any),
  -- LN.402.t TAP_CHAIN
  row 0x402 1 0 1 0 0 128 (.u8) .V .r .r .r (.num 0) (.any),
  -- LN.403.t TAP_DOOR
  row 0x403 1 0 1 0 0 128 (.enum8) .V .r .r .r (.num 0) (.any),
  -- LN.404.t TAP_RF
  row 0x404 1 0 1 0 0 128 (.freq) .V .r .r .r (.num 0) (.any),
  -- LN.405.t TAP_RATE
  row 0x405 1 0 1 0 0 128 (.enum8) .V .r .r .r (.num 0) (.any),
  -- LN.406.t TAP_SUBBAND
  row 0x406 1 0 1 0 0 128 (.u8) .V .r .r .r (.num 0) (.any),
  -- LN.407.t TAP_SUBBANDS
  row 0x407 1 0 1 0 0 128 (.u8) .V .r .r .r (.num 0) (.any),
  -- LN.408.t TAP_NCO
  row 0x408 1 0 1 0 0 128 (.s32) .V .r .r .r (.num 0) (.any),
  -- LN.409.t TAP_INDEX
  row 0x409 1 0 1 0 0 128 (.u64) .V .r .r .r (.num 0) (.any),
  -- LN.40A.t TAP_TAGGED
  row 0x40A 1 0 1 0 0 128 (.u32) .V .r .r .r (.num 0) (.any),
  -- LN.500.c IQ_FORMAT
  row 0x500 1 0 1 0 1 63 (.enum8) .P .rw .rw .r (.num 0) (.oneOf [0, 1]),
  -- LN.501.c IQ_SHIFT
  row 0x501 1 0 1 0 1 63 (.u8) .P .rw .rw .r (.num 8) (.range (0) (31)),
  -- LN.502.c IQ_SAMPLES
  row 0x502 1 0 1 0 1 63 (.u16) .P .rw .rw .r (.num 1024) (.range (256) (8192))]

/-- Objects of area CA (Tables 11.8). -/
def rowsCA : List Row := [
  -- CA.000.00 CAL_STATE
  row 0x0 1 0 1 0 0 1 (.enum8) .V .r .r .r (.num 0) (.any),
  -- CA.000.01 RAMP_MS
  row 0x0 1 0 1 0 1 1 (.u16) .P .rw .rw .r (.num 10) (.range (10) (1000)),
  -- CA.000.02 TEMP_DELTA
  row 0x0 1 0 1 0 2 1 (.u8) .P .rw .rw .r (.num 5) (.any),
  -- CA.000.03 INTERVAL_S
  row 0x0 1 0 1 0 3 1 (.u32) .P .rw .rw .r (.num 3600) (.any),
  -- CA.000.04 CAL_BANK
  row 0x0 1 0 1 0 4 1 (.enum8) .V .r .r .r (.num 0) (.any),
  -- CA.000.05 CAL_SEQ
  row 0x0 1 0 1 0 5 1 (.u32) .V .r .r .r (.num 0) (.any),
  -- CA.000.06 STORE_INCOMPLETE
  row 0x0 1 0 1 0 6 1 (.u32) .S .r .r .r (.num 0) (.any),
  -- CA.000.07 LAST_CAUSE
  row 0x0 1 0 1 0 7 1 (.enum8) .V .r .r .r (.num 0) (.any),
  -- CA.000.08 POWERUP_US
  row 0x0 1 0 1 0 8 1 (.u32) .V .r .r .r (.num 0) (.any),
  -- CA.001.00 REF_LEVEL
  row 0x1 1 0 1 0 0 1 (.level) .V .rw .rw .none (.num (-2000)) (.range (-4000) (-1000)),
  -- CA.001.01 REF_FREQ
  row 0x1 1 0 1 0 1 1 (.freq) .V .rw .rw .none (.num 0) (.any),
  -- CA.001.02 REF_UNC
  row 0x1 1 0 1 0 2 1 (.u16) .V .rw .rw .none (.num 50) (.any),
  -- CA.001.03 REF_ID
  row 0x1 1 0 1 0 3 1 (.str 16) .V .rw .rw .none (.zeros 16) (.any),
  -- CA.001.04 REF_TARGETS
  row 0x1 1 0 1 0 4 1 (.u32) .V .rw .rw .none (.num 0) (.bits 0x3FFFF),
  -- CA.001.05 REF_CMD
  row 0x1 1 0 1 0 5 1 (.bool) .V .w .w .none (.num 0) (.any),
  -- CA.001.06 REF_STATE
  row 0x1 1 0 1 0 6 1 (.enum8) .V .r .r .r (.num 0) (.any),
  -- CA.001.07 REF_DONE
  row 0x1 1 0 1 0 7 1 (.u32) .V .r .r .r (.num 0) (.any),
  -- CA.001.08 REF_FAILED
  row 0x1 1 0 1 0 8 1 (.u32) .V .r .r .r (.num 0) (.any),
  -- CA.010.00–0B CQF_MIN
  row 0x10 1 0 1 0 0 12 (.level) .P .rw .rw .r (.tab [7800, 8000, 8000, 8000, 3000, 4000, 4000, 7000, 6200, 600, 0, 4000]) (.any),
  -- CA.020.00 LINK_TEMP_DELTA
  row 0x20 1 0 1 0 0 1 (.u8) .P .rw .rw .r (.num 10) (.range (1) (50)),
  -- CA.020.01 LINK_CAL_CMD
  row 0x20 1 0 1 0 1 1 (.bool) .V .w .w .none (.num 0) (.any),
  -- CA.020.02 LINK_CAL_VALID
  row 0x20 1 0 1 0 2 1 (.u8) .V .r .r .r (.num 0) (.any),
  -- CA.030.00 FX_COUNT
  row 0x30 1 0 1 0 0 1 (.u16) .C .r .r .r (.num 0) (.any),
  -- CA.030.01 FX_INDEX
  row 0x30 1 0 1 0 1 1 (.u16) .V .rw .rw .r (.num 0) (.any),
  -- CA.030.02 FX_ENTRY
  { (row 0x30 1 0 1 0 2 1 (.blob 16) .C .r .r .r (.zeros 0) (.any)) with minLen := 16 },
  -- CA.100.00 LANE_CAL_CMD
  row 0x100 7 16 1 0 0 1 (.bool) .V .w .w .none (.num 0) (.any),
  -- CA.100.01 LANE_DUE
  row 0x100 7 16 1 0 1 1 (.enum8) .V .r .r .r (.num 0) (.any),
  -- CA.100.02 LANE_LAST_T
  row 0x100 7 16 1 0 2 1 (.time64) .V .r .r .r (.num 0) (.any),
  -- CA.100.03 LANE_LAST_TEMP
  row 0x100 7 16 1 0 3 1 (.s16) .V .r .r .r (.num 0) (.any),
  -- CA.100.04 LANE_CAL_COUNT
  row 0x100 7 16 1 0 4 1 (.u32) .S .r .r .r (.num 0) (.any),
  -- CA.100.05 SPARES_USED
  row 0x100 7 16 1 0 5 1 (.u8) .V .r .r .r (.num 0) (.any),
  -- CA.100.06 TRIM_MARGIN
  row 0x100 7 16 1 0 6 1 (.u8) .V .r .r .r (.num 0) (.any),
  -- CA.101.00–0B CQF
  row 0x101 7 16 1 0 0 12 (.level) .V .r .r .r (.num (-32768)) (.any),
  -- CA.300.j ABS_CORR
  row 0x300 1 0 1 0 0 24 (.level) .C .r .r .r (.num 0) (.any),
  -- CA.301.j LEVEL_UNC
  row 0x301 1 0 1 0 0 24 (.u16) .V .r .r .r (.num 300) (.any),
  -- CA.302.j REF_T
  row 0x302 1 0 1 0 0 24 (.time64) .C .r .r .r (.num 0) (.any),
  -- CA.400.00–0F AF_FREQ
  row 0x400 24 1 1 0 0 16 (.freq) .C .rw .rw .r (.num 0) (.any),
  -- CA.400.10–1F AF_VALUE
  row 0x400 24 1 1 0 16 16 (.level) .C .rw .rw .r (.num 0) (.any),
  -- CA.400.20 AF_POINTS
  row 0x400 24 1 1 0 32 1 (.u8) .C .rw .rw .r (.num 0) (.range (0) (16))]

/-- Objects of area CX (Tables 4.9, 4.10, 6.12, 7.20 and 7.21), part 1. -/
def rowsCX0 : List Row := [
  -- CX.110.00 REQUEST
  row 0x110 63 16 1 0 0 1 (.enum8) .V .rw .rw .rw (.num 0) (.oneOf [0, 1, 2]),
  -- CX.110.01 TYPE
  row 0x110 63 16 1 0 1 1 (.enum8) .V .rw .rw .rw (.num 0) (.range (0) (11)),
  -- CX.110.02 RF
  row 0x110 63 16 1 0 2 1 (.freq) .V .rw .rw .rw (.num 0) (.any),
  -- CX.110.03 DOOR
  row 0x110 63 16 1 0 3 1 (.enum8) .V .rw .rw .rw (.num 0) (.oneOf [0, 1, 2]),
  -- CX.110.04 ANT_COUNT
  row 0x110 63 16 1 0 4 1 (.u8) .V .rw .rw .rw (.num 1) (.range (1) (6)),
  -- CX.110.05 SLOT
  row 0x110 63 16 1 0 5 1 (.u16) .V .rw .rw .rw (.num 65535) (.rangeOr (0) (255) (65535)),
  -- CX.110.06 SUBJECT
  row 0x110 63 16 1 0 6 1 (.enum8) .V .rw .rw .rw (.num 0) (.oneOf [0, 1, 2, 3]),
  -- CX.110.07 IQ_RATE
  row 0x110 63 16 1 0 7 1 (.enum8) .V .rw .rw .rw (.num 4) (.range (0) (6)),
  -- CX.110.08 OWNER
  row 0x110 63 16 1 0 8 1 (.enum8) .V .r .r .r (.num 0) (.any),
  -- CX.110.09 STATE
  row 0x110 63 16 1 0 9 1 (.enum8) .V .r .r .r (.num 0) (.any),
  -- CX.110.0A COST
  row 0x110 63 16 1 0 10 1 (.u16) .V .r .r .r (.num 0) (.any),
  -- CX.110.0B SLOT_NOW
  row 0x110 63 16 1 0 11 1 (.u16) .V .r .r .r (.num 65535) (.any),
  -- CX.110.0C T_STATE
  row 0x110 63 16 1 0 12 1 (.time64) .V .r .r .r (.num 0) (.any),
  -- CX.110.0D T_LOCK
  row 0x110 63 16 1 0 13 1 (.time64) .V .r .r .r (.num 0) (.any),
  -- CX.111.00–05 ANT_CHAIN
  row 0x111 63 16 1 0 0 6 (.u8) .V .rw .rw .rw (.tab [0, 1, 2, 3, 4, 5]) (.range (0) (5)),
  -- CX.111.08–0D TAP
  row 0x111 63 16 1 0 8 6 (.u8) .V .r .r .r (.num 255) (.any),
  -- CX.112.00 CMB_MODE
  row 0x112 63 16 1 0 0 1 (.enum8) .V .rw .rw .rw (.num 0) (.range (0) (3)),
  -- CX.112.01 EXCLUDE_DB
  row 0x112 63 16 1 0 1 1 (.level) .V .rw .rw .rw (.num 1500) (.range (300) (4000)),
  -- CX.112.02 SWITCH_HYST
  row 0x112 63 16 1 0 2 1 (.level) .V .rw .rw .rw (.num 300) (.range (50) (2000)),
  -- CX.112.03 SWITCH_HOLD_MS
  row 0x112 63 16 1 0 3 1 (.u16) .V .rw .rw .rw (.num 50) (.any),
  -- CX.112.04 INCLUDED
  row 0x112 63 16 1 0 4 1 (.u8) .V .r .r .r (.num 0) (.any),
  -- CX.112.05 BEST
  row 0x112 63 16 1 0 5 1 (.u8) .V .r .r .r (.num 0) (.any),
  -- CX.112.08–0D ANT_SNR
  row 0x112 63 16 1 0 8 6 (.level) .V .r .r .r (.num 0) (.any),
  -- CX.113.00–05 ANT_DELAY
  row 0x113 63 16 1 0 0 6 (.s16) .V .r .r .r (.num 0) (.any),
  -- CX.113.08–0D ANT_WEIGHT
  row 0x113 63 16 1 0 8 6 (.level) .V .r .r .r (.num 0) (.any),
  -- CX.114.00 ACQ_TIMEOUT_MS
  row 0x114 63 16 1 0 0 1 (.u16) .V .rw .rw .rw (.num 1000) (.any),
  -- CX.114.01 HOLD_TIMEOUT_MS
  row 0x114 63 16 1 0 1 1 (.u16) .V .rw .rw .rw (.num 2000) (.any),
  -- CX.114.02 ACQ_TIMEOUTS
  row 0x114 63 16 1 0 2 1 (.u32) .V .r .r .r (.num 0) (.any),
  -- CX.114.03 HOLD_COUNT
  row 0x114 63 16 1 0 3 1 (.u32) .V .r .r .r (.num 0) (.any),
  -- CX.114.04 HYP_PREEMPTED
  row 0x114 63 16 1 0 4 1 (.u32) .V .r .r .r (.num 0) (.any),
  -- CX.114.05 HYP_REJECTED
  row 0x114 63 16 1 0 5 1 (.u32) .V .r .r .r (.num 0) (.any),
  -- CX.114.08–0B HYP_STATE
  row 0x114 63 16 1 0 8 4 (.enum8) .V .r .r .r (.num 0) (.any),
  -- CX.115.00 OUT_DEPTH
  row 0x115 63 16 1 0 0 1 (.u8) .V .rw .rw .rw (.num 4) (.range (3) (16)),
  -- CX.115.01 OUT_SEQ
  row 0x115 63 16 1 0 1 1 (.u32) .V .r .r .r (.num 0) (.any),
  -- CX.115.02 OUT_LOST
  row 0x115 63 16 1 0 2 1 (.u32) .V .r .r .r (.num 0) (.any),
  -- CX.115.03 SKIP_COUNT
  row 0x115 63 16 1 0 3 1 (.u32) .V .r .r .r (.num 0) (.any),
  -- CX.115.04 RUN_COUNT
  row 0x115 63 16 1 0 4 1 (.u32) .V .r .r .r (.num 0) (.any),
  -- CX.000.00 WU_USED
  row 0x0 1 0 1 0 0 1 (.u16) .V .r .r .r (.num 0) (.any),
  -- CX.000.01 WU_CAPACITY
  row 0x0 1 0 1 0 1 1 (.u16) .V .r .r .r (.num 384) (.any),
  -- CX.000.02 ACTIVE
  row 0x0 1 0 1 0 2 1 (.u8) .V .r .r .r (.num 0) (.any)]

/-- Objects of area CX (Tables 4.9, 4.10, 6.12, 7.20 and 7.21), part 2. -/
def rowsCX1 : List Row := [
  -- CX.000.03 N_DAB
  row 0x0 1 0 1 0 3 1 (.u8) .V .r .r .r (.num 0) (.any),
  -- CX.000.04 N_DRM
  row 0x0 1 0 1 0 4 1 (.u8) .V .r .r .r (.num 0) (.any),
  -- CX.000.05 N_FM
  row 0x0 1 0 1 0 5 1 (.u8) .V .r .r .r (.num 0) (.any),
  -- CX.000.06 N_NRSC5
  row 0x0 1 0 1 0 6 1 (.u8) .V .r .r .r (.num 0) (.any),
  -- CX.000.07 N_SENTRY
  row 0x0 1 0 1 0 7 1 (.u8) .V .r .r .r (.num 0) (.any),
  -- CX.000.08 REFUSALS
  row 0x0 1 0 1 0 8 1 (.u32) .S .r .r .r (.num 0) (.any),
  -- CX.000.09 LAST_REFUSAL
  row 0x0 1 0 1 0 9 1 (.enum8) .V .r .r .r (.num 0) (.any),
  -- CX.000.0A RELEASE_LOST
  row 0x0 1 0 1 0 10 1 (.u32) .S .r .r .r (.num 0) (.any),
  -- CX.001.00–0F EVENT_CONTEXTS
  row 0x1 1 0 1 0 0 16 (.u64) .V .rw .rw .r (.num 0) (.any),
  -- CX.116.00 DEEMPH
  row 0x116 63 16 1 0 0 1 (.enum8) .V .rw .rw .rw (.num 0) (.oneOf [0, 1, 2]),
  -- CX.116.01 STEREO_MODE
  row 0x116 63 16 1 0 1 1 (.enum8) .V .rw .rw .rw (.num 0) (.oneOf [0, 1]),
  -- CX.116.02 IFBW_MODE
  row 0x116 63 16 1 0 2 1 (.enum8) .V .rw .rw .rw (.num 0) (.oneOf [0, 1]),
  -- CX.116.03 IFBW_FIXED
  row 0x116 63 16 1 0 3 1 (.u8) .V .rw .rw .rw (.num 0) (.range (0) (7)),
  -- CX.116.04 IFBW_XFADE
  row 0x116 63 16 1 0 4 1 (.u16) .V .rw .rw .rw (.num 64) (.range (0) (4096)),
  -- CX.116.05 IFBW_RELEASE_MS
  row 0x116 63 16 1 0 5 1 (.u16) .V .rw .rw .rw (.num 20) (.range (1) (1000)),
  -- CX.116.06 BLEND_LO
  row 0x116 63 16 1 0 6 1 (.level) .V .rw .rw .rw (.num 1800) (.range (-1000) (6000)),
  -- CX.116.07 BLEND_HI
  row 0x116 63 16 1 0 7 1 (.level) .V .rw .rw .rw (.num 3400) (.range (-1000) (6000)),
  -- CX.116.08 HICUT_LO
  row 0x116 63 16 1 0 8 1 (.level) .V .rw .rw .rw (.num 1000) (.range (-1000) (6000)),
  -- CX.116.09 HICUT_HI
  row 0x116 63 16 1 0 9 1 (.level) .V .rw .rw .rw (.num 2600) (.range (-1000) (6000)),
  -- CX.116.0A HICUT_MIN
  row 0x116 63 16 1 0 10 1 (.u16) .V .rw .rw .rw (.num 3000) (.range (1500) (15000)),
  -- CX.116.0B MUTE_LO
  row 0x116 63 16 1 0 11 1 (.level) .V .rw .rw .rw (.num 0) (.range (-2000) (4000)),
  -- CX.116.0C MUTE_HI
  row 0x116 63 16 1 0 12 1 (.level) .V .rw .rw .rw (.num 1000) (.range (-2000) (4000)),
  -- CX.116.0D MUTE_MAX
  row 0x116 63 16 1 0 13 1 (.level) .V .rw .rw .rw (.num 2000) (.range (0) (4000)),
  -- CX.116.0E ATTACK_MS
  row 0x116 63 16 1 0 14 1 (.u16) .V .rw .rw .rw (.num 5) (.range (1) (10000)),
  -- CX.116.0F RELEASE_MS
  row 0x116 63 16 1 0 15 1 (.u16) .V .rw .rw .rw (.num 500) (.range (1) (10000)),
  -- CX.117.00 AM_MODE
  row 0x117 63 16 1 0 0 1 (.enum8) .V .rw .rw .rw (.num 0) (.oneOf [0, 1, 2, 3, 4]),
  -- CX.117.01 AM_BW_MODE
  row 0x117 63 16 1 0 1 1 (.enum8) .V .rw .rw .rw (.num 0) (.oneOf [0, 1]),
  -- CX.117.02 AM_BW_FIXED
  row 0x117 63 16 1 0 2 1 (.u8) .V .rw .rw .rw (.num 1) (.range (0) (6)),
  -- CX.117.03 AM_PLL_BW
  row 0x117 63 16 1 0 3 1 (.enum8) .V .rw .rw .rw (.num 1) (.oneOf [0, 1, 2]),
  -- CX.117.04 AM_SIDEBAND
  row 0x117 63 16 1 0 4 1 (.enum8) .V .r .r .r (.num 0) (.any),
  -- CX.117.05 BLANK_ENABLE
  row 0x117 63 16 1 0 5 1 (.bool) .V .rw .rw .rw (.num 1) (.any),
  -- CX.117.06 BLANK_THRESH
  row 0x117 63 16 1 0 6 1 (.level) .V .rw .rw .rw (.num 1000) (.range (300) (3000)),
  -- CX.117.07 BLANK_MAX_US
  row 0x117 63 16 1 0 7 1 (.u16) .V .rw .rw .rw (.num 40) (.range (2) (200)),
  -- CX.117.08 BLANK_COUNT
  row 0x117 63 16 1 0 8 1 (.u32) .V .r .r .r (.num 0) (.any),
  -- CX.117.09 MPX_BLANK_ENABLE
  row 0x117 63 16 1 0 9 1 (.bool) .V .rw .rw .rw (.num 1) (.any),
  -- CX.117.0A DEV_COMP
  row 0x117 63 16 1 0 10 1 (.bool) .V .rw .rw .rw (.num 0) (.any),
  -- CX.117.0B DEV_GAIN
  row 0x117 63 16 1 0 11 1 (.level) .V .r .r .r (.num 0) (.any),
  -- CX.118.00 Q_LEVEL
  row 0x118 63 16 1 0 0 1 (.level) .V .r .r .r (.num (-32768)) (.any),
  -- CX.118.01 Q_SNR
  row 0x118 63 16 1 0 1 1 (.level) .V .r .r .r (.num (-32768)) (.any),
  -- CX.118.02 Q_USN
  row 0x118 63 16 1 0 2 1 (.level) .V .r .r .r (.num (-32768)) (.any)]

/-- Objects of area CX (Tables 4.9, 4.10, 6.12, 7.20 and 7.21), part 3. -/
def rowsCX2 : List Row := [
  -- CX.118.03 Q_MULTIPATH
  row 0x118 63 16 1 0 3 1 (.level) .V .r .r .r (.num (-32768)) (.any),
  -- CX.118.04 Q_OFFSET
  row 0x118 63 16 1 0 4 1 (.s32) .V .r .r .r (.num 0) (.any),
  -- CX.118.05 Q_DEVIATION
  row 0x118 63 16 1 0 5 1 (.u32) .V .r .r .r (.num 0) (.any),
  -- CX.118.06 Q_PILOT
  row 0x118 63 16 1 0 6 1 (.u32) .V .r .r .r (.num 0) (.any),
  -- CX.118.07 Q_AQ
  row 0x118 63 16 1 0 7 1 (.level) .V .r .r .r (.num (-32768)) (.any),
  -- CX.118.08 STEREO
  row 0x118 63 16 1 0 8 1 (.bool) .V .r .r .r (.num 0) (.any),
  -- CX.118.09 BLEND
  row 0x118 63 16 1 0 9 1 (.u8) .V .r .r .r (.num 0) (.any),
  -- CX.118.0A IFBW
  row 0x118 63 16 1 0 10 1 (.u32) .V .r .r .r (.num 0) (.any),
  -- CX.118.0B HICUT
  row 0x118 63 16 1 0 11 1 (.u16) .V .r .r .r (.num 0) (.any),
  -- CX.118.0C MUTE_ATTEN
  row 0x118 63 16 1 0 12 1 (.level) .V .r .r .r (.num 0) (.any),
  -- CX.118.0D SYNC_LOCK
  row 0x118 63 16 1 0 13 1 (.bool) .V .r .r .r (.num 0) (.any),
  -- CX.118.0E AUDIO_SAT
  row 0x118 63 16 1 0 14 1 (.u32) .V .r .r .r (.num 0) (.any),
  -- CX.118.0F Q_TIME
  row 0x118 63 16 1 0 15 1 (.time64) .V .r .r .r (.num 0) (.any),
  -- CX.119.00 RDS_ENABLE
  row 0x119 63 16 1 0 0 1 (.u8) .V .rw .rw .rw (.num 15) (.bits 0xF),
  -- CX.119.01 RDS_ERR_MAX
  row 0x119 63 16 1 0 1 1 (.u8) .V .rw .rw .rw (.num 2) (.range (0) (5)),
  -- CX.119.02 RDS_SYNC
  row 0x119 63 16 1 0 2 1 (.u8) .V .r .r .r (.num 0) (.any),
  -- CX.119.03 RDS_BLOCKS
  row 0x119 63 16 1 0 3 1 (.u32) .V .r .r .r (.num 0) (.any),
  -- CX.119.04 RDS_UNCORR
  row 0x119 63 16 1 0 4 1 (.u32) .V .r .r .r (.num 0) (.any),
  -- CX.119.05 MEAS_WINDOW_MS
  row 0x119 63 16 1 0 5 1 (.u16) .V .rw .rw .rw (.num 1000) (.range (10) (60000)),
  -- CX.119.06 DEV_REF
  row 0x119 63 16 1 0 6 1 (.u32) .V .rw .rw .rw (.num 75000) (.range (10000) (200000)),
  -- CX.119.07 MPX_POWER
  row 0x119 63 16 1 0 7 1 (.level) .V .r .r .r (.num (-32768)) (.any),
  -- CX.119.08 DEV_EXCEED
  row 0x119 63 16 1 0 8 1 (.u32) .V .r .r .r (.num 0) (.any),
  -- CX.11A.00 D_LEVEL
  row 0x11A 63 16 1 0 0 1 (.level) .V .r .r .r (.num (-32768)) (.any),
  -- CX.11A.01 D_SNR
  row 0x11A 63 16 1 0 1 1 (.level) .V .r .r .r (.num (-32768)) (.any),
  -- CX.11A.02 D_MER
  row 0x11A 63 16 1 0 2 1 (.level) .V .r .r .r (.num (-32768)) (.any),
  -- CX.11A.03 D_OFFSET
  row 0x11A 63 16 1 0 3 1 (.s32) .V .r .r .r (.num 0) (.any),
  -- CX.11A.04 D_DELAY_SPREAD
  row 0x11A 63 16 1 0 4 1 (.u32) .V .r .r .r (.num 0) (.any),
  -- CX.11A.05 D_MODE
  row 0x11A 63 16 1 0 5 1 (.enum8) .V .r .r .r (.num 0) (.any),
  -- CX.11A.06 D_PARAM
  row 0x11A 63 16 1 0 6 1 (.u8) .V .r .r .r (.num 0) (.any),
  -- CX.11A.07 D_CDNO
  row 0x11A 63 16 1 0 7 1 (.level) .V .r .r .r (.num (-32768)) (.any),
  -- CX.11A.08 D_SYNC_FAIL
  row 0x11A 63 16 1 0 8 1 (.u32) .V .r .r .r (.num 0) (.any),
  -- CX.11A.09 D_RECONFIG
  row 0x11A 63 16 1 0 9 1 (.u32) .V .r .r .r (.num 0) (.any),
  -- CX.11A.0A D_TIME
  row 0x11A 63 16 1 0 10 1 (.time64) .V .r .r .r (.num 0) (.any),
  -- CX.11B.00 DAB_MODES
  row 0x11B 63 16 1 0 0 1 (.u8) .V .rw .rw .rw (.num 15) (.bitsNZ 0xF),
  -- CX.11B.01 SUBCH_FRAMES
  row 0x11B 63 16 1 0 1 1 (.u64) .V .rw .rw .rw (.num 0) (.any),
  -- CX.11B.02 PKT_FRAMES
  row 0x11B 63 16 1 0 2 1 (.u64) .V .rw .rw .rw (.num 0) (.any),
  -- CX.11B.03 FIB_FRAMES
  row 0x11B 63 16 1 0 3 1 (.bool) .V .rw .rw .rw (.num 1) (.any),
  -- CX.11B.04 TII_MAX
  row 0x11B 63 16 1 0 4 1 (.u8) .V .rw .rw .rw (.num 8) (.range (0) (8)),
  -- CX.11B.05 EID
  row 0x11B 63 16 1 0 5 1 (.u16) .V .r .r .r (.num 0) (.any),
  -- CX.11B.06 CIF_COUNT
  row 0x11B 63 16 1 0 6 1 (.u16) .V .r .r .r (.num 0) (.any)]

/-- Objects of area CX (Tables 4.9, 4.10, 6.12, 7.20 and 7.21), part 4. -/
def rowsCX3 : List Row := [
  -- CX.11C.00 DRM_MODES
  row 0x11C 63 16 1 0 0 1 (.u8) .V .rw .rw .rw (.num 15) (.bitsNZ 0xF),
  -- CX.11C.01 STREAM_FRAMES
  row 0x11C 63 16 1 0 1 1 (.u8) .V .rw .rw .rw (.num 0) (.bits 0xF),
  -- CX.11C.02 FAC_FRAMES
  row 0x11C 63 16 1 0 2 1 (.bool) .V .rw .rw .rw (.num 1) (.any),
  -- CX.11C.03 DRM_INTERLEAVE
  row 0x11C 63 16 1 0 3 1 (.enum8) .V .r .r .r (.num 0) (.any),
  -- CX.11C.04 DRM_MSC_MAP
  row 0x11C 63 16 1 0 4 1 (.enum8) .V .r .r .r (.num 0) (.any),
  -- CX.11C.05 DRM_SERVICES
  row 0x11C 63 16 1 0 5 1 (.u8) .V .r .r .r (.num 0) (.any),
  -- CX.11D.00 LC_FRAMES
  row 0x11D 63 16 1 0 0 1 (.u16) .V .rw .rw .rw (.num 0) (.bits 0xFFE),
  -- CX.11D.01 AUDIO_FRAMES
  row 0x11D 63 16 1 0 1 1 (.u8) .V .rw .rw .rw (.num 0) (.any),
  -- CX.11D.02 PSD_FRAMES
  row 0x11D 63 16 1 0 2 1 (.u8) .V .rw .rw .rw (.num 255) (.any),
  -- CX.11D.03 NR_SMODE
  row 0x11D 63 16 1 0 3 1 (.enum8) .V .r .r .r (.num 0) (.any),
  -- CX.11D.04 NR_ALFN
  row 0x11D 63 16 1 0 4 1 (.u32) .V .r .r .r (.num 0) (.any),
  -- CX.11D.05 NR_PROGRAMS
  row 0x11D 63 16 1 0 5 1 (.u8) .V .r .r .r (.num 0) (.any),
  -- CX.11E.00–03 SEL_ID
  row 0x11E 63 16 1 0 0 4 (.u32) .V .rw .rw .rw (.num 0) (.range (0) (0x01FFFFFF)),
  -- CX.11E.04–07 SEL_MODE
  row 0x11E 63 16 1 0 4 4 (.enum8) .V .rw .rw .rw (.num 0) (.range (0) (3)),
  -- CX.11E.08–0B SEL_STATE
  row 0x11E 63 16 1 0 8 4 (.enum8) .V .r .r .r (.num 0) (.any),
  -- CX.11E.0C–0F SEL_CODEC
  row 0x11E 63 16 1 0 12 4 (.enum8) .V .r .r .r (.num 0) (.any),
  -- CX.11F.00–03 DEC_SLOT
  row 0x11F 63 16 1 0 0 4 (.u8) .V .r .r .r (.num 255) (.any),
  -- CX.11F.04–07 DEC_LAG
  row 0x11F 63 16 1 0 4 4 (.u64) .V .r .r .r (.num 0) (.any),
  -- CX.11F.08–0B DEC_ERR
  row 0x11F 63 16 1 0 8 4 (.u32) .V .r .r .r (.num 0) (.any),
  -- CX.11F.0C–0F DEC_FS
  row 0x11F 63 16 1 0 12 4 (.u32) .V .r .r .r (.num 0) (.any),
  -- CX.002.00 DEC_USED
  row 0x2 1 0 1 0 0 1 (.u8) .V .r .r .r (.num 0) (.any),
  -- CX.002.01 DEC_CAPACITY
  row 0x2 1 0 1 0 1 1 (.u8) .V .r .r .r (.num 32) (.any),
  -- CX.002.02 DEC_WAITING
  row 0x2 1 0 1 0 2 1 (.u8) .V .r .r .r (.num 0) (.any),
  -- CX.002.03 DEC_PREEMPTED
  row 0x2 1 0 1 0 3 1 (.u32) .S .r .r .r (.num 0) (.any),
  -- CX.002.04 DEC_GRANTS
  row 0x2 1 0 1 0 4 1 (.u32) .S .r .r .r (.num 0) (.any)]

/-- Objects of area CX. -/
def rowsCX : List Row := rowsCX0 ++ rowsCX1 ++ rowsCX2 ++ rowsCX3

/-- Objects of area WT (Tables 5.12 to 5.14). -/
def rowsWT : List Row := [
  -- WT.000.00 WATCH_STATE
  row 0x0 1 0 1 0 0 1 (.enum8) .V .r .r .r (.num 0) (.any),
  -- WT.000.01 PERIOD_US
  row 0x0 1 0 1 0 1 1 (.u32) .V .r .r .r (.num 0) (.any),
  -- WT.000.02 PERIOD_INDEX
  row 0x0 1 0 1 0 2 1 (.u64) .V .r .r .r (.num 0) (.any),
  -- WT.000.03 LATE_NS
  row 0x0 1 0 1 0 3 1 (.u32) .V .r .r .r (.num 0) (.any),
  -- WT.000.04 LATE_RUN
  row 0x0 1 0 1 0 4 1 (.u8) .V .r .r .r (.num 0) (.any),
  -- WT.000.05 LATE_COUNT
  row 0x0 1 0 1 0 5 1 (.u32) .S .r .r .r (.num 0) (.any),
  -- WT.000.06 SHED_COUNT
  row 0x0 1 0 1 0 6 1 (.u32) .S .r .r .r (.num 0) (.any),
  -- WT.000.07 STORM_COUNT
  row 0x0 1 0 1 0 7 1 (.u32) .S .r .r .r (.num 0) (.any),
  -- WT.000.08 RESYNC_COUNT
  row 0x0 1 0 1 0 8 1 (.u32) .S .r .r .r (.num 0) (.any),
  -- WT.000.09 MAX_LATE_NS
  row 0x0 1 0 1 0 9 1 (.u32) .S .r .r .r (.num 0) (.any),
  -- WT.000.0A THERM_RANK
  row 0x0 1 0 1 0 10 1 (.u8) .V .r .r .r (.num 0) (.any),
  -- WT.001.00 ACTIVATE
  row 0x1 1 0 1 0 0 1 (.enum8) .V .w .w .none (.num 0) (.oneOf [1, 2]),
  -- WT.001.01 ACT_RESULT
  row 0x1 1 0 1 0 1 1 (.enum8) .V .r .r .r (.num 0) (.any),
  -- WT.001.02 RUN_BANK
  row 0x1 1 0 1 0 2 1 (.enum8) .V .r .r .r (.num 0) (.any),
  -- WT.001.03 BOOT_BANK
  row 0x1 1 0 1 0 3 1 (.enum8) .P .rw .rw .r (.num 1) (.oneOf [1, 2]),
  -- WT.001.04 IMAGE_ID
  row 0x1 1 0 1 0 4 1 (.u32) .V .r .r .r (.num 0) (.any),
  -- WT.001.05 IMAGE_VERSION
  row 0x1 1 0 1 0 5 1 (.u32) .V .r .r .r (.num 0) (.any),
  -- WT.001.06 IMAGE_DIGEST
  row 0x1 1 0 1 0 6 1 (.digest) .V .r .r .r (.zeros 32) (.any),
  -- WT.001.07 STORM_RETURN
  row 0x1 1 0 1 0 7 1 (.u16) .P .rw .rw .r (.num 100) (.any),
  -- WT.001.08 STORM_EXIT
  row 0x1 1 0 1 0 8 1 (.bool) .V .w .w .none (.num 0) (.any),
  -- WT.002.00–03 SLOT_MASK
  row 0x2 1 0 1 0 0 4 (.u64) .V .rw .rw .r (.num 0) (.any),
  -- WT.002.04 MASK_PERIOD
  row 0x2 1 0 1 0 4 1 (.u64) .V .r .r .r (.num 0) (.any),
  -- WT.002.05 MASK_SUPERSEDED
  row 0x2 1 0 1 0 5 1 (.u32) .S .r .r .r (.num 0) (.any),
  -- WT.100.s SLOT_STATE
  row 0x100 1 0 1 0 0 256 (.enum8) .V .r .r .r (.num 0) (.any),
  -- WT.101.s SLOT_LAST_US
  row 0x101 1 0 1 0 0 256 (.u16) .V .r .r .r (.num 0) (.any),
  -- WT.102.s SLOT_OVERRUNS
  row 0x102 1 0 1 0 0 256 (.u32) .S .r .r .r (.num 0) (.any),
  -- WT.103.s SLOT_SHED
  row 0x103 1 0 1 0 0 256 (.u32) .S .r .r .r (.num 0) (.any),
  -- WT.003.00 EARLY_ENABLE
  row 0x3 1 0 1 0 0 1 (.bool) .P .rw .rw .r (.num 1) (.any),
  -- WT.003.01 EARLY_TYPE
  row 0x3 1 0 1 0 1 1 (.enum8) .P .rw .rw .r (.num 1) (.oneOf [1, 2]),
  -- WT.003.02 EARLY_RF
  row 0x3 1 0 1 0 2 1 (.freq) .P .rw .rw .r (.num 0) (.any),
  -- WT.003.03 EARLY_DOOR
  row 0x3 1 0 1 0 3 1 (.enum8) .P .rw .rw .r (.num 1) (.oneOf [0, 1]),
  -- WT.003.04 EARLY_CHAINS
  row 0x3 1 0 1 0 4 1 (.u8) .P .rw .rw .r (.num 1) (.bitsNZ 0x3F),
  -- WT.003.05 EARLY_TRACK
  row 0x3 1 0 1 0 5 1 (.bool) .P .rw .rw .r (.num 1) (.any)]

/-- Objects of area LL (Tables 9.12), part 1. -/
def rowsLL0 : List Row := [
  -- LL.000.00 LL_STATE
  row 0x0 1 0 1 0 0 1 (.enum8) .V .r .r .r (.num 0) (.any),
  -- LL.000.01 LL_ACTIVATE
  row 0x0 1 0 1 0 1 1 (.enum8) .V .w .w .none (.num 0) (.oneOf [1, 2]),
  -- LL.000.02 LL_ACT_RESULT
  row 0x0 1 0 1 0 2 1 (.enum8) .V .r .r .r (.num 0) (.any),
  -- LL.000.03 LL_RUN_BANK
  row 0x0 1 0 1 0 3 1 (.enum8) .V .r .r .r (.num 0) (.any),
  -- LL.000.04 LL_BOOT_BANK
  row 0x0 1 0 1 0 4 1 (.enum8) .P .rw .rw .r (.num 1) (.oneOf [1, 2]),
  -- LL.000.05 LL_IMAGE_ID
  row 0x0 1 0 1 0 5 1 (.u32) .V .r .r .r (.num 0) (.any),
  -- LL.000.06 LL_VERSION
  row 0x0 1 0 1 0 6 1 (.u32) .V .r .r .r (.num 0) (.any),
  -- LL.000.07 LL_ROOT
  row 0x0 1 0 1 0 7 1 (.digest) .V .r .r .r (.zeros 32) (.any),
  -- LL.000.08 LL_RECORDS
  row 0x0 1 0 1 0 8 1 (.u32) .V .r .r .r (.num 0) (.any),
  -- LL.000.09 LL_SERVICES
  row 0x0 1 0 1 0 9 1 (.u32) .V .r .r .r (.num 0) (.any),
  -- LL.000.0A LL_CACHE_BLOCKS
  row 0x0 1 0 1 0 10 1 (.u8) .P .rw .rw .r (.num 16) (.range (4) (32)),
  -- LL.000.0B LL_CACHE_MISS
  row 0x0 1 0 1 0 11 1 (.u32) .S .r .r .r (.num 0) (.any),
  -- LL.000.0C LL_BLOCK_FAIL
  row 0x0 1 0 1 0 12 1 (.u32) .S .r .r .r (.num 0) (.any),
  -- LL.000.0D LL_BLOCKS_BAD
  row 0x0 1 0 1 0 13 1 (.u16) .V .r .r .r (.num 0) (.any),
  -- LL.000.0E LL_LOOKUP_MAX_US
  row 0x0 1 0 1 0 14 1 (.u32) .S .r .r .r (.num 0) (.any),
  -- LL.000.0F LL_EVENT_CAUSE
  row 0x0 1 0 1 0 15 1 (.enum8) .V .r .r .r (.num 0) (.any),
  -- LL.001.00 POS_LAT
  row 0x1 1 0 1 0 0 1 (.s32) .V .rw .rw .rw (.num (-2147483648)) (.rangeOr (-900000000) (900000000) (-2147483648)),
  -- LL.001.01 POS_LON
  row 0x1 1 0 1 0 1 1 (.s32) .V .rw .rw .rw (.num 0) (.range (-1800000000) (1800000000)),
  -- LL.001.02 POS_ALT
  row 0x1 1 0 1 0 2 1 (.s32) .V .rw .rw .rw (.num 0) (.any),
  -- LL.001.03 POS_UNC
  row 0x1 1 0 1 0 3 1 (.u16) .V .rw .rw .rw (.num 65535) (.any),
  -- LL.001.04 POS_SPEED
  row 0x1 1 0 1 0 4 1 (.u16) .V .rw .rw .rw (.num 65535) (.any),
  -- LL.001.05 POS_HEADING
  row 0x1 1 0 1 0 5 1 (.u16) .V .rw .rw .rw (.num 65535) (.rangeOr (0) (35999) (65535)),
  -- LL.001.06 POS_T
  row 0x1 1 0 1 0 6 1 (.time64) .V .r .r .r (.num 0) (.any),
  -- LL.001.07 POS_STATE
  row 0x1 1 0 1 0 7 1 (.enum8) .V .r .r .r (.num 0) (.any),
  -- LL.001.08 POS_TIMEOUT_MS
  row 0x1 1 0 1 0 8 1 (.u16) .P .rw .rw .r (.num 3000) (.range (1000) (60000)),
  -- LL.001.09 CELL_LAT
  row 0x1 1 0 1 0 9 1 (.s16) .V .r .r .r (.num 0) (.any),
  -- LL.001.0A CELL_LON
  row 0x1 1 0 1 0 10 1 (.s16) .V .r .r .r (.num 0) (.any),
  -- LL.001.0B CELL_HYST_M
  row 0x1 1 0 1 0 11 1 (.u16) .P .rw .rw .r (.num 100) (.range (0) (1000)),
  -- LL.001.0C LOOKAHEAD_S
  row 0x1 1 0 1 0 12 1 (.u8) .P .rw .rw .r (.num 30) (.any),
  -- LL.002.00 REC_INDEX
  row 0x2 1 0 1 0 0 1 (.u32) .V .rw .rw .rw (.num 0) (.any),
  -- LL.002.01 REC_DATA
  row 0x2 1 0 1 0 1 1 (.blob 48) .V .r .r .r (.zeros 0) (.any),
  -- LL.002.02 SVC_INDEX
  row 0x2 1 0 1 0 2 1 (.u32) .V .rw .rw .rw (.num 0) (.any),
  -- LL.002.03 SVC_DATA
  row 0x2 1 0 1 0 3 1 (.blob 32) .V .r .r .r (.zeros 0) (.any),
  -- LL.003.00 CORR_WINDOW_MS
  row 0x3 1 0 1 0 0 1 (.u16) .P .rw .rw .r (.num 2000) (.range (500) (8000)),
  -- LL.003.01 CORR_MIN
  row 0x3 1 0 1 0 1 1 (.q15) .P .rw .rw .r (.num 16384) (.range (3277) (32440)),
  -- LL.003.02 CORR_REFRESH_S
  row 0x3 1 0 1 0 2 1 (.u16) .P .rw .rw .r (.num 10) (.range (1) (600)),
  -- LL.003.03 GAIN_LIMIT
  row 0x3 1 0 1 0 3 1 (.level) .P .rw .rw .r (.num 1200) (.range (0) (2000)),
  -- LL.003.04 ID_TIMEOUT_MS
  row 0x3 1 0 1 0 4 1 (.u16) .P .rw .rw .r (.num 3000) (.range (500) (30000)),
  -- LL.003.05 FAIL_BACKOFF_S
  row 0x3 1 0 1 0 5 1 (.u16) .P .rw .rw .r (.num 60) (.any),
  -- LL.003.06 FALLBACK_MIN_LEVEL
  row 0x3 1 0 1 0 6 1 (.level) .P .rw .rw .r (.num (-9500)) (.any)]

/-- Objects of area LL (Tables 9.12), part 2. -/
def rowsLL1 : List Row := [
  -- LL.003.07 RULES_SOURCE
  row 0x3 1 0 1 0 7 1 (.enum8) .V .r .r .r (.num 0) (.any),
  -- LL.010.f FOLLOW_ENABLE
  row 0x10 1 0 1 0 0 2 (.bool) .P .rw .rw .r (.num 0) (.any),
  -- LL.011.f FOLLOW_FAMILY
  row 0x11 1 0 1 0 0 2 (.u32) .P .rw .rw .r (.num 0) (.any),
  -- LL.012.f FOLLOW_STD
  row 0x12 1 0 1 0 0 2 (.enum8) .P .rw .rw .r (.num 0) (.oneOf [0, 1, 2]),
  -- LL.013.f FOLLOW_ID
  row 0x13 1 0 1 0 0 2 (.u32) .P .rw .rw .r (.num 0) (.any),
  -- LL.014.f FOLLOW_CLASSES
  row 0x14 1 0 1 0 0 2 (.u8) .P .rw .rw .r (.num 15) (.bitsNZ 0xF),
  -- LL.015.f FOLLOW_CHAINS
  row 0x15 1 0 1 0 0 2 (.u8) .P .rw .rw .r (.num 3) (.bitsNZ 0x3F),
  -- LL.016.f SHADOW_MAX
  row 0x16 1 0 1 0 0 2 (.u8) .P .rw .rw .r (.num 2) (.range (0) (4)),
  -- LL.017.f FOLLOW_DELAY
  row 0x17 1 0 1 0 0 2 (.u32) .P .rw .rw .r (.num 96000) (.range (0) (192000)),
  -- LL.018.f HOLDOFF_MS
  row 0x18 1 0 1 0 0 2 (.u16) .P .rw .rw .r (.num 5000) (.any),
  -- LL.019.f FOLLOW_STATE
  row 0x19 1 0 1 0 0 2 (.enum8) .V .r .r .r (.num 0) (.any),
  -- LL.01A.f ACTIVE_CONTEXT
  row 0x1A 1 0 1 0 0 2 (.u8) .V .r .r .r (.num 0) (.any),
  -- LL.01B.f SHADOW_CONTEXTS
  row 0x1B 1 0 1 0 0 2 (.u32) .V .r .r .r (.num 0) (.any),
  -- LL.01C.f CAND_SOURCE
  row 0x1C 1 0 1 0 0 2 (.enum8) .V .r .r .r (.num 0) (.any),
  -- LL.01D.f OUT_DELAY
  row 0x1D 1 0 1 0 0 2 (.u32) .V .r .r .r (.num 0) (.any),
  -- LL.01E.f OUT_GAIN
  row 0x1E 1 0 1 0 0 2 (.level) .V .r .r .r (.num 0) (.any),
  -- LL.01F.f LAST_LAG
  row 0x1F 1 0 1 0 0 2 (.s32) .V .r .r .r (.num 0) (.any),
  -- LL.020.f SWITCH_COUNT
  row 0x20 1 0 1 0 0 2 (.u32) .S .r .r .r (.num 0) (.any),
  -- LL.021.f UNALIGNED
  row 0x21 1 0 1 0 0 2 (.u32) .S .r .r .r (.num 0) (.any),
  -- LL.022.f NO_ROOM
  row 0x22 1 0 1 0 0 2 (.u32) .S .r .r .r (.num 0) (.any),
  -- LL.023.f CAND_COUNT
  row 0x23 1 0 1 0 0 2 (.u8) .V .r .r .r (.num 0) (.any),
  -- LL.024.f LAST_SWITCH
  row 0x24 1 0 1 0 0 2 (.time64) .V .r .r .r (.num 0) (.any)]

/-- Objects of area LL. -/
def rowsLL : List Row := rowsLL0 ++ rowsLL1

/-- Objects of area SD (Tables 8.14), part 1. -/
def rowsSD0 : List Row := [
  -- SD.000.00 RDS_STANDARD
  row 0x0 1 0 1 0 0 1 (.enum8) .P .rw .rw .r (.num 0) (.oneOf [0, 1]),
  -- SD.000.01 GROUP_MODE
  row 0x0 1 0 1 0 1 1 (.enum8) .P .rw .rw .r (.num 1) (.oneOf [0, 1]),
  -- SD.000.02 FIG_MODE
  row 0x0 1 0 1 0 2 1 (.enum8) .P .rw .rw .r (.num 0) (.oneOf [0, 1]),
  -- SD.000.03 MOT_MAX_KIB
  row 0x0 1 0 1 0 3 1 (.u16) .P .rw .rw .r (.num 1024) (.range (64) (1024)),
  -- SD.000.04 MOT_DISCARDED
  row 0x0 1 0 1 0 4 1 (.u32) .S .r .r .r (.num 0) (.any),
  -- SD.000.05 DUP_SUPPRESSED
  row 0x0 1 0 1 0 5 1 (.u32) .S .r .r .r (.num 0) (.any),
  -- SD.000.06 MOT_FRAG_BYTES
  row 0x0 1 0 1 0 6 1 (.u16) .P .rw .rw .r (.num 32768) (.range (1024) (32768)),
  -- SD.001.00 SVC_COUNT
  row 0x1 1 0 1 0 0 1 (.u16) .V .r .r .r (.num 0) (.any),
  -- SD.001.01 SVC_CAPACITY
  row 0x1 1 0 1 0 1 1 (.u16) .V .r .r .r (.num 1024) (.any),
  -- SD.001.02 SVC_AGE_S
  row 0x1 1 0 1 0 2 1 (.u16) .P .rw .rw .r (.num 60) (.any),
  -- SD.001.03 SVC_DUMP
  row 0x1 1 0 1 0 3 1 (.bool) .V .w .w .w (.num 0) (.any),
  -- SD.001.04 SVC_FULL
  row 0x1 1 0 1 0 4 1 (.u32) .S .r .r .r (.num 0) (.any),
  -- SD.002.00 BT_UTC
  row 0x2 1 0 1 0 0 1 (.s64) .V .r .r .r (.num 0) (.any),
  -- SD.002.01 BT_OFFSET
  row 0x2 1 0 1 0 1 1 (.s16) .V .r .r .r (.num (-32768)) (.any),
  -- SD.002.02 BT_CONTEXT
  row 0x2 1 0 1 0 2 1 (.u8) .V .r .r .r (.num 0) (.any),
  -- SD.002.03 BT_T_RX
  row 0x2 1 0 1 0 3 1 (.time64) .V .r .r .r (.num 0) (.any),
  -- SD.010.k FH_ACTION
  row 0x10 1 0 1 0 0 4 (.enum8) .P .rw .rw .r (.tab [1, 2, 2, 2]) (.oneOf [0, 1, 2]),
  -- SD.011.k FH_PRIORITY
  row 0x11 1 0 1 0 0 4 (.u8) .P .rw .rw .r (.tab [3, 7, 7, 7]) (.range (0) (7)),
  -- SD.012.k FH_PORTS
  row 0x12 1 0 1 0 0 4 (.u8) .P .rw .rw .r (.num 1) (.any),
  -- SD.013.k FH_AVTP
  row 0x13 1 0 1 0 0 4 (.u64) .P .rw .rw .r (.num 0) (.any),
  -- SD.014.k FH_WAKE
  row 0x14 1 0 1 0 0 4 (.bool) .P .rw .rw .r (.tab [0, 1, 1, 1]) (.any),
  -- SD.015.k FH_DISMISSABLE
  row 0x15 1 0 1 0 0 4 (.bool) .P .rw .rw .r (.tab [1, 0, 0, 0]) (.any),
  -- SD.016.k FH_XFADE_MS
  row 0x16 1 0 1 0 0 4 (.u16) .P .rw .rw .r (.num 20) (.range (0) (1000)),
  -- SD.017.00 FH_CONFIRM
  row 0x17 1 0 1 0 0 1 (.u8) .P .rw .rw .r (.num 2) (.range (1) (8)),
  -- SD.017.01 LOC_FILTER
  row 0x17 1 0 1 0 1 1 (.bool) .P .rw .rw .r (.num 0) (.any),
  -- SD.017.02 FH_COUNT
  row 0x17 1 0 1 0 2 1 (.u32) .S .r .r .r (.num 0) (.any),
  -- SD.017.03 FH_OVERFLOW
  row 0x17 1 0 1 0 3 1 (.u32) .S .r .r .r (.num 0) (.any),
  -- SD.017.04 FH_NO_ROOM
  row 0x17 1 0 1 0 4 1 (.u32) .S .r .r .r (.num 0) (.any),
  -- SD.017.05 FH_NO_DECODER
  row 0x17 1 0 1 0 5 1 (.u32) .S .r .r .r (.num 0) (.any),
  -- SD.018.00–07 LOCATION
  row 0x18 1 0 1 0 0 8 (.u32) .P .rw .rw .r (.num 0) (.any),
  -- SD.020.w WARN_STATE
  row 0x20 1 0 1 0 0 8 (.enum8) .V .r .r .r (.num 0) (.any),
  -- SD.021.w WARN_CLASS
  row 0x21 1 0 1 0 0 8 (.enum8) .V .r .r .r (.num 0) (.any),
  -- SD.022.w WARN_CONTEXT
  row 0x22 1 0 1 0 0 8 (.u8) .V .r .r .r (.num 0) (.any),
  -- SD.023.w WARN_SID
  row 0x23 1 0 1 0 0 8 (.u32) .V .r .r .r (.num 0) (.any),
  -- SD.024.w WARN_T_START
  row 0x24 1 0 1 0 0 8 (.time64) .V .r .r .r (.num 0) (.any),
  -- SD.025.w WARN_PORTS
  row 0x25 1 0 1 0 0 8 (.u8) .V .r .r .r (.num 0) (.any),
  -- SD.026.w WARN_DISMISS
  row 0x26 1 0 1 0 0 8 (.bool) .V .w .w .none (.num 0) (.any),
  -- SD.027.w WARN_END_CAUSE
  row 0x27 1 0 1 0 0 8 (.enum8) .V .r .r .r (.num 0) (.any),
  -- SD.300.s SD_STREAM_ENABLE
  row 0x300 1 0 1 0 0 8 (.bool) .P .rw .rw .r (.num 0) (.any),
  -- SD.301.s SD_STREAM_CONTEXTS
  row 0x301 1 0 1 0 0 8 (.u64) .P .rw .rw .r (.num 18446744073709551615) (.any)]

/-- Objects of area SD (Tables 8.14), part 2. -/
def rowsSD1 : List Row := [
  -- SD.302.s SD_STREAM_TYPES
  row 0x302 1 0 1 0 0 8 (.u16) .P .rw .rw .r (.num 255) (.any),
  -- SD.303.s SD_STREAM_SEQ
  row 0x303 1 0 1 0 0 8 (.u32) .V .r .r .r (.num 0) (.any),
  -- SD.304.s SD_STREAM_STALLS
  row 0x304 1 0 1 0 0 8 (.u32) .S .r .r .r (.num 0) (.any)]

/-- Objects of area SD. -/
def rowsSD : List Row := rowsSD0 ++ rowsSD1

/-- Objects of area MF (Tables 10.10 and R299), part 1. -/
def rowsMF0 : List Row := [
  -- MF.000.00 MF_CHANNELS
  row 0x0 1 0 1 0 0 1 (.u16) .V .r .r .r (.num 0) (.any),
  -- MF.000.01 SWEEP_FILTERED
  row 0x0 1 0 1 0 1 1 (.u16) .V .r .r .r (.num 0) (.any),
  -- MF.000.02 SWEEP_UNFILTERED
  row 0x0 1 0 1 0 2 1 (.u32) .V .r .r .r (.num 0) (.any),
  -- MF.000.03 SUPERSEDED
  row 0x0 1 0 1 0 3 1 (.u32) .S .r .r .r (.num 0) (.any),
  -- MF.001.00–03 THR_PENDING
  row 0x1 1 0 1 0 0 4 (.u64) .V .rw .rw .rw (.num 0) (.any),
  -- MF.010.00 READ_CHANNEL
  row 0x10 1 0 1 0 0 1 (.u16) .V .rw .rw .rw (.num 65535) (.channel),
  -- MF.010.01 READ_VALUE
  row 0x10 1 0 1 0 1 1 (.s32) .V .r .r .r (.num 0) (.any),
  -- MF.010.02 READ_FLAGS
  row 0x10 1 0 1 0 2 1 (.u8) .V .r .r .r (.num 0) (.any),
  -- MF.010.03 READ_TIME
  row 0x10 1 0 1 0 3 1 (.time64) .V .r .r .r (.num 0) (.any),
  -- MF.101.00–05 MEDIAN
  row 0x101 63 1 1 0 0 6 (.u8) .V .rw .rw .rw (.num 0) (.oneOf [0, 1, 3, 5, 7, 9, 15]),
  -- MF.101.00–05 MEDIAN
  row 0x200 6 1 1 0 0 2 (.u8) .P .rw .rw .r (.num 0) (.oneOf [0, 1, 3, 5, 7, 9, 15]),
  -- MF.101.00–05 MEDIAN
  row 0x300 64 1 1 0 0 3 (.u8) .P .rw .rw .r (.num 0) (.oneOf [0, 1, 3, 5, 7, 9, 15]),
  -- MF.101.08–0D PRESET
  row 0x101 63 1 1 0 8 6 (.enum8) .V .rw .rw .rw (.num 2) (.range (0) (4)),
  -- MF.101.08–0D PRESET
  row 0x200 6 1 1 0 8 2 (.enum8) .P .rw .rw .r (.num 2) (.range (0) (4)),
  -- MF.101.08–0D PRESET
  row 0x300 64 1 1 0 8 3 (.enum8) .P .rw .rw .r (.num 2) (.range (0) (4)),
  -- MF.101.10–15 OUT_MS
  row 0x101 63 1 1 0 16 6 (.u16) .V .rw .rw .rw (.num 10) (.range (1) (60000)),
  -- MF.101.10–15 OUT_MS
  row 0x200 6 1 1 0 16 2 (.u16) .P .rw .rw .r (.tab [10, 1000]) (.range (1) (60000)),
  -- MF.101.10–15 OUT_MS
  row 0x300 64 1 1 0 16 3 (.u16) .P .rw .rw .r (.num 10) (.range (1) (60000)),
  -- MF.101.18–1D XFADE
  row 0x101 63 1 1 0 24 6 (.u16) .V .rw .rw .rw (.num 64) (.range (0) (1024)),
  -- MF.101.18–1D XFADE
  row 0x200 6 1 1 0 24 2 (.u16) .P .rw .rw .r (.num 64) (.range (0) (1024)),
  -- MF.101.18–1D XFADE
  row 0x300 64 1 1 0 24 3 (.u16) .P .rw .rw .r (.num 64) (.range (0) (1024)),
  -- MF.101.20–25 DOMAIN
  row 0x101 63 1 1 0 32 6 (.enum8) .V .rw .rw .rw (.num 0) (.oneOf [0, 1]),
  -- MF.101.20–25 DOMAIN
  row 0x200 6 1 1 0 32 2 (.enum8) .P .rw .rw .r (.num 0) (.oneOf [0, 1]),
  -- MF.101.20–25 DOMAIN
  row 0x300 64 1 1 0 32 3 (.enum8) .P .rw .rw .r (.num 0) (.oneOf [0, 1]),
  -- MF.101.28–2D STREAMS
  row 0x101 63 1 1 0 40 6 (.u8) .V .rw .rw .rw (.num 0) (.any),
  -- MF.101.28–2D STREAMS
  row 0x200 6 1 1 0 40 2 (.u8) .P .rw .rw .r (.num 0) (.any),
  -- MF.101.28–2D STREAMS
  row 0x300 64 1 1 0 40 3 (.u8) .P .rw .rw .r (.num 0) (.any),
  -- MF.101.30–35 VALUE
  row 0x101 63 1 1 0 48 6 (.s32) .V .r .r .r (.num 0) (.any),
  -- MF.101.30–35 VALUE
  row 0x200 6 1 1 0 48 2 (.s32) .V .r .r .r (.num 0) (.any),
  -- MF.101.38–3D OFLAGS
  row 0x101 63 1 1 0 56 6 (.u8) .V .r .r .r (.num 0) (.any),
  -- MF.101.38–3D OFLAGS
  row 0x200 6 1 1 0 56 2 (.u8) .V .r .r .r (.num 0) (.any),
  -- MF.101.40–45 T_OUT
  row 0x101 63 1 1 0 64 6 (.time64) .V .r .r .r (.num 0) (.any),
  -- MF.101.40–45 T_OUT
  row 0x200 6 1 1 0 64 2 (.time64) .V .r .r .r (.num 0) (.any),
  -- MF.400.t THR_CHANNEL
  row 0x400 1 0 1 0 0 256 (.u16) .P .rw .rw .rw (.num 65535) (.channel),
  -- MF.401.t THR_UPPER
  row 0x401 1 0 1 0 0 256 (.s32) .P .rw .rw .rw (.num 2147483647) (.any),
  -- MF.402.t THR_LOWER
  row 0x402 1 0 1 0 0 256 (.s32) .P .rw .rw .rw (.num (-2147483648)) (.any),
  -- MF.403.t THR_HYST
  row 0x403 1 0 1 0 0 256 (.u32) .P .rw .rw .rw (.num 0) (.any),
  -- MF.404.t THR_DWELL_MS
  row 0x404 1 0 1 0 0 256 (.u16) .P .rw .rw .rw (.num 0) (.range (0) (60000)),
  -- MF.405.t THR_STREAMS
  row 0x405 1 0 1 0 0 256 (.u8) .P .rw .rw .rw (.num 0) (.any),
  -- MF.406.t THR_NOTIFY
  row 0x406 1 0 1 0 0 256 (.bool) .P .rw .rw .rw (.num 1) (.any)]

/-- Objects of area MF (Tables 10.10 and R299), part 2. -/
def rowsMF1 : List Row := [
  -- MF.407.t THR_ZONE
  row 0x407 1 0 1 0 0 256 (.enum8) .V .r .r .r (.num 0) (.any),
  -- MF.408.t THR_T
  row 0x408 1 0 1 0 0 256 (.time64) .V .r .r .r (.num 0) (.any),
  -- MF.409.t THR_COUNT
  row 0x409 1 0 1 0 0 256 (.u32) .S .r .r .r (.num 0) (.any)]

/-- Objects of area MF. -/
def rowsMF : List Row := rowsMF0 ++ rowsMF1

/-- Objects of area AU (Tables 12.7 and 12.8), part 1. -/
def rowsAU0 : List Row := [
  -- AU.000.00 GROUP_GO
  row 0x0 1 0 1 0 0 1 (.u8) .V .w .w .w (.num 0) (.bits 0xF),
  -- AU.000.01 GROUP_AT
  row 0x0 1 0 1 0 1 1 (.time64) .V .rw .rw .rw (.num 0) (.any),
  -- AU.000.02 MCLK0_SEL
  row 0x0 1 0 1 0 2 1 (.enum8) .P .rw .rw .r (.num 0) (.range (0) (4)),
  -- AU.000.03 MCLK1_SEL
  row 0x0 1 0 1 0 3 1 (.enum8) .P .rw .rw .r (.num 0) (.range (0) (4)),
  -- AU.000.04 AVTP_CH_USED
  row 0x0 1 0 1 0 4 1 (.u16) .V .r .r .r (.num 0) (.any),
  -- AU.010.r ROUTE_SRC
  row 0x10 1 0 1 0 0 32 (.u32) .P .rw .rw .rw (.num 0) (.routeSrc),
  -- AU.011.r ROUTE_DST
  row 0x11 1 0 1 0 0 32 (.u32) .P .rw .rw .rw (.num 0) (.routeDst),
  -- AU.012.r ROUTE_MAP
  row 0x12 1 0 1 0 0 32 (.enum8) .P .rw .rw .rw (.num 0) (.range (0) (3)),
  -- AU.013.r ROUTE_GAIN
  row 0x13 1 0 1 0 0 32 (.level) .P .rw .rw .rw (.num 0) (.range (-6000) (1200)),
  -- AU.014.r ROUTE_XFADE_MS
  row 0x14 1 0 1 0 0 32 (.u16) .P .rw .rw .rw (.num 20) (.range (0) (1000)),
  -- AU.015.r ROUTE_STATE
  row 0x15 1 0 1 0 0 32 (.enum8) .V .r .r .r (.num 0) (.any),
  -- AU.016.r ROUTE_GAPS
  row 0x16 1 0 1 0 0 32 (.u32) .S .r .r .r (.num 0) (.any),
  -- AU.017.r ROUTE_T_APPLIED
  row 0x17 1 0 1 0 0 32 (.time64) .V .r .r .r (.num 0) (.any),
  -- AU.200.s AVTP_ENABLE
  row 0x200 1 0 1 0 0 63 (.bool) .P .rw .rw .r (.num 0) (.any),
  -- AU.201.s AVTP_STREAM_ID
  row 0x201 1 0 1 0 0 63 (.u64) .P .rw .rw .r (.num 0) (.any),
  -- AU.202.s AVTP_DEST
  row 0x202 1 0 1 0 0 63 (.u64) .P .rw .rw .r (.num 0) (.range (0) (281474976710655)),
  -- AU.203.s AVTP_VLAN
  row 0x203 1 0 1 0 0 63 (.u16) .P .rw .rw .r (.num 24578) (.any),
  -- AU.204.s AVTP_CH
  row 0x204 1 0 1 0 0 63 (.u8) .P .rw .rw .r (.num 2) (.range (1) (8)),
  -- AU.205.s AVTP_FORMAT
  row 0x205 1 0 1 0 0 63 (.enum8) .P .rw .rw .r (.num 1) (.oneOf [0, 1, 2]),
  -- AU.206.s AVTP_CLASS
  row 0x206 1 0 1 0 0 63 (.enum8) .P .rw .rw .r (.num 0) (.oneOf [0, 1]),
  -- AU.207.s AVTP_OFFSET
  row 0x207 1 0 1 0 0 63 (.u32) .P .rw .rw .r (.num 2000000) (.range (0) (50000000)),
  -- AU.208.s AVTP_SENT
  row 0x208 1 0 1 0 0 63 (.u32) .S .r .r .r (.num 0) (.any),
  -- AU.209.s AVTP_UNSYNC
  row 0x209 1 0 1 0 0 63 (.u32) .S .r .r .r (.num 0) (.any),
  -- AU.20A.s AVTP_SAT
  row 0x20A 1 0 1 0 0 63 (.u32) .S .r .r .r (.num 0) (.any),
  -- AU.300.r RING_DIR
  row 0x300 1 0 1 0 0 8 (.enum8) .P .rw .rw .rw (.num 0) (.oneOf [0, 1]),
  -- AU.301.r RING_CH
  row 0x301 1 0 1 0 0 8 (.u8) .P .rw .rw .rw (.num 2) (.range (1) (8)),
  -- AU.302.r RING_PACK
  row 0x302 1 0 1 0 0 8 (.enum8) .P .rw .rw .rw (.num 0) (.range (0) (3)),
  -- AU.303.r RING_FRAMES
  row 0x303 1 0 1 0 0 8 (.u16) .P .rw .rw .rw (.num 0) (.any),
  -- AU.304.r RING_ADDR
  row 0x304 1 0 1 0 0 8 (.u32) .V .r .r .r (.num 0) (.any),
  -- AU.305.r RING_WR
  row 0x305 1 0 1 0 0 8 (.u32) .V .rw .rw .rw (.num 0) (.any),
  -- AU.306.r RING_RD
  row 0x306 1 0 1 0 0 8 (.u32) .V .rw .rw .rw (.num 0) (.any),
  -- AU.307.r RING_XRUN
  row 0x307 1 0 1 0 0 8 (.u32) .S .r .r .r (.num 0) (.any),
  -- AU.10d.00 ENABLE
  row 0x100 8 32 2 1 0 1 (.bool) .P .rw .rw .r (.num 0) (.any),
  -- AU.10d.01 CLK_ROLE
  row 0x100 8 32 2 1 1 1 (.enum8) .P .rw .rw .r (.num 0) (.oneOf [0, 1]),
  -- AU.10d.02 FORMAT
  row 0x100 8 32 2 1 2 1 (.enum8) .P .rw .rw .r (.num 0) (.oneOf [0, 1, 2, 3]),
  -- AU.10d.03 SLOTS
  row 0x100 8 32 2 1 3 1 (.u8) .P .rw .rw .r (.num 2) (.range (1) (8)),
  -- AU.10d.04 SLOT_BITS
  row 0x100 8 32 2 1 4 1 (.u8) .P .rw .rw .r (.num 32) (.oneOf [16, 24, 32]),
  -- AU.10d.05 WORD_BITS
  row 0x100 8 32 2 1 5 1 (.u8) .P .rw .rw .r (.num 24) (.oneOf [16, 24, 32]),
  -- AU.10d.06 RATE
  row 0x100 8 32 2 1 6 1 (.u32) .P .rw .rw .r (.num 48000) (.any),
  -- AU.10d.07 WIRE_FLAGS
  row 0x100 8 32 2 1 7 1 (.u8) .P .rw .rw .r (.num 0) (.bits 0x1F)]

/-- Objects of area AU (Tables 12.7 and 12.8), part 2. -/
def rowsAU1 : List Row := [
  -- AU.10d.08 SLOT_MASK
  row 0x100 8 32 2 1 8 1 (.u8) .P .rw .rw .r (.num 255) (.any),
  -- AU.10d.09 BUF_FRAMES
  row 0x100 8 32 2 1 9 1 (.u16) .P .rw .rw .r (.num 64) (.zeroOrRange (8) (1024)),
  -- AU.10d.0A LEAD_FRAMES
  row 0x100 8 32 2 1 10 1 (.u16) .P .rw .rw .r (.num 32) (.range (0) (4096)),
  -- AU.10d.0B TAIL_FRAMES
  row 0x100 8 32 2 1 11 1 (.u16) .P .rw .rw .r (.num 32) (.range (0) (4096)),
  -- AU.10d.0C UNDERRUN_FILL
  row 0x100 8 32 2 1 12 1 (.enum8) .P .rw .rw .r (.num 0) (.oneOf [0, 1]),
  -- AU.10d.0D GROUP
  row 0x100 8 32 2 1 13 1 (.u8) .P .rw .rw .r (.num 0) (.range (0) (4)),
  -- AU.10d.0E RATE_TOL
  row 0x100 8 32 2 1 14 1 (.u16) .P .rw .rw .r (.num 200) (.range (1) (10000)),
  -- AU.10d.10 SIDE_STATE
  row 0x100 8 32 2 1 16 1 (.enum8) .V .r .r .r (.num 0) (.any),
  -- AU.10d.11 FRAME
  row 0x100 8 32 2 1 17 1 (.u64) .V .r .r .r (.num 0) (.any),
  -- AU.10d.12 T_FIRST
  row 0x100 8 32 2 1 18 1 (.time64) .V .r .r .r (.num 0) (.any),
  -- AU.10d.13 MEAS_RATE
  row 0x100 8 32 2 1 19 1 (.u32) .V .r .r .r (.num 0) (.any),
  -- AU.10d.14 RATE_CLASS
  row 0x100 8 32 2 1 20 1 (.u32) .V .r .r .r (.num 0) (.any),
  -- AU.10d.15 RATE_PPM
  row 0x100 8 32 2 1 21 1 (.s32) .V .r .r .r (.num 0) (.any),
  -- AU.10d.16 FILL
  row 0x100 8 32 2 1 22 1 (.u16) .V .r .r .r (.num 0) (.any),
  -- AU.10d.17 XRUN
  row 0x100 8 32 2 1 23 1 (.u32) .S .r .r .r (.num 0) (.any),
  -- AU.10d.18 LATE
  row 0x100 8 32 2 1 24 1 (.u32) .S .r .r .r (.num 0) (.any),
  -- AU.10d.19 FRAMING
  row 0x100 8 32 2 1 25 1 (.u32) .S .r .r .r (.num 0) (.any),
  -- AU.10d.1A FAULT
  row 0x100 8 32 2 1 26 1 (.enum8) .V .r .r .r (.num 0) (.any),
  -- AU.10d.1B MIX_SAT
  row 0x100 8 32 2 1 27 1 (.u32) .S .r .r .r (.num 0) (.any),
  -- AU.10d.1C MASK_FRAME
  row 0x100 8 32 2 1 28 1 (.u64) .V .r .r .r (.num 0) (.any),
  -- AU.10d.1D MASK_SUPERSEDED
  row 0x100 8 32 2 1 29 1 (.u32) .S .r .r .r (.num 0) (.any)]

/-- Objects of area AU. -/
def rowsAU : List Row := rowsAU0 ++ rowsAU1

/-- Objects of area NT (Tables 14.9). -/
def rowsNT : List Row := [
  -- NT.000.00 UDP_PORT
  row 0x0 1 0 1 0 0 1 (.u16) .P .rw .rw .r (.num 23117) (.range (1024) (65535)),
  -- NT.000.01 SESS_IDLE_S
  row 0x0 1 0 1 0 1 1 (.u16) .P .r .rw .r (.num 60) (.range (10) (3600)),
  -- NT.000.02 SESSIONS
  row 0x0 1 0 1 0 2 1 (.u8) .V .r .r .r (.num 0) (.any),
  -- NT.000.03 AUTH_FAIL
  row 0x0 1 0 1 0 3 1 (.u32) .S .r .r .r (.num 0) (.any),
  -- NT.000.04 SUBS
  row 0x0 1 0 1 0 4 1 (.u8) .V .r .r .r (.num 0) (.any),
  -- NT.000.05 NT_EVENT_CAUSE
  row 0x0 1 0 1 0 5 1 (.enum8) .V .r .r .r (.num 0) (.any),
  -- NT.001.00 T1_ENABLE
  row 0x1 1 0 1 0 0 1 (.bool) .P .rw .rw .r (.num 1) (.any),
  -- NT.001.01 T1_MAC
  row 0x1 1 0 1 0 1 1 (.u64) .K .r .r .r (.num 0) (.any),
  -- NT.001.02 T1_LINK
  row 0x1 1 0 1 0 2 1 (.enum8) .V .r .r .r (.num 0) (.any),
  -- NT.001.03 T1_IPV4
  { (row 0x1 1 0 1 0 3 1 (.u32) .P .rw .rw .r (.num 0) (.any)) with loc := true },
  -- NT.001.04 T1_PREFIX
  row 0x1 1 0 1 0 4 1 (.u8) .P .rw .rw .r (.num 24) (.range (8) (30)),
  -- NT.001.05 T1_RX_DROPPED
  row 0x1 1 0 1 0 5 1 (.u32) .S .r .r .r (.num 0) (.any),
  -- NT.002.00 T1S_ENABLE
  row 0x2 1 0 1 0 0 1 (.bool) .P .rw .rw .r (.num 1) (.any),
  -- NT.002.01 T1S_MAC
  row 0x2 1 0 1 0 1 1 (.u64) .K .r .r .r (.num 0) (.any),
  -- NT.002.02 PLCA_ENABLE
  row 0x2 1 0 1 0 2 1 (.bool) .P .rw .rw .r (.num 1) (.any),
  -- NT.002.03 PLCA_NODE_ID
  { (row 0x2 1 0 1 0 3 1 (.u8) .P .rw .rw .r (.num 1) (.range (0) (31))) with loc := true },
  -- NT.002.04 PLCA_NODE_COUNT
  row 0x2 1 0 1 0 4 1 (.u8) .P .rw .rw .r (.num 17) (.range (2) (32)),
  -- NT.002.05 PLCA_TO
  row 0x2 1 0 1 0 5 1 (.u8) .P .rw .rw .r (.num 32) (.range (1) (255)),
  -- NT.002.06 PLCA_BURST
  row 0x2 1 0 1 0 6 1 (.u8) .P .rw .rw .r (.num 0) (.any),
  -- NT.002.07 PLCA_BURST_TMR
  row 0x2 1 0 1 0 7 1 (.u8) .P .rw .rw .r (.num 128) (.range (1) (255)),
  -- NT.002.08 T1S_IPV4
  { (row 0x2 1 0 1 0 8 1 (.u32) .P .rw .rw .r (.num 0) (.any)) with loc := true },
  -- NT.002.09 T1S_STATUS
  row 0x2 1 0 1 0 9 1 (.enum8) .V .r .r .r (.num 0) (.any),
  -- NT.002.0A T1S_RX_DROPPED
  row 0x2 1 0 1 0 10 1 (.u32) .S .r .r .r (.num 0) (.any),
  -- NT.003.00 CAN_ENABLE
  row 0x3 1 0 1 0 0 1 (.bool) .P .rw .rw .r (.num 0) (.any),
  -- NT.003.01 CAN_NOM_KBPS
  row 0x3 1 0 1 0 1 1 (.u16) .P .rw .rw .r (.num 500) (.oneOf [125, 250, 500, 1000]),
  -- NT.003.02 CAN_DATA_KBPS
  row 0x3 1 0 1 0 2 1 (.u16) .P .rw .rw .r (.num 2000) (.oneOf [1000, 2000, 4000, 5000, 8000]),
  -- NT.003.03 CAN_BASE
  row 0x3 1 0 1 0 3 1 (.u8) .P .rw .rw .r (.num 90) (.any),
  -- NT.003.04 CAN_NODE
  { (row 0x3 1 0 1 0 4 1 (.u8) .P .rw .rw .r (.num 33) (.range (0) (254))) with loc := true },
  -- NT.003.05 CAN_STATE
  row 0x3 1 0 1 0 5 1 (.enum8) .V .r .r .r (.num 0) (.any),
  -- NT.003.06 CAN_RX_DROPPED
  row 0x3 1 0 1 0 6 1 (.u32) .S .r .r .r (.num 0) (.any),
  -- NT.004.00 SPI_ENABLE
  row 0x4 1 0 1 0 0 1 (.bool) .P .rw .rw .r (.num 1) (.any),
  -- NT.004.01 SPI_RX_DROPPED
  row 0x4 1 0 1 0 1 1 (.u32) .S .r .r .r (.num 0) (.any),
  -- NT.010.k SESS_ROLE
  row 0x10 1 0 1 0 0 8 (.enum8) .V .r .r .r (.num 0) (.any),
  -- NT.011.k SESS_PORT
  row 0x11 1 0 1 0 0 8 (.enum8) .V .r .r .r (.num 0) (.any),
  -- NT.012.k SESS_SOURCE
  row 0x12 1 0 1 0 0 8 (.u64) .V .r .r .r (.num 0) (.any)]

/-- Objects of area BL (Tables 15.11 and 15.12), part 1. -/
def rowsBL0 : List Row := [
  -- BL.000.00 CHANNEL_NOW
  row 0x0 1 0 1 0 0 1 (.u8) .V .r .r .r (.num 0) (.any),
  -- BL.000.01 CAPTURE_DB
  row 0x0 1 0 1 0 1 1 (.level) .P .rw .rw .r (.num 1000) (.zeroOrRange (300) (2000)),
  -- BL.000.02 DL_RETRIES
  row 0x0 1 0 1 0 2 1 (.u8) .P .rw .rw .r (.num 2) (.range (0) (7)),
  -- BL.000.03 MISS_LIMIT
  row 0x0 1 0 1 0 3 1 (.u8) .P .rw .rw .r (.num 5) (.range (1) (50)),
  -- BL.000.04 DL_PER_POLL
  row 0x0 1 0 1 0 4 1 (.u8) .P .rw .rw .r (.num 4) (.range (1) (16)),
  -- BL.000.05 LOAD_MARGIN
  row 0x0 1 0 1 0 5 1 (.level) .P .rw .rw .r (.num 300) (.range (0) (1000)),
  -- BL.000.06 MAP_REFRESH_S
  row 0x0 1 0 1 0 6 1 (.u16) .P .rw .rw .r (.num 60) (.any),
  -- BL.000.07 NOISE_TAU_MS
  row 0x0 1 0 1 0 7 1 (.u16) .P .rw .rw .r (.num 1000) (.range (10) (60000)),
  -- BL.000.08 BL_STREAMS
  row 0x0 1 0 1 0 8 1 (.u8) .P .rw .rw .r (.num 0) (.any),
  -- BL.000.09 TX_ABORTS
  row 0x0 1 0 1 0 9 1 (.u32) .S .r .r .r (.num 0) (.any),
  -- BL.000.0A ACK_OMITTED
  row 0x0 1 0 1 0 10 1 (.u32) .S .r .r .r (.num 0) (.any),
  -- BL.000.0B RXQ_LOST
  row 0x0 1 0 1 0 11 1 (.u32) .S .r .r .r (.num 0) (.any),
  -- BL.000.0C CAPTURE_LOST
  row 0x0 1 0 1 0 12 1 (.u32) .S .r .r .r (.num 0) (.any),
  -- BL.000.0D HDR_FAIL
  row 0x0 1 0 1 0 13 1 (.u32) .S .r .r .r (.num 0) (.any),
  -- BL.000.0E PREEMPTED
  row 0x0 1 0 1 0 14 1 (.u32) .S .r .r .r (.num 0) (.any),
  -- BL.000.0F POLLS_SKIPPED
  row 0x0 1 0 1 0 15 1 (.u32) .S .r .r .r (.num 0) (.any),
  -- BL.000.10 DISC_FULL
  row 0x0 1 0 1 0 16 1 (.u32) .S .r .r .r (.num 0) (.any),
  -- BL.001.00–1F TX_POWER_TABLE
  row 0x1 1 0 1 0 0 32 (.level) .P .rw .rw .r (.tab [-4000, -3860, -3720, -3580, -3440, -3300, -3160, -3020, -2880, -2740, -2600, -2460, -2320, -2180, -2040, -1900, -1760, -1620, -1480, -1340, -1200, -1060, -920, -780, -640, -500, -360, -220, -80, 60, 200, 300]) (.range (-4000) (300)),
  -- BL.002.00 FW_TARGET
  row 0x2 1 0 1 0 0 1 (.u8) .V .rw .rw .none (.num 0) (.buoy),
  -- BL.002.01 FW_SRC
  row 0x2 1 0 1 0 1 1 (.u32) .V .rw .rw .none (.num 0) (.any),
  -- BL.002.02 FW_LEN
  row 0x2 1 0 1 0 2 1 (.u32) .V .rw .rw .none (.num 0) (.range (0) (16777216)),
  -- BL.002.03 FW_CMD
  row 0x2 1 0 1 0 3 1 (.bool) .V .w .w .none (.num 0) (.any),
  -- BL.002.04 FW_STATE
  row 0x2 1 0 1 0 4 1 (.enum8) .V .r .r .r (.num 0) (.any),
  -- BL.002.05 FW_SENT
  row 0x2 1 0 1 0 5 1 (.u32) .V .r .r .r (.num 0) (.any),
  -- BL.003.00 NOISE_SEL
  row 0x3 1 0 1 0 0 1 (.u8) .V .rw .rw .rw (.num 0) (.noiseSel),
  -- BL.003.01 NOISE_DATA
  row 0x3 1 0 1 0 1 1 (.blob 128) .V .r .r .r (.zeros 0) (.any),
  -- BL.010.n LINK_ENABLE
  row 0x10 1 0 1 0 0 6 (.bool) .P .rw .rw .r (.num 0) (.any),
  -- BL.011.n DISC_RATE
  row 0x11 1 0 1 0 0 6 (.enum8) .P .rw .rw .r (.num 0) (.range (0) (5)),
  -- BL.012.n DISC_POWER
  row 0x12 1 0 1 0 0 6 (.u8) .P .rw .rw .r (.num 16) (.range (0) (31)),
  -- BL.013.n PKT_RX
  row 0x13 1 0 1 0 0 6 (.u32) .S .r .r .r (.num 0) (.any),
  -- BL.014.n PKT_TX
  row 0x14 1 0 1 0 0 6 (.u32) .S .r .r .r (.num 0) (.any),
  -- BL.100.00 BUOY_STATE
  row 0x100 24 16 1 0 0 1 (.enum8) .V .r .r .r (.num 0) (.any),
  -- BL.100.01 UID
  row 0x100 24 16 1 0 1 1 (.u64) .V .r .r .r (.num 0) (.any),
  -- BL.100.02 DL_RATE
  row 0x100 24 16 1 0 2 1 (.enum8) .P .rw .rw .r (.num 2) (.range (0) (5)),
  -- BL.100.03 TX_POWER_IDX
  row 0x100 24 16 1 0 3 1 (.u8) .P .rw .rw .r (.num 16) (.range (0) (31)),
  -- BL.100.04 MAP_ID
  row 0x100 24 16 1 0 4 1 (.u8) .V .r .r .r (.num 0) (.any),
  -- BL.100.05 MAP_BITS
  row 0x100 24 16 1 0 5 1 (.u16) .V .r .r .r (.num 0) (.any),
  -- BL.100.06 EYE_WIDTH
  row 0x100 24 16 1 0 6 1 (.u8) .V .r .r .r (.num 0) (.any),
  -- BL.100.07 RX_LEVEL
  row 0x100 24 16 1 0 7 1 (.level) .V .r .r .r (.num (-32768)) (.any),
  -- BL.100.08 SNR_MIN
  row 0x100 24 16 1 0 8 1 (.level) .V .r .r .r (.num (-32768)) (.any)]

/-- Objects of area BL (Tables 15.11 and 15.12), part 2. -/
def rowsBL1 : List Row := [
  -- BL.100.09 MISSES
  row 0x100 24 16 1 0 9 1 (.u8) .V .r .r .r (.num 0) (.any),
  -- BL.100.0A DL_SENT
  row 0x100 24 16 1 0 10 1 (.u32) .S .r .r .r (.num 0) (.any),
  -- BL.100.0B DL_NOACK
  row 0x100 24 16 1 0 11 1 (.u32) .S .r .r .r (.num 0) (.any),
  -- BL.100.0C UL_RX
  row 0x100 24 16 1 0 12 1 (.u32) .S .r .r .r (.num 0) (.any),
  -- BL.100.0D LAST_RX
  row 0x100 24 16 1 0 13 1 (.time64) .V .r .r .r (.num 0) (.any),
  -- BL.100.0E HW_FW
  row 0x100 24 16 1 0 14 1 (.u16) .V .r .r .r (.num 0) (.any),
  -- BL.101.00 DL_MSG
  row 0x101 24 16 1 0 0 1 (.blob 256) .V .w .w .w (.zeros 0) (.dlMsg),
  -- BL.101.01 DL_QUEUED
  row 0x101 24 16 1 0 1 1 (.u8) .V .r .r .r (.num 0) (.any),
  -- BL.101.02 MAP_DATA
  row 0x101 24 16 1 0 2 1 (.blob 26) .V .r .r .r (.zeros 0) (.any)]

/-- Objects of area BL. -/
def rowsBL : List Row := rowsBL0 ++ rowsBL1

/-- Objects of area TW (Tables 16.5). -/
def rowsTW : List Row := [
  -- TW.100.00 ROLE
  row 0x100 2 16 1 0 0 1 (.enum8) .P .rw .rw .r (.num 1) (.range (0) (3)),
  -- TW.100.01 SPEED
  row 0x100 2 16 1 0 1 1 (.enum8) .P .rw .rw .r (.num 1) (.oneOf [0, 1, 2]),
  -- TW.100.02 TGT_ADDR
  { (row 0x100 2 16 1 0 2 1 (.u16) .P .rw .rw .r (.num 80) (.twAddr)) with loc := true },
  -- TW.100.03 TGT_TIMEOUT_MS
  row 0x100 2 16 1 0 3 1 (.u16) .P .rw .rw .r (.num 25) (.range (0) (1000)),
  -- TW.100.04 CTL_STRETCH_MS
  row 0x100 2 16 1 0 4 1 (.u16) .P .rw .rw .r (.num 25) (.range (1) (1000)),
  -- TW.100.05 ARB_RETRIES
  row 0x100 2 16 1 0 5 1 (.u8) .P .rw .rw .r (.num 3) (.range (0) (15)),
  -- TW.100.06 IBR_ENABLE
  row 0x100 2 16 1 0 6 1 (.bool) .P .rw .rw .r (.num 0) (.any),
  -- TW.100.07 CENSUS_ENABLE
  row 0x100 2 16 1 0 7 1 (.bool) .P .rw .rw .r (.num 1) (.any),
  -- TW.100.08 WINDOW_ENABLE
  row 0x100 2 16 1 0 8 1 (.bool) .P .rw .rw .r (.num 1) (.any),
  -- TW.100.09 PORT_STATE
  row 0x100 2 16 1 0 9 1 (.enum8) .V .r .r .r (.num 0) (.any),
  -- TW.100.0A RECOVER
  row 0x100 2 16 1 0 10 1 (.bool) .V .w .w .none (.num 0) (.any),
  -- TW.100.0B FAULT_CAUSE
  row 0x100 2 16 1 0 11 1 (.enum8) .V .r .r .r (.num 0) (.any),
  -- TW.100.0C ARB_LOST_COUNT
  row 0x100 2 16 1 0 12 1 (.u32) .S .r .r .r (.num 0) (.any),
  -- TW.100.0D ARB_LAST
  row 0x100 2 16 1 0 13 1 (.u16) .V .r .r .r (.num 0) (.any),
  -- TW.100.0E STUCK_COUNT
  row 0x100 2 16 1 0 14 1 (.u32) .S .r .r .r (.num 0) (.any),
  -- TW.100.0F TGT_TIMEOUTS
  row 0x100 2 16 1 0 15 1 (.u32) .S .r .r .r (.num 0) (.any),
  -- TW.100.10 IBR_LAST
  row 0x100 2 16 1 0 16 1 (.u8) .V .r .r .r (.num 0) (.any),
  -- TW.100.11 IBR_SPURIOUS
  row 0x100 2 16 1 0 17 1 (.u32) .S .r .r .r (.num 0) (.any),
  -- TW.100.12 RX_DROPPED
  row 0x100 2 16 1 0 18 1 (.u32) .S .r .r .r (.num 0) (.any),
  -- TW.101.00 X_ADDR
  row 0x101 2 16 1 0 0 1 (.u16) .V .rw .rw .rw (.num 0) (.twAddr),
  -- TW.101.01 X_WRITE
  row 0x101 2 16 1 0 1 1 (.blob 64) .V .rw .rw .rw (.zeros 0) (.any),
  -- TW.101.02 X_READ_LEN
  row 0x101 2 16 1 0 2 1 (.u8) .V .rw .rw .rw (.num 0) (.range (0) (64)),
  -- TW.101.03 X_QUICK_DIR
  row 0x101 2 16 1 0 3 1 (.enum8) .V .rw .rw .rw (.num 0) (.oneOf [0, 1]),
  -- TW.101.04 X_GO
  row 0x101 2 16 1 0 4 1 (.bool) .V .w .w .w (.num 0) (.any),
  -- TW.101.05 X_STATE
  row 0x101 2 16 1 0 5 1 (.enum8) .V .r .r .r (.num 0) (.any),
  -- TW.101.06 X_RESULT
  row 0x101 2 16 1 0 6 1 (.enum8) .V .r .r .r (.num 0) (.any),
  -- TW.101.07 X_READ
  row 0x101 2 16 1 0 7 1 (.blob 64) .V .r .r .r (.zeros 0) (.any),
  -- TW.101.08 X_ACKED
  row 0x101 2 16 1 0 8 1 (.u8) .V .r .r .r (.num 0) (.any),
  -- TW.101.09 X_T_DONE
  row 0x101 2 16 1 0 9 1 (.time64) .V .r .r .r (.num 0) (.any)]

/-- Objects of area KP (Tables 17.17). -/
def rowsKP : List Row := [
  -- KP.000.k CORE_STATE
  row 0x0 1 0 1 0 0 4 (.enum8) .V .r .r .r (.num 0) (.any),
  -- KP.001.k HALT_CAUSE
  row 0x1 1 0 1 0 0 4 (.u32) .V .r .r .r (.num 0) (.any),
  -- KP.002.00 CODE_POOL_FREE
  row 0x2 1 0 1 0 0 1 (.u32) .V .r .r .r (.num 65536) (.any),
  -- KP.002.01 DATA_POOL_FREE
  row 0x2 1 0 1 0 1 1 (.u32) .V .r .r .r (.num 131072) (.any),
  -- KP.010.i PROG_ENABLE
  row 0x10 1 0 1 0 0 16 (.bool) .P .rw .rw .none (.num 0) (.any),
  -- KP.011.i PROG_SRC
  row 0x11 1 0 1 0 0 16 (.u32) .P .rw .rw .none (.num 0) (.any),
  -- KP.012.i PROG_STATE
  row 0x12 1 0 1 0 0 16 (.enum8) .V .r .r .r (.num 0) (.any),
  -- KP.013.i PROG_RESULT
  row 0x13 1 0 1 0 0 16 (.enum8) .V .r .r .r (.num 0) (.any),
  -- KP.014.i PROG_ID
  row 0x14 1 0 1 0 0 16 (.u32) .V .r .r .r (.num 0) (.any),
  -- KP.015.i PROG_VERSION
  row 0x15 1 0 1 0 0 16 (.u32) .V .r .r .r (.num 0) (.any),
  -- KP.016.i PROG_FAULTS
  row 0x16 1 0 1 0 0 16 (.u32) .S .r .r .r (.num 0) (.any),
  -- KP.017.i PROG_LAST_CAUSE
  row 0x17 1 0 1 0 0 16 (.u32) .V .r .r .r (.num 0) (.any),
  -- KP.018.i PROG_ABORTS
  row 0x18 1 0 1 0 0 16 (.u32) .S .r .r .r (.num 0) (.any),
  -- KP.019.i PROG_RUN_MAX_US
  row 0x19 1 0 1 0 0 16 (.u32) .S .r .r .r (.num 0) (.any)]

/-- Objects of area TM (Tables 14.10). -/
def rowsTM : List Row := [
  -- TM.000.00 TIME_NOW
  row 0x0 1 0 1 0 0 1 (.time64) .V .r .r .r (.num 0) (.any),
  -- TM.000.01 TIME_STATE
  row 0x0 1 0 1 0 1 1 (.enum8) .V .r .r .r (.num 0) (.any),
  -- TM.000.02 TIME_OFFSET
  row 0x0 1 0 1 0 2 1 (.s64) .V .r .r .r (.num 0) (.any),
  -- TM.000.03 TIME_RATE
  row 0x0 1 0 1 0 3 1 (.s32) .V .r .r .r (.num 0) (.any),
  -- TM.000.04 GM_ID
  row 0x0 1 0 1 0 4 1 (.u64) .V .r .r .r (.num 0) (.any),
  -- TM.000.05 STEP_COUNT
  row 0x0 1 0 1 0 5 1 (.u32) .S .r .r .r (.num 0) (.any),
  -- TM.000.06 LAST_STEP
  row 0x0 1 0 1 0 6 1 (.s64) .V .r .r .r (.num 0) (.any),
  -- TM.001.00 PTP_ENABLE
  row 0x1 1 0 1 0 0 1 (.bool) .P .rw .rw .r (.num 1) (.any),
  -- TM.001.01 STEP_NS
  row 0x1 1 0 1 0 1 1 (.u32) .P .rw .rw .r (.num 50000) (.range (1000) (1000000000)),
  -- TM.001.02 SLEW_PPM
  row 0x1 1 0 1 0 2 1 (.u16) .P .rw .rw .r (.num 100) (.range (1) (500)),
  -- TM.001.03 TIME_SET
  row 0x1 1 0 1 0 3 1 (.time64) .V .w .w .none (.num 0) (.any)]

/-- The rows of an area, by its number (Table 0.3). -/
def rowsOf (area : Nat) : List Row :=
  match area with
  | 0 => rowsSY
  | 1 => rowsPW
  | 2 => rowsSC
  | 3 => rowsLG
  | 4 => rowsEV
  | 5 => rowsCP
  | 6 => rowsLN
  | 7 => rowsCA
  | 8 => rowsCX
  | 9 => rowsWT
  | 10 => rowsLL
  | 11 => rowsSD
  | 12 => rowsMF
  | 13 => rowsAU
  | 14 => rowsNT
  | 15 => rowsBL
  | 16 => rowsTW
  | 17 => rowsKP
  | 18 => rowsTM
  | _ => []

end Sys2Proof.Machine
end

