-- ==== Sys2Proof/Machine/Dict.lean ====
section
/-! DEFINITION. Finding an object's row by its OID, which objects exist on a part (R1, R5), the factory default of an
object, and the value check of step 6 of Table 13.4 (R364, R365). -/

namespace Sys2Proof.Machine

/-- Whether a row covers item `i`, element `e`. -/
def Row.covers (r : Row) (i e : Nat) : Bool :=
  let a := (i - r.base) / r.sa
  let x := (i - r.base) - a * r.sa
  let b := x / r.sb
  decide (r.base ≤ i) && decide (a < r.na) && decide (b < r.nb) && decide (x = b * r.sb) &&
  decide (r.e0 ≤ e) && decide (e < r.e0 + r.ne)

/-- The first row of a list that covers an item and element. -/
def findRow (i e : Nat) : List Row → Option Row
  | [] => none
  | r :: t => if r.covers i e then some r else findRow i e t

/-- The row of an OID, whatever the part. -/
def Dict.find (o : Nat) : Option Row := findRow (O.item o) (O.elem o) (rowsOf (O.area o))

/-- Objects that the ZF9463-AQ (PART 2) lacks: capture items of chains E and F, Buoy items of their Buoys, and their
measurement-filter items (R1). Items of other areas that are indexed by chain, lane or door band keep their elements of chains E and F: R1
names none of them, and the parts differ "in no other way" (log 99). -/
def Dict.lacks (part o : Nat) : Bool :=
  let a := O.area o
  let i := O.item o
  decide (part = 2) &&
  ((decide (a = 5) && decide (0x180 ≤ i) && decide (i ≤ 0x1BF)) ||
   (decide (a = 15) && decide (0x200 ≤ i) && decide (i ≤ 0x27F)) ||
   (decide (a = 12) && decide (0x204 ≤ i) && decide (i ≤ 0x205)))

/-- The row of an object that exists on the part (step 3 of Table 13.4). -/
def Dict.row (part o : Nat) : Option Row := if Dict.lacks part o then none else Dict.find o

/-- The value a default spells for element offset `k`. -/
def Dflt.at (d : Dflt) (k : Nat) : Val :=
  match d with
  | .num n => .num n
  | .tab l => .num (l.getD k 0)
  | .bytes b => .bytes b
  | .zeros n => .bytes (zeroBytes n)

/-- The factory default of an object (R14); an OID that is no object reads 0. -/
def Dict.dflt (o : Nat) : Val :=
  match Dict.find o with
  | some r => r.dflt.at (O.elem o - r.e0)
  | none => .num 0

/-- The class of an object; an OID that is no object counts as volatile. -/
def Dict.cls (o : Nat) : Cls :=
  match Dict.find o with
  | some r => r.cls
  | none => .V

/-- The type of an object. -/
def Dict.ty (o : Nat) : Ty :=
  match Dict.find o with
  | some r => r.ty
  | none => .u8

/-- Reserved measurement-channel numbers of R278 (`part` 2 also reserves 520–523, R1). -/
def channelReserved (part ch : Nat) : Bool :=
  decide (ch < 8) || (decide (ch < 512) && (decide (ch % 8 = 6) || decide (ch % 8 = 7))) ||
  (decide (524 ≤ ch) && decide (ch < 1024)) || (decide (4096 ≤ ch) && decide (ch < 0xFFFF)) ||
  (decide (part = 2) && decide (520 ≤ ch) && decide (ch ≤ 523))

/-- A ROUTE_SRC value with a defined KIND and every field in range (Table 12.4, R345). -/
def routeSrcOk (v : Nat) : Bool :=
  let k := field v 31 24
  let b2 := field v 23 16
  let b1 := field v 15 8
  let b0 := field v 7 0
  decide (b2 = 0) &&
  (match k with
   | 0 => decide (b1 = 0) && decide (b0 = 0)
   | 1 => decide (b1 = 0) && decide (1 ≤ b0) && decide (b0 ≤ 63)
   | 2 => decide (1 ≤ b1) && decide (b1 ≤ 63) && decide (b0 ≤ 3)
   | 3 => decide (b1 = 0) && decide (b0 ≤ 1)
   | 4 => decide (b1 ≤ 7) && decide (b0 ≤ 7)
   | 5 => decide (b1 = 0) && decide (b0 ≤ 7)
   | _ => false)

/-- A ROUTE_DST value with a defined KIND and every field in range (Table 12.4, R345). -/
def routeDstOk (v : Nat) : Bool :=
  let k := field v 31 24
  let b2 := field v 23 16
  let b1 := field v 15 8
  let b0 := field v 7 0
  decide (b2 = 0) &&
  (match k with
   | 0 => decide (b1 = 0) && decide (b0 = 0)
   | 1 => decide (b1 ≤ 7) && decide (b0 ≤ 7)
   | 2 => decide (b1 ≤ 7) && decide (b0 ≤ 62)
   | 3 => decide (b1 = 0) && decide (b0 ≤ 7)
   | _ => false)

/-- Step 6 of Table 13.4 for a number. -/
def Check.okNum (part : Nat) (c : Check) (v : Int) : Bool :=
  let n := v.toNat
  match c with
  | .any => true
  | .range lo hi => decide (lo ≤ v) && decide (v ≤ hi)
  | .rangeOr lo hi x => (decide (lo ≤ v) && decide (v ≤ hi)) || decide (v = x)
  | .zeroOrRange lo hi => decide (v = 0) || (decide (lo ≤ v) && decide (v ≤ hi))
  | .step lo hi k => decide (lo ≤ v) && decide (v ≤ hi) && decide ((v - lo) % k = 0)
  | .oneOf l => l.any (fun x => decide (x = v))
  | .bits m => decide (0 ≤ v) && decide (n &&& m = n)
  | .bitsNZ m => decide (0 < v) && decide (n &&& m = n)
  | .channel => decide (n = 0xFFFF) || !channelReserved part n
  | .routeSrc => routeSrcOk n
  | .routeDst => routeDstOk n
  | .noiseSel => decide (field n 6 4 < 6) && decide (field n 7 7 = 0) && decide (field n 3 3 = 0)
  | .buoy => decide (n < (if part = 2 then 16 else 24))
  | .twAddr => (decide (0x08 ≤ n) && decide (n ≤ 0x77)) || (decide (0x8000 ≤ n) && decide (n ≤ 0x83FF))
  | .dlMsg => true

/-- Step 6 of Table 13.4: in range, defined, well-formed (BOOL 0 or 1, F32 not NaN, STR valid UTF-8). -/
def Row.valueOk (part : Nat) (r : Row) (v : Val) : Bool :=
  match r.ty with
  | .bool => decide (v.int = 0) || decide (v.int = 1)
  | .f32 => !(decide (field v.int.toNat 30 23 = 255) && decide (field v.int.toNat 22 0 ≠ 0))
  | .str _ => utf8Ok v.raw
  | .digest => true
  | .blob _ =>
    (match r.chk with
     | .dlMsg => (match v.raw with
        | [] => false
        | b :: _ => [0x08, 0x09, 0x0D, 0x10].any (fun x => decide (x = b.toNat)))
     | _ => true)
  | _ => Check.okNum part r.chk v.int

/-- Step 5 of Table 13.4: the number of value bytes an object takes (R364). -/
def Row.lenOk (r : Row) (n : Nat) : Bool :=
  match r.ty with
  | .str k => decide (r.minLen ≤ n) && decide (n ≤ k)
  | .blob k => decide (r.minLen ≤ n) && decide (n ≤ k)
  | t => decide (n = t.size)

/-- Every OID a row stands for, in ascending order within one block. -/
def Row.oids (area : Nat) (r : Row) : List Nat :=
  (List.range r.na).flatMap fun a => (List.range r.nb).flatMap fun b => (List.range r.ne).map fun e =>
    O.mk area (r.base + a * r.sa + b * r.sb) (r.e0 + e)

/-- A number put into an ascending list. -/
def insertNat (x : Nat) : List Nat → List Nat
  | [] => [x]
  | y :: t => if x ≤ y then x :: y :: t else y :: insertNat x t

/-- An ascending list of the same numbers. -/
def sortNat : List Nat → List Nat
  | [] => []
  | x :: t => insertNat x (sortNat t)

/-- The OIDs of one class in one area on a part, ascending (R374). -/
def Dict.oids (part area : Nat) (c : Cls) : List Nat :=
  sortNat (((rowsOf area).filter (fun r => decide (r.cls = c))).flatMap (fun r => (r.oids area).filter (fun o => !Dict.lacks part o)))

end Sys2Proof.Machine
end

