-- ==== Sys2Proof/Machine/Sha256.lean ====
section
/-! DEFINITION. SHA-256 (FIPS 180-4), HMAC-SHA-256 (RFC 2104) and CRC-32 (IEEE 802.3), which the spec names for digests,
Daymarks, session proofs, message authentication and log entries (Table 0.5, R387, R403, R404, Table 13.9). -/

namespace Sys2Proof.Machine

/-- The primes below 312: the first 64 of them (FIPS 180-4 takes its constants from their roots). -/
def shaPrimes : List Nat :=
  (List.range 312).filter (fun p => decide (2 ≤ p) && (List.range 16).all (fun q => decide (q + 2 ≥ p) || decide (p % (q + 2) ≠ 0)))

/-- The largest number of `n` bits whose `k`-th power is at most `x`, found from its top bit down. -/
def rootOf (k x n : Nat) : Nat := ((List.range n).reverse).foldl (fun r b => if (r + 2 ^ b) ^ k ≤ x then r + 2 ^ b else r) 0

/-- The first 32 fractional bits of the `k`-th root of each of some primes. -/
def rootWords (k : Nat) (l : List Nat) : List Word := l.map (fun p => BitVec.ofNat 32 (rootOf k (p * 2 ^ (32 * k)) 38))

/-- XOR of a word turned right by each of some distances, and shifted right by a last one; of no shift, nothing is added. -/
def mixed (x : Word) (turns : List Nat) (shift : Option Nat) : Word :=
  (turns.map (x.rotateRight ·)).foldl (· ^^^ ·) (match shift with | some s => x >>> s | none => 0)

/-- The word sixteen places after the head of a schedule of sixteen words. -/
def scheduled (win : List Word) : Word :=
  win.headD 0 + mixed (win.getD 1 0) [7, 18] (some 3) + win.getD 9 0 + mixed (win.getD 14 0) [17, 19] (some 10)

/-- The eight working words after one round with a schedule word and a constant. -/
def shaTurn (v : List Word) (wk : Word) : List Word :=
  let x := fun (i : Nat) => v.getD i 0
  let choose := (x 4 &&& x 5) ||| (~~~(x 4) &&& x 6)
  let major := (x 0 &&& (x 1 ||| x 2)) ||| (x 1 &&& x 2)
  let up := x 7 + mixed (x 4) [6, 11, 25] none + choose + wk
  (up + mixed (x 0) [2, 13, 22] none + major) :: (v.take 7).set 3 (x 3 + up)

/-- The rounds of a block, one for each constant: the schedule slides by a word at each. -/
def shaTurns : List Word → List Word → List Word → List Word
  | [], _, v => v
  | k :: ks, win, v => shaTurns ks (win.tail ++ [scheduled win]) (shaTurn v (win.headD 0 + k))

/-- A block of 64 bytes taken into a hash value. -/
def shaTake (h : List Word) (blk : List Byte) : List Word :=
  let win := (List.range 16).map (fun i => BitVec.ofNat 32 (beNat (slice blk (4 * i) 4)))
  List.zipWith (· + ·) h (shaTurns (rootWords 3 shaPrimes) win h)

/-- SHA-256 of a byte string (FIPS 180-4): the message, a bit 1, zeros to 8 bytes before the end of a block, and its length in bits. -/
def sha256 (m : List Byte) : List Byte :=
  let p := m ++ 0x80 :: zeroBytes ((119 - m.length % 64) % 64) ++ beBytes 8 (8 * m.length)
  let blocks := (List.range (p.length / 64)).map (fun i => slice p (64 * i) 64)
  (blocks.foldl shaTake (rootWords 2 (shaPrimes.take 8))).flatMap (fun w => beBytes 4 w.toNat)

/-- HMAC-SHA-256 (RFC 2104) with a key of at most 64 bytes, or a longer one hashed. -/
def hmac (key msg : List Byte) : List Byte :=
  let k := padTo 64 (if 64 < key.length then sha256 key else key)
  sha256 (k.map (· ^^^ 0x5c) ++ sha256 (k.map (· ^^^ 0x36) ++ msg))

/-- One byte into the reflected CRC-32 of IEEE 802.3, bit by bit. -/
def crcStep : Nat → Nat → Nat
  | 0, c => c
  | n + 1, c => crcStep n (if c % 2 = 1 then (c / 2) ^^^ 0xEDB88320 else c / 2)

/-- CRC-32 (IEEE 802.3 polynomial) of a byte string. -/
def crc32 (m : List Byte) : Nat :=
  (m.foldl (fun c b => crcStep 8 (c ^^^ b.toNat)) 0xFFFFFFFF) ^^^ 0xFFFFFFFF

/-- One bit of CRC-16 with polynomial 0x1021 (Table 15.4, R422). -/
def crc16Bit (c : Nat) (b : Bool) : Nat :=
  let top := c.testBit 15
  let c2 := (c * 2) % 65536
  if top != b then c2 ^^^ 0x1021 else c2

end Sys2Proof.Machine
end

