-- ==== Sys2Proof/Machine/State.lean ====
section
/-! DEFINITION. The state of the block as plain data: every object of the dictionary, what the units hold beside their
objects, the memories, and the queue of waiting commands. -/

namespace Sys2Proof.Machine

/-- An entry of the log (Table 13.9). -/
structure LogEntry where
  seq : Nat := 0
  kind : Nat := 0
  result : Nat := 0
  t : Nat := 0
  oid : Nat := 0
  role : Nat := 0
  port : Nat := 0
  session : Nat := 0
  source : Nat := 0
  txn : Nat := 0
  item : Nat := 0
  items : Nat := 0
  vflags : Nat := 0
  old : Nat := 0
  new : Nat := 0
  oldLen : Nat := 0
  newLen : Nat := 0
  deriving DecidableEq, Repr

/-- Writes to one V object in the current minute, for its KIND 2 summary (R383). -/
structure MinuteRec where
  oid : Nat
  accepted : Nat
  refused : Nat
  last : Nat
  lastLen : Nat
  lastDigest : Bool
  org : Origin
  deriving DecidableEq, Repr

/-- The log rings and the SEQ counter (R380 to R385). The eNVM ring and the entries on their way to it survive in
`Nvm`. -/
structure LogState where
  /-- RAM ring, oldest first -/
  ram : List LogEntry := []
  /-- entries awaiting their eNVM copy, oldest first -/
  pend : List LogEntry := []
  /-- entries made before the server runs, with whether eNVM takes them too: they get their SEQ after the BOOT record -/
  held : List (LogEntry × Bool) := []
  /-- the next SEQ to be issued -/
  next : Nat := 0
  /-- V objects written in the running minute -/
  minute : List MinuteRec := []
  /-- transaction counter (TXN of Table 13.9) -/
  txn : Nat := 0
  deriving DecidableEq, Repr

/-- A record of a serialisation, as its bytes give it (Table 13.5). -/
structure BankRec where
  oid : Nat
  ty : Nat
  flags : Nat
  val : List Byte
  deriving DecidableEq, Repr

/-- A configuration or statistics bank (Table 13.7, R372): its header fields, its body and its MARKER. An erased bank holds none. -/
structure Bank where
  magic : Nat := 0
  format : Nat := 0
  part : Nat := 0
  seq : Nat := 0
  length : Nat := 0
  tStore : Nat := 0
  fw : Nat := 0
  records : Nat := 0
  daymark : List Byte := []
  body : List Byte := []
  marker : List Byte := []
  deriving DecidableEq, Repr

/-- A reference entry of the calibration bank (Table 11.5). -/
structure RefEnt where
  absCorr : Int := 0
  unc : Nat := 0
  level : Int := 0
  temp : Int := 0
  freq : Nat := 0
  t : Nat := 0
  id : List Byte := []
  valid : Bool := false
  deriving DecidableEq, Repr

/-- A replaced element of a converter stage (R302): sub-converter, stage, capacitor unit or comparator, its number, the spare that stands for it, and whether
that spare is still in use. -/
structure ElemSel where
  sub : Nat
  stage : Nat
  cap : Bool
  idx : Nat
  spare : Nat
  live : Bool
  deriving DecidableEq, Repr

/-- The coarse selections of a lane (R304): the replaced elements of its stages (item 0) and the corners of its doors (item 4). -/
structure LaneSel where
  elems : List ElemSel := []
  corners : List Nat := []
  deriving DecidableEq, Repr

/-- A calibration bank (Table 11.4): header fields, reference entries by door band, class C values that differ from their
default, factory entries and MARKER. An erased bank holds none. -/
structure CalBank where
  magic : Nat := 0
  format : Nat := 0
  part : Nat := 0
  seq : Nat := 0
  reason : Nat := 1
  tStore : Nat := 0
  temp : Int := 0
  refs : List (Nat × RefEnt) := []
  vals : List (Nat × Val) := []
  fx : List (List Byte) := []
  /-- SEED: coarse selections of the lanes -/
  seed : List (Nat × LaneSel) := []
  marker : List Byte := []
  deriving DecidableEq, Repr

/-- An LMS-state bank (R546): MAGIC, SEQ, LIMIT and MARKER. An erased bank holds none. -/
structure LmsBank where
  magic : Nat := 0
  seq : Nat := 0
  limit : Nat := 0
  marker : List Byte := []
  deriving DecidableEq, Repr

/-- What eNVM holds (Table 1.10): the two banks of each kind, the early watch image and the log ring. -/
structure Nvm where
  cfgA : Bank := {}
  cfgB : Bank := {}
  calA : CalBank := {}
  calB : CalBank := {}
  statA : Bank := {}
  statB : Bank := {}
  lmsA : LmsBank := {}
  lmsB : LmsBank := {}
  /-- eNVM log ring, oldest first (R382) -/
  log : List LogEntry := []
  /-- bytes of the early watch region (Table 1.10) -/
  early : List (Nat × Byte) := []
  deriving DecidableEq, Repr

/-- The four kinds of bank store (R614). -/
inductive StoreKind where
  | cfg | cal | stats | lms
  deriving DecidableEq, Repr

/-- A bank store under way: its kind, the bank it writes (true: bank A), and what it took in when it started. -/
structure StoreJob where
  kind : StoreKind
  toA : Bool
  cfg : Bank := {}
  cal : CalBank := {}
  lms : LmsBank := {}
  deriving DecidableEq, Repr

/-- Bank stores: the one running, and the mono time at which each kind falls due (none: not due). -/
structure StoreState where
  job : Option StoreJob := none
  cfgDue : Option Nat := none
  calDue : Option Nat := none
  lmsDue : Option Nat := none
  /-- highest log SEQ of the commits that the next store of a kind covers -/
  cfgCover : Nat := 0
  calCover : Nat := 0
  /-- mono time of the last statistics checkpoint (R372) -/
  ckptAt : Nat := 0
  deriving DecidableEq, Repr

/-- A DURABLE reply that waits for its stores (R377): its header fields, the body with the results it has, the body with
STORE_FAILED, and the stores it waits for. `taken` lists the kinds whose running store covers it; `writes` what takes effect once it has left. -/
structure Durable where
  port : Nat
  dest : Nat
  opcode : Nat
  session : Nat
  tag : Nat
  body : List Byte
  failed : List Byte
  waits : List StoreKind
  taken : List StoreKind := []
  writes : List (Nat × Val) := []
  deriving DecidableEq, Repr

/-- A dictionary port bank of a Keeper (Table 18.12): the request bytes written, the port's registers, and for a waiting request the mono time at
which it crossed into the fabric and its number (R27). -/
structure DictPort where
  req : List (Nat × Byte) := []
  reqLen : Nat := 0
  busy : Bool := false
  done : Bool := false
  overrun : Bool := false
  rsp : List Byte := []
  doneBit : Nat := 0xFFFFFFFF
  since : Nat := 0
  no : Nat := 0
  deriving DecidableEq, Repr

/-- A message the device has sent or queued for sending (Table 14.1): transport (log PORT code), addressee, header fields,
body, and MAC bytes (empty outside a session). On Ethernet and CAN FD also the sender's address, and the frames that carry its segments: datagram payloads behind
the addressee, or CAN FD data behind their identifier (R400 to R402). -/
structure OutMsg where
  port : Nat
  dest : Nat
  opcode : Nat
  mflags : Nat
  session : Nat := 0
  tag : Nat := 0
  seq : Nat := 0
  body : List Byte := []
  mac : List Byte := []
  sender : Nat := 0
  frames : List (Nat × List Byte) := []
  deriving DecidableEq, Repr

/-- Settings of the transports in force (R401, R402): the objects of Table 14.9 as they stood when the last write of one took effect (R411). -/
structure LinkSet where
  udp : Nat := 23117
  t1Ip : Nat := 0
  t1sIp : Nat := 0
  canBase : Nat := 0x5A
  canNode : Nat := 0x21
  deriving DecidableEq, Repr

/-- One of the eight session slots (R403 to R405). `open_` is false between AUTH_HELLO and AUTH_PROVE. -/
structure Session where
  num : Nat
  slot : Nat
  open_ : Bool
  role : Role
  port : Nat
  req : Nat
  source : Nat
  keySlot : Nat
  hostNonce : List Byte
  devNonce : List Byte
  sk : List Byte := []
  rxSeq : Nat := 0
  txSeq : Nat := 0
  /-- mono time of AUTH_HELLO, then of the last valid message -/
  tLast : Nat
  deriving DecidableEq, Repr

/-- A coalescing window of one event on one KIND 5 subscription (R527). -/
structure EvWindow where
  ev : Nat
  tEnd : Nat
  tFirst : Nat
  arg : Nat
  count : Nat
  deriving DecidableEq, Repr

/-- A subscription (R406 to R409). -/
structure Sub where
  id : Nat
  kind : Nat
  index : Nat
  minMs : Nat
  oid : Nat
  evmask : Nat
  port : Nat
  req : Nat
  session : Nat
  role : Role
  lastVal : List Byte := []
  lastT : Nat := 0
  lost : Nat := 0
  /-- the last record was lost (event 100 is raised at the first loss after a record that was sent) -/
  losing : Bool := false
  windows : List EvWindow := []
  deriving DecidableEq, Repr

/-- A message being reassembled from its segments (R400). -/
structure Partial_ where
  port : Nat
  src : Nat
  msgno : Nat
  next : Nat
  t0 : Nat
  source : Nat
  bytes : List Byte
  deriving DecidableEq, Repr

/-- A complete message in a transport's receive queue (R400). -/
structure RxMsg where
  port : Nat
  src : Nat
  source : Nat
  bytes : List Byte
  deriving DecidableEq, Repr

/-- Failed proofs of one requester within 60 s, and its lockout (R405). -/
structure AuthFail where
  port : Nat
  req : Nat
  times : List Nat
  lockedUntil : Option Nat
  deriving DecidableEq, Repr

/-- Host links (chapter 14): sessions, subscriptions, reassembly, queues, and everything sent so far. -/
structure HostState where
  sessions : List Session := []
  subs : List Sub := []
  partials : List Partial_ := []
  rx : List RxMsg := []
  fails : List AuthFail := []
  /-- messages sent on Ethernet and CAN FD, oldest first -/
  sent : List OutMsg := []
  /-- settings of the transports in force (R411) -/
  link : LinkSet := {}
  /-- number of the next message on each Ethernet port and CAN FD (R400) -/
  msgno : List (Nat × Nat) := []
  /-- writes of transactions whose DURABLE reply has just left -/
  left : List (Nat × Val) := []
  /-- segments waiting at the SPI target -/
  spi : List (List Byte) := []
  spiMsgno : Nat := 0
  /-- mono time of the last event 98 per transport -/
  dropEvent : List (Nat × Nat) := []
  /-- a commit or state change asks for a heartbeat on change, made at this mono time (R391) -/
  hbWanted : Option Nat := none
  /-- the follower has heard a BEACON (R401): mono time of the last -/
  beacon : Option Nat := none
  /-- BEACONs sent as coordinator -/
  beaconsSent : Nat := 0
  /-- DURABLE replies that wait for a store (R377) -/
  durable : List Durable := []
  /-- peer-delay requests answered (R413) -/
  peerDelay : Nat := 0
  /-- bytes last returned at the SPI target (Table 14.6) -/
  spiAnswer : List Byte := []
  deriving DecidableEq, Repr

/-- Device time (R412 to R414), beside its objects: offsets measured while ACQUIRING and the phase of PTP. -/
structure TimeState where
  offsets : Nat := 0
  /-- grandmaster whose offsets are being measured -/
  gm : Nat := 0
  deriving DecidableEq, Repr

/-- The event router (chapter 19), beside its objects: pins released for 1.0–1.5 µs after an acknowledge (R525). -/
structure EvState where
  reassert0 : Bool := false
  reassert1 : Bool := false
  deriving DecidableEq, Repr

/-- A record in a stream-window ring (R518): the ring position after it, whether it is a SHADOW frame, and the readers that
have still to pass it: 0–3 a core that has written its TAIL, 4 the side-data job of K1, 256 + id a subscription. -/
structure RingRec where
  endPos : Nat
  seq : Nat
  shadow : Bool
  waits : List Nat
  bytes : List Byte
  deriving DecidableEq, Repr

/-- A stream-window ring: bytes produced, each core's consumer index (once it has written its TAIL), and the records that
some reader has still to pass, oldest first; and the SEQ of the last record that left the ring. -/
structure Ring where
  head : Nat := 0
  tails : List (Nat × Nat) := []
  recs : List RingRec := []
  gone : Nat := 0
  deriving DecidableEq, Repr

/-! ### Antenna chains (chapter 2) -/

/-- Gain control of one door (R48 to R52): the index `g`, when it last rose and fell, when the last step was issued, a tick
result held back by the 2 µs spacing, and whether a reference measurement has suspended the control (R315). Times are
`mono` times. -/
structure DoorSt where
  g : Nat := 0
  lastInc : Option Nat := none
  lastDec : Option Nat := none
  lastStep : Option Nat := none
  deferred : Option Nat := none
  suspended : Bool := false
  deriving DecidableEq, Repr

/-- What one chain holds beside its objects: the overload path (R53 to R57), the feed timers (Table 2.9), door C muting
(R42, R43) and the calibration that a lane runs. -/
structure ChainSt where
  /-- doors raised by the last overload steps and not yet back at gt = g (OVL_ACTIVE) -/
  raised : Nat := 0
  /-- mono time of the last overload declaration of a running continuity (R55) -/
  lastDecl : Option Nat := none
  /-- mono time of the first declaration of the continuity made with every selected door at 55 (R55) -/
  at55 : Option Nat := none
  /-- mono time of the last overload step: the path steps again 1 µs later at the earliest (R55) -/
  stepAt : Option Nat := none
  /-- event 17 + 4n may be raised (R55) -/
  armed : Bool := true
  /-- clipped samples counted since the last OVERLOAD input of the chain's filter channel (R279) -/
  clipped : Nat := 0
  /-- mono time at which the present feed state was entered -/
  feedSince : Nat := 0
  /-- retries left (Table 2.9) -/
  retryLeft : Nat := 3
  /-- the feed is held with FEED_x_EN low (R67) -/
  feedHeld : Bool := true
  /-- FEED_x_EN, the pin (R64) -/
  feedEn : Bool := false
  /-- the band change of R43 switches door C's filters; true while door C is muted for it -/
  bandMute : Bool := false
  /-- power-up calibration under way since this mono time (R306) -/
  calSince : Option Nat := none
  /-- calibration runs of the chain's corrections so far: the index of the calibrated gains in force (R47) -/
  calRun : Nat := 0
  deriving DecidableEq, Repr

/-- The L-band synthesiser (Table 2.3), beside its objects: attempts made, the chains that needed LO_L when it was last
looked at, and whether a lock has been reached since power-up. -/
structure LsynSt where
  attempts : Nat := 0
  users : Nat := 0
  since : Nat := 0
  /-- the band that the last calibration found, and calibrations that locked (item 9 of Table 11.1) -/
  band : Nat := 0
  cals : Nat := 0
  deriving DecidableEq, Repr

/-- A run of chain samples that carry a tag (Table 3.2): chain, door (3: every door), tag bit, first sample index, and the index after the last
(none: it still runs). -/
structure Span where
  chain : Nat
  door : Nat
  tag : Nat
  first : Nat
  last : Option Nat
  deriving DecidableEq, Repr

/-- Antenna chains, doors and the L-band synthesiser. -/
structure RfState where
  chains : List (Nat × ChainSt) := []
  doors : List (Nat × DoorSt) := []
  lsyn : LsynSt := {}
  /-- mono time of the epoch of R76 -/
  epoch : Nat := 0
  /-- samples that carry the tags OVL, MUTED and LANE (R56, R81), as far back as `spanKeep` -/
  spans : List Span := []
  deriving DecidableEq, Repr

/-! ### Lens and Sweep (chapter 3) -/

/-- A tuner tap beside its objects LN.400 to LN.40A: its list entry, the index of the first sample of its present delivery, and the samples
tagged RETUNE (R81), and the RF centres it has had, each from a sample index on, newest first. LN.409 and LN.40A hold what they read when delivery last stopped or started. -/
structure TapSt where
  entry : Nat := 0
  first : Nat := 0
  retunes : List Nat := []
  rfs : List (Nat × Nat) := []
  deriving DecidableEq, Repr

/-- A reporting interval of one segment on one chain (R92): its start in device time and in elapsed time, the indices of the frames whose stamps fell in
it, each with the gain indices that doors H, V and C then had, the door bands that were absent at some time of it (R90), and the flags gathered. -/
structure SweepInt where
  tStart : Nat := 0
  mStart : Nat := 0
  frames : List (Nat × List Nat) := []
  absent : Nat := 0
  ovl : Bool := false
  steps : Nat := 0
  lane : Bool := false
  laneG : Bool := false
  ramp : Bool := false
  /-- the chain has been in RUN at some time of the interval -/
  up : Bool := false
  /-- when it ended early (R92, R95) -/
  cutAt : Option Nat := none
  /-- device time was disciplined throughout -/
  disc : Bool := true
  deriving DecidableEq, Repr

/-- A measurement stream (R101) beside its objects: whether it is on and since when (elapsed time), the records discarded since it was
enabled, and whether the next record delivered carries RECORDS_LOST. -/
structure MStream where
  on : Bool := false
  enabledAt : Nat := 0
  lost : Nat := 0
  losing : Bool := false
  deriving DecidableEq, Repr

/-- A sweep plan segment (R144). -/
structure SweepSeg where
  chainMask : Nat := 0
  raster : Nat := 0
  filter : Nat := 0
  following : Nat := 0
  first : Nat := 0
  last : Nat := 0
  interval : Nat := 1
  deriving DecidableEq, Repr

/-- Lens and Sweep beside their objects. -/
structure LensState where
  taps : List (Nat × TapSt) := []
  /-- Sweep frames computed since the epoch -/
  frames : Nat := 0
  /-- open intervals, by 8 · segment + chain -/
  ints : List (Nat × SweepInt) := []
  /-- intervals that have ended and whose records are still due, with the segment as it was -/
  due : List (Nat × SweepSeg × SweepInt) := []
  streams : List (Nat × MStream) := []
  /-- the last record was discarded at the queue (R96) -/
  lossRun : Bool := false
  /-- the plan in force (R95), intervals as slowed by R94 -/
  plan : List SweepSeg := []
  /-- in SENTRY: the one chain whose segments are reported (R95) -/
  only : Option Nat := none
  /-- a position has been written since reset (Table 3.7) -/
  posWritten : Bool := false
  deriving DecidableEq, Repr
/-! ### Measurement filters (chapter 10) -/

/-- An input of a measurement channel: the device time at the end of its interval, its value (none: missing), its tags as OFLAGS bits (OVL 16, LANE 32,
CAL_RAMP 64), the step cause that acts at it (0 none, 1 MARK, 2 CLEAR), and its number among the inputs of its channel. -/
structure MfIn where
  t : Nat
  v : Option Int
  tags : Nat := 0
  cause : Nat := 0
  seq : Nat := 0
  deriving DecidableEq, Repr

/-- One filter: its settings, its inputs newest first, the outputs it has produced, and the number of the first input it takes (R291). -/
structure MfFilt where
  median : Nat := 0
  preset : Nat := 2
  domain : Nat := 0
  ins : List MfIn := []
  outs : Nat := 0
  start : Nat := 0
  deriving DecidableEq, Repr

/-- A channel: the filter that delivers, one that waits (R291), a crossfade with its next output number and length, settings
that start after a crossfade with the number of their first input (R292), the OUT_MS in force and the grid point at which a new one takes effect (R293), a step
cause that waits for the next input (1 MARK, 2 CLEAR), the inputs that its source has fed, outputs still to be flagged UNSETTLED, whether the next output carries
CLEARED, the latest output with its flags and time, and the outputs held for the next filter record. -/
structure MfChan where
  live : Bool := false
  cur : MfFilt := {}
  wait : Option MfFilt := none
  fade : Option (MfFilt × Nat × Nat) := none
  later : Option MfFilt := none
  outMs : Nat := 0
  restart : Option Nat := none
  cause : Nat := 0
  fed : Nat := 0
  unset : Nat := 0
  cleared : Bool := false
  last : Option (Int × Nat × Nat) := none
  held : List (Int × Nat) := []
  heldT : Nat := 0
  heldPreset : Nat := 0
  /-- mono time at which the first held output was produced -/
  heldAt : Nat := 0
  deriving DecidableEq, Repr

/-- The measurement filters beside their objects: channels, inputs that wait to be processed, and `cand` and `n` of R295 for
each threshold. -/
structure MfState where
  chans : List (Nat × MfChan) := []
  inq : List (Nat × MfIn) := []
  thr : List (Nat × Nat × Nat) := []
  deriving DecidableEq, Repr


/-! ### Contexts (chapter 4) -/

/-- A hypothesis slot's content (R122, R200, Table 4.5): the detection it holds, the order in which it was saved, whether it is the one being verified, the
symbols or milliseconds that part (a) has checked and passed, its last 16 symbols, and how often the instant of part (b) passed while it was saved. -/
structure Hyp where
  slot : Nat
  det : HypDet
  verifying : Bool
  saved : Nat
  checked : Nat := 0
  passed : Nat := 0
  recent : List Bool := []
  later : Nat := 0
  deriving DecidableEq, Repr

/-- Synchronisation of one RDS stream (R184): synchronised, the offset expected next (0 A, 1 B, 2 C, 4 D, 5 E), the offset of
the last correct block while unsynchronised, which of the last 50 blocks were uncorrectable, and whether the next block
delivered is the first after synchronisation, the last biphase bit received (R183), and the mono time at which synchronisation was lost (Table 8.10). -/
structure RdsSync where
  last : Bool := false
  sync : Bool := false
  expect : Nat := 0
  prev : Option Nat := none
  hist : List Bool := []
  fresh : Bool := false
  lostAt : Nat := 0
  deriving DecidableEq, Repr

/-- A service selector (Table 7.10), 0–3 and the warning selector 4 (R242): its state, codec, component and coded rate once
found, sets of service information without it, whether it has been found and waits for a run start, and for selector 4 its
target component. Then its PCM: samples that the audio island has not yet received, length of the last coded frame at 48 kSa/s, whether the last frame
failed, samples still to fade in, the sample index from which its subchannel is decoded (R201), and the mono time up to which silence has been given in HOLD
(R120). -/
structure Sel where
  state : Nat := 0
  codec : Nat := 0
  comp : Nat := 0
  fs : Nat := 0
  absent : Nat := 0
  found : Bool := false
  target : Nat := 0
  pcm : List (Int × Int) := []
  frame : Nat := 0
  failed : Bool := false
  rise : Nat := 0
  start : Nat := 0
  hush : Nat := 0
  deriving DecidableEq, Repr

/-- The IF blanker of one tap (R168): powers of the last 1 ms of samples, newest first; samples not yet judged, each with whether it exceeds the
threshold; judged samples, each with whether it is gated; samples since the gate closed (0: open), since the last sample that exceeded, and closed
in the current millisecond of device time; that millisecond; and whether a limit has opened the gate while the excess goes on. -/
structure Gate where
  hist : List Nat := []
  wait : List ((Int × Int) × Bool) := []
  out : List ((Int × Int) × Bool) := []
  run : Nat := 0
  since : Nat := 1000000
  spent : Nat := 0
  ms : Nat := 0
  shut : Bool := false
  deriving DecidableEq, Repr

/-- What an FM or AM chain holds of its signal (chapter 6). -/
structure AnaSt where
  /-- the IF blankers by antenna-list entry, and the memories of the stages -/
  gates : List (Nat × Gate) := []
  mems : List (Config.Stage × List Int) := []
  /-- a combining crossfade (R125): mode and chosen entry before it, length, samples done -/
  was : Option (Nat × Nat × Nat × Nat) := none
  /-- the MPX blanker (R169): powers of the last 10 ms, newest first; samples that wait, with whether each is to be replaced; the last sample given; an
  excursion past its 32 samples passes; samples since the last that exceeded -/
  hf : List Nat := []
  mpx : List (Int × Bool) := []
  mpxLast : Int := 0
  mpxOver : Bool := false
  mpxSince : Nat := 1000
  /-- milliseconds for which the pilot has stood at 3.0 kHz or above, and below 2.0 kHz (R175) -/
  pilotHi : Nat := 0
  pilotLo : Nat := 0
  /-- peak deviations of the last 1 s by millisecond, Hz, and the gain reduction in 0.01 dB (R174) -/
  peaks : List Nat := []
  devGain : Int := 0
  /-- mean instantaneous frequencies of the last 100 ms (Table 6.7) -/
  freqs : List Int := []
  /-- milliseconds of rms phase error below 20° and above 45° (R188) -/
  phLow : Nat := 0
  phHigh : Nat := 0
  /-- the adjacency ratios of both sides, and for how many milliseconds they have been within 3 dB (R187) -/
  sides : Int × Int := (0, 0)
  near : Nat := 0
  /-- detected samples of the last 20 ms (R182), the last audio sample that was not overloaded (R170) -/
  carrier : List Int := []
  lastGood : Int := 0
  /-- the setting before the last bandwidth change and the detector before the last detector change, with samples of their crossfades done and in all -/
  bandWas : Option (Nat × Nat × Nat) := none
  detWas : Option (Nat × Nat) := none
  /-- a detector change that waits for the running crossfade (R187) -/
  detNext : Option Nat := none
  /-- samples given since entry to HOLD (R120) -/
  holdPcm : Nat := 0
  /-- PCM that the audio island has not yet received, and the index m of its first sample (R181) -/
  pcm : List (Int × Int) := []
  pcmM : Nat := 0
  /-- milliseconds for which the loss criterion has held (Table 6.2) -/
  loss : Nat := 0
  deriving DecidableEq, Repr

/-- A measurement window of a MEAS context (R191): the device time at which it opened, the values of its indicator intervals, intervals with OVL samples,
whether samples were tagged LANE or MUTED, and FAC blocks that failed. -/
structure MeasWin where
  start : Nat := 0
  rows : List (List Int) := []
  ovlMs : Nat := 0
  lane : Bool := false
  muted : Bool := false
  fac : Nat := 0
  deriving DecidableEq, Repr

/-- An IQ record under way (R103, R106): FORMAT, SHIFT and IQ_SAMPLES as it began, index of its first sample, and the samples so far. -/
structure IqOpen where
  format : Nat
  shift : Nat
  size : Nat
  first : Nat
  data : List (Int × Int)
  deriving DecidableEq, Repr

/-- What a context holds beside its objects. -/
structure CtxSt where
  /-- role that created a dictionary-owned context (R115) -/
  owner : Role := .F
  /-- values in effect of objects whose committed writes wait for the next run (R118) -/
  held : List (Nat × Val) := []
  /-- a committed write waits for the next run; a promotion and a demotion of one transaction wait for the period after this grid time (R127) -/
  pending : Bool := false
  paired : Option Nat := none
  /-- mono time of the last state change -/
  since : Nat := 0
  /-- mono time from which ACQ_TIMEOUT_MS counts -/
  acqAt : Nat := 0
  hyps : List Hyp := []
  hypOrder : Nat := 0
  /-- detections of the latest sample that has any, and the slots, their order and HYP_PREEMPTED as they were before them (R122) -/
  dets : List HypDet := []
  detBase : List Hyp × Nat × Int := ([], 0, 0)
  /-- offset and timing held at entry to HOLD, or of the confirmed signal; per entry the last results of the criterion for held state (R167, R198) -/
  offset : Int := 0
  timing : Int := 0
  again : List (Nat × List Bool) := []
  /-- tap sample index at which the context locked, and at which its service information was first complete (R201) -/
  lockAt : Nat := 0
  infoAt : Nat := 0
  /-- mono times since which an entry's SNR exceeds that of the chosen one by SWITCH_HYST (R125) -/
  ahead : List (Nat × Nat) := []
  /-- what an FM or AM chain holds -/
  ana : AnaSt := {}
  /-- indicator values that the end of the run delivers: the objects' values, with what they read where nothing was measured, the filter inputs by channel, the
  values of FQ, and how many intervals there are (R189, R268) -/
  shown : List (Nat × Int × Int) := []
  feeds : List (Nat × MfIn) := []
  fqNew : List (Nat × Int) := []
  intervals : Nat := 0
  /-- status bits 3 to 15 as the last run's end left them (R130) -/
  latched : Nat := 0
  /-- digital: frames or blocks in a row without synchronisation, mono time since when every FIB has failed, FAC blocks in a row that failed (Table 7.2);
  the services signalled -/
  syncMiss : Nat := 0
  fibBad : Option Nat := none
  facMiss : Nat := 0
  svcs : List SvcEnt := []
  /-- MEAS: the open window, and windows cut short whose records are due, each with the device time of its end -/
  window : MeasWin := {}
  cuts : List (MeasWin × Nat) := []
  /-- IQ export: the record under way -/
  iqOpen : Option IqOpen := none
  /-- entries excluded because their delay exceeds 2.0 µs (R124) -/
  farDelay : Nat := 0
  /-- the tap that SELECT has chosen (R125) -/
  chosen : Nat := 0
  frameSeq : Nat := 0
  lost : Nat := 0
  /-- the next frame delivered carries FRAMES_LOST; the last frame was discarded (R129) -/
  framesLost : Bool := false
  lossRun : Bool := false
  /-- the first frame of the run carries PROMOTED (R127) -/
  promoted : Bool := false
  /-- a slot run is under way, since this device time -/
  running : Bool := false
  tRun : Nat := 0
  /-- the last run was skipped; the last run consumed samples tagged OVL (Table 4.8) -/
  skipped : Bool := false
  lastOvl : Bool := false
  /-- index of the last sample consumed, plus 1, and the samples that the present run consumes: all that has arrived at its start (log 106) -/
  nextIndex : Nat := 0
  runFrom : Nat := 0
  runTo : Nat := 0
  /-- RDS streams, and the RDS entries of the next frame: tap sample index, stream, the entry's first six bytes -/
  rds : List (Nat × RdsSync) := []
  rdsOut : List (Nat × Nat × List Byte) := []
  /-- the run's indicator intervals, for its summary: LEVEL, SNR, USN or MER, MULTIPATH, AQ, deviation or delay -/
  inds : List (List Int) := []
  /-- blend α and high-cut h of 0 to 1, soft mute m in 0.01 dB, in fixed point (R179); the objects' defaults -/
  alpha : Int := 0
  hcut : Int := 18446744073709551616
  mute : Int := 0
  /-- bandwidth setting, mono times of its last step and of the end of its crossfade (R172) -/
  bw : Nat := 0
  bwAt : Nat := 0
  bwFade : Nat := 0
  /-- QFLAGS bits 2 BLANKED, 3 AUDIO_SAT and 4 IFBW_CHANGED of the run -/
  qbits : Nat := 0
  /-- measurement records for the next frame (R192) -/
  meas : List (List Byte) := []
  sels : List (Nat × Sel) := []
  /-- digital: entry sources seen since lock, reconfiguration or selection; entries held over to the next frame; failed coded
  frames and a reconfiguration in the run; a complete set of service information is held -/
  seen : List (Nat × Nat) := []
  left : List DigEnt := []
  audioErr : Nat := 0
  reconf : Bool := false
  info : Bool := false
  /-- following quality values of the last indicator intervals, with mono times, and when selector 0 last failed (R268); PIs of the last
  two groups of RDS stream 0 (R267) -/
  fq : List (Nat × Int) := []
  errAt : Option Nat := none
  pis : List Nat := []
  /-- IQ records delivered, and the index after the last one's last sample -/
  iqSeq : Nat := 0
  iqNext : Nat := 0
  deriving DecidableEq, Repr

/-- A decoder held by a selector (R210), with the number of its grant. -/
structure DecHold where
  dec : Nat
  ctx : Nat
  sel : Nat
  grant : Nat
  deriving DecidableEq, Repr

/-- The Gallery: its contexts, the decoder pool, the selectors that wait, in the order in which they began waiting, and the
selectors whose decoder the Foghorn path has taken and that give it up at their next run start (R211, R242). -/
structure CxState where
  ctxs : List (Nat × CtxSt) := []
  decs : List DecHold := []
  waits : List (Nat × Nat) := []
  preempt : List (Nat × Nat) := []
  grants : Nat := 0
  deriving DecidableEq, Repr

/-! ### The Watch (chapter 5) -/

/-- A slot entry (Table 5.6). -/
structure Slot where
  start : Nat := 0
  est : Nat := 1
  budget : Nat := 0
  kind : Nat := 0
  cls : Nat := 0
  rank : Nat := 0
  track : Nat := 0
  job : Nat := 0
  deriving DecidableEq, Repr

/-- A context-plan entry (Table 5.7). -/
structure CtxPlan where
  ctx : Nat := 0
  ty : Nat := 0
  door : Nat := 0
  antCount : Nat := 1
  rf : Nat := 0
  chains : List Nat := []
  cmb : Nat := 0
  subject : Nat := 0
  iqRate : Nat := 0
  request : Nat := 1
  slot : Nat := 0
  acqMs : Nat := 0
  holdMs : Nat := 0
  outDepth : Nat := 4
  deriving DecidableEq, Repr

/-- A Buoy-poll entry (R145). -/
structure PollEnt where
  group : Nat := 0
  chain : Nat := 0
  buoy : Nat := 0
  channel : Nat := 0
  every : Nat := 1
  phase : Nat := 0
  kind : Nat := 0
  deriving DecidableEq, Repr

/-- A calibration-window entry (R145). -/
structure WinEnt where
  group : Nat := 0
  lanes : Nat := 0
  items : Nat := 0
  every : Nat := 1
  phase : Nat := 0
  deriving DecidableEq, Repr

/-- A watch image (R140 to R145), read from its bytes. -/
structure WatchImg where
  kind : Nat := 0
  minChains : Nat := 6
  periodUs : Nat := 1000
  imageId : Nat := 0
  version : Nat := 0
  guardUs : Nat := 0
  initMask : List Byte := []
  digest : List Byte := []
  slots : List Slot := []
  sweep : List SweepSeg := []
  plans : List CtxPlan := []
  polls : List PollEnt := []
  wins : List WinEnt := []
  rules : List Byte := []
  hasStorm : Bool := false
  stormSlots : List Slot := []
  stormPlans : List CtxPlan := []
  stormSweep : List SweepSeg := []
  deriving DecidableEq, Repr

/-- A slot run of the present period: not started, running since a device time, or complete. -/
inductive RunSt where
  | waiting
  | running (t : Nat)
  | done
  deriving DecidableEq, Repr

/-- A committed mask write not yet used (R150): its elements and values, and who wrote it. -/
structure MaskWrite where
  elems : List (Nat × Nat)
  org : Origin
  deriving DecidableEq, Repr

/-- The Watch sequencer beside its objects. -/
structure WatchState where
  img : Option WatchImg := none
  /-- an image whose checks have passed, with its area (3: early watch): it takes effect at the next period start -/
  next : Option (WatchImg × Nat) := none
  /-- an activation under way: flash area, and whether it belongs to start-up (R159) -/
  checking : Option Nat := none
  /-- areas still to be tried at start-up -/
  bootTry : List Nat := []
  /-- the start-up choice of an image (R159) has begun -/
  selected : Bool := false
  /-- grid time G of the present period -/
  grid : Nat := 0
  /-- `run` of R151 -/
  run : Nat := 0
  storm : Bool := false
  stormOnGrid : Nat := 0
  stormExit : Bool := false
  /-- the next period start resynchronises (R157) -/
  resync : Bool := false
  wasLate : Bool := false
  /-- the slots kept in the present period, with their runs -/
  kept : List (Nat × RunSt) := []
  /-- device time at which the present period's last run completed -/
  doneAt : Nat := 0
  /-- device time that the last step led to, for the grid points a resynchronisation passes over (R157) -/
  stepTo : Nat := 0
  /-- mask of the present period, and mask writes committed since (R150) -/
  mask : List Nat := [0, 0, 0, 0]
  maskWrites : List MaskWrite := []
  /-- the Watch stops at the next period start (READY, R552) -/
  stopping : Bool := false
  /-- the image takes effect again after SENTRY (R555) -/
  resume : Bool := false
  /-- mono times of the thermal governor's last steps -/
  rankUpAt : Option Nat := none
  rankDownAt : Option Nat := none
  /-- mono times for R160 -/
  earlyWriteAt : Option Nat := none
  deriving DecidableEq, Repr

/-! ### Side data and the Foghorn path (chapter 8) -/

/-- A side-data record before it has its SEQ on a stream (Table 8.1). -/
structure SdRec where
  rtype : Nat
  std : Nat
  flags : Nat
  ctx : Nat
  sub : Nat
  sid : Nat
  tag : Nat
  tRx : Nat
  payload : List Byte
  deriving DecidableEq, Repr

/-- An RDS group being assembled (R228): its blocks by place (information word, ERR), GFLAGS, end of the last block. -/
structure RdsPart where
  blocks : List (Nat × Nat × Nat) := []
  flags : Nat := 0
  last : Nat := 0
  deriving DecidableEq, Repr

/-- A text collected in segments: characters by segment, A/B flag, the last complete text, and whether a segment held overloaded samples. -/
structure SegText where
  segs : List (Nat × List Nat) := []
  ab : Option Bool := none
  prev : List Nat := []
  ovl : Bool := false
  deriving DecidableEq, Repr

/-- A DL Plus command: link, item toggle, item running, tags as content type, start and length in characters. -/
structure PlusTags where
  link : Bool
  toggle : Bool
  running : Bool
  tags : List (Nat × Nat × Nat)
  deriving DecidableEq, Repr

/-- A dynamic label being received (R231): its toggle, segments by number with their character set and codes, number of the last, overload, and the last
DL Plus command. -/
structure LabelSt where
  toggle : Bool := false
  segs : List (Nat × Nat × List Nat) := []
  last : Option Nat := none
  ovl : Bool := false
  plus : Option PlusTags := none
  deriving DecidableEq, Repr

/-- The configuration of a DAB ensemble as its FIGs give it: EId (0 unknown), ECC, local offset in minutes; services with their component words (FIG 0/2); packet
components as SCId and SubChId (FIG 0/3); component identifiers as SId, SCIdS and SubChId (FIG 0/8); user applications as SId, SCIdS and type (FIG 0/13). -/
structure DabConf where
  eid : Nat := 0
  ecc : Nat := 0
  lto : Option Int := none
  comps : List (Nat × List Nat) := []
  packs : List (Nat × Nat) := []
  ids : List (Nat × Nat × Nat) := []
  apps : List (Nat × Nat × Nat) := []
  deriving DecidableEq, Repr

/-- A warning indication on its way to K0 (R238): class, context, SID; whether it is present, and whether it tells the end; the transmission frame that carries
it, the location codes it names, the component it announces; T_RX and SFLAGS of what carried it, and mono time at which it was decoded. -/
structure FhInd where
  cls : Nat
  ctx : Nat
  sid : Nat := 0
  present : Bool
  ended : Bool
  frame : Nat := 0
  locs : List Nat := []
  subch : Nat := 255
  tRx : Nat := 0
  flags : Nat := 0
  at_ : Nat := 0
  deriving DecidableEq, Repr

/-- What the side-data decoders hold of one context: groups by stream, PI and ECC of stream 0, its texts, and the last FIG
delivered by type, extension and identifying fields (R230); the ensemble's configuration, dynamic labels by component, memories of the entry decoders, the stream
of an alarm in the SDC, alternatives and linked identities that it signals (R264). -/
structure SdCtx where
  parts : List (Nat × RdsPart) := []
  pid : Nat := 0
  ecc : Nat := 0
  ps : SegText := {}
  rt : SegText := {}
  ptyn : SegText := {}
  figs : List (Nat × Nat × Nat × List Byte) := []
  dab : DabConf := {}
  labels : List (Nat × LabelSt) := []
  pads : List (Nat × List Byte) := []
  alarm : Option Nat := none
  alts : List Nat := []
  links : List (Nat × Nat) := []
  deriving DecidableEq, Repr

/-- A MOT object being assembled, or one discarded whose further segments are ignored (R232). -/
structure MotObj where
  ctx : Nat
  sub : Nat
  tid : Nat
  sid : Nat
  dead : Bool := false
  app : Nat
  since : Nat
  hdr : List (Nat × List Byte) := []
  hdrLast : Option Nat := none
  body : List (Nat × List Byte) := []
  bodyLast : Option Nat := none
  deriving DecidableEq, Repr

/-- A service-list entry (R235, R236): its fields, its sources, what each source last reported of each field (field, context,
mono time, value), since when it has had no source, its AF codes, and the payload of its last record. -/
structure Svc where
  std : Nat
  sid : Nat
  ecc : Nat := 0
  pty : Nat := 0
  flags : Nat := 0
  label : List Byte := []
  srcs : List Nat := []
  reps : List (Nat × Nat × Nat × List Byte) := []
  noSrc : Option Nat := none
  afs : List Nat := []
  told : List Byte := []
  deriving DecidableEq, Repr

/-- A warning in a slot (R241): its class and SID, its source contexts, counts of consecutive indications towards confirmation
and towards the end by context, transmission frames seen, mono times of the first and last indication, component announced,
matched location, the context that firmware armed for it, whether its source has been started, and context, T_RX and SFLAGS of the last indication that it heard. -/
structure FhSlot where
  cls : Nat := 0
  sid : Nat := 0
  srcs : List Nat := []
  seen : List (Nat × Nat) := []
  clear : List (Nat × Nat) := []
  frames : List Nat := []
  first : Nat := 0
  last : Nat := 0
  subch : Nat := 255
  loc : Nat := 0
  own : Option Nat := none
  started : Bool := false
  heard : Nat := 0
  tRx : Nat := 0
  flags : Nat := 0
  deriving DecidableEq, Repr

/-- The side-data decoders (K1) and the Foghorn path (K0). -/
structure SdState where
  ctxs : List (Nat × SdCtx) := []
  mots : List MotObj := []
  /-- content delivered lately: kind, identity, digest, mono time (R237) -/
  dups : List (Nat × Nat × List Byte × Nat) := []
  svcs : List (Nat × Svc) := []
  /-- records that wait for room, and since when a stream has lacked it (R246) -/
  out : List SdRec := []
  full : List (Nat × Nat) := []
  warns : List (Nat × FhSlot) := []
  /-- class and SID of dismissed warnings, until an end indication (Table 8.12) -/
  quiet : List (Nat × Nat) := []
  /-- indications decoded that have not reached K0 (R238) -/
  inds : List FhInd := []
  deriving DecidableEq, Repr

/-! ### Light List and service following (chapter 9) -/

/-- A candidate (Table 9.5): RF, type code, identity, CFLAGS. -/
structure LlCand where
  rf : Nat := 0
  ty : Nat := 0
  ident : Nat := 0
  flags : Nat := 0
  deriving DecidableEq, Repr

/-- A context of a follow slot: its candidate, when it was armed, whether it is identified, since when its switch conditions hold
(R272), and the last lag with the levels of the active source and of it, with its time (R273). -/
structure LlCtx where
  ctx : Nat := 0
  cand : LlCand := {}
  armed : Nat := 0
  known : Bool := false
  since : Option Nat := none
  lag : Option (Int × Int × Int × Nat) := none
  /-- mono time of the last refresh of its lag, accepted or not (R273) -/
  corrAt : Option Nat := none
  deriving DecidableEq, Repr

/-- A delay line (R274): the context it records (0 none), its delay in samples, gain in 0.01 dB, and its samples, newest first. -/
structure LlLine where
  ctx : Nat := 0
  d : Nat := 0
  g : Int := 0
  held : List (Int × Int) := []
  deriving DecidableEq, Repr

/-- A crossfade of a follow slot: internal frame at which it began, its length, the frame at which it was reversed. -/
structure LlFade where
  start : Nat
  len : Nat
  rev : Option Nat := none
  deriving DecidableEq, Repr

/-- A follow slot beside its objects (Table 9.9). -/
structure LlSlot where
  cands : List LlCand := []
  active : Option LlCtx := none
  others : List LlCtx := []
  /-- candidates that failed, with mono time -/
  fails : List (LlCand × Nat) := []
  /-- mono time before which no switch is chosen -/
  holdoff : Nat := 0
  lineA : LlLine := {}
  lineB : LlLine := {}
  /-- line B carries the active source -/
  useB : Bool := false
  /-- internal frame at which the 5 ms fade-in began -/
  fadeIn : Option Nat := none
  /-- the switch under way: target context, BLEND_MS, lag used -/
  target : Option (Nat × Nat × Int) := none
  fade : Option LlFade := none
  /-- identities of the last successful lookup: type code and ID -/
  ids : List (Nat × Nat) := []
  /-- the image changed during a blend, which completes under the old candidate list (R259) -/
  keep : Bool := false
  deriving DecidableEq, Repr

/-- A checked Light List image (R249, R250): flash area, body offset in flash, body length, blocks, header, directory (COUNT, OFFSET,
LENGTH of sections 1–5), the leaf-hash table and the coarse index as shared SRAM holds them (R256), blocks marked BAD, blocks in the
cache with their bytes, most recently used first, and how many it holds. -/
structure LlImg where
  area : Nat := 0
  base : Nat := 0
  len : Nat := 0
  blocks : Nat := 0
  head : List Byte := []
  dir : List (Nat × Nat × Nat) := []
  leaves : List Byte := []
  coarse : List Byte := []
  bad : List Nat := []
  cache : List (Nat × List Byte) := []
  size : Nat := 16
  deriving DecidableEq, Repr

/-- The following engine (K2) and the Light List. -/
structure LlState where
  img : Option LlImg := none
  /-- image whose checks have passed: it takes effect at the next run of job 0x0001 -/
  next : Option LlImg := none
  /-- area under check, and areas still to be tried at start-up -/
  checking : Option Nat := none
  tries : List Nat := []
  slots : List (Nat × LlSlot) := []
  /-- current cell (R263) -/
  cell : Option (Int × Int) := none
  /-- last MEAN of channels of FOLLOWING segments, by 2^20 · raster + 8 · channel + chain -/
  levels : List (Nat × Int) := []
  deriving DecidableEq, Repr

/-! ### Calibration (chapter 11) -/

/-- A ramp of 256 steps (R305): the value it started from, its target, the steps taken, the mono time of its start and its RAMP_MS. -/
structure Ramp where
  a : List Int := []
  b : List Int := []
  step : Nat := 0
  running : Bool := false
  since : Nat := 0
  ms : Nat := 0
  deriving DecidableEq, Repr

/-- Calibration sequencing and lane G, beside their objects. -/
structure CalState where
  /-- power-up calibrations under way, oldest first: lanes (bit 0 A to bit 6 G) and mono start -/
  runs : List (Nat × Nat) := []
  /-- lane due causes: bit 0 time, bit 1 temperature, bit 2 command -/
  due : List (Nat × Nat) := []
  /-- mono time at which the present lane G stage was entered -/
  stageAt : Nat := 0
  /-- ramped corrections (R305): 0 lane G's alignment, 1 + j ABS_CORR of door band j -/
  ramps : List (Nat × Ramp) := []
  refs : List (Nat × RefEnt) := []
  /-- mono time at which a ramp last ended -/
  rampEnd : Nat := 0
  /-- the target being measured (bit 3n + d of REF_TARGETS), its door's index before, and the mono time at which its measurement began -/
  measuring : Option (Nat × Nat × Nat) := none
  /-- coarse selections in force, and those of the active record, by lane (R304, R319) -/
  sel : List (Nat × LaneSel) := []
  seed : List (Nat × LaneSel) := []
  /-- targets still to be tried -/
  targets : Nat := 0
  /-- a coarse selection differs from the seed and waits for full operation; it has been stored this power-up (R319) -/
  coarse : Bool := false
  coarseDone : Bool := false
  /-- REASON of the next calibration bank (Table 11.4) -/
  reason : Nat := 1
  /-- die temperature at which each Buoy-link channel's calibration was stored (R322) -/
  linkTemp : List (Nat × Int) := []
  /-- Buoy-link channels being calibrated -/
  linkDue : Nat := 0
  /-- factory entries (Table 11.6) -/
  fx : List (List Byte) := []
  deriving DecidableEq, Repr

/-! ### Audio (chapter 12) -/

/-- A port side beside its objects (R329 to R343). Times are `mono` times. -/
structure AuSide where
  /-- configuration taken at the start (R336) -/
  role : Nat := 0
  format : Nat := 0
  slots : Nat := 2
  slotBits : Nat := 32
  wordBits : Nat := 24
  rate : Nat := 48000
  flags : Nat := 0
  buf : Nat := 64
  lead : Nat := 32
  tail : Nat := 32
  fill : Nat := 0
  group : Nat := 0
  /-- start instant T, once fixed (R338) -/
  t0 : Option Nat := none
  /-- instant of frame 0's WS edge, and its index on the grid of R332 (masters) -/
  e0 : Nat := 0
  j0 : Nat := 0
  /-- frame 0 has been reached since the start -/
  begun : Bool := false
  /-- BCLK and WS run (masters), or the zero-data lead has begun (slaves) -/
  clk : Bool := false
  tailLeft : Nat := 0
  /-- last WS edge -/
  lastEdge : Nat := 0
  /-- TX: frame number and samples. RX: instant of the WS edge and samples. Oldest first -/
  fifo : List (Nat × List Int) := []
  /-- frames inside the rate converter, likewise: a TX frame enters the FIFO when no more than BUF_FRAMES frames are left before its
  edge (R341), and an RX frame leaves it at each internal frame. TX: number of the next frame to be made -/
  pipe : List (Nat × List Int) := []
  next : Nat := 0
  /-- samples of the last frame sent; words put on the wire (none: high impedance) -/
  lastSent : List Int := []
  wire : List (Option Nat) := []
  /-- levels of WS and SD in each BCLK period of the last frame, from its WS edge (none: high impedance), the SD bit that a format with a delay of one period
  sends after the frame's end, and the level of WS at its end (R329, R330) -/
  line : List (Bool × Option Bool) := []
  carry : Option Bool := some false
  ws : Bool := false
  /-- the last frame was counted in XRUN, LATE or FRAMING (R342) -/
  counted : Bool := false
  /-- slot mask in use, and writes that have not been used yet (R343) -/
  mask : Nat := 0xFF
  masks : List (Nat × Origin) := []
  /-- RATE_PPM beyond RATE_TOL has been reported (R334) -/
  high : Bool := false
  /-- instant until which a changed rate class is being reacquired (R335) -/
  reacq : Nat := 0
  /-- the last rate class that was not 0 (R333, Table 12.3) -/
  lastClass : Nat := 0
  /-- TX: the last mixes with their mono times, newest first, that the rate converter works on (R327) -/
  mixes : List (Nat × List Int) := []
  /-- RX: WS edges of frames that were dropped or discarded, for which the internal stream takes zero (R341) -/
  gaps : List Nat := []
  deriving DecidableEq, Repr

/-- A routing entry as applied (Table 12.4). -/
structure RouteCfg where
  src : Nat := 0
  dst : Nat := 0
  map : Nat := 0
  gain : Int := 0
  deriving DecidableEq, Repr

/-- A routing entry beside its objects: what is applied, newest first, each with the internal frame at which its crossfade began
and its length in frames; whether a committed write waits; whether its source was live when last resolved (R348). -/
structure RouteSt where
  layers : List (RouteCfg × Nat × Nat) := []
  pending : Bool := false
  live : Bool := false
  deriving DecidableEq, Repr

/-- Who feeds an output: none is the routing table, some w is warning slot w. A layer has the internal frame at which its
crossfade began, its length, and the frame at which it was reversed (R243). -/
structure HoldLayer where
  who : Option Nat := none
  start : Nat := 0
  len : Nat := 0
  rev : Option Nat := none
  deriving DecidableEq, Repr

/-- A context or selector source (R328): internal frame of its first sample, samples arrived, and those not yet used. -/
structure AuSrc where
  k0 : Nat := 0
  got : Nat := 0
  buf : List (Nat × Int × Int) := []
  deriving DecidableEq, Repr

/-- Audio beside its objects. Sides by 2 · port + (0 TX, 1 RX); outputs by port (TX side) or 8 + stream. -/
structure AuState where
  on : Bool := false
  /-- internal frame reached, and its instant -/
  k : Nat := 0
  kAt : Nat := 0
  /-- port and number of the first TX frame that carries the early station's sound through routing entry 0 (Table 21.6) -/
  early : Option (Nat × Nat) := none
  sides : List (Nat × AuSide) := []
  routes : List (Nat × RouteSt) := []
  srcs : List (Nat × AuSrc) := []
  holds : List (Nat × List HoldLayer) := []
  /-- AVTP streams: frames that wait for a packet (internal frame and samples), sequence numbers, packets sent -/
  avtp : List (Nat × List (Nat × List Int)) := []
  avtpSeq : List (Nat × Nat) := []
  sent : List (Nat × List Byte) := []
  /-- shared SRAM handed out to memory rings: offset and bytes, by ring -/
  rings : List (Nat × Nat × Nat) := []
  deriving DecidableEq, Repr

/-! ### Power, clocks and reset (chapter 21) -/

/-- Where the device stands among its power states and start-up stages (Tables 21.1, 21.2, 21.6). `held`: in reset, or in
STANDBY or thermal shutdown after a wake, waiting for RESET_RELEASE. -/
inductive Phase where
  | held | starting | ready | run | sentryEntry | sentry | standbyEntry | standby
  deriving DecidableEq, Repr

/-- PW_STATE of a phase (Table 21.1). -/
def Phase.code : Phase → Nat
  | .ready => 1 | .run => 2 | .sentryEntry => 3 | .sentry => 4 | .standbyEntry => 5
  | .held | .starting | .standby => 0

/-- The power unit beside its objects, and what the AO island holds. -/
structure PowerState where
  phase : Phase := .held
  /-- firmware has restored the configuration (Table 21.6) -/
  restored : Bool := false
  /-- full operation has been reached since the last reset (R572) -/
  full : Bool := false
  /-- cause and detail of the last reset (AO island, R566) -/
  cause : Nat := 1
  detail : Nat := 0
  /-- K0 has been halted by step 5 of R539, in this boot and in the one before -/
  step5 : Bool := false
  prev5 : Bool := false
  /-- a return to RUN from READY is under way -/
  rising : Bool := false
  /-- a reset scheduled: cause, detail, mono time -/
  pendReset : Option (Nat × Nat × Nat) := none
  /-- a return to RUN from SENTRY is under way (R555), with its wake cause -/
  waking : Option Nat := none
  /-- thermal-shutdown latch, with the sensor (R570) -/
  thermal : Option Nat := none
  /-- a wake latched during an entry (R553) -/
  latched : Option Nat := none
  /-- mono time at which STANDBY or SENTRY was reached -/
  reachedAt : Nat := 0
  /-- AO copies of the wake objects (R554, R556) -/
  aoWake0 : Nat := 2
  aoWake1 : Nat := 0
  aoDebounce : Nat := 10
  aoTimer : Nat := 0
  aoPfail : Bool := false
  aoSupplyCtrl : Bool := false
  aoThermRestart : Bool := true
  /-- SUPPLY_EN as driven (R561): none while undriven -/
  supplyEn : Option Bool := none
  /-- the level at which GPIO15 drives through STANDBY as an ordinary output (R609): none where it drives none -/
  gpio15 : Option Bool := none
  /-- WAKE1 is low with WAKE1_PFAIL = 1 (R560) -/
  wake1Low : Bool := false
  /-- no REFCLK edges arrive (R563) -/
  refclkLost : Bool := false
  /-- mono time of a K1–K3 double fault that leads to a reset, per Keeper (R569) -/
  haltAt : List (Nat × Nat) := []
  /-- TH_WARN may be raised (R570) -/
  thArmed : Bool := true
  /-- mono time at which the last reset was released (R571) -/
  bootAt : Nat := 0
  /-- event 3 is due at full operation, with its argument -/
  wakeEvent : Option Nat := none
  /-- K0 has executed ENTER.REG -/
  entered : Bool := false
  deriving DecidableEq, Repr

/-! ### Buoy link (chapter 15) -/

/-- A message for a Buoy in its downlink queue: TYPE, payload, and its SEQ once it has been sent (R422). -/
structure BlMsg where
  ty : Nat
  body : List Byte
  seq : Option Nat := none
  deriving DecidableEq, Repr

/-- What a transmission is: a queued downlink, a MAP, an entry's closing message, DISCOVER, or ASSIGN. -/
inductive BlUse where
  | down | map | close | discover | assign
  deriving DecidableEq, Repr

/-- A transmission: chain, channel, Buoy slot (none: broadcast), message, rate code, level at the pin, and retries made. -/
structure BlTx where
  use : BlUse
  chain : Nat
  channel : Nat
  slot : Nat := 0
  bcast : Bool := false
  msg : BlMsg
  rate : Nat
  level : Int
  tries : Nat := 0
  deriving DecidableEq, Repr

/-- A packet that has left a port: chain, channel, rate code, level, mono time of its first bit, and its bytes (Table 15.2). -/
structure BlSent where
  chain : Nat
  channel : Nat
  rate : Nat
  level : Int
  at_ : Nat
  bytes : List Byte
  deriving DecidableEq, Repr

/-- A detection (R432): kind (0–5 a GFSK rate code, 6 OFDM), mono time of the packet's start at the pin, and strength. -/
structure BlDet where
  kind : Nat
  start : Nat
  strength : Int
  deriving DecidableEq, Repr

/-- A validated packet header (Tables 15.2, 15.4). -/
structure BlHdr where
  len : Nat
  ty : Nat
  slot : Nat
  seq : Nat
  ackReq : Bool
  bcast : Bool := false
  mapId : Nat := 0
  word : Nat := 0
  deriving DecidableEq, Repr

/-- A chain's receiver: the current detection, its header once validated, and saved detections, oldest first (R433). -/
structure BlRx where
  cur : Option BlDet := none
  hdr : Option BlHdr := none
  saved : List BlDet := []
  deriving DecidableEq, Repr

/-- A packet in the receive queue (R434), with what its record needs (Table 15.9). -/
structure BlPkt where
  chain : Nat
  slot : Nat
  ty : Nat
  body : List Byte
  ofdm : Bool
  dup : Bool
  channel : Nat
  t : Nat
  uid : Nat
  deriving DecidableEq, Repr

/-- An ACK to be sent (R435): chain, slot (none: an ANNOUNCE), mono time of its first bit, rate code and level. -/
structure BlAck where
  chain : Nat
  slot : Option Nat
  at_ : Nat
  rate : Nat
  level : Int
  deriving DecidableEq, Repr

/-- A Buoy slot beside its objects. -/
structure BlBuoy where
  queue : List BlMsg := []
  /-- SEQ of the next new message to the Buoy, and of the last one accepted from it -/
  txSeq : Nat := 0
  rxSeq : Option Nat := none
  /-- a duplicate has been discarded since the last record -/
  dup : Bool := false
  /-- ASSIGNING was entered from LOST -/
  fromLost : Bool := false
  /-- map in force (52 entries; none: empty) and its channel, the one before it with its MAP_ID, and a new one that is due -/
  map : List Nat := []
  mapCh : Option Nat := none
  prev : Option (Nat × List Nat) := none
  due : Option BlMsg := none
  /-- the first POLL since ACTIVE has still to come; mono time of the last MAP -/
  first : Bool := false
  mapAt : Nat := 0
  /-- channel of its last poll entry -/
  chan : Option Nat := none
  /-- S(k), k from −32, and whether an OFDM uplink gave it (R426) -/
  sig : List Int := []
  sigOfdm : Bool := false
  deriving DecidableEq, Repr

/-- The poll entry under way (R430): the Watch slot, the entry, downlinks it may still send, whether its closing message has been
sent and answered, and the end of its windows (DISCOVER). -/
structure BlEntry where
  wslot : Nat
  poll : PollEnt
  left : Nat
  closed : Bool := false
  answered : Bool := false
  windows : Option Nat := none
  deriving DecidableEq, Repr

/-- An exchange that waits for its answer: the message sent, the deadline for a sync word, and whether one was detected (R431). -/
structure BlWait where
  tx : BlTx
  deadline : Nat
  heard : Bool := false
  deriving DecidableEq, Repr

/-- A Buoy firmware update (R439): target, flash source, length, bytes queued so far, and whether FW_END has been queued. -/
structure BlFw where
  target : Nat
  src : Nat
  len : Nat
  off : Nat := 0
  ended : Bool := false
  deriving DecidableEq, Repr

/-- The Buoy-link modem, its synthesiser and the firmware that manages the link, beside their objects. -/
structure BlState where
  rx : List (Nat × BlRx) := []
  buoys : List (Nat × BlBuoy) := []
  /-- SEQ of the next broadcast message on a chain -/
  bcastSeq : List (Nat × Nat) := []
  /-- N(chain, channel, k) as linear power, by 512 · chain + 64 · channel + k + 32; mono time of a chain's last measurement -/
  noise : List (Nat × Nat) := []
  noiseAt : List (Nat × Nat) := []
  /-- entries that the running poll slots have still to start, by Watch slot -/
  todo : List (Nat × PollEnt) := []
  entry : Option BlEntry := none
  /-- the transmission that waits for its channel, an ACK or a calibration -/
  cur : Option BlTx := none
  /-- mono time at which the hop under way started; the synthesiser is settled on CHANNEL_NOW -/
  hop : Option Nat := none
  settled : Bool := true
  /-- a calibration is awaited; LINK_CAL_CMD's calibrations are paused until the exchange ends -/
  calWait : Bool := false
  calHeld : Bool := false
  wait : Option BlWait := none
  /-- the port last driven and the mono time until which it is; end of the last packet received, or sent without an answer -/
  txChain : Nat := 0
  txEnd : Nat := 0
  lastEnd : Nat := 0
  acks : List BlAck := []
  rxq : List BlPkt := []
  assigns : List BlTx := []
  /-- the last packet was lost (event 115 is raised at the first loss after a packet without one) -/
  losing : Bool := false
  fw : Option BlFw := none
  /-- packets that have left a port, oldest first -/
  sent : List BlSent := []
  deriving DecidableEq, Repr

/-- A controller transfer with the values it was queued with (R449): whether it has started on the bus, runs there now, the
retries made, and its last START. -/
structure TwXfer where
  addr : Nat
  write : List Byte
  read : Nat
  quick : Nat
  started : Bool := false
  active : Bool := false
  retries : Nat := 0
  /-- mono time of its START -/
  at_ : Nat := 0
  deriving DecidableEq, Repr

/-- What a controller puts on the bus, or clocks in from a target: START, repeated START, a byte and whether it is acknowledged, STOP (R449), and a clock pulse of a
recovery (R454). -/
inductive TwTok where
  | start | again | byte (v : Nat) (ack : Bool) | stop | pulse
  deriving DecidableEq, Repr

/-- A two-wire port beside its objects (chapter 16). -/
structure TwPort where
  /-- segments waiting at the target window, with the controller's identifier -/
  out : List (Nat × List Byte) := []
  msgno : List (Nat × Nat) := []
  /-- ROLE and SPEED in effect (R444) -/
  role : Nat := 0
  speed : Nat := 1
  /-- the bus is free (R445); the earliest mono time at which it can be -/
  free : Bool := false
  freeAt : Nat := 0
  xfer : Option TwXfer := none
  /-- SCL has been low since this mono time, past CTL_STRETCH_MS (R448) -/
  sclLow : Option Nat := none
  /-- clock pulses after which a target that holds SDA lets it go: 0 SDA is high, above 9 never (R454) -/
  sdaHold : Nat := 0
  /-- an in-band request is pending, mono time of its last pulse, and pulses sent (R453) -/
  ibr : Bool := false
  ibrAt : Nat := 0
  pulses : Nat := 0
  /-- a census has gone to another requester: the request is repeated at the next bus-free instant (R453) -/
  ibrAgain : Bool := false
  /-- what the port has put on the bus as controller, oldest first -/
  wire : List TwTok := []
  /-- bytes last returned to a controller through the window (Table 16.3) -/
  answer : List Byte := []
  deriving DecidableEq, Repr

/-! ### Secure boot, debug and attestation (chapter 20) -/

/-- Security beside its objects. The K objects hold the rest of the OTP (Table 20.1). -/
structure SecState where
  /-- OTP at 0x0200: SEED, I and the EPOCH bits; they survive a reset -/
  seed : List Byte := []
  ident : List Byte := []
  epoch : Nat := 0
  /-- verified-image range of R480: first address and length -/
  range : Option (Nat × Nat) := none
  /-- firmware areas found bad at boot: bit 0 A, bit 1 B -/
  rejects : Nat := 0
  /-- check of R534 that area A and area B failed at boot -/
  rejectA : Nat := 0
  rejectB : Nat := 0
  /-- VERSION of the running firmware -/
  fwVersion : Nat := 0
  /-- how recovery was requested (R541): 1 command, 2 strap, 3 no firmware -/
  recovery : Nat := 0
  /-- firmware area under verification, and the origin of the write -/
  checking : Option Nat := none
  /-- the last debug challenge read, and whether debug has been unlocked since reset; wrong responses since reset -/
  challenge : Option (List Byte) := none
  unlocked : Bool := false
  wrong : Nat := 0
  /-- mono time at which generation, or the quote under way, began -/
  genAt : Option Nat := none
  quoteAt : Option Nat := none
  /-- stores of the LMS state: mono time before which the next is not tried, and bank SEQ and LIMIT in force -/
  lmsSeq : Nat := 0
  lmsBankA : Bool := false
  deriving DecidableEq, Repr

/-! ### The Keepers (chapters 17 and 18) -/

/-- A capability entry of a service program (Table 17.15). -/
structure CapEnt where
  kind : Nat := 0
  flags : Nat := 0
  first : Nat := 0
  last : Nat := 0
  deriving DecidableEq, Repr

/-- A loaded service program (R481 to R485): its code and data regions, entry offset, capabilities, runs so far and aborts in
succession. -/
structure Prog where
  codeAt : Nat := 0
  codeLen : Nat := 0
  inFlash : Bool := false
  dataAt : Nat := 0
  dataLen : Nat := 0
  entry : Nat := 0
  caps : List CapEnt := []
  runs : Nat := 0
  aborts : Nat := 0
  deriving DecidableEq, Repr

/-- One Keeper core: its stacks in stack mode, and the registers of Tables 17.1, 17.2 and 17.12 in register mode. D, A and ACC
are undefined after a core reset until ENTER.REG sets them (R461). -/
structure Core where
  /-- stack mode (PSW.SM) -/
  stackMode : Bool := true
  /-- data stack and return stack, top first -/
  ds : List Word := []
  rs : List Word := []
  pc : Word := 0xF0000000
  psw : Word := 0
  lc : Word := 0
  ls : Word := 0
  le : Word := 0
  sc : Word := 0
  epc : Word := 0
  epsw : Word := 0
  ecause : Word := 0
  vbase : Word := 0
  d : List (Nat × Word) := []
  a : List (Nat × Word) := []
  acc : List (Nat × BitVec 72) := []
  vlevel : List (Nat × Word) := []
  soft : Bool := false
  bell : Bool := false
  /-- TIMER_CMP, and the timer interrupt raised by it -/
  timer : Nat := 0
  timerOn : Bool := false
  /-- the upper half of the cycle count, latched by a read of CYCLES_LO -/
  cyclesHi : Word := 0
  ctrSel : Nat := 0
  ctrRaise : Bool := false
  /-- MPU_BASE and MPU_LIMIT, by region; BITWIN_FIRST and BITWIN_LAST, by window -/
  mpu : List (Nat × Word × Word) := []
  win : List (Nat × Word × Word) := []
  /-- LR.W reservation: its 32-byte granule -/
  resv : Option Nat := none
  /-- between two elements of a REP (R474) -/
  inRep : Bool := false
  /-- a WAIT holds issue -/
  waiting : Bool := false
  /-- halted by a double fault, by step 5 of R539, or by the debug port; halt-on-break armed -/
  dead : Bool := false
  dbg : Bool := false
  brk : Bool := false
  deriving DecidableEq, Repr

/-- The Keepers: cores, local memories (key: core · 2^32 + address), shared SRAM, semaphores, the hash engine's message, and
the service programs. -/
structure KpState where
  cores : List (Nat × Core) := []
  lmem : List (Nat × Byte) := []
  sram : List (Nat × Byte) := []
  sems : List (Nat × Bool) := []
  /-- the SHA-256 computation begun by SHA_INIT -/
  sha : Option (List Byte) := none
  progs : List (Nat × Prog) := []
  /-- programs being loaded -/
  loading : List Nat := []
  /-- the program that runs, its slot, and the mono time of its start -/
  running : Option (Nat × Nat × Nat) := none
  /-- programs disabled while they ran -/
  leaving : List Nat := []
  /-- mono time of each watchdog's last restart -/
  wdtAt : List (Nat × Nat) := []
  deriving DecidableEq, Repr

/-! ### The device -/

/-- Bytes of a bank of memory, address and byte, in the canonical form of `Tab` (an unlisted byte reads 0). -/
abbrev Mem := List (Nat × Byte)

/-- Everything in the device but the command queue. -/
structure Dev where
  /-- device time, ns (R412) -/
  now : Nat := 0
  /-- elapsed time, ns, never stepped: intervals are timed by it -/
  mono : Nat := 0
  /-- free values used so far (a field of the model, not of the spec) -/
  free : Nat := 0
  /-- instants of the last periodic ticks, by unit -/
  ticks : List (Nat × Nat) := []
  /-- object values, by numeric OID; an unlisted object reads its factory default -/
  objs : List (Nat × Val) := []
  /-- user defaults of P objects (R366) -/
  udef : List (Nat × Val) := []
  log : LogState := {}
  store : StoreState := {}
  nvm : Nvm := {}
  host : HostState := {}
  tm : TimeState := {}
  ev : EvState := {}
  pw : PowerState := {}
  tw : List (Nat × TwPort) := []
  /-- stream-window rings, by descriptor (R518) -/
  rings : List (Nat × Ring) := []
  /-- dictionary ports, by 2 · core + bank (0 bank F, 1 bank S) -/
  ports : List (Nat × DictPort) := []
  /-- core-local flags, by 1024 · core + address (Table 17.6) -/
  lflags : List (Nat × Bool) := []
  rf : RfState := {}
  lens : LensState := {}
  cx : CxState := {}
  wt : WatchState := {}
  cal : CalState := {}
  sd : SdState := {}
  ll : LlState := {}
  mf : MfState := {}
  bl : BlState := {}
  sec : SecState := {}
  au : AuState := {}
  kp : KpState := {}
  /-- OSPI flash, by flash byte address (Table 20.4); its contents come from outside -/
  flash : List (Nat × Byte) := []
  deriving DecidableEq, Repr

/-- What stops the machine. No command of this block does: every row of the opcode table has an effect in every state. -/
inductive Fault where
  /-- never raised; it keeps the type inhabited. Safe. -/
  | unused
  deriving DecidableEq, Repr

/-- What the model does not run. -/
inductive Refusal where
  /-- a row of the opcode table without a meaning yet: raised by that row's arm of the dispatch, nowhere else. Safe. -/
  | notModelled (mnemonic : String)
  deriving DecidableEq, Repr

/-- The state: the device, and the commands that wait, first in, first out. -/
structure State where
  dev : Dev := {}
  pending : List Instr := []
  deriving DecidableEq, Repr

/-- The machine right after reset: in reset (R558), every object at its reset value, no command waiting. -/
def State.reset : State := {}

end Sys2Proof.Machine
end

