-- ==== Sys2Proof/Machine/Ops.lean ====
section
/-! DEFINITION. The operations every unit shares: reading and writing objects, counting, raising events through the router
(Table 19.2, R521 to R527), and entering records in the log (R380 to R385). -/

namespace Sys2Proof.Machine

/-! ### Objects -/

/-- The value an object reads as (its default where no value is listed). -/
def Dev.get (d : Dev) (o : Nat) : Val := Tab.get (Dict.dflt o) d.objs o

/-- The device with one object's value replaced. -/
def Dev.put (d : Dev) (o : Nat) (v : Val) : Dev := { d with objs := Tab.set (Dict.dflt o) d.objs o v }

/-- A numeric object. -/
def Dev.num (d : Dev) (o : Nat) : Int := (d.get o).int

/-- A numeric object whose values are never negative. -/
def Dev.nat (d : Dev) (o : Nat) : Nat := (d.num o).toNat

/-- A BOOL object. -/
def Dev.flag (d : Dev) (o : Nat) : Bool := decide (d.num o ≠ 0)

/-- A numeric object set. -/
def Dev.setN (d : Dev) (o : Nat) (n : Int) : Dev := d.put o (.num n)

/-- A BOOL object set. -/
def Dev.setB (d : Dev) (o : Nat) (b : Bool) : Dev := d.put o (.num (if b then 1 else 0))

/-- A byte-string object. -/
def Dev.raw (d : Dev) (o : Nat) : List Byte := (d.get o).raw

/-- A byte-string object set. -/
def Dev.setRaw (d : Dev) (o : Nat) (b : List Byte) : Dev := d.put o (.bytes b)

/-- A `w`-bit counter raised by `k`. The spec does not say what a counter reads past its width: that value is free
(log 4). -/
def Dev.count (d : Dev) (w : Nat) (o : Nat) (k : Nat) : Dev :=
  let v := d.nat o + k
  d.setN o (if v < 2 ^ w then v else Config.counterPast o v)

/-- A U32 counter raised by one. -/
def Dev.inc (d : Dev) (o : Nat) : Dev := d.count 32 o 1

/-- The part: 0 ZF9663-AQ, 1 ZF9663-PX, 2 ZF9463-AQ (Table 13.13). -/
def Dev.part (d : Dev) : Nat := d.nat O.syPart

/-- Chains the part has: A–F, or A–D on the ZF9463-AQ (R1). -/
def Dev.chains (d : Dev) : Nat := if d.part = 2 then 4 else 6

/-- The number of the next free value, and the device with that number used up. -/
def Dev.fresh (d : Dev) : Nat × Dev := (d.free, { d with free := d.free + 1 })

/-! ### Power-state questions -/

/-- The router, the dictionary objects and the fabric island are powered (R528). -/
def Dev.fabricOn (d : Dev) : Bool :=
  match d.pw.phase with
  | .held | .standby => false
  | _ => true

/-- The dictionary server runs: firmware has restored the configuration (Table 21.6). -/
def Dev.serverUp (d : Dev) : Bool := d.fabricOn && d.pw.restored

/-- SENTRY with K1–K3, Harbour and audio stopped: reached, and no wake yet (R554, R555). -/
def Dev.asleep (d : Dev) : Bool := decide (d.pw.phase = .sentry) && d.pw.waking.isNone

/-- The host links answer: the server runs and Harbour is not stopped in SENTRY (Table 21.1). -/
def Dev.linksUp (d : Dev) : Bool := d.serverUp && !d.asleep

/-- The Harbour island is powered and clocked: the transports, the two-wire ports and the Buoy-link modem work (Tables 1.1 and 21.1). -/
def Dev.harbourOn (d : Dev) : Bool := d.fabricOn && !d.asleep

/-- What a unit of Harbour does, while the island is clocked (R18). -/
def Dev.inHarbour (d : Dev) (f : Dev → Dev) : Dev := if d.harbourOn then f d else d

/-- Keeper `k` executes: it is not halted, and K1–K3 are not stopped in SENTRY. The functions of Table 1.6 of any other Keeper do nothing (R26,
R569). -/
def Dev.keeperUp (d : Dev) (k : Nat) : Bool := !(Tab.get {} d.kp.cores k).dead && (decide (k = 0) || !d.asleep)

/-- A function of Keeper `k`, while it executes. -/
def Dev.byKeeper (d : Dev) (k : Nat) (f : Dev → Dev) : Dev := if d.keeperUp k then f d else d

/-! ### Memories (R30, R31) -/

/-- The uses of eNVM (Table 1.10). -/
inductive NvmUse where
  | cfgA | cfgB | calA | calB | lmsA | lmsB | statA | statB | early | log
  deriving DecidableEq, Repr

/-- First offset and size of a use of eNVM (Table 1.10). -/
def NvmUse.region (u : NvmUse) : Nat × Nat :=
  match u with
  | .cfgA => (0x000000, 0x40000) | .cfgB => (0x040000, 0x40000)
  | .calA => (0x080000, 0x10000) | .calB => (0x090000, 0x10000)
  | .lmsA => (0x0A0000, 0x1000) | .lmsB => (0x0A1000, 0x1000)
  | .statA => (0x0B0000, 0x8000) | .statB => (0x0B8000, 0x8000)
  | .early => (0x0C0000, 0x10000) | .log => (0x100000, 0x80000)

/-- Every use of eNVM. -/
def NvmUse.all : List NvmUse := [.cfgA, .cfgB, .calA, .calB, .lmsA, .lmsB, .statA, .statB, .early, .log]

/-- The use an eNVM offset has; none: reserved, neither read nor written (Table 1.10). -/
def nvmAt (o : Nat) : Option NvmUse := NvmUse.all.find? (fun u => decide (u.region.1 ≤ o) && decide (o < u.region.1 + u.region.2))

/-- Bytes that a bank of a use may take: all of its region but the MARKER of 32 bytes at its end. -/
def NvmUse.room (u : NvmUse) : Nat := u.region.2 - 32

/-- Entries of 64 bytes in the eNVM log ring (Tables 1.8 and 1.10). -/
def nvmLogEntries : Nat := NvmUse.log.region.2 / 64

/-- The memories (Table 1.9). -/
inductive Memory where
  | gallerySram | lensBuffers | imem | dmem | sharedSram | envm | otp | flash
  deriving DecidableEq, Repr

/-- Bytes of a memory (Table 1.9): of each core, for the local ones; of flash, the most there can be. -/
def Memory.size (m : Memory) : Nat :=
  match m with
  | .gallerySram => 0xA00000 | .lensBuffers => 0x100000 | .imem => 0x20000 | .dmem => 0x40000 | .sharedSram => 0x400000
  | .envm => 0x200000 | .otp => 0x2000 | .flash => 0x20000000

/-! ### Island time (R23) -/

/-- Islands whose counters stamp occurrences (Table 1.4). -/
inductive Island where
  | ao | lane | lens | fabric | keeper (k : Nat) | harbour | audio
  deriving DecidableEq, Repr

/-- How far an island's counter may stand from the master, ns (Table 1.4). Within that bound lies its resolution too. -/
def Dev.agreement (d : Dev) (i : Island) : Nat :=
  match i with
  | .ao => 32000 | .lane => 3 | .lens => 2 | .fabric => 0
  | .keeper k => (1000 + d.nat (O.pwKeeperFreq k) - 1) / max 1 (d.nat (O.pwKeeperFreq k)) + 2
  | .harbour => 5 | .audio => 21

/-- The number of an island in `Config.follower`. -/
def Island.index (i : Island) : Nat :=
  match i with
  | .ao => 0 | .lane => 1 | .lens => 2 | .fabric => 9 | .keeper k => 3 + k | .harbour => 7 | .audio => 8

/-- Device time as an island's counter shows it: within the agreement of Table 1.4 of the master, and otherwise free (log 101). -/
def Dev.islandTime (d : Dev) (i : Island) : Nat :=
  let b : Int := d.agreement i
  ((d.now : Int) + clampI (-b) b (Config.follower i.index d.now)).toNat

/-! ### The event router (chapter 19) -/

/-- Whether event `e` is never raised (Table 19.1; events 32–39 on the ZF9463-AQ, R1). -/
def eventNever (part e : Nat) : Bool :=
  decide (e = 14) || decide (e = 15) || decide (e = 62) || decide (e = 63) || (decide (76 ≤ e) && decide (e ≤ 79)) ||
  decide (e = 103) || decide (128 ≤ e) || (decide (part = 2) && decide (32 ≤ e) && decide (e ≤ 39))

/-- Events of islands not clocked in SENTRY (R528). -/
def eventNotInSentry (e : Nat) : Bool :=
  (decide (80 ≤ e) && decide (e ≤ 100)) || (decide (103 ≤ e) && decide (e ≤ 111)) || decide (e = 114) || decide (e = 115)

/-- Whether an occurrence of event `e` can reach the router now. -/
def Dev.canRaise (d : Dev) (e : Nat) : Bool :=
  d.fabricOn && !eventNever d.part e && !(d.asleep && eventNotInSentry e)

/-- The latch of event `e` (EV_LATCHED, R529). -/
def Dev.latched (d : Dev) (e : Nat) : Bool := (d.nat (O.evEvLatched (e / 64))).testBit (e % 64)

/-- The mask bit of event `e` (EV_MASK, R524). -/
def Dev.masked (d : Dev) (e : Nat) : Bool := (d.nat (O.evEvMask (e / 64))).testBit (e % 64)

/-- Whether an event of latch word `k` asks for host pin `i`: latched, unmasked and routed there (R525). -/
def Dev.pinWord (d : Dev) (i k : Nat) : Bool :=
  let l := clearBits (d.nat (O.evEvLatched k)) (d.nat (O.evEvMask k))
  if l = 0 then false else (List.range 64).any fun b => l.testBit b && (d.nat (O.evEvHost (64 * k + b))).testBit i

/-- Whether host pin `i` has a reason to be asserted (R525). -/
def Dev.pinWanted (d : Dev) (i : Nat) : Bool := d.pinWord i 0 || d.pinWord i 1

/-- EV_HOSTIRQ_STATE as the latches, masks and routings give it; a pin being re-pulsed stays released (R525). -/
def Dev.pins (d : Dev) : Nat :=
  (if d.pinWanted 0 && !d.ev.reassert0 then 1 else 0) + (if d.pinWanted 1 && !d.ev.reassert1 then 2 else 0)

/-- Line `l` of Keeper `k` is pending: an event routed there is latched and unmasked (R526). -/
def Dev.linePending (d : Dev) (k l : Nat) : Bool :=
  (List.range 128).any fun e =>
    d.latched e && !d.masked e && decide (d.nat (O.evEvLine e) = l) && (d.nat (O.evEvKeepers e)).testBit k

/-- Table 19.2 for one occurrence of event `e`, stamped `t`. The answer says whether PEND_COUNT has just reached 65,535
(R523). -/
def Dev.latchEvent (d : Dev) (e t arg : Nat) : Dev × Bool :=
  let p := d.nat (O.evEvPendCount e)
  let d1 := (d.inc (O.evEvCount e)).setN (O.evEvTLast e) t
  if d.latched e then
    (d1.setN (O.evEvPendCount e) (satU 16 (p + 1)), decide (p + 1 = 65535))
  else
    let l := d1.nat (O.evEvLatched (e / 64))
    ((((d1.setN (O.evEvLatched (e / 64)) (withBit l (e % 64) true)).setN (O.evEvPendCount e) 1).setN
      (O.evEvTFirst e) t).setN (O.evEvArg e) arg, false)

/-- The largest message of a transport, in bytes (Table 14.4). -/
def largestMsg (port : Nat) : Nat :=
  match port with
  | 3 => 15300
  | 5 | 6 => 8192
  | _ => 65584

/-- The 16 header bytes of a message (Table 14.1). -/
def headerBytes (opcode mflags session tag len seq : Nat) : List Byte :=
  leBytes 1 0xD7 ++ leBytes 1 1 ++ leBytes 1 opcode ++ leBytes 1 mflags ++ leBytes 2 session ++ leBytes 2 tag ++
  leBytes 4 len ++ leBytes 4 seq

/-- All bytes of a sent message. -/
def OutMsg.bytes (m : OutMsg) : List Byte :=
  headerBytes m.opcode m.mflags m.session m.tag m.body.length m.seq ++ m.body ++ m.mac

/-- The session with a number. -/
def Dev.sessionByNum (d : Dev) (n : Nat) : Option Session := d.host.sessions.find? (fun s => decide (s.num = n))

/-- A session replaced by its number. -/
def Dev.setSession (d : Dev) (s : Session) : Dev :=
  { d with host := { d.host with sessions := d.host.sessions.map (fun x => if x.num = s.num then s else x) } }

/-- SEQ `q` noted as the last sent in a session. -/
def Dev.sessSent (d : Dev) (n q : Nat) : Dev :=
  { d with host := { d.host with sessions := d.host.sessions.map (fun x => if x.num = n then { x with txSeq := q } else x) } }

/-- Segment payload of a transport (Table 14.4). -/
def segPayload (port : Nat) : Nat :=
  match port with
  | 3 => 60
  | 4 => 4092
  | 5 | 6 => 248
  | _ => 1440

/-- A message cut into segments, each behind its 4-byte segment header (R400). `fuel` bounds the number of segments. -/
def segmentsOf : Nat → Nat → Nat → Nat → List Byte → List (List Byte)
  | 0, _, _, _, _ => []
  | f + 1, pay, msgno, seg, b =>
    let last := decide (b.length ≤ pay)
    (leBytes 2 msgno ++ leBytes 1 seg ++ leBytes 1 (if last then 1 else 0) ++ b.take pay) ::
      (if last then [] else segmentsOf f pay msgno (seg + 1) (b.drop pay))

/-! ### Frames of Ethernet and CAN FD (R401, R402) -/

/-- A node on Ethernet: its address, and its UDP port in [15:0]; below 2^32 the address is one of IPv4 (log 46). -/
def nodeOf (addr udp : Nat) : Nat := 65536 * addr + udp

/-- A node has an IPv4 address. -/
def isIpv4 (n : Nat) : Bool := decide (n / 65536 < 2 ^ 32)

/-- The IPv6 link-local address of a MAC, by the modified EUI-64 rule. -/
def linkLocal (mac : Nat) : Nat := 0xFE80 * 2 ^ 112 + (mac / 2 ^ 24 ^^^ 0x020000) * 2 ^ 40 + 0xFFFE * 2 ^ 24 + mac % 2 ^ 24

/-- The IPv4 address of an Ethernet port, 0 none. -/
def LinkSet.ip (l : LinkSet) (port : Nat) : Nat := if port = 1 then l.t1Ip else l.t1sIp

/-- The address from which the device sends to a node: on Ethernet of the addressee's kind, at UDP_PORT; on CAN FD its node. -/
def Dev.linkSelf (d : Dev) (port dest : Nat) : Nat :=
  if port = 3 then d.host.link.canNode
  else nodeOf (if isIpv4 dest then d.host.link.ip port else linkLocal (d.nat (if port = 1 then O.ntT1Mac else O.ntT1sMac))) d.host.link.udp

/-- CLASS of a message that the device sends on CAN FD (R402). -/
def canClass (opcode mflags : Nat) : Nat := if mflags.testBit 0 then 1 else if opcode = 0x13 ∨ opcode = 0x22 then 0 else 3

/-- A 29-bit identifier (R402). -/
def canId (cls base dest src : Nat) : Nat := 2 ^ 27 * cls + 2 ^ 16 * base + 2 ^ 8 * dest + src

/-- Data padded with 0x00 to the next valid length of a CAN FD frame. -/
def canPad (b : List Byte) : List Byte :=
  padTo (([0, 1, 2, 3, 4, 5, 6, 7, 8, 12, 16, 20, 24, 32, 48, 64].find? (fun n => decide (b.length ≤ n))).getD 64) b

/-- A message as the frames of its Ethernet port or of CAN FD carry it. -/
def Dev.framesOf (d : Dev) (m : OutMsg) : List (Nat × List Byte) :=
  (segmentsOf 255 (segPayload m.port) (Tab.get 0 d.host.msgno m.port) 0 m.bytes).map (fun b =>
    if m.port = 3 then (canId (canClass m.opcode m.mflags) d.host.link.canBase m.dest d.host.link.canNode, canPad b) else (m.dest, b))

/-- A frame that comes in is for the device: on Ethernet over IPv6, or over IPv4 while the port has an address; on CAN FD a request to CAN_NODE, whose
identifier `source` is. -/
def Dev.linkAccepts (d : Dev) (port src source : Nat) : Bool :=
  if port = 3 then decide (source = canId 2 d.host.link.canBase d.host.link.canNode src) else !isIpv4 src || decide (d.host.link.ip port ≠ 0)

/-- A message handed to its transport: on Ethernet and CAN FD it is sent; at the SPI target and the two-wire windows its
segments wait to be fetched (R402, R457). Event 99 is due when a segment starts waiting at the SPI target while none was
waiting; the answer says so. -/
def Dev.hand (d : Dev) (m : OutMsg) : Dev × Bool :=
  if m.port = 4 then
    let segs := segmentsOf 255 4092 d.host.spiMsgno 0 m.bytes
    ({ d with host := { d.host with spi := d.host.spi ++ segs, spiMsgno := (d.host.spiMsgno + 1) % 65536 } },
      d.host.spi.isEmpty)
  else if m.port = 5 ∨ m.port = 6 then
    let p := m.port - 5
    let w := Tab.get {} d.tw p
    let segs := (segmentsOf 255 248 (Tab.get 0 w.msgno m.dest) 0 m.bytes).map (fun b => (m.dest, b))
    let w1 := { w with out := w.out ++ segs, msgno := Tab.set 0 w.msgno m.dest ((Tab.get 0 w.msgno m.dest + 1) % 65536) }
    let asks := w.out.isEmpty && d.flag (O.twIbrEnable p) && (decide (w.role = 1) || decide (w.role = 3)) && decide (d.nat (O.twTgtAddr p) < 0x8000)
    ({ d with tw := Tab.set {} d.tw p (if asks then { w1 with ibr := true, ibrAt := d.mono, pulses := w1.pulses + 1 } else w1) }, false)
  else
    let n := Tab.get 0 d.host.msgno m.port
    ({ d with host := { d.host with sent := d.host.sent ++ [{ m with sender := d.linkSelf m.port m.dest, frames := d.framesOf m }],
                                    msgno := Tab.set 0 d.host.msgno m.port ((n + 1) % 65536) } }, false)

/-- A message of a session, or of none, with header fields and MAC as R395 and R404 give. -/
def Dev.compose (d : Dev) (port dest opcode mflags session tag : Nat) (body : List Byte) : OutMsg × Dev :=
  match (if session = 0 then none else d.sessionByNum session) with
  | some s =>
    if s.open_ then
      let q := s.txSeq + 1
      let h := headerBytes opcode (mflags + 2) session tag body.length q
      ({ port := port, dest := dest, opcode := opcode, mflags := mflags + 2, session := session, tag := tag, seq := q,
         body := body, mac := hmac s.sk (h ++ body) }, d.sessSent session q)
    else ({ port := port, dest := dest, opcode := opcode, mflags := mflags, session := session, tag := tag, body := body }, d)
  | none => ({ port := port, dest := dest, opcode := opcode, mflags := mflags, session := session, tag := tag, body := body }, d)

/-- The progress of the subscription with an id set: its last notification, losses and open windows. -/
def Dev.setSub (d : Dev) (s : Sub) : Dev :=
  { d with host := { d.host with subs := d.host.subs.map (fun x =>
      if x.id = s.id then { x with lastVal := s.lastVal, lastT := s.lastT, lost := s.lost, losing := s.losing, windows := s.windows } else x) } }

/-- The subscription with an id. -/
def Dev.subById (d : Dev) (i : Nat) : Option Sub := d.host.subs.find? (fun s => decide (s.id = i))

/-- A record offered to a subscription (R408); none while Harbour is stopped, towards which firmware has then stopped all traffic (R21): sent, or counted in LOST when it exceeds the transport's largest message
or finds no room in the send queue. The answer lists the events this raises: 100 at the first loss after a record that
was sent, 99 when a segment starts waiting at the SPI target. Whether there is room is free (log 6). -/
def Dev.offer (d : Dev) (id opcode : Nat) (body : List Byte) : Dev × List (Nat × Nat) :=
  match (if d.asleep then none else d.subById id) with
  | none => (d, [])
  | some s =>
    let big := decide (largestMsg s.port < 16 + body.length + (if s.session = 0 then 0 else 32))
    let r := d.fresh
    if big || !Config.sendRoom s.port r.1 then
      (r.2.setSub { s with lost := s.lost + 1, losing := true }, if s.losing then [] else [(100, s.id)])
    else
      let c := (r.2.setSub { s with losing := false }).compose s.port s.req opcode 0 s.session 0 body
      let h := c.2.hand c.1
      (h.1, if h.2 then [(99, 0)] else [])

/-- The body of an EVENT frame (R409). -/
def eventBody (e count t arg : Nat) : List Byte :=
  leBytes 1 e ++ leBytes 1 0 ++ leBytes 2 (satU 16 count) ++ leBytes 8 t ++ leBytes 4 arg

/-- A window that ends before another, ties going to the lower event (R527). -/
def EvWindow.before (a b : EvWindow) : Bool := decide (a.tEnd < b.tEnd) || (decide (a.tEnd = b.tEnd) && decide (a.ev ≤ b.ev))

/-- The window of a subscription that ends first. -/
def Sub.firstWindow (s : Sub) : Option EvWindow := s.windows.find? (fun w => s.windows.all (fun x => w.before x))

/-- A window of a subscription ends: its frame is queued (R527). -/
def Dev.windowFrame (d : Dev) (s : Sub) (w : EvWindow) : Dev × List (Nat × Nat) :=
  (d.setSub { s with windows := s.windows.filter (fun x => decide (x.ev ≠ w.ev)) }).offer s.id 0x13 (eventBody w.ev w.count w.tFirst w.arg)

/-- The windows of a subscription that are over at stamp `t` end, in their order; `n` bounds them. -/
def Dev.windowsPast : Nat → Nat → Nat → Dev → Dev × List (Nat × Nat)
  | 0, _, _, d => (d, [])
  | n + 1, id, t, d =>
    match d.subById id with
    | none => (d, [])
    | some s =>
      match s.firstWindow with
      | some w =>
        if w.tEnd ≤ t then
          let r := d.windowFrame s w
          let q := Dev.windowsPast n id t r.1
          (q.1, r.2 ++ q.2)
        else (d, [])
      | none => (d, [])

/-- An occurrence of event `e` at one KIND 5 subscription (R527): windows over at its stamp end before it; it is a frame at once with
EV_COALESCE_US 0, else it joins the open window or opens one. -/
def Dev.windowOccur (d0 : Dev) (e t arg : Nat) (s0 : Sub) : Dev × List (Nat × Nat) :=
  if s0.kind = 5 ∧ s0.evmask.testBit e ∧ !d0.asleep then
    let us := d0.nat (O.evEvCoalesceUs e)
    let p := Dev.windowsPast 128 s0.id t d0
    let d := p.1
    let s := (d.subById s0.id).getD s0
    if us = 0 then
      let r := d.offer s.id 0x13 (eventBody e 1 t arg)
      (r.1, p.2 ++ r.2)
    else if s.windows.any (fun w => decide (w.ev = e)) then
      (d.setSub { s with windows := s.windows.map (fun w => if w.ev = e then { w with count := w.count + 1 } else w) }, p.2)
    else
      (d.setSub { s with windows := s.windows ++ [{ ev := e, tEnd := t + us * 1000, tFirst := t, arg := arg, count := 1 }] }, p.2)
  else (d0, [])

/-- The windows of every subscription for one occurrence; the answer gathers the events this raises in turn. -/
def Dev.windowsOccur (d : Dev) (e t arg : Nat) : List Nat → Dev × List (Nat × Nat)
  | [] => (d, [])
  | i :: t' =>
    let r := match d.subById i with
      | some s => d.windowOccur e t arg s
      | none => (d, [])
    let q := Dev.windowsOccur r.1 e t arg t'
    (q.1, r.2 ++ q.2)

/-- Occurrences reaching the router one after another, each with what it raises in turn; `fuel` bounds the chain (event
13 never raises itself, and event 100 is raised once per loss run). -/
def Dev.route : Nat → Nat → List (Nat × Nat) → Dev → Dev
  | 0, _, _, d => d
  | _ + 1, _, [], d => d
  | f + 1, t, (e, arg) :: rest, d =>
    if d.canRaise e then
      let l := d.latchEvent e t arg
      let w := l.1.windowsOccur e t arg (l.1.host.subs.map (·.id))
      Dev.route f t (rest ++ (if l.2 && decide (e ≠ 13) then [(13, e)] else []) ++ w.2) w.1
    else Dev.route f t rest d

/-- The island in which an event happens (Table 19.1). -/
def eventIsland (e : Nat) : Island :=
  if e = 3 ∨ e = 4 then .ao
  else if (16 ≤ e ∧ e ≤ 39) ∨ e = 46 then .lane
  else if e = 40 ∨ e = 41 ∨ (64 ≤ e ∧ e ≤ 75) then .lens
  else if 80 ≤ e ∧ e ≤ 95 then .audio
  else if e = 96 ∨ (98 ≤ e ∧ e ≤ 100) ∨ (104 ≤ e ∧ e ≤ 111) ∨ e = 114 ∨ e = 115 then .harbour
  else if e = 97 ∨ (120 ≤ e ∧ e ≤ 122) ∨ e = 126 ∨ e = 127 then .keeper 0
  else if e = 123 then .keeper 1
  else if e = 124 then .keeper 2
  else if 112 ≤ e ∧ e ≤ 119 then .keeper 3
  else .fabric

/-- Event `e` raised now, with its argument, stamped in the island where it happens (Table 19.1, R23). -/
def Dev.raise (d : Dev) (e arg : Nat) : Dev := Dev.route 200 (d.islandTime (eventIsland e)) [(e, arg)] d

/-! ### The log (chapter 13) -/

/-- The next SEQ, after a SEQ_MARK record where that SEQ is a multiple of 4,096 (R385). The mark goes to eNVM before any
higher SEQ is issued, so it is put straight into the eNVM ring; the RAM ring takes it too (R380). -/
def Dev.issueSeq (d : Dev) : Nat × Dev :=
  let n := d.log.next
  if n % 4096 = 0 then
    let m : LogEntry := { seq := n, kind := 3, result := 8, t := d.now, role := 3, source := 0xFF00, vflags := 0x20,
                          old := n, oldLen := 8, newLen := 8 }
    (n + 1, { d with
      log := { d.log with ram := (d.log.ram ++ [m]).drop (d.log.ram.length + 1 - 16384), next := n + 2 }
      nvm := { d.nvm with log := (d.nvm.log ++ [m]).drop (d.nvm.log.length + 1 - nvmLogEntries) } })
  else (n, { d with log := { d.log with next := n + 1 } })

/-- An entry put into the RAM ring with the next SEQ (R380); `nv` says that it is copied to eNVM too (R382). Answers the
SEQ it took. Before the server runs an entry is held until the BOOT record has taken its SEQ (R385). -/
def Dev.logPut (d : Dev) (e : LogEntry) (nv : Bool) : Nat × Dev :=
  if !d.pw.restored then (0, { d with log := { d.log with held := d.log.held ++ [(e, nv)] } })
  else
  let r := d.issueSeq
  let e2 := { e with seq := r.1, vflags := e.vflags + (if nv then 0x20 else 0) }
  let l := r.2.log
  (r.1, { r.2 with log := { l with ram := (l.ram ++ [e2]).drop (l.ram.length + 1 - 16384),
                                               pend := if nv then l.pend ++ [e2] else l.pend } })

/-- A KIND 3 record with origin F (Table 13.11, Table 20.7). -/
def Dev.record (d : Dev) (code old new : Nat) : Dev :=
  (d.logPut { kind := 3, result := code, t := d.now, role := 3, source := 0xFF00, old := old, new := new, oldLen := 8,
              newLen := 8 } true).2

/-- A KIND 3 record with a given origin. -/
def Dev.recordBy (d : Dev) (org : Origin) (code old new : Nat) : Dev :=
  (d.logPut { kind := 3, result := code, t := d.now, role := org.role.code, port := org.port, session := org.session,
              source := org.source, old := old, new := new, oldLen := 8, newLen := 8 } true).2

/-- A write that a unit discarded before use: a log entry with result SUPERSEDED (R150, R343). -/
def Dev.logSuper (d : Dev) (org : Origin) (o new len : Nat) : Dev :=
  (d.logPut { kind := 1, result := 7, t := d.now, oid := o, role := org.role.code, port := org.port, session := org.session,
              source := org.source, new := new, newLen := len } false).2

/-- How a value stands in OLD or NEW of a log entry: inline when 8 bytes or less, else the first 8 bytes of its SHA-256
(Table 13.9, Table 13.10). Answers the number, its length, and whether it is a digest. -/
def logVal (b : List Byte) : Nat × Nat × Bool :=
  if b.length ≤ 8 then (leNat b, b.length, false) else (leNat ((sha256 b).take 8), b.length, true)

/-- Device origin of firmware writes: role F, on-chip, Keeper 0 (R362, Table 13.9). -/
def firmware : Origin := { role := .F, port := 0, session := 0, source := 0xFF00 }

/-! ### Time -/

/-- Elapsed time moved up to `m` where it has not reached it: a command that the spec places at an instant happens no
earlier than that instant (log 3). -/
def Dev.clockTo (d : Dev) (m : Nat) : Dev :=
  if m ≤ d.mono then d else { d with now := d.now + (m - d.mono), mono := m }

/-- The end of an interval of `ms` milliseconds that started at mono time `t`. -/
def Dev.after (d : Dev) (t ms : Nat) : Dev := d.clockTo (t + ms * 1000000)

/-- Device time moved up to `t` where it has not reached it. -/
def Dev.timeTo (d : Dev) (t : Nat) : Dev := d.clockTo (d.mono + (t - d.now))

/-- The next tick of a unit whose ticks fall at the device times `k · ns + phase`: the first such time after the unit's
last tick. -/
def Dev.tick (d : Dev) (unit ns phase : Nat) : Dev :=
  let l := min (Tab.get 0 d.ticks unit) d.now
  let due := if l < phase then phase else ((l - phase) / ns + 1) * ns + phase
  let d1 := d.timeTo due
  { d1 with ticks := Tab.set 0 d1.ticks unit d1.now }

/-- A calibration ramp ran in the last `ns` nanoseconds, or runs (R305). -/
def Dev.ramped (d : Dev) (ns : Nat) : Bool := d.cal.ramps.any (fun p => p.2.running) || (decide (d.cal.rampEnd ≠ 0) && decide (d.mono < d.cal.rampEnd + ns))

end Sys2Proof.Machine
end

