-- ==== Sys2Proof/Machine/Ring.lean ====
section
/-! DEFINITION. The stream window (R518): rings of records, their readers, and when a record is freed; and how a record
waiting on a ring goes out on a Tender subscription (R408). -/

namespace Sys2Proof.Machine

/-- The ring of descriptor `n`. -/
def Dev.ring (d : Dev) (n : Nat) : Ring := Tab.get {} d.rings n

/-- The device with a ring replaced. -/
def Dev.setRing (d : Dev) (n : Nat) (r : Ring) : Dev := { d with rings := Tab.set {} d.rings n r }

/-- The descriptor that carries a subscription's records: measurement streams 0–7, side-data streams 8–15, output frames of
context c at 16 + c (R518). -/
def subRing (kind index : Nat) : Option Nat :=
  match kind with
  | 1 => some (index % 8)
  | 2 => some (8 + index % 8)
  | 3 => some (16 + index)
  | _ => none

/-- Ring bytes of a record: its length word, the record, padding to a multiple of 4. -/
def ringBytes (len : Nat) : Nat := 4 + (len + 3) / 4 * 4

/-- Output frames of context `c` carry entries that the side-data decoders take (R224): RDS entries of FM, digital entries; none of AM, IQ export and MEAS of FM.
-/
def Dev.sideReads (d : Dev) (c : Nat) : Bool :=
  let ty := d.nat (O.cxType c)
  decide (ty ≠ 2) && decide (ty ≠ 10) && !(decide (ty = 9) && decide (d.nat (O.cxSubject c) < 2)) && !(decide (ty = 11) && decide (d.nat (O.cxSubject c) = 1))

/-- The readers that a new record of ring `n` has: every core that has written its TAIL, the side-data job, whether
or not it runs, for a context's frames with entries (R224), and every subscription that the record is for. -/
def Dev.readers (d : Dev) (n : Nat) (shadow : Bool) : List Nat :=
  (d.ring n).tails.map (·.1) ++ (if 17 ≤ n ∧ d.sideReads (n - 16) then [4] else []) ++
  (d.host.subs.filter (fun s => decide (subRing s.kind s.index = some n) && !(shadow && decide (s.kind = 3)))).map (fun s => 256 + s.id)

/-- A record put on ring `n`. A record without a reader is passed at once. -/
def Dev.ringPut (d : Dev) (n seq : Nat) (shadow : Bool) (b : List Byte) : Dev :=
  let r := d.ring n
  let h := r.head + ringBytes b.length
  let w := d.readers n shadow
  d.setRing n { r with head := h,
                       recs := r.recs ++ (if w.isEmpty then [] else [{ endPos := h, seq := seq, shadow := shadow, waits := w, bytes := b }]),
                       gone := if w.isEmpty then seq else r.gone }

/-- Reader `w` of a ring has passed every record up to position `p`; a record that every reader has passed is freed. -/
def Ring.pass (r : Ring) (w p : Nat) : Ring :=
  let l := r.recs.map (fun x => if x.endPos ≤ p then { x with waits := x.waits.filter (fun y => decide (y ≠ w)) } else x)
  { r with recs := l.filter (fun x => !x.waits.isEmpty)
           gone := ((l.filter (fun x => x.waits.isEmpty)).getLast?.map (·.seq)).getD r.gone }

/-- Reader `w` no longer reads the ring. -/
def Ring.quit (r : Ring) (w : Nat) : Ring := r.pass w r.head

/-- A store of `v` to the TAIL of ring `n` by core `k`: it takes effect only between the present TAIL and HEAD, modulo 2^32
(R518). -/
def Dev.tailStore (d : Dev) (n k v : Nat) : Dev :=
  let r := d.ring n
  let t := Tab.get 0 r.tails k
  let ahead := (v + 2 ^ 32 - t % 2 ^ 32) % 2 ^ 32
  if t + ahead ≤ r.head then
    let tails := if Tab.has r.tails k then r.tails.map (fun p => if p.1 = k then (k, t + ahead) else p) else Tab.insert k (t + ahead) r.tails
    d.setRing n ({ r with tails := tails }.pass k (t + ahead))
  else d

/-- The first record of ring `n` that reader `w` has still to pass. -/
def Ring.nextFor (r : Ring) (w : Nat) : Option RingRec := r.recs.find? (fun x => x.waits.any (fun y => decide (y = w)))

/-- The next record of a subscription's stream goes out as a STREAM message, or is counted in LOST (R408). With no record
waiting nothing is sent. -/
def Dev.streamSend (d : Dev) (id : Nat) : Dev :=
  match d.subById id with
  | none => d
  | some s =>
    match subRing s.kind s.index with
    | none => d
    | some n =>
      match (d.ring n).nextFor (256 + id) with
      | none => d
      | some x =>
        let d1 := d.setRing n ((d.ring n).pass (256 + id) x.endPos)
        let o := d1.offer id 0x12 (leBytes 1 id ++ leBytes 1 s.kind ++ leBytes 1 s.index ++ leBytes 1 0 ++ x.bytes)
        Dev.route 200 o.1.now o.2 o.1

/-! ### Measurement streams (R96, R101) -/

/-- The next SEQ of stream `s` used up. -/
def Dev.streamSeq (d : Dev) (s : Nat) : Nat × Dev :=
  let q := (d.nat (O.lnStreamSeq s) + 1) % 2 ^ 32
  (q, d.setN (O.lnStreamSeq s) q)

/-- A record of a measurement stream delivered: its LOST and RECORDS_LOST are taken up (R96). `mk` builds the record from
SEQ, LOST and the RECORDS_LOST bit. -/
def Dev.streamDeliver (d : Dev) (s : Nat) (mk : Nat → Nat → Bool → List Byte) : Dev :=
  let m := Tab.get {} d.lens.streams s
  let q := d.streamSeq s
  let d1 := { q.2 with lens := { q.2.lens with streams := Tab.set {} q.2.lens.streams s { m with losing := false } } }
  d1.ringPut s q.1 false (mk q.1 m.lost m.losing)

/-- A record of a measurement stream discarded (R96). -/
def Dev.streamDrop (d : Dev) (s : Nat) : Dev :=
  let m := Tab.get {} d.lens.streams s
  ({ d with lens := { d.lens with streams := Tab.set {} d.lens.streams s { m with losing := true, lost := m.lost + 1 } } }).inc
    (O.lnStreamLost s)

end Sys2Proof.Machine
end

