-- ==== Sys2Proof/Machine/Daymark.lean ====
section
/-! DEFINITION. The canonical serialisation (R374) and the Daymarks (R387 to R390). Leaves and Daymarks are computed from the
values in force whenever they are read. -/

namespace Sys2Proof.Machine

/-- One serialisation record (Table 13.5): `flags` without the entry index. -/
def serialRecord (o : Nat) (ty : Ty) (flags : Nat) (v : Val) : List Byte :=
  let b := ty.encode v
  leBytes 4 o ++ leBytes 1 ty.code ++ leBytes 1 flags ++ leBytes 2 b.length ++ b

/-- A record of a class C object that shows one entry of several (R374): the entry index in FLAGS [7:4], and above 15 also in
a U16 before VALUE, with FLAGS bit 2. LEN counts VALUE alone. -/
def serialEntry (o : Nat) (ty : Ty) (i : Nat) (b : List Byte) : List Byte :=
  leBytes 4 o ++ leBytes 1 ty.code ++ leBytes 1 (16 * (i % 16) + (if 15 < i then 4 else 0)) ++ leBytes 2 b.length ++
  (if 15 < i then leBytes 2 i else []) ++ b

/-- The records of one object: its value, its user default where one is set, or its entries (R374). -/
def Dev.serialObject (d : Dev) (o : Nat) : List Byte :=
  match Dict.find o with
  | none => []
  | some r =>
    let loc := if r.loc then 2 else 0
    if o = O.caFxEntry then (List.range d.cal.fx.length).flatMap (fun i => serialEntry o r.ty i (d.cal.fx.getD i []))
    else serialRecord o r.ty loc (d.get o) ++
      (match d.udef.find? (fun p => decide (p.1 = o)) with
       | some p => serialRecord o r.ty (loc + 1) p.2
       | none => [])

/-- The objects of one class and area that a Daymark covers: no Local object and none of item LG.020 (R387). -/
def Dev.daymarkOids (d : Dev) (c : Cls) (a : Nat) : List Nat :=
  (Dict.oids d.part a c).filter (fun o =>
    !(match Dict.find o with | some r => r.loc | none => false) && !(decide (a = 3) && decide (O.item o = 0x20)))

/-- Whether an object's value enters a Daymark. -/
def daymarked (o : Nat) : Bool :=
  match Dict.find o with
  | some r => (decide (r.cls = .P) || decide (r.cls = .C)) && !r.loc && !(decide (O.area o = 3) && decide (O.item o = 0x20))
  | none => false

/-- The leaf of an area (R387, R388). -/
def Dev.leaf (d : Dev) (c : Cls) (a : Nat) : List Byte :=
  sha256 (leBytes 1 0 ++ leBytes 1 a ++ (d.daymarkOids c a).flatMap d.serialObject)

/-- One level up: entries pair in order, an unpaired last entry rises unchanged (R387). -/
def merkleLevel : List (List Byte) → List (List Byte)
  | x :: y :: t => sha256 (leBytes 1 1 ++ x ++ y) :: merkleLevel t
  | l => l

/-- The single entry that remains; nineteen leaves take five levels up. -/
def merkleRoot (l : List (List Byte)) : List Byte :=
  (merkleLevel (merkleLevel (merkleLevel (merkleLevel (merkleLevel l))))).headD []

/-- The configuration Daymark (class P) or the calibration Daymark (class C). -/
def Dev.daymark (d : Dev) (c : Cls) : List Byte := merkleRoot ((List.range 19).map (d.leaf c))

/-- DM_STATE as the Daymarks and expectations stand (R390). -/
def Dev.dmNow (d : Dev) : Nat :=
  let bad := fun (o : Nat) (c : Cls) =>
    let e := d.raw o
    e.any (fun b => decide (b ≠ 0)) && decide (e ≠ d.daymark c)
  (if bad O.lgExpectCfg .P then 1 else 0) + (if bad O.lgExpectCal .C then 2 else 0)

/-- A heartbeat on change is due (R391). -/
def Dev.wantHb (d : Dev) : Dev :=
  if d.host.hbWanted.isSome then d else { d with host := { d.host with hbWanted := some d.mono } }

/-- DM_STATE judged again (R390). -/
def Dev.dmJudge (d : Dev) : Dev :=
  let a := d.nat O.lgDmState
  let b := d.dmNow
  if a = b then d
  else
    let d1 := d.setN O.lgDmState b
    let d2 := if clearBits b a ≠ 0 then d1.inc O.lgDmMismatches else d1
    ((d2.record 9 a b).raise 126 b).wantHb

/-- A Daymark changed at this instant (R389, R390): `marks` says that some value it covers changed. -/
def Dev.daymarksChanged (d : Dev) (marks : Bool) : Dev :=
  (if marks then (d.setN O.lgDmT d.now).wantHb else d).dmJudge

end Sys2Proof.Machine
end

