-- ==== Sys2Proof/Machine/Span.lean ====
section
/-! DEFINITION. The tags of samples (R56, R81, Table 3.2): runs of chain samples that carry a tag, and the tap samples that a run reaches. -/

namespace Sys2Proof.Machine

/-! ### Sets of numbers as runs -/

/-- A run [a, b) joined to some disjoint rising runs. -/
def ivAdd (a b : Nat) : List (Nat × Nat) → List (Nat × Nat)
  | [] => if a < b then [(a, b)] else []
  | (p, q) :: t =>
    if b ≤ a then (p, q) :: t
    else if b < p then (a, b) :: (p, q) :: t
    else if q < a then (p, q) :: ivAdd a b t
    else ivAdd (min a p) (max b q) t

/-- The union of some runs, as disjoint rising runs. -/
def ivUnion (l : List (Nat × Nat)) : List (Nat × Nat) := l.foldl (fun a x => ivAdd x.1 x.2 a) []

/-- The part of some runs inside [lo, hi). -/
def ivClip (lo hi : Nat) (l : List (Nat × Nat)) : List (Nat × Nat) :=
  (l.map (fun x => (max lo x.1, min hi x.2))).filter (fun x => decide (x.1 < x.2))

/-- Numbers in disjoint runs. -/
def ivLen (l : List (Nat × Nat)) : Nat := (l.map (fun x => x.2 - x.1)).sum

/-- The numbers in both of two sets. -/
def ivMeet (l m : List (Nat × Nat)) : List (Nat × Nat) := l.flatMap (fun x => ivClip x.1 x.2 m)

/-- A number is in a set of runs. -/
def ivHas (l : List (Nat × Nat)) (n : Nat) : Bool := l.any (fun x => decide (x.1 ≤ n) && decide (n < x.2))

/-- The chain sample index at the present instant (R76): fS is 393.216 MSa/s. -/
def Dev.sampleIndex (d : Dev) : Nat := (d.mono - d.rf.epoch) * 393216 / 1000000

/-! ### Spans of a chain -/

/-- Samples for which spans are kept: 2 s, well past what any input buffer holds. -/
def spanKeep : Nat := 786432000

/-- The bits of Table 3.2. -/
def tagOvl : Nat := 0
/-- MUTED. -/
def tagMuted : Nat := 1
/-- RETUNE. -/
def tagRetune : Nat := 2
/-- LANE. -/
def tagLane : Nat := 3

/-- Not a tag of Table 3.2: the transient window after a gain-step mark (Table 2.8), which alignment leaves out (R312). -/
def tagStep : Nat := 4

/-- A span added; those that ended long ago are forgotten. -/
def Dev.spanAdd (d : Dev) (x : Span) : Dev :=
  let keep := d.rf.spans.filter (fun s => match s.last with | some e => decide (d.sampleIndex ≤ e + spanKeep) | none => true)
  { d with rf := { d.rf with spans := keep ++ [x] } }

/-- A span with no end yet, of a chain, door and tag. -/
def Span.runs (x : Span) (n door tag : Nat) : Bool := decide (x.chain = n) && decide (x.door = door) && decide (x.tag = tag) && x.last.isNone

/-- A tag begins on a door of a chain, where it does not run already. -/
def Dev.spanOpen (d : Dev) (n door tag : Nat) : Dev :=
  if d.rf.spans.any (fun x => x.runs n door tag) then d
  else d.spanAdd { chain := n, door := door, tag := tag, first := d.sampleIndex, last := none }

/-- A tag ends. -/
def Dev.spanClose (d : Dev) (n door tag : Nat) : Dev :=
  { d with rf := { d.rf with spans := d.rf.spans.map (fun x => if x.runs n door tag then { x with last := some d.sampleIndex } else x) } }

/-- Chain sample indices of chain `n` that carry a tag on a door. -/
def Dev.chainTagged (d : Dev) (n door tag : Nat) : List (Nat × Nat) :=
  (d.rf.spans.filter (fun x => decide (x.chain = n) && decide (x.tag = tag) && (decide (x.door = 3) || decide (x.door = door)))).map
    (fun x => (x.first, x.last.getD (d.sampleIndex + 1)))

/-- A chain sample in [a, b) carries a tag on some door. -/
def Dev.anyTagged (d : Dev) (n tag a b : Nat) : Bool :=
  d.rf.spans.any (fun x => decide (x.chain = n) && decide (x.tag = tag) && decide (x.first < b) && decide (a < x.last.getD (d.sampleIndex + 1)))

/-- At least half the samples of a chain in [a, b) are usable for alignment: those in no transient window of Table 2.8 and not flagged by R56 (R312). -/
def Dev.overlapUsable (d : Dev) (n a b : Nat) : Bool :=
  let out := (d.rf.spans.filter (fun x => decide (x.chain = n) && (decide (x.tag = tagOvl) || decide (x.tag = tagStep)))).map
    (fun x => (x.first, x.last.getD (d.sampleIndex + 1)))
  decide (2 * ivLen (ivClip a b (ivUnion out)) ≤ b - a)

/-! ### Taps (R80, R81) -/

/-- Twice the output rate of a rate code, in samples per second (Table 3.1). -/
def rateTwice (r : Nat) : Nat :=
  match r with
  | 0 => 48000 | 1 => 96000 | 2 => 192000 | 3 => 384000 | 4 => 768000 | 5 => 1488375 | _ => 4096000

/-- Group delay of a rate code, ns (Table 3.1). -/
def rateDelay (r : Nat) : Nat :=
  match r with
  | 0 => 520000 | 1 => 262000 | 2 => 135000 | 3 => 70000 | 4 => 38000 | 5 => 24000 | _ => 16000

/-- Start latency of a rate code, ns (Table 3.1). -/
def rateStart (r : Nat) : Nat :=
  match r with
  | 0 => 1100000 | 1 => 560000 | 2 => 300000 | 3 => 160000 | 4 => 100000 | 5 => 70000 | _ => 60000

/-- The index of the last sample that a tap of a rate can have delivered by now: its instant lies a group delay back (R80, Table 3.1). -/
def Dev.tapIndexNow (d : Dev) (rate : Nat) : Nat := (d.mono - d.rf.epoch - rateDelay rate) * rateTwice rate / 2000000000

/-- Mono time at which sample `n` of a rate is delivered. -/
def Dev.tapInstant (d : Dev) (rate n : Nat) : Nat := d.rf.epoch + rateDelay rate + ceilDiv (n * 2000000000) (rateTwice rate)

/-- Converter samples to each side of its instant that an output sample's impulse response reaches: the group delay, which is constant, so that the
response is symmetric (R77, R81; log 103). -/
def rateReach (r : Nat) : Nat := rateDelay r * 393216 / 1000000

/-- The output samples of a rate whose impulse response overlaps a run of converter samples (R81). -/
def tapReach (r : Nat) (x : Nat × Nat) : Nat × Nat :=
  (ceilDiv ((x.1 - rateReach r) * rateTwice r) 786432000, ((x.2 - 1 + rateReach r) * rateTwice r) / 786432000 + 1)

/-- The output samples of tap `t` that carry a tag. -/
def Dev.tapTagged (d : Dev) (t tag : Nat) : List (Nat × Nat) :=
  if tag = tagRetune then ivUnion ((Tab.get {} d.lens.taps t).retunes.map (fun n => (n, n + 1)))
  else ivUnion ((d.chainTagged (d.nat (O.lnTapChain t)) (d.nat (O.lnTapDoor t)) tag).map (tapReach (d.nat (O.lnTapRate t))))

/-- The output samples of tap `t` in [a, b) that carry a tag. -/
def Dev.tapTags (d : Dev) (t tag a b : Nat) : List (Nat × Nat) := ivClip a b (d.tapTagged t tag)

/-- How many output samples of tap `t` in [a, b) carry any tag. -/
def Dev.tapCount (d : Dev) (t a b : Nat) : Nat := ivLen (ivUnion ((List.range 4).flatMap (fun g => d.tapTags t g a b)))

/-- TAP_INDEX as it reads now: it moves with the samples that a tap in RUN delivers (LN.409). -/
def Dev.tapIndex (d : Dev) (t : Nat) : Nat :=
  if d.nat (O.lnTapState t) = 2 then max (d.nat (O.lnTapIndex t)) (d.tapIndexNow (d.nat (O.lnTapRate t))) else d.nat (O.lnTapIndex t)

/-- TAP_TAGGED as it reads now: the samples tagged before the present delivery, and those tagged in it. -/
def Dev.tapTaggedNow (d : Dev) (t : Nat) : Int :=
  if d.nat (O.lnTapState t) = 2 then
    let v := d.nat (O.lnTapTagged t) + d.tapCount t (Tab.get {} d.lens.taps t).first (d.tapIndex t + 1)
    if v < 2 ^ 32 then v else Config.counterPast (O.lnTapTagged t) v
  else d.nat (O.lnTapTagged t)

end Sys2Proof.Machine
end

