-- ==== Sys2Proof/Machine/Reads.lean ====
section
/-! DEFINITION. Reading an object, also one that is computed when it is read; the objects that follow from the rest of the state;
notifications of changed objects (R407); and how a meaning completes. -/

namespace Sys2Proof.Machine

/-- `n` bytes of a memory from address `a`. -/
def memBytes (m : List (Nat × Byte)) (a n : Nat) : List Byte := (List.range n).map (fun i => Tab.get 0 m (a + i))

/-- Light List areas. -/
def listArea (a : Nat) : Nat × Nat := (if a = 1 then 0x02000000 else 0x0E000000, 0x0C000000)

/-! ### Objects computed when they are read -/

/-- Bytes of the body in flash. -/
def Dev.llBytes (d : Dev) (w : LlImg) (o n : Nat) : List Byte := memBytes d.flash (w.base + o) n

/-- Length of block `b` (R255). -/
def LlImg.blockLen (w : LlImg) (b : Nat) : Nat := min 65536 (w.len - 65536 * b)

/-- A block as flash holds it. -/
def Dev.llBlock (d : Dev) (w : LlImg) (b : Nat) : List Byte := d.llBytes w (65536 * b) (w.blockLen b)

/-- The leaf of a block, from the resident leaf-hash table (R255, R256). -/
def LlImg.leaf (w : LlImg) (b : Nat) : List Byte := (w.leaves.drop (32 * b)).take 32

/-- A block as flash holds it matches its leaf (R255, R257). -/
def Dev.llBlockOk (d : Dev) (w : LlImg) (b : Nat) : Bool := decide (sha256 (0 :: d.llBlock w b) = w.leaf b)

/-- The bytes of a block that may be used: the cached ones, else flash's where they match the leaf and the block is not BAD. -/
def Dev.llUsable (d : Dev) (w : LlImg) (b : Nat) : Option (List Byte) :=
  match w.cache.find? (fun x => decide (x.1 = b)) with
  | some x => some x.2
  | none => if w.bad.any (fun x => decide (x = b)) || !d.llBlockOk w b then none else some (d.llBlock w b)

/-- Record or service `i` of the running image; empty where there is none or its block does not verify (Table 9.12). -/
def Dev.llEntry (d : Dev) (sec size i : Nat) : List Byte :=
  match d.ll.img with
  | none => []
  | some w =>
    let s := w.dir.getD sec (0, 0, 0)
    let o := s.2.1 + size * i
    let b := o / 65536
    let e := (o + size - 1) / 65536
    if i < s.1 then
      match d.llUsable w b, (if e = b then some [] else d.llUsable w e) with
      | some x, some y => ((x ++ y).drop (o % 65536)).take size
      | _, _ => []
    else []

/-- N(chain, channel, k) with j = k + 32, in 0.01 dBm; −327.68 while never measured. -/
def Dev.blNoise (d : Dev) (n c j : Nat) : Int :=
  match Tab.get 0 d.bl.noise (512 * n + 64 * c + j) with
  | 0 => -32768
  | x => linDb x

/-- NOISE_DATA: N(k) of the chain and channel that NOISE_SEL names (R441). -/
def Dev.blNoiseData (d : Dev) : List Byte :=
  let w := d.nat O.blNoiseSel
  (List.range 64).flatMap (fun j => leBytes 2 (toUnsigned 16 (d.blNoise (field w 6 4) (field w 2 0) j)))

/-- The 64 bytes of a log entry (Table 13.9). -/
def LogEntry.encode (e : LogEntry) : List Byte :=
  let b := leBytes 6 e.seq ++ leBytes 1 e.kind ++ leBytes 1 e.result ++ leBytes 8 e.t ++ leBytes 4 e.oid ++ leBytes 1 e.role ++ leBytes 1 e.port ++
    leBytes 2 e.session ++ leBytes 8 e.source ++ leBytes 4 e.txn ++ leBytes 1 e.item ++ leBytes 1 e.items ++ leBytes 1 e.vflags ++ leBytes 1 0 ++
    leBytes 8 e.old ++ leBytes 8 e.new ++ leBytes 2 e.oldLen ++ leBytes 2 e.newLen
  b ++ leBytes 4 (crc32 b)

/-- The entries of a ring (0 RAM, 1 eNVM) at or above a SEQ, lowest first (R386, R398). -/
def Dev.logFrom (d : Dev) (src start : Nat) : List LogEntry :=
  (if src = 0 then d.log.ram else d.nvm.log).filter (fun e => decide (start ≤ e.seq))

/-- Warning threshold of a supply monitor, in mV (Table 21.4). -/
def supplyWarnMv (v : Nat) : Nat := ([712, 950, 1700, 1700, 3050, 2900] : List Nat).getD v 0

/-- SUPPLY_MV: of a supply below its warning threshold as the monitor reported it, of another free above that threshold (R559; log 28). -/
def Dev.supplyMvNow (d : Dev) (v : Nat) : Nat :=
  if (d.nat O.pwSupplyWarn).testBit v then d.nat (O.pwSupplyMv v) else min 65535 (supplyWarnMv v + Config.supplyAbove v d.mono)

/-- The level at GPIO ball `n` (R608, R609): as driven by an output, else as the outside drives it. -/
def Dev.gpioAt (d : Dev) (n : Nat) : Bool :=
  let out := (d.nat O.syGpioOut).testBit n
  let held := if n = 15 then d.pw.supplyEn else none
  match held with
  | some b => b
  | none =>
    if (d.nat O.syGpioDir).testBit n ∧ !((d.nat O.syGpioOdrain).testBit n && out) then out else Config.gpioLevel n d.mono

/-- The pull-down of GPIO ball `n` is enabled: as GPIO_PULL says while the ball is an input, and for GPIO15 while it is no SUPPLY_EN (Table 23.8, R609). -/
def Dev.gpioPull (d : Dev) (n : Nat) : Bool :=
  (d.nat O.syGpioPull).testBit n && !(d.nat O.syGpioDir).testBit n && !(decide (n = 15) && d.pw.supplyEn.isSome)

/-- The position is fresh: its time is no more than POS_TIMEOUT_MS in the past (R262). -/
def Dev.posFresh (d : Dev) : Bool := decide (d.nat O.llPosState = 1) && decide (d.now ≤ d.nat O.llPosT + 1000000 * d.nat O.llPosTimeoutMs)

/-- What an object reads as now (R370): GPIO_IN, SUPPLY_MV, CHAIN_COUNT (R1), TIME_NOW, SAMPLE_COUNT, TAP_INDEX and TAP_TAGGED, the Daymarks and their leaves, LOG_ENTRY, FX_ENTRY,
POS_STATE, REC_DATA, SVC_DATA and NOISE_DATA are computed, and the objects of slots beyond SLOT_COUNT read 0; every other object reads as it is held. -/
def Dev.read (d : Dev) (o : Nat) : Val :=
  let i := O.item o
  match O.area o with
  | 0 =>
    if o = O.syGpioIn then .num ((((List.range 16).filter d.gpioAt).map (fun n => 2 ^ n)).sum : Nat)
    else if o = O.syChainCount then .num (d.chains : Nat)
    else d.get o
  | 1 => if i = 4 ∧ O.elem o < 6 then .num (d.supplyMvNow (O.elem o) : Nat) else d.get o
  | 18 => if o = O.tmTimeNow then .num (d.now : Nat) else d.get o
  | 3 =>
    if o = O.lgCfgDaymark then .bytes (d.daymark .P)
    else if o = O.lgCalDaymark then .bytes (d.daymark .C)
    else if i = 0x11 then .bytes (d.leaf .P (O.elem o))
    else if i = 0x12 then .bytes (d.leaf .C (O.elem o))
    else if o = O.lgLogEntry then .bytes (match d.logFrom (d.nat O.lgLogReadSrc) (d.nat O.lgLogReadSeq) with | e :: _ => e.encode | [] => [])
    else d.get o
  | 5 => if (List.range 6).any (fun n => decide (o = O.cpSampleCount n)) then .num (d.sampleIndex : Nat) else d.get o
  | 6 => if i = 0x409 then .num (d.tapIndex (O.elem o) : Nat) else if i = 0x40A then .num (d.tapTaggedNow (O.elem o)) else d.get o
  | 10 =>
    if o = O.llRecData then .bytes (d.llEntry 0 48 (d.nat O.llRecIndex))
    else if o = O.llPosState then .num (if d.nat o = 1 ∧ !d.posFresh then 2 else d.nat o : Nat)
    else if o = O.llSvcData then .bytes (d.llEntry 1 32 (d.nat O.llSvcIndex))
    else d.get o
  | 7 =>
    if o = O.caFxEntry then .bytes (d.cal.fx.getD (d.nat O.caFxIndex) []) else d.get o
  | 8 =>
    -- OUT_SEQ: the frame that last left the output buffer (Table 4.9)
    if 0x110 ≤ O.item o ∧ O.item o % 16 = 5 ∧ O.elem o = 1 then .num ((d.ring (16 + (O.item o - 0x100) / 16)).gone : Nat) else d.get o
  | 9 =>
    -- elements of slots beyond SLOT_COUNT read 0 (R162)
    if decide (0x100 ≤ i) && decide (i ≤ 0x103) && (match d.wt.img with | some w => decide (w.slots.length ≤ O.elem o) | none => true) then .num 0 else d.get o
  | 15 => if o = O.blNoiseData then .bytes d.blNoiseData else d.get o
  | _ => d.get o

/-- The bytes a read of an object returns (R397). -/
def Dev.readBytes (d : Dev) (o : Nat) : List Byte := (Dict.ty o).encode (d.read o)

/-! ### Objects that follow from the rest of the state -/

/-- CAL_STATE as the calibration engines stand; where two run, the lower code is shown (log 15). -/
def Dev.calStateNow (d : Dev) : Nat :=
  if !d.cal.runs.isEmpty then 1
  else if d.nat O.cpLanegStage ≠ 0 then (if d.nat O.cpLanegChain ≠ 255 then 2 else 3)
  else if 1 ≤ d.nat O.caRefState ∧ d.nat O.caRefState ≤ 3 then 4
  else 0

/-- The objects whose values the rest of the state determines: the host pins (R525), the log positions (R386, Table
13.14), the counts of open sessions and subscriptions (Table 14.9), PW_STATE (R551), CAL_STATE
(R323), and the decoders held and selectors waiting (Table 7.21). -/
def Dev.derived (d : Dev) : List (Nat × Int) :=
  [(O.evEvHostirqState, (d.pins : Int)),
   (O.lgLogSeq, ((d.log.next - 1 : Nat) : Int)),
   (O.lgLogRamFirst, (((d.log.ram.head?.map (·.seq)).getD 0 : Nat) : Int)),
   (O.lgLogNvFirst, (((d.nvm.log.head?.map (·.seq)).getD 0 : Nat) : Int)),
   (O.lgLogNvPending, ((satU 16 d.log.pend.length : Nat) : Int)),
   (O.ntSessions, (((d.host.sessions.filter (·.open_)).length : Nat) : Int)),
   (O.ntSubs, ((d.host.subs.length : Nat) : Int)),
   (O.pwPwState, ((d.pw.phase.code : Nat) : Int)),
   (O.caCalState, ((d.calStateNow : Nat) : Int)),
   (O.cxDecUsed, ((d.cx.decs.length : Nat) : Int)),
   (O.cxDecWaiting, (((d.cx.waits.filter (fun p => decide ((Tab.get ({} : Sel) (Tab.get ({} : CtxSt) d.cx.ctxs p.1).sels p.2).state = 4))).length : Nat) : Int))]

/-- Every derived object set to the value it follows from. -/
def Dev.settle (d : Dev) : Dev := d.derived.foldl (fun x p => x.setN p.1 p.2) d

/-! ### Notifications (R407) -/

/-- A CHANGE for a KIND 0 subscription: sent, or counted in LOST (R408). It is the object's last notification from now on. -/
def Dev.notifyOne (d : Dev) (s : Sub) (b : List Byte) (seq : Nat) : Dev :=
  let d1 := d.setSub { s with lastVal := b, lastT := d.mono }
  let r := d1.offer s.id 0x14 (leBytes 4 s.oid ++ leBytes 2 b.length ++ leBytes 2 0 ++ leBytes 8 d.now ++ leBytes 8 seq ++ b)
  Dev.route 200 r.1.now r.2 r.1

/-- A KIND 0 subscription notified when its object differs from the last notification and MIN_MS has passed since; `seq` gives the LOG_SEQ of
an object, 0 for an update. -/
def Dev.notifySub (d : Dev) (seq : Nat → Nat) (id : Nat) : Dev :=
  match d.subById id with
  | some s =>
    if s.kind = 0 ∧ s.lastT + s.minMs * 1000000 ≤ d.mono then
      let b := d.readBytes s.oid
      if b = s.lastVal then d else d.notifyOne s b (seq s.oid)
    else d
  | none => d

/-- Every KIND 0 subscription notified of what has changed. -/
def Dev.notify (d : Dev) (seq : Nat → Nat) : Dev := if d.linksUp then (d.host.subs.map (·.id)).foldl (fun (x : Dev) i => x.notifySub seq i) d else d

/-- A meaning that completes: the device changed by `f`, changed objects notified, the objects that follow from the rest of the state at
their values, the queue as it was. -/
def State.upd (s : State) (f : Dev → Dev) : Host.Outcome State Fault Refusal := .next { s with dev := ((f s.dev).settle.notify (fun _ => 0)).settle }

/-- STREAM_RECORD_SEND (R408). -/
def execStreamRecordSend (sub : Nat) (s : State) : Host.Outcome State Fault Refusal := s.upd (fun d => d.inHarbour (fun x => x.streamSend sub))

end Sys2Proof.Machine
end

