-- ==== Sys2Proof/Machine/Mf.lean ====
section
/-! DEFINITION. Measurement filters and thresholds (chapter 10). A channel's inputs wait in order in `mf.inq` until MF_INPUT
processes them. -/

namespace Sys2Proof.Machine

/-! ### Channels (R278 to R280) -/

/-- The filter channel of the Gallery: a context's quantity. -/
def ctxChan (c q : Nat) : Nat := 8 * c + q

/-- Values that a segment filters, in order: 0 mean, 1 max, 2 min (R144, R280). -/
def segValues (s : SweepSeg) : List Nat := (List.range 3).filter (fun b => s.filter.testBit b)

/-- The chains of a segment, ascending. -/
def segChains (s : SweepSeg) : List Nat := (List.range 6).filter (fun n => s.chainMask.testBit n)

/-- Filter channels that a segment takes. -/
def segCount (s : SweepSeg) : Nat := (segChains s).length * (s.last + 1 - s.first) * (segValues s).length

/-- Sweep filter channels before segment `g` (R280). -/
def sweepBefore (p : List SweepSeg) (g : Nat) : Nat := ((p.take g).map segCount).sum

/-- Segment and value of Sweep filter channel `i`. -/
def sweepChanOf (p : List SweepSeg) (i : Nat) : Option (Nat × Nat) :=
  (List.range p.length).findSome? (fun g =>
    let s := p.getD g {}
    let b := sweepBefore p g
    if b ≤ i ∧ i < b + segCount s then (segValues s)[(i - b) % (segValues s).length]?.map (fun v => (g, v)) else none)

/-- The settings block of a channel: its MF item and quantity (R299). -/
def Dev.mfBlock (d : Dev) (ch : Nat) : Option (Nat × Nat) :=
  if 8 ≤ ch ∧ ch < 512 then (if ch % 8 < 6 then some (0x100 + ch / 8, ch % 8) else none)
  else if 512 ≤ ch ∧ ch < 512 + 2 * d.chains then some (0x200 + (ch - 512) / 2, ch % 2)
  else if 1024 ≤ ch ∧ ch < 4096 then (sweepChanOf d.lens.plan (ch - 1024)).map (fun p => (0x300 + p.1, p.2))
  else none

/-- A setting of a channel: `k` is 0 MEDIAN, 1 PRESET, 2 OUT_MS, 3 XFADE, 4 DOMAIN, 5 STREAMS, 6 VALUE, 7 OFLAGS, 8 T_OUT. -/
def Dev.mfOid (d : Dev) (ch k : Nat) : Option Nat := (d.mfBlock ch).map (fun p => O.mk 12 p.1 (8 * k + p.2))

/-- The number in a setting of a channel. -/
def Dev.mfSet (d : Dev) (ch k : Nat) : Nat :=
  match d.mfOid ch k with
  | some o => d.nat o
  | none => 0

/-- Signal kind of a context as its objects stand: 0 FM, 1 AM, 2 DAB, 3 DRM, 4 NRSC-5, 5 none (Table 4.1). -/
def signalKind (ty subject : Nat) : Nat :=
  match ty with
  | 1 => 0 | 2 => 1 | 3 => 3 | 4 => 3 | 5 => 2 | 6 => 2 | 7 => 4 | 8 => 4 | 10 => 5
  | _ => subject

/-- Signal kind of context `c`. -/
def Dev.cxKind (d : Dev) (c : Nat) : Nat := signalKind (d.nat (O.cxType c)) (d.nat (O.cxSubject c))

/-- Input period of a channel, ms (Table 10.1). -/
def Dev.mfTin (d : Dev) (ch : Nat) : Nat :=
  if ch < 512 then (if d.cxKind (ch / 8) < 2 then 1 else 10)
  else if ch < 1024 then 1
  else match sweepChanOf d.lens.plan (ch - 1024) with
    | some p => (d.lens.plan.getD p.1 {}).interval
    | none => 1

/-- A channel. -/
def Dev.mfChan (d : Dev) (ch : Nat) : MfChan := Tab.get {} d.mf.chans ch

/-- The same replaced. -/
def Dev.setMf (d : Dev) (ch : Nat) (c : MfChan) : Dev := { d with mf := { d.mf with chans := Tab.set {} d.mf.chans ch c } }

/-! ### The filter (R282 to R287) -/

/-- Median length: 0 and 1 bypass (R282). -/
def MfFilt.len (f : MfFilt) : Nat := max 1 f.median

/-- Window factor K of a preset (Table 10.3). -/
def presetK (p : Nat) : Nat :=
  match p with
  | 0 => 1 | 1 => 2 | 2 => 4 | 3 => 8 | _ => 16

/-- Window weight of the k-th value of `n`, counted from the oldest; scaled by a constant of the preset (Table 10.3). -/
def presetW (p n k : Nat) : Int :=
  let a := k + 1
  let b := n + 1
  let c := fun (m : Nat) => cosTurn ((m * a) % b) b
  let one : Int := (fxOne : Int)
  match p with
  | 0 => 1
  | 1 => (b : Int) - ((2 * a : Nat) - (b : Int)).natAbs
  | 2 => (one - c 1) / 2
  | 3 => (42 * one - 50 * c 1 + 8 * c 2) / 100
  | _ => (35875 * one - 48829 * c 1 + 14128 * c 2 - 1168 * c 3) / 100000

/-- D of an OUT_MS (R284): T_out / T_in. -/
def mfD (outMs tin : Nat) : Nat := max 1 ((2 * outMs + tin) / (2 * tin))

/-- N = K·D of a filter. -/
def MfFilt.n (f : MfFilt) (dd : Nat) : Nat := presetK f.preset * dd

/-- Twice the group delay GD, in ms (R285). -/
def MfFilt.delay2 (f : MfFilt) (dd tin : Nat) : Nat := ((f.n dd - 1) + (f.len - 1)) * tin

/-- Settling count S (R285). -/
def MfFilt.s (f : MfFilt) (dd : Nat) : Nat := presetK f.preset + ceilDiv (f.len - 1) (2 * dd)

/-- A number put into a rising list. -/
def insertInt (x : Int) : List Int → List Int
  | [] => [x]
  | y :: t => if x ≤ y then x :: y :: t else y :: insertInt x t

/-- Twice the median of some values (an even number gives the sum of the two middle ones); none of none. -/
def median2 (l : List Int) : Option Int :=
  let s := l.foldl (fun a x => insertInt x a) []
  if s.isEmpty then none
  else if s.length % 2 = 1 then some (2 * s.getD (s.length / 2) 0)
  else some (s.getD (s.length / 2 - 1) 0 + s.getD (s.length / 2) 0)

/-- Twice the median values of the newest inputs, newest first; a missing input gives a missing value (R282). -/
def medians : Nat → Nat → List MfIn → List (Option Int)
  | 0, _, _ => []
  | _ + 1, _, [] => []
  | f + 1, m, i :: t => (if i.v.isNone then none else median2 ((i :: t).take m |>.filterMap (·.v))) :: medians f m t

/-- Settling time, in ms: S outputs of T_out (R285). -/
def MfFilt.settle (f : MfFilt) (dd tin : Nat) : Nat := f.s dd * (dd * tin)

/-- An input entered, from the filter's first on (R291). Inputs that no later output needs are dropped. -/
def MfFilt.take (f : MfFilt) (i : MfIn) (dd : Nat) : MfFilt := if i.seq < f.start then f else { f with ins := (i :: f.ins).take (f.n dd + f.len) }

/-- The power of a median value given as twice it: where it lies between two hundredths of a decibel, the geometric mean of theirs (R283). -/
def halfLin (v2 : Int) : Nat := isqrt (dbLin (v2 / 2) * dbLin (v2 - v2 / 2))

/-- The output of a filter at grid time `tj`: value (none when the window holds none) and the flags PARTIAL, OVL, LANE and
CAL_RAMP. `dd` is D and `tin` T_in in ms. -/
def MfFilt.out (f : MfFilt) (dd tin tj : Nat) : Option Int × Nat :=
  let n := f.n dd
  let w := tin * 1000000
  let m := (f.ins.zip (medians n f.len f.ins)).filter (fun p => decide (tj < p.1.t + n * w) && decide (p.1.t ≤ tj))
  let tags := m.foldl (fun a p => a ||| p.1.tags) 0
  let vs := m.filterMap (fun p => p.2.map (fun v => (v, presetW f.preset n (n - 1 - (tj - p.1.t) / w))))
  let den := (vs.map (fun p => p.2)).sum
  if vs.isEmpty ∨ den ≤ 0 then (none, tags)
  else
    let part := if vs.length < n then 4 else 0
    if f.domain = 1 then
      let num := (vs.map (fun p => (halfLin p.1 : Int) * p.2)).sum
      (some (linDb (num / den).toNat), tags + part)
    else
      let num := (vs.map (fun p => p.1 * p.2)).sum
      (some (satS 32 (divRound num (2 * den.toNat))), tags + part)

/-! ### Thresholds (R294 to R297) -/

/-- `cand` and `n` of a threshold. -/
def Dev.thr (d : Dev) (t : Nat) : Nat × Nat := Tab.get (0, 0) d.mf.thr t

/-- The same replaced. -/
def Dev.setThr (d : Dev) (t : Nat) (x : Nat × Nat) : Dev := { d with mf := { d.mf with thr := Tab.set (0, 0) d.mf.thr t x } }

/-- The thresholds that watch a channel. -/
def Dev.thrOf (d : Dev) (ch : Nat) : List Nat := (List.range 256).filter (fun t => decide (d.nat (O.mfThrChannel t) = ch))

/-- Zone UNKNOWN without a report (R297). -/
def Dev.thrUnknown (d : Dev) (t : Nat) : Dev := (d.setThr t (0, 0)).setN (O.mfThrZone t) 0

/-- `n` back to 0, zone kept (R297). -/
def Dev.thrRestart (d : Dev) (t : Nat) : Dev := d.setThr t ((d.thr t).1, 0)

/-- A report (R296). -/
def Dev.thrReport (d : Dev) (t old new : Nat) (ch : Nat) (v : Int) (tj : Nat) : Dev :=
  let d1 := ((d.setN (O.mfThrZone t) new).setN (O.mfThrT t) tj).inc (O.mfThrCount t)
  let mask := d1.nat (O.mfThrStreams t)
  let d2 := ((List.range 8).filter (fun s => mask.testBit s && d1.flag (O.lnStreamEnable s))).foldl (fun x s =>
    x.streamDeliver s (fun q _ _ => leBytes 1 4 ++ leBytes 1 1 ++ leBytes 1 t ++ leBytes 1 (16 * old + new) ++ leBytes 2 ch ++ leBytes 2 0 ++
      leBytes 4 q ++ leBytes 4 (toUnsigned 32 v) ++ leBytes 8 tj ++ leBytes 8 x.now)) d1
  if d2.flag (O.mfThrNotify t) then
    (d2.setN (O.mfThrPending (t / 64)) (withBit (d2.nat (O.mfThrPending (t / 64))) (t % 64) true)).raise 125 t
  else d2

/-- The zone that a value falls in, from the present zone (R295): 1 BELOW, 2 INSIDE, 3 ABOVE. -/
def thrZone (upper lower hyst v : Int) (zone : Nat) : Nat :=
  if upper < v then 3
  else if v < lower then 1
  else if zone = 3 ∧ upper - hyst ≤ v then 3
  else if zone = 1 ∧ v ≤ lower + hyst then 1
  else 2

/-- R295 for one threshold at an output of its channel. -/
def Dev.thrStep (d : Dev) (t ch : Nat) (v : Int) (flags tj toutMs : Nat) : Dev :=
  if flags.testBit 0 ∨ flags.testBit 1 then d
  else
    let zone := d.nat (O.mfThrZone t)
    let c := thrZone (d.num (O.mfThrUpper t)) (d.num (O.mfThrLower t)) (d.num (O.mfThrHyst t)) v zone
    if c = zone then d.setThr t (zone, 0)
    else
      let x := d.thr t
      let n := (if x.1 = c then x.2 else 0) + 1
      if max 1 (ceilDiv (d.nat (O.mfThrDwellMs t)) toutMs) ≤ n then (d.setThr t (c, 0)).thrReport t zone c ch v tj
      else d.setThr t (c, n)

/-! ### Records (R298) -/

/-- The held outputs of a channel queued as a filter record on its streams. -/
def Dev.mfFlush (d : Dev) (ch : Nat) : Dev :=
  let c := d.mfChan ch
  if c.held.isEmpty then d
  else
    let mask := d.mfSet ch 5
    let tout := mfD c.outMs (d.mfTin ch) * d.mfTin ch
    let d1 := d.setMf ch { c with held := [] }
    ((List.range 8).filter (fun s => mask.testBit s && d.flag (O.lnStreamEnable s))).foldl (fun x s =>
      x.streamDeliver s (fun q _ _ => leBytes 1 3 ++ leBytes 1 1 ++ leBytes 2 c.held.length ++ leBytes 2 ch ++ leBytes 1 c.heldPreset ++ leBytes 1 0 ++
        leBytes 4 q ++ leBytes 4 tout ++ leBytes 8 c.heldT ++
        c.held.flatMap (fun p => leBytes 4 (toUnsigned 32 p.1) ++ leBytes 1 p.2 ++ zeroBytes 3))) d1

/-! ### Objects -/

/-- READ_VALUE, READ_FLAGS and READ_TIME follow READ_CHANNEL (Table 10.10). -/
def Dev.mfRead (d : Dev) : Dev :=
  match (d.mfChan (d.nat O.mfReadChannel)).last with
  | some (v, f, t) => ((d.setN O.mfReadValue v).setN O.mfReadFlags f).setN O.mfReadTime t
  | none => ((d.setN O.mfReadValue 0).setN O.mfReadFlags 2).setN O.mfReadTime 0

/-- MF_CHANNELS: the channels that have produced an output (log 18). -/
def Dev.mfCount (d : Dev) : Dev := d.setN O.mfMfChannels ((d.mf.chans.filter (fun p => p.2.last.isSome)).length : Nat)

/-! ### Step causes (R289) -/

/-- A step cause on a channel: it acts at the first input after it. -/
def Dev.mfCause (d : Dev) (ch k : Nat) : Dev := d.setMf ch { d.mfChan ch with cause := max k (d.mfChan ch).cause }

/-- A MARK on a channel. -/
def Dev.mfMark (d : Dev) (ch : Nat) : Dev := d.mfCause ch 1

/-- A CLEAR on a channel. -/
def Dev.mfClear (d : Dev) (ch : Nat) : Dev := d.mfCause ch 2

/-- The end of a channel; the outputs it holds are queued first. -/
def Dev.mfEnd (d : Dev) (ch : Nat) : Dev :=
  ((d.thrOf ch).foldl (fun x t => x.thrUnknown t) ((d.mfFlush ch).setMf ch {})).mfCount

/-- A mark on every channel of a context. -/
def Dev.ctxMark (d : Dev) (c : Nat) : Dev := (List.range 6).foldl (fun x q => x.mfMark (ctxChan c q)) d

/-- A CLEAR on every channel of a context. -/
def Dev.ctxClear (d : Dev) (c : Nat) : Dev := (List.range 6).foldl (fun x q => x.mfClear (ctxChan c q)) d

/-- The channels of a context end; their settings return to default with its other objects. -/
def Dev.ctxEnd (d : Dev) (c : Nat) : Dev :=
  let d1 := (List.range 6).foldl (fun x q => x.mfEnd (ctxChan c q)) d
  { d1 with
    objs := d1.objs.filter (fun p => decide (p.1 < O.mk 12 (0x100 + c) 0) || decide (O.mk 12 (0x101 + c) 0 ≤ p.1))
    mf := { d1.mf with inq := d1.mf.inq.filter (fun p => decide (p.1 / 8 ≠ c)) } }

/-! ### Settings (R291 to R293) -/

/-- A filter with the settings as the objects now stand, with no history: it takes the inputs fed from now on. -/
def Dev.mfFresh (d : Dev) (ch : Nat) : MfFilt := { median := d.mfSet ch 0, preset := d.mfSet ch 1, domain := d.mfSet ch 4, start := (d.mfChan ch).fed }

/-- A write of MEDIAN, PRESET or DOMAIN has committed on a channel. -/
def Dev.mfSettings (d : Dev) (ch : Nat) : Dev :=
  let c := d.mfChan ch
  if !c.live then d
  else if c.fade.isSome then (if c.later.isSome then d.inc O.mfSuperseded else d).setMf ch { c with later := some (d.mfFresh ch) }
  else (if c.wait.isSome then d.inc O.mfSuperseded else d).setMf ch { c with wait := some (d.mfFresh ch) }

/-- A write of OUT_MS has committed on a channel (R293). -/
def Dev.mfOutMs (d : Dev) (ch : Nat) : Dev :=
  let c := d.mfChan ch
  if !c.live then d
  else
    let tout := mfD (d.mfSet ch 2) (d.mfTin ch) * d.mfTin ch * 1000000
    d.setMf ch { c with wait := none, fade := none, later := none, restart := some ((d.now / tout + 1) * tout) }

/-! ### Processing (R281, R284, R290, R291) -/

/-- The channels that an output of a write block addresses. -/
def Dev.mfChansOf (d : Dev) (item q : Nat) : List Nat :=
  if 0x101 ≤ item ∧ item < 0x140 then [8 * (item - 0x100) + q]
  else if 0x200 ≤ item ∧ item < 0x206 then [512 + 2 * (item - 0x200) + q]
  else if 0x300 ≤ item ∧ item < 0x340 then
    let g := item - 0x300
    let b := sweepBefore d.lens.plan g
    (List.range (segCount (d.lens.plan.getD g {}))).filterMap (fun k =>
      let i := b + k
      if i < 3072 ∧ sweepChanOf d.lens.plan i = some (g, q) then some (1024 + i) else none)
  else []

/-- What one output of the crossfade procedure gives: the value and flags of the delivering filters, and the channel after it
(R291, R292). Latest settings that waited for a crossfade start at the first input after it. `xf` is XFADE. -/
def MfChan.produce (c : MfChan) (dd tin tj xf : Nat) : MfChan × Option Int × Nat :=
  let o := c.cur.out dd tin tj
  match c.fade with
  | some (f, n, x) =>
    let p := f.out dd tin tj
    let v := match o.1, p.1 with
      | some a, some b => some (divRound (a * ((x : Int) - n) + b * n) x)
      | some a, none => some a
      | none, r => r
    let f2 := { f with outs := f.outs + 1 }
    if n < x then ({ c with cur := { c.cur with outs := c.cur.outs + 1 }, fade := some (f2, n + 1, x) }, v, (o.2 ||| p.2) + 8)
    else ({ c with cur := f2, fade := none, wait := c.later.map (fun g => { g with start := 0 }), later := none }, v, (o.2 ||| p.2) + 8)
  | none =>
    match c.wait with
    | some f =>
      if f.s dd ≤ f.outs then
        let p := f.out dd tin tj
        let f2 := { f with outs := f.outs + 1 }
        if xf = 0 then ({ c with cur := f2, wait := none }, p.1, p.2)
        else
          let v := match o.1, p.1 with
            | some a, some b => some (divRound (a * ((xf : Int) - 1) + b) xf)
            | some a, none => some a
            | none, r => r
          if xf = 1 then ({ c with cur := f2, wait := none }, v, (o.2 ||| p.2) + 8)
          else ({ c with cur := { c.cur with outs := c.cur.outs + 1 }, wait := none, fade := some (f2, 2, xf) }, v, (o.2 ||| p.2) + 8)
      else ({ c with cur := { c.cur with outs := c.cur.outs + 1 }, wait := some { f with outs := if f.ins.isEmpty then f.outs else f.outs + 1 } }, o.1, o.2)
    | none => ({ c with cur := { c.cur with outs := c.cur.outs + 1 } }, o.1, o.2)

/-- An output delivered: objects, record, thresholds (R288, R295, R298). A record holds consecutive outputs only. -/
def Dev.mfDeliver (dev : Dev) (ch : Nat) (v : Int) (fl tj tout : Nat) : Dev :=
  let c0 := dev.mfChan ch
  let d := if c0.held.isEmpty ∨ tj = c0.heldT + c0.held.length * tout * 1000000 then dev else dev.mfFlush ch
  let c := d.mfChan ch
  let first := c.held.isEmpty
  let c2 := { c with last := some (v, fl, tj), held := c.held ++ [(v, fl)], heldT := if first then tj else c.heldT, heldPreset := c.cur.preset,
                     heldAt := if first then d.mono else c.heldAt }
  let d1 := d.setMf ch c2
  let d2 := if ch < 1024 then
      match d1.mfOid ch 6, d1.mfOid ch 7, d1.mfOid ch 8 with
      | some a, some b, some e => ((d1.setN a v).setN b fl).setN e tj
      | _, _, _ => d1
    else d1
  let d3 := if c.last.isNone then d2.mfCount else d2
  let d4 := if d3.nat O.mfReadChannel = ch then d3.mfRead else d3
  let d5 := (d4.thrOf ch).foldl (fun x t => x.thrStep t ch v fl tj tout) d4
  if 32 ≤ c2.held.length then d5.mfFlush ch else d5

/-- A filter whose history a CLEAR discards (R289). -/
def MfFilt.clear (f : MfFilt) : MfFilt := { f with ins := [] }

/-- What an input brings with it: the channel restarts (R293), a CLEAR, or less. A Sweep filter channel's first input follows a plan's start, so it is a CLEAR too
(Table 10.6). -/
def MfChan.causeAt (c : MfChan) (ch : Nat) (i : MfIn) : Nat :=
  if !c.live ∧ 1024 ≤ ch then 2 else if i.tags.testBit 5 then max 1 i.cause else i.cause

/-- Whether an OUT_MS written before takes effect at an input (R293). -/
def MfChan.restarts (c : MfChan) (t : Nat) : Bool := match c.restart with | some r => decide (r < t) | none => false

/-- One input through a channel (R281 to R291). -/
def Dev.mfInput (dev : Dev) (ch : Nat) (i : MfIn) : Dev :=
  match dev.mfBlock ch with
  | none => dev
  | some _ =>
    let old := dev.mfChan ch
    let again := old.restarts i.t
    let cause := if again then 2 else old.causeAt ch i
    -- a CLEAR sets the zones of the channel's thresholds to UNKNOWN (R297)
    let d := if cause = 2 then (dev.thrOf ch).foldl (fun x t => x.thrUnknown t) (if again then dev.mfFlush ch else dev) else dev
    let c0 := d.mfChan ch
    let fresh := { d.mfFresh ch with start := 0 }
    let c1 := if c0.live then c0 else { c0 with live := true, cur := fresh, outMs := d.mfSet ch 2 }
    let c2 := if again then { c1 with restart := none, outMs := d.mfSet ch 2, cur := fresh, wait := none, fade := none, later := none } else c1
    let tin := d.mfTin ch
    let dd := mfD c2.outMs tin
    let c3 := if cause = 2 then { c2 with cur := c2.cur.clear, wait := c2.wait.map (·.clear), fade := c2.fade.map (fun p => (p.1.clear, p.2)), cleared := true } else c2
    let c4 := if cause = 0 then c3 else { c3 with unset := c3.cur.s dd }
    let c5 := { c4 with cur := c4.cur.take i dd, wait := c4.wait.map (fun f => f.take i dd),
                        fade := c4.fade.map (fun p => (p.1.take i dd, p.2.1, p.2.2)) }
    let tout := dd * tin
    if i.t % (tout * 1000000) ≠ 0 then d.setMf ch c5
    else
      let r := c5.produce dd tin i.t (d.mfSet ch 3)
      let held := r.2.1.isNone
      let v := match r.2.1 with | some x => x | none => (match c5.last with | some l => l.1 | none => 0)
      let fl0 := if held then clearBits r.2.2 4 + 2 else r.2.2
      let fl := withBit fl0 0 (held || decide (0 < c5.unset)) + (if c5.cleared then 128 else 0)
      let d1 := d.setMf ch { r.1 with unset := c5.unset - 1, cleared := false }
      d1.mfDeliver ch v fl i.t tout

/-- An input as its channel's source feeds it: numbered, with the step cause that waits for it (R289). -/
def Dev.mfTagged (d : Dev) (ch : Nat) (i : MfIn) : Dev × MfIn :=
  let c := d.mfChan ch
  (d.setMf ch { c with fed := c.fed + 1, cause := 0 }, { i with cause := c.cause, seq := c.fed })

/-- The outputs that the Sweep filter channels still hold are queued, before a plan changes (R298). -/
def Dev.mfFlushSweep (d : Dev) : Dev :=
  ((d.mf.chans.filter (fun p => decide (1024 ≤ p.1))).map (fun p => p.1)).foldl (fun (x : Dev) ch => x.mfFlush ch) d

/-- An input put in the queue of its channel. -/
def Dev.mfFeed (d : Dev) (ch : Nat) (i : MfIn) : Dev :=
  let p := d.mfTagged ch i
  { p.1 with mf := { p.1.mf with inq := p.1.mf.inq ++ [(ch, p.2)] } }

/-- An input fed and processed at once. -/
def Dev.mfDirect (d : Dev) (ch : Nat) (i : MfIn) : Dev := let p := d.mfTagged ch i; p.1.mfInput ch p.2

/-- The oldest waiting input of a channel processed. -/
def Dev.mfNext (d : Dev) (ch : Nat) : Dev :=
  match d.mf.inq.find? (fun p => decide (p.1 = ch)) with
  | some p => ({ d with mf := { d.mf with inq := d.mf.inq.erase p } }).mfInput ch p.2
  | none => d

/-- A sample of FEED_x_SNS, in µV, as current in µA: a voltage at or above 1.200 V reads as 1.200 V, and SNS_GAIN is in mA per volt (R64). -/
def Dev.snsCurrent (d : Dev) (n : Nat) (v : Int) : Int := min v 1200000 * d.num (O.cpSnsGain n) / 1000

/-- FEED_CURRENT from the samples of the last 1 ms: their mean (R64, Table 2.10). -/
def Dev.feedMean (d : Dev) (n : Nat) (l : List Int) : Int :=
  if l.isEmpty then d.num (O.cpFeedCurrent n) else satS 32 (divRound ((l.map (d.snsCurrent n)).sum) l.length)

/-- MF_INPUT (R281). A chain channel takes its input at its next 1 ms grid time (R279): OVERLOAD the clipped samples counted in the millisecond, those of
overload declarations and those reported with none; it is missing while the chain is not in RUN. FEED_CURRENT takes the mean of the 1 ms of samples
reported. Every other channel takes the input that its source has fed. -/
def Dev.mfInputNow (d : Dev) (ch : Nat) (vals : List Int) : Dev :=
  if 512 ≤ ch ∧ ch < 512 + 2 * d.chains then
    let d1 := d.tick (4096 + ch) 1000000 0
    let n := (ch - 512) / 2
    let t := d1.now / 1000000 * 1000000
    if ch % 2 = 0 then
      let c := Tab.get {} d1.rf.chains n
      let d2 : Dev := { d1 with rf := { d1.rf with chains := Tab.set {} d1.rf.chains n { c with clipped := 0 } } }
      if d2.nat (O.cpChainState n) = 2 then
        let more := vals.sum.toNat
        (d2.count 64 (O.cpClipSamples n) more).mfDirect ch { t := t, v := some (c.clipped + more : Nat) }
      else d2.mfDirect ch { t := t, v := none }
    else
      let v := d1.feedMean n vals
      (d1.setN (O.cpFeedCurrent n) v).mfDirect ch { t := t, v := some v }
  else d.mfNext ch

/-- MF_RECORD_TIMEOUT (R298): 100 ms after the first output of a record. -/
def Dev.mfTimeout (d : Dev) (ch : Nat) : Dev :=
  let c := d.mfChan ch
  if c.held.isEmpty then d else (d.after c.heldAt 100).mfFlush ch

/-! ### Rows -/

/-- MF_INPUT (R281). -/
def execMfInput (ch : Nat) (vals : List Int) (s : State) : Host.Outcome State Fault Refusal := s.upd (fun d => d.mfInputNow ch vals)
/-- MF_RECORD_TIMEOUT (R298). -/
def execMfRecordTimeout (ch : Nat) (s : State) : Host.Outcome State Fault Refusal := s.upd (fun d => d.mfTimeout ch)

end Sys2Proof.Machine
end

