-- ==== Sys2Proof/Machine/Lens.lean ====
section
/-! DEFINITION. The Lens and the Sweep (chapter 3): sub-bands and tuner taps, the sweep plan, reporting intervals and
Sweep records. -/

namespace Sys2Proof.Machine

/-! ### Chains and frequencies -/

/-- A chain delivers samples: CHAIN_STATE RUN (R28, R83). -/
def Dev.chainUp (d : Dev) (n : Nat) : Bool := decide (d.nat (O.cpChainState n) = 2)

/-- Door band of a chain's door: 0 H, 1 V, 2 C in Band III, 3 C in L-band (R319). -/
def Dev.bandOf (d : Dev) (n door : Nat) : Nat := if door = 2 then (if d.nat (O.cpDoorCBand n) = 1 then 3 else 2) else door

/-- Door band index j of a chain's door (R319). -/
def Dev.bandIndex (d : Dev) (n door : Nat) : Nat := 4 * n + d.bandOf n door

/-- The local oscillator that a door band subtracts, in Hz (Table 2.1, R37, R38). -/
def bandLo (b : Nat) : Nat := if b = 2 then 52428800 else if b = 3 then 1336934400 else 0

/-- The RF pass band of a door band, in Hz (Table 2.1). -/
def bandRf (b : Nat) : Nat × Nat :=
  match b with
  | 0 => (144000, 30000000)
  | 1 => (64000000, 110000000)
  | 2 => (168000000, 240000000)
  | _ => (1452000000, 1492000000)

/-- The converter band of a door band, in Hz (Table 2.1). -/
def bandConv (b : Nat) : Int × Int := (((bandRf b).1 : Int) - bandLo b, ((bandRf b).2 : Int) - bandLo b)

/-- The band an RF frequency names on a door: on door C, L-band from 1 GHz up, Band III below (R36). -/
def rfBand (door rf : Nat) : Nat := if door = 2 then (if 1000000000 ≤ rf then 3 else 2) else door

/-- The door is muted or off: disabled, or switched to REFIN (R315), or door C during a band change, or in L-band while the mixers are muted (R35, R42,
R43). -/
def Dev.doorMuted (d : Dev) (n door : Nat) : Bool :=
  !d.flag (O.cpDoorEnable n door) || d.cal.measuring.any (fun m => decide (m.1 = 3 * n + door)) ||
  (decide (door = 2) && ((Tab.get {} d.rf.chains n).bandMute ||
    (decide (d.nat (O.cpDoorCBand n) = 1) && decide (d.nat O.cpLsynState ≠ 2))))

/-! ### Taps (R77 to R84) -/

/-- Passband half-width of a rate code, in Hz (Table 3.1). -/
def rateHalf (r : Nat) : Nat :=
  match r with
  | 0 => 10000 | 1 => 20000 | 2 => 40000 | 3 => 75000 | 4 => 150000 | 5 => 200000 | _ => 768000

/-- The sub-band of a converter frequency (R75). -/
def subband (f : Int) : Int := (2 * f + 768000) / 1536000

/-- First sub-band and number of sub-bands of a tap at converter frequency `f` (R78). -/
def tapBands (f : Int) (rate : Nat) : Int × Int :=
  let k0 := subband (f - rateHalf rate)
  let k1 := subband (f + rateHalf rate)
  (k0, k1 - k0 + 1)

/-- The NCO word (R79). -/
def tapNco (f : Int) (rate : Nat) : Int :=
  let b := tapBands f rate
  let c := (2 * b.1 + b.2 - 1) * 384000
  divRound ((f - c) * 4294967296) 6144000

/-- Whether a tap request is accepted (R78). -/
def Dev.tapOk (d : Dev) (chain door rf rate : Nat) : Bool :=
  let b := rfBand door rf
  let f : Int := (rf : Int) - bandLo b
  let c := bandConv b
  decide ((tapBands f rate).2 ≤ 3) && decide (c.1 ≤ f - rateHalf rate) && decide (f + rateHalf rate ≤ c.2) &&
  (decide (door ≠ 2) || decide (d.bandOf chain 2 = b))

/-- Where device times of chain sample indices that are multiples of `ns` nanoseconds of samples fall, modulo `ns` (R76). -/
def Dev.samplePhase (d : Dev) (ns : Nat) : Nat := (d.now + ns - (d.mono - d.rf.epoch) % ns) % ns

/-- The next tick of a unit whose ticks fall at chain sample indices that are multiples of `ns` nanoseconds of samples; with its device
time. -/
def Dev.sampleTick (d : Dev) (unit ns : Nat) : Dev × Nat :=
  let p := d.samplePhase ns
  let d1 := d.tick unit ns p
  (d1, (d1.now - p) / ns * ns + p)

/-- The lowest-numbered free tap. -/
def Dev.freeTap (d : Dev) : Option Nat := (List.range 128).find? (fun t => decide (d.nat (O.lnTapState t) = 0))

/-- TAPS_ASSIGNED recounted. -/
def Dev.countTaps (d : Dev) : Dev :=
  d.setN O.lnTapsAssigned (((List.range 128).filter (fun t => decide (d.nat (O.lnTapState t) ≠ 0))).length : Nat)

/-- What the Lens holds of a tap. -/
def Dev.tapSt (d : Dev) (t : Nat) : TapSt := Tab.get {} d.lens.taps t
/-- The same replaced. -/
def Dev.setTapSt (d : Dev) (t : Nat) (x : TapSt) : Dev := { d with lens := { d.lens with taps := Tab.set {} d.lens.taps t x } }

/-- Sub-bands and NCO of a tap loaded for an RF centre (Table 3.3). -/
def Dev.tapTune (d : Dev) (t rf : Nat) : Dev :=
  let door := d.nat (O.lnTapDoor t)
  let rate := d.nat (O.lnTapRate t)
  let f : Int := (rf : Int) - bandLo (rfBand door rf)
  let b := tapBands f rate
  let x := d.tapSt t
  let n := if d.nat (O.lnTapState t) = 2 then d.tapIndex t + 1 else 0
  let d1 := d.setTapSt t { x with rfs := ((n, rf) :: x.rfs).take 16 }
  (((d1.setN (O.lnTapRf t) rf).setN (O.lnTapSubband t) b.1).setN (O.lnTapSubbands t) b.2).setN (O.lnTapNco t) (tapNco f rate)

/-- The RF centre that tap `t` had at output sample `n` (Table 3.10). -/
def Dev.tapRfAt (d : Dev) (t n : Nat) : Nat :=
  match (d.tapSt t).rfs.find? (fun p => decide (p.1 ≤ n)) with
  | some p => p.2
  | none => d.nat (O.lnTapRf t)

/-- Tap `t` assigned to entry `i` of context `c` (Table 3.3, first row). On a chain that is not in RUN it starts IDLE (R28). -/
def Dev.tapAssign (d : Dev) (t c i chain door rf rate : Nat) : Dev :=
  let d1 := ((((d.setN (O.lnTapContext t) c).setN (O.lnTapChain t) chain).setN (O.lnTapDoor t) door).setN (O.lnTapRate t) rate).setN
    (O.lnTapTagged t) 0
  let d2 := ((((d1.setTapSt t { entry := i }).tapTune t rf).setN (O.lnTapState t) (if d1.chainUp chain then 1 else 3)).setN (O.cxTap c i) t)
  d2.countTaps

/-- A tap in RUN stops its output and takes another state: TAP_INDEX and TAP_TAGGED keep what they have come to. -/
def Dev.tapStop (d : Dev) (t st : Nat) : Dev :=
  if d.nat (O.lnTapState t) = 2 then
    ((d.setN (O.lnTapIndex t) (d.tapIndex t : Nat)).setN (O.lnTapTagged t) (d.tapTaggedNow t)).setN (O.lnTapState t) st
  else d.setN (O.lnTapState t) st

/-- Retune of a tap (Table 3.3): with the same sub-bands the new NCO word holds from the next output sample, which is tagged RETUNE; others pass
through FILL. Of two retunes before one sample the later is applied (R84). -/
def Dev.tapRetune (d : Dev) (t rf : Nat) : Dev :=
  let k := d.num (O.lnTapSubband t)
  let m := d.num (O.lnTapSubbands t)
  let d1 := d.tapTune t rf
  if d1.nat (O.lnTapState t) ≠ 2 then d1
  else if d1.num (O.lnTapSubband t) = k ∧ d1.num (O.lnTapSubbands t) = m then
    let n := d1.tapIndex t + 1
    let x := d1.tapSt t
    d1.setTapSt t { x with retunes := x.retunes.filter (fun y => decide (y ≠ n) && decide (d1.tapIndex t ≤ y + 2 * rateTwice (d1.nat (O.lnTapRate t)))) ++ [n] }
  else d1.tapStop t 1

/-- A tap freed (Table 3.3, last row). -/
def Dev.tapFree (d : Dev) (t : Nat) : Dev :=
  let d1 := [O.lnTapState t, O.lnTapContext t, O.lnTapChain t, O.lnTapDoor t, O.lnTapRf t, O.lnTapRate t, O.lnTapSubband t,
    O.lnTapSubbands t, O.lnTapNco t, O.lnTapIndex t, O.lnTapTagged t].foldl (fun x o => x.setN o 0) d
  { d1 with lens := { d1.lens with taps := Tab.set {} d1.lens.taps t {} } }.countTaps

/-- The chain of some taps stops or runs again (Table 3.3): FILL and RUN go to IDLE, IDLE goes to FILL. -/
def Dev.tapsFollowChain (d : Dev) (n : Nat) : Dev :=
  (List.range 128).foldl (fun x t =>
    let st := x.nat (O.lnTapState t)
    if st = 0 ∨ x.nat (O.lnTapChain t) ≠ n then x
    else if x.chainUp n then (if st = 3 then x.setN (O.lnTapState t) 1 else x)
    else (if st = 3 then x else x.tapStop t 3)) d

/-- TAP_FILL_DONE (R83): a filling tap delivers its first sample, at the next index on the grid of R80. -/
def Dev.tapFillDone (d : Dev) (t : Nat) : Dev :=
  if d.nat (O.lnTapState t) = 1 then
    let rate := d.nat (O.lnTapRate t)
    let n := d.tapIndexNow rate + 1
    let d1 := d.clockTo (d.tapInstant rate n)
    ((d1.setTapSt t { d1.tapSt t with first := n }).setN (O.lnTapState t) 2).setN (O.lnTapIndex t) n
  else d

/-! ### Rasters (Table 3.4) -/

/-- The door a raster names, as a door band. -/
def rasterBand (r : Nat) : Nat := if r ≤ 3 then 0 else if r ≤ 6 then 1 else if r = 7 then 2 else 3

/-- The door a raster names. -/
def rasterDoor (r : Nat) : Nat := min 2 (rasterBand r)

/-- Channels on a raster. -/
def rasterCount (r : Nat) : Nat :=
  match r with
  | 0 => 15 | 1 => 120 | 2 => 118 | 3 => 5641 | 4 => 921 | 5 => 461 | 6 => 461 | 7 => 38 | 8 => 23 | _ => 0

/-- Band III block centres 5A to 13F of ETSI EN 300 401, in kHz (log 8). -/
def bandIII : List Nat :=
  [174928, 176640, 178352, 180064, 181936, 183648, 185360, 187072, 188928, 190640, 192352, 194064, 195936, 197648, 199360, 201072,
   202928, 204640, 206352, 208064, 209936, 211648, 213360, 215072, 216928, 218640, 220352, 222064, 223936, 225648, 227360, 229072,
   230784, 232496, 234208, 235776, 237488, 239200]

/-- Centre of channel `n` of a raster, RF in Hz (Table 3.4). The L-band block centres LA to LW are taken from outside the spec, 1452.960 MHz and
1.712 MHz apart (log 8). -/
def rasterCentre (r n : Nat) : Nat :=
  match r with
  | 0 => 153000 + 9000 * n
  | 1 => 531000 + 9000 * n
  | 2 => 530000 + 10000 * n
  | 3 => 1800000 + 5000 * n
  | 4 => 64000000 + 50000 * n
  | 5 | 6 => 64000000 + 100000 * n
  | 7 => bandIII.getD n 0 * 1000
  | _ => 1452960000 + 1712000 * n

/-- Half the bandwidth of a raster, in Hz (Table 3.4). -/
def rasterHalf (r : Nat) : Nat :=
  match r with
  | 0 | 1 => 4500 | 2 => 5000 | 3 => 2500 | 4 | 5 => 60000 | 6 => 48000 | _ => 768000

/-- A channel whose interval leaves its door's converter band (R90). -/
def channelPartial (r n : Nat) : Bool :=
  let b := rasterBand r
  let f := rasterCentre r n
  decide (f < (bandRf b).1 + rasterHalf r) || decide ((bandRf b).2 < f + rasterHalf r)

/-! ### Antenna factors (R318) -/

/-- Piecewise linear interpolation over points in ascending order: the end values beyond them, 0 without points. -/
def interpolate : List (Nat × Int) → Nat → Int
  | [], _ => 0
  | [p], _ => p.2
  | p :: q :: t, f =>
    if f ≤ p.1 then p.2
    else if f ≤ q.1 then (if q.1 = p.1 then p.2 else p.2 + divRound ((q.2 - p.2) * ((f : Int) - p.1)) (q.1 - p.1))
    else interpolate (q :: t) f

/-- The antenna factor of door band j at a frequency, in 0.01 dB/m (R318). -/
def Dev.antennaFactor (d : Dev) (j f : Nat) : Int :=
  interpolate ((List.range (d.nat (O.caAfPoints j))).map (fun i => (d.nat (O.caAfFreq j i), d.num (O.caAfValue j i)))) f

/-! ### The sweep plan -/

/-- Number of set bits of a chain mask. -/
def chainBits (m : Nat) : Nat := popcount 6 m

/-- Entry rate of a plan per second as a fraction, numerator and denominator: each segment gives chains × channels × 1000 /
interval (R94). -/
def planRate (p : List SweepSeg) : Nat × Nat :=
  p.foldl (fun a s =>
    if s.chainMask = 0 then a
    else (a.1 * s.interval + chainBits s.chainMask * (s.last + 1 - s.first) * 1000 * a.2, a.2 * s.interval)) (0, 1)

/-- The smallest integer that brings a plan's rate within 4,000,000 entries per second (R94). -/
def planSlow (p : List SweepSeg) : Nat :=
  let r := planRate p
  max 1 (ceilDiv r.1 (4000000 * r.2))

/-- Every open interval changed by `f`, which sees its key. -/
def Dev.mapInts (d : Dev) (f : Nat → SweepInt → SweepInt) : Dev :=
  { d with lens := { d.lens with ints := d.lens.ints.map (fun (p : Nat × SweepInt) => (p.1, f p.1 p.2)) } }

/-- Device time is disciplined (Table 14.8). -/
def Dev.timeDisc (d : Dev) : Bool := decide (d.nat O.tmTimeState = 2)

/-- Lane G carries chain `n`, from the crossfade onto it to the crossfade back (Table 11.3). -/
def Dev.laneGOn (d : Dev) (n : Nat) : Bool := decide (4 ≤ d.nat O.cpLanegStage) && decide (d.nat O.cpLanegChain = n)

/-- The door bands of chain `n` that are absent: their door is disabled or muted, or door C is in the other band (R90), as a mask. -/
def Dev.absentBands (d : Dev) (n : Nat) : Nat :=
  (List.range 4).foldl (fun m b => if d.doorMuted n (min 2 b) || decide (d.bandOf n (min 2 b) ≠ b) then withBit m b true else m) 0

/-- A fresh interval of chain `n` from device time `t`, `ago` nanoseconds before the present. -/
def Dev.openInt (d : Dev) (n t ago : Nat) : SweepInt :=
  { tStart := t, mStart := d.mono - ago, up := d.chainUp n, disc := d.timeDisc, laneG := d.laneGOn n, lane := decide (d.nat (O.cpLane n) = 1),
    ramp := d.ramped ago, absent := d.absentBands n }

/-- The end of an interval: the next multiple of its length (R92). -/
def SweepInt.tEnd (i : SweepInt) (sg : SweepSeg) : Nat := (i.tStart / (sg.interval * 1000000) + 1) * (sg.interval * 1000000)

/-- Intervals whose end has passed join those whose records are due, and the interval of the present time opens. An interval through the whole of
which nothing happened gives no record (log 104). -/
def Dev.rollInts (d : Dev) : Dev :=
  d.lens.ints.foldl (fun (x : Dev) p =>
    let sg := x.lens.plan.getD (p.1 / 8) {}
    let len := sg.interval * 1000000
    if p.2.tEnd sg ≤ x.now then
      let t := x.now / len * len
      { x with lens := { x.lens with due := x.lens.due ++ [(p.1, sg, p.2)], ints := x.lens.ints ++ [(p.1, x.openInt (p.1 % 8) t (x.now - t))] } }
    else { x with lens := { x.lens with ints := x.lens.ints ++ [p] } }) { d with lens := { d.lens with ints := [] } }

/-- Every open interval ends now; its record, with TRUNCATED, is still due (R92, R95). -/
def Dev.sweepCut (d : Dev) : Dev :=
  let d1 := d.rollInts
  { d1 with lens := { d1.lens with
      ints := []
      due := d1.lens.due ++ d1.lens.ints.map (fun p => (p.1, d1.lens.plan.getD (p.1 / 8) {}, { p.2 with cutAt := some d1.now })) } }

/-- Chains of a segment that are reported: all of its mask, and in SENTRY only the SENTRY chain (R95). -/
def Dev.segOn (d : Dev) (s : SweepSeg) (n : Nat) : Bool :=
  s.chainMask.testBit n && (match d.lens.only with | some m => decide (m = n) | none => true)

/-- Intervals opened now for every segment and chain of the plan that is reported. -/
def Dev.sweepOpen (d : Dev) : Dev :=
  let keys := (List.range d.lens.plan.length).flatMap fun s =>
    ((List.range d.chains).filter (fun n => d.segOn (d.lens.plan.getD s {}) n)).map (fun n => 8 * s + n)
  { d with lens := { d.lens with ints := keys.map (fun k => (k, d.openInt (k % 8) d.now 0)) } }

/-- A mark on the interval of the present time, of every segment on chain `n`. -/
def Dev.sweepMark (d : Dev) (n : Nat) (f : SweepInt → SweepInt) : Dev := d.rollInts.mapInts (fun k i => if k % 8 = n then f i else i)

/-- A mark on every interval of the present time. -/
def Dev.sweepMarkAll (d : Dev) (f : SweepInt → SweepInt) : Dev := d.rollInts.mapInts (fun _ i => f i)

/-- Device time is no longer disciplined: TIME_DISC needs the whole interval (Table 3.7). -/
def Dev.discShow (d : Dev) : Dev := if d.timeDisc then d else d.sweepMarkAll (fun i => { i with disc := false })

/-- A door of chain `n` may have changed: MUTED begins or ends on its samples (R81), and open intervals note the bands that are absent (R90). -/
def Dev.muteShow (d : Dev) (n : Nat) : Dev :=
  let d1 := (List.range 3).foldl (fun (x : Dev) i => if x.doorMuted n i then x.spanOpen n i tagMuted else x.spanClose n i tagMuted) d
  d1.sweepMark n (fun i => { i with absent := i.absent ||| d1.absentBands n })

/-- The same for every chain. -/
def Dev.muteShowAll (d : Dev) : Dev := (List.range d.chains).foldl (fun (x : Dev) n => x.muteShow n) d

/-- Sweep filter channels allocated for the plan (R280): at most 3,072, and every one starts anew (Table 10.6). -/
def Dev.sweepFilters (d : Dev) : Dev :=
  let n := sweepBefore d.lens.plan d.lens.plan.length
  let d1 : Dev := { d with mf := { d.mf with chans := d.mf.chans.filter (fun p => decide (p.1 < 1024)), inq := d.mf.inq.filter (fun p => decide (p.1 < 1024)) } }
  let d2 := ((List.range 256).filter (fun t => decide (1024 ≤ d1.nat (O.mfThrChannel t)) && decide (d1.nat (O.mfThrChannel t) < 4096))).foldl
    (fun x t => x.thrUnknown t) d1
  ((d2.setN O.mfSweepFiltered (min n 3072 : Nat)).setN O.mfSweepUnfiltered (n - 3072 : Nat)).mfCount

/-- A sweep plan takes effect (R94, R95): open intervals end, the rate limit is applied, and the plan objects follow. PLAN_SLOW is U8 and the
integer of R94 can pass 255: it then reads 255; PLAN_RATE is the rate rounded down to a whole number (log 105). -/
def Dev.sweepPlan (d : Dev) (p : List SweepSeg) : Dev :=
  let m := planSlow p
  let q := p.map (fun s => { s with interval := s.interval * m })
  let r := planRate q
  let d1 := d.sweepCut.mfFlushSweep
  let d2 := { d1 with lens := { d1.lens with plan := q } }.sweepOpen
  let d3 := ((d2.setN O.lnPlanRate (r.1 / r.2 : Nat)).setN O.lnPlanSlow (satU 8 m : Nat)).setN O.lnPlanSegments
    ((q.filter (fun s => decide (s.chainMask ≠ 0))).length : Nat)
  let d4 := d3.sweepFilters
  if 1 < m then d4.raise 41 m else d4

/-- SENTRY entry (R95): from now on the running plan is reported on the SENTRY chain only; the plan, its intervals there and its objects stay. -/
def Dev.sweepOnly (d : Dev) (n : Nat) : Dev :=
  { d with lens := { d.lens with only := some n, ints := d.lens.ints.filter (fun p => decide (p.1 % 8 = n)) } }

/-- The end of SENTRY (R95): every chain of the plan is reported again, in intervals that open now. -/
def Dev.sweepAll (d : Dev) : Dev :=
  if d.lens.only.isNone then d
  else
    let d1 : Dev := ({ d with lens := { d.lens with only := none } } : Dev).rollInts
    let d2 := d1.sweepOpen
    { d2 with lens := { d2.lens with ints := d1.lens.ints ++ d2.lens.ints.filter (fun p => !Tab.has d1.lens.ints p.1) } }

/-- The lane island starts: the epoch of R76 is now, and the Sweep's frames count from it (R86). -/
def Dev.lanesEpoch (d : Dev) : Dev :=
  ({ d with rf := { d.rf with epoch := d.mono, spans := [] }, lens := { d.lens with frames := 0 } } : Dev).muteShowAll

/-! ### Frames (R86 to R89) -/

/-- sin(2π a / 512), in fixed point. -/
def sinTurn (a : Nat) : Int := cosTurn ((a + 384) % 512) 512

/-- The Hann window of 512 points, in fixed point. -/
def hann (m : Nat) : Int := ((fxOne : Int) - cosTurn m 512) / 2

/-- Term `m` of a bin's transform: a windowed sample turned by the bin's offset, real and imaginary part with 95 fraction bits. -/
def binTerm (o : Int) (m : Nat) (x : Int × Int) : Int × Int :=
  let a := ((o * (m : Int)) % 512).toNat
  let c := cosTurn a 512
  let s := sinTurn a
  let w := hann m
  (w * (x.1 * c + x.2 * s) / (fxOne : Int), w * (x.2 * c - x.1 * s) / (fxOne : Int))

/-- The power of the bin at offset `o` of a sub-band's 512 samples, on the scale of `dbLin` (R86 to R88): a magnitude of 1.0 in Q31 is +30.00 dBm at the
pin (R102), and the sum over bins is the power in their band, since the window's squares sum to 192. -/
def binPower (l : List (Int × Int)) (o : Int) : Nat :=
  let t := (l.zipIdx.map (fun p => binTerm o p.2 p.1)).foldl (fun (a b : Int × Int) => (a.1 + b.1, a.2 + b.2)) (0, 0)
  (t.1 * t.1 + t.2 * t.2).toNat * dbLin 3000 / (512 * 192 * 2 ^ 190)

/-- The sub-band that supplies global bin `b`, and the bin's offset within it (R87). -/
def binPlace (b : Nat) : Nat × Int := ((b + 128) / 256, (b : Int) - 256 * (((b + 128) / 256 : Nat) : Int))

/-- Global bins that are measured (R87). -/
def binCount : Nat := 65408

/-- The samples of a frame on a chain: sub-bands, with the 512 samples of each. -/
abbrev FrameIn := List (Nat × List (Int × Int))

/-- The power of global bin `b`, referred to the pin by the calibration of the door band that holds it: `cor` gives what that calibration adds in bin
`b`, 0.01 dB (R88). A sub-band without samples has none. -/
def frameBin (fr : FrameIn) (cor : Nat → Int) (b : Nat) : Nat :=
  let p := binPlace b
  match fr.find? (fun x => decide (x.1 = p.1)) with
  | some x => if binCount ≤ b then 0 else binPower x.2 p.2 * dbLin (cor b) / dbLin 0
  | none => 0

/-- The part of channel `ch` of a raster inside its door's converter band, in Hz (R89, R90). -/
def channelSpan (r ch : Nat) : Nat × Nat :=
  let b := rasterBand r
  let f := rasterCentre r ch - bandLo b
  (max (f - rasterHalf r) ((bandRf b).1 - bandLo b), min (f + rasterHalf r) ((bandRf b).2 - bandLo b))

/-- The bins of a channel, each with the part of its cell inside the channel, in Hz of 3,000 (R89). -/
def channelBins (r ch : Nat) : List (Nat × Nat) :=
  let s := channelSpan r ch
  let b0 := (s.1 + 1500) / 3000
  (List.range ((s.2 + 1500) / 3000 + 1 - b0)).filterMap (fun k =>
    let b := b0 + k
    let w := min s.2 (3000 * b + 1500) - max s.1 (3000 * b - 1500)
    if 0 < w then some (b, w) else none)

/-- What a frame gives for a channel: its power, and its strongest bin with that bin's offset from the channel centre, to the nearest bin (R89,
R93). -/
def channelFrame (fr : FrameIn) (cor : Nat → Int) (r ch : Nat) : Nat × Nat × Int :=
  let l := (channelBins r ch).map (fun p => (p.1, frameBin fr cor p.1, p.2))
  let top := l.foldl (fun (a : Nat × Nat) p => if a.2 < p.2.1 then (p.1, p.2.1) else a) ((l.headD (0, 0, 0)).1, 0)
  ((l.map (fun p => p.2.1 * p.2.2)).sum / 3000, top.2,
   (top.1 : Int) - divRound ((rasterCentre r ch - bandLo (rasterBand r) : Nat) : Int) 3000)

/-- The levels of one channel over an interval, in 0.01 dBm, and the strongest bin's offset (R93). -/
structure SweepEnt where
  mean : Int
  max : Int
  min : Int
  peak : Int
  off : Int

/-- What the frames of an interval give for a channel, frame by frame power, strongest bin and its offset: linear mean, highest and lowest frame power, and
the strongest single bin (R93); −327.68 throughout where no frame fell in the interval. -/
def sweepEnt (l : List (Nat × Nat × Int)) : SweepEnt :=
  match l with
  | [] => ⟨-32768, -32768, -32768, -32768, 0⟩
  | x :: t =>
    let top := t.foldl (fun (a : Nat × Int) y => if a.1 < y.2.1 then y.2 else a) x.2
    ⟨linDb ((l.map (fun y => y.1)).sum / l.length), linDb (t.foldl (fun a y => Nat.max a y.1) x.1), linDb (t.foldl (fun a y => Nat.min a y.1) x.1),
     linDb top.1, satS 8 top.2⟩

/-! ### Records (R97 to R101) -/

/-- EFLAGS of a channel (Table 3.9). ABSENT: the door was absent at some time of the interval (log 104). -/
def sweepFlags (seg : SweepSeg) (ch : Nat) (i : SweepInt) : Nat :=
  let door := rasterDoor seg.raster
  let absent := i.absent.testBit (rasterBand seg.raster)
  (if i.ovl then 1 else 0) + (if i.steps.testBit door then 2 else 0) + (if i.lane then 4 else 0) +
  (if channelPartial seg.raster ch then 8 else 0) + (if absent then 16 else 0) + (if i.up then 0 else 32) + (if i.ramp then 64 else 0)

/-- A level as its record gives it: pin level, or field strength for UNIT 1 (R17). -/
def Dev.sweepLevel (d : Dev) (unit j f : Nat) (v : Int) : Int :=
  if unit = 1 then satS 16 (v + 10700 + d.antennaFactor j f) else v

/-- One channel entry (Table 3.8, R100). -/
def Dev.sweepEntry (d : Dev) (seg : SweepSeg) (n ch unit : Nat) (i : SweepInt) (e : SweepEnt) : List Byte :=
  let fl := sweepFlags seg ch i
  let dead := fl.testBit 4 || fl.testBit 5
  let j := 4 * n + rasterBand seg.raster
  let lv := fun v => leBytes 2 (toUnsigned 16 (if dead then -32768 else d.sweepLevel unit j (rasterCentre seg.raster ch) v))
  leBytes 2 ch ++ lv e.mean ++ lv e.max ++ lv e.min ++ lv e.peak ++ leBytes 1 (toUnsigned 8 e.off) ++ leBytes 1 fl

/-- The position fields of a record header (R98). -/
def Dev.positionBytes (d : Dev) : List Byte :=
  leBytes 4 (toUnsigned 32 (d.num O.llPosLat)) ++ leBytes 4 (toUnsigned 32 (d.num O.llPosLon)) ++
  leBytes 4 (toUnsigned 32 (d.num O.llPosAlt)) ++ leBytes 2 (d.nat O.llPosUnc) ++ leBytes 2 0 ++ leBytes 8 (d.nat O.llPosT)

/-- HFLAGS of a record without RECORDS_LOST and CONTINUED (Table 3.7). -/
def Dev.sweepHFlags (d : Dev) (i : SweepInt) (tEnd : Nat) : Nat :=
  (if d.lens.posWritten then 1 else 0) + (if d.lens.posWritten ∧ 2000000000 < tEnd - d.nat O.llPosT then 2 else 0) +
  (if i.disc then 4 else 0) + (if i.cutAt.isSome then 16 else 0) + (if i.laneG then 32 else 0)

/-- A stream selects a chain and segment, and was enabled before the interval started (R101): both in elapsed time, which no step of device time moves. -/
def Dev.streamTakes (d : Dev) (s chain seg mStart : Nat) : Bool :=
  let m := Tab.get {} d.lens.streams s
  d.flag (O.lnStreamEnable s) && m.on && decide (m.enabledAt ≤ mStart) && (d.nat (O.lnStreamChains s)).testBit chain &&
  (d.nat (O.lnStreamSegments s)).testBit seg

/-- One Sweep record offered to the queue (R96): whether the queue has room is free (log 9). The answer says whether it was lost. -/
def Dev.sweepQueue (d : Dev) (chain seg mStart : Nat) (mk : Nat → Nat → Nat → Bool → List Byte) : Dev × Bool :=
  let ss := (List.range 8).filter (fun s => d.streamTakes s chain seg mStart)
  let r := d.fresh
  if Config.sweepRoom r.1 then
    let d1 := { r.2 with lens := { r.2.lens with lossRun := false } }
    (ss.foldl (fun x s => x.streamDeliver s (mk s)) d1, false)
  else
    let d1 := ss.foldl (fun x s => x.streamDrop s) (r.2.inc O.lnSweepLost)
    (if d1.lens.lossRun then d1 else { d1 with lens := { d1.lens with lossRun := true } }.raise 40 chain, true)

/-- A list cut into pieces of at most 512 (R99); `fuel` bounds the pieces. -/
def pieces {α : Type} : Nat → List α → List (List α)
  | 0, _ => []
  | f + 1, l => if l.length ≤ 512 then [l] else l.take 512 :: pieces f (l.drop 512)

/-- The records of one interval (R97, R99). FRAMES is U16: a longer interval's count is given modulo 2^16 (log 105). The answer lists the PARTs that
were lost. -/
def Dev.sweepRecords (d : Dev) (seg chain : Nat) (sg : SweepSeg) (i : SweepInt) (es : List SweepEnt) (tEnd : Nat) : Dev × List Nat :=
  let chs := es.zipIdx.map (fun p => (sg.first + p.2, p.1))
  let ps := pieces 12 chs
  (List.range ps.length).foldl (fun (acc : Dev × List Nat) p =>
    let x := acc.1
    let part := ps.getD p []
    let more := decide (p + 1 < ps.length)
    let r := x.sweepQueue chain seg i.mStart (fun s q lost losing =>
      let unit := x.nat (O.lnStreamUnit s)
      let fl := x.sweepHFlags i tEnd + (if losing then 8 else 0) + (if more then 64 else 0)
      leBytes 1 1 ++ leBytes 1 1 ++ leBytes 2 part.length ++ leBytes 1 chain ++ leBytes 1 seg ++ leBytes 1 sg.raster ++ leBytes 1 fl ++
      leBytes 4 q ++ leBytes 2 i.frames.length ++ leBytes 1 unit ++ leBytes 1 p ++ leBytes 8 i.tStart ++ leBytes 8 tEnd ++ x.positionBytes ++
      leBytes 4 lost ++ leBytes 4 0 ++ part.flatMap (fun e => x.sweepEntry sg chain e.1 unit i e.2))
    (r.1, if r.2 then acc.2 ++ [p] else acc.2)) (d, [])

/-- The entries of an interval fed to their Sweep filter channels (R280); an entry that is ABSENT or NO_CHAIN, or whose record was
lost, supplies none (R286). -/
def Dev.sweepFeed (d : Dev) (seg chain : Nat) (sg : SweepSeg) (i : SweepInt) (es : List SweepEnt) (tEnd : Nat) (lost : List Nat) : Dev :=
  let vals := segValues sg
  let base := sweepBefore d.lens.plan seg + ((segChains sg).filter (fun n => decide (n < chain))).length * (sg.last + 1 - sg.first) * vals.length
  es.zipIdx.foldl (fun x p =>
    let e := p.1
    let k := p.2
    let fl := sweepFlags sg (sg.first + k) i
    let dead := fl.testBit 4 || fl.testBit 5 || lost.any (fun p => decide (p = k / 512))
    (List.range vals.length).foldl (fun y v =>
      let ch := base + k * vals.length + v
      if 3072 ≤ ch then y
      else
        let q := match vals.getD v 0 with | 0 => e.mean | 1 => e.max | _ => e.min
        y.mfFeed (1024 + ch) { t := tEnd, v := if dead then none else some q,
                               tags := (if fl.testBit 0 then 16 else 0) + (if fl.testBit 2 then 32 else 0) + (if fl.testBit 6 then 64 else 0) }) x) d

/-- The MEAN of every channel of a FOLLOWING segment, for the following engine (R91, R264). -/
def Dev.sweepFollow (d : Dev) (chain : Nat) (sg : SweepSeg) (i : SweepInt) (es : List SweepEnt) (lost : List Nat) : Dev :=
  if sg.following = 0 then d
  else
    es.zipIdx.foldl (fun (x : Dev) p =>
      let j := p.2
      let ch := sg.first + j
      let fl := sweepFlags sg ch i
      if lost.any (fun p => decide (p = j / 512)) then x
      else
      { x with ll := { x.ll with levels := Tab.set (-32768) x.ll.levels (2 ^ 20 * sg.raster + 8 * ch + chain)
                                   (if fl.testBit 4 ∨ fl.testBit 5 then -32768 else p.1.mean) } }) d

/-- An interval takes a frame whose stamp, in elapsed time, falls in it (R92). -/
def SweepInt.takes (i : SweepInt) (sg : SweepSeg) (m : Nat) : Bool :=
  decide (i.mStart ≤ m) && decide (m < i.mStart + (i.cutAt.getD (i.tEnd sg) - i.tStart))

/-- SWEEP_FRAME (R86): the next frame, or the last one already complete, of every chain in RUN. Its stamp is that of chain sample 256 · (256 j + 256), and
the frame is complete 65,536 samples later; each interval that holds the stamp counts it. -/
def Dev.sweepFrame (d : Dev) : Dev :=
  let j := max d.lens.frames (d.sampleIndex / 65536 - 2)
  let d1 := (d.clockTo (d.rf.epoch + ceilDiv ((65536 * j + 131072) * 1000000) 393216)).rollInts
  let m := d1.rf.epoch + ceilDiv ((65536 * j + 65536) * 1000000) 393216
  let take := fun (k : Nat) (sg : SweepSeg) (i : SweepInt) =>
    let n := k % 8
    if i.takes sg m ∧ d1.chainUp n then
      { i with frames := i.frames ++ [(j, (List.range 3).map (fun b => (Tab.get {} d1.rf.doors (3 * n + b)).g))], up := true
               ovl := i.ovl || d1.anyTagged n tagOvl (65536 * j) (65536 * j + 131072) }
    else i
  let d2 := d1.mapInts (fun k i => take k (d1.lens.plan.getD (k / 8) {}) i)
  ({ d2 with lens := { d2.lens with frames := j + 1, due := d2.lens.due.map (fun p => (p.1, p.2.1, take p.1 p.2.1 p.2.2)) } } : Dev).setN O.lnSweepFrames j

/-- SWEEP_FRAME. -/
def execSweepFrame (s : State) : Host.Outcome State Fault Refusal := s.upd (fun d => if d.fabricOn then d.sweepFrame else d)

end Sys2Proof.Machine
end

