-- ==== Sys2Proof/Machine/Ctx.lean ====
section
/-! DEFINITION. Contexts and antenna combining (chapter 4): types and cost, admission, the context states, acquisition
hypotheses, combining, and output frames. -/

namespace Sys2Proof.Machine

/-! ### Types (Table 4.1) -/

/-- Cost in half-WU of a type with `n` taps. -/
def typeCost (ty n : Nat) : Nat :=
  match ty with
  | 1 => 1 + n
  | 2 => 1 | 3 => 4 | 4 => 6 | 5 => 24 | 6 => 4 | 7 => 16 | 8 => 8 | 9 => 1 | 10 => 2 | 11 => 1
  | _ => 0

/-- Tap rate code of a type (R108, R109). -/
def typeRate (ty subject iq : Nat) : Nat :=
  match ty with
  | 1 => 4 | 2 => 0 | 3 => 1 | 4 => 3 | 5 => 6 | 6 => 6 | 7 => 5 | 8 => 1
  | 10 => iq
  | _ => (match subject with | 0 => 4 | 1 => 0 | 2 => 6 | _ => 1)

/-- A type code of Table 4.1. -/
def typeDefined (ty : Nat) : Bool := decide (1 ≤ ty) && decide (ty ≤ 11)

/-- Types whose single tap passes through (MEAS, IQ export, SENTRY). -/
def typeSingle (ty : Nat) : Bool := decide (9 ≤ ty)

/-- Combining modes that a type allows (R123). -/
def cmbOk (ty mode : Nat) : Bool :=
  if typeSingle ty then decide (mode = 0) else if ty = 1 then decide (mode ≤ 3) else decide (mode = 0) || decide (mode = 1) || decide (mode = 3)

/-- The mode that combines (R123): none with one tap, PHASE_DIV for mode 0 of an FM context, MRC for mode 0 of another type. -/
def cmbMode (ty n mode : Nat) : Nat := if typeSingle ty ∨ n ≤ 1 then 0 else if mode ≠ 0 then mode else if ty = 1 then 2 else 3

/-- Types that need no acquisition: IQ export, and MEAS with subject FM or AM (Table 4.4). -/
def typeDirect (ty subject : Nat) : Bool := decide (ty = 10) || (decide (ty = 9) && decide (subject < 2))

/-! ### A context's objects -/

/-- First OID of the objects of context `c`. -/
def cxBase (c : Nat) : Nat := O.mk 8 (0x100 + 0x10 * c) 0

/-- The context whose object an OID is, if any. -/
def cxOf (o : Nat) : Option Nat :=
  let i := O.item o
  if O.area o = 8 ∧ 0x110 ≤ i ∧ i < 0x500 then some ((i - 0x100) / 0x10) else none

/-- What a context holds beside its objects. -/
def Dev.ctx (d : Dev) (c : Nat) : CtxSt := Tab.get {} d.cx.ctxs c

/-- The same replaced. -/
def Dev.setCtx (d : Dev) (c : Nat) (x : CtxSt) : Dev := { d with cx := { d.cx with ctxs := Tab.set {} d.cx.ctxs c x } }

/-- State code of a context (R133). -/
def Dev.cxSt (d : Dev) (c : Nat) : Nat := d.nat (O.cxState c)

/-- The value of a context object that is in effect (R118). -/
def Dev.cxEff (d : Dev) (c o : Nat) : Int :=
  match (d.ctx c).held.find? (fun p => decide (p.1 = o)) with
  | some p => p.2.int
  | none => d.num o

/-- The antenna list: the chains of entries 0 to ANT_COUNT − 1 (R112). -/
def Dev.cxChains (d : Dev) (c : Nat) : List Nat := (List.range (d.nat (O.cxAntCount c))).map (fun i => d.nat (O.cxAntChain c i))

/-- Tap rate code of a context. -/
def Dev.cxRate (d : Dev) (c : Nat) : Nat := typeRate (d.nat (O.cxType c)) (d.nat (O.cxSubject c)) (d.nat (O.cxIqRate c))

/-- The taps assigned to a context, with their entries. -/
def Dev.cxTaps (d : Dev) (c : Nat) : List (Nat × Nat) :=
  (List.range 6).filterMap (fun i => if d.nat (O.cxTap c i) = 255 then none else some (i, d.nat (O.cxTap c i)))

/-- The combining mode in effect (R118, R123). -/
def Dev.cxMode (d : Dev) (c : Nat) : Nat := cmbMode (d.nat (O.cxType c)) (d.nat (O.cxAntCount c)) (d.cxEff c (O.cxCmbMode c)).toNat

/-- Contexts that are not FREE, ascending. -/
def Dev.activeCtxs (d : Dev) : List Nat := ((List.range 64).drop 1).filter (fun c => decide (d.cxSt c ≠ 0))

/-- Contexts of some types. -/
def Dev.countTypes (d : Dev) (l : List Nat) : Nat :=
  (d.activeCtxs.filter (fun c => l.any (fun t => decide (d.nat (O.cxType c) = t)))).length

/-- The Gallery's counts (Table 4.10) and TAPS_RESERVED (R82) recounted. -/
def Dev.cxCounts (d : Dev) : Dev :=
  let a := d.activeCtxs
  ((((((((d.setN O.cxWuUsed ((a.map (fun c => d.nat (O.cxCost c))).sum : Nat)).setN O.cxActive (a.length : Nat)).setN O.cxNDab
    (d.countTypes [5] : Nat)).setN O.cxNDrm (d.countTypes [3, 4] : Nat)).setN O.cxNFm (d.countTypes [1] : Nat)).setN O.cxNNrsc5
    (d.countTypes [7, 8] : Nat)).setN O.cxNSentry (d.countTypes [11] : Nat)).setN O.lnTapsReserved
    ((a.map (fun c => d.nat (O.cxAntCount c))).sum : Nat))

/-- Event 64 + k of context `c` (R134). -/
def Dev.cxEvent (d : Dev) (k c : Nat) : Dev :=
  (d.setN (O.cxEventContexts k) (withBit (d.nat (O.cxEventContexts k)) c true)).raise (64 + k) c

/-! ### Selectors and decoders (R208 to R211) -/

/-- A selector of a context. -/
def Dev.sel (d : Dev) (c i : Nat) : Sel := Tab.get {} (d.ctx c).sels i

/-- The same replaced where its state, codec and rate stay. -/
def Dev.keepSel (d : Dev) (c i : Nat) (x : Sel) : Dev := d.setCtx c { d.ctx c with sels := Tab.set {} (d.ctx c).sels i x }

/-- The same replaced, with SEL_STATE, SEL_CODEC and DEC_FS of selectors 0–3. -/
def Dev.setSel (d : Dev) (c i : Nat) (x : Sel) : Dev :=
  let d1 := d.keepSel c i x
  if i < 4 then ((d1.setN (O.cxSelState c i) x.state).setN (O.cxSelCodec c i) x.codec).setN (O.cxDecFs c i) x.fs else d1

/-- SEL_MODE in effect; the warning selector decodes (R242). -/
def Dev.selMode (d : Dev) (c i : Nat) : Nat := if i = 4 then 2 else (d.cxEff c (O.cxSelMode c i)).toNat

/-- Owner role F: the image plan, the following engine, or a context that firmware armed (R115, R210). -/
def Dev.cxOwnerF (d : Dev) (c : Nat) : Bool := decide (d.nat (O.cxOwner c) ≠ 1) || decide ((d.ctx c).owner = .F)

/-- Rank of a waiting selector: the warning selector, then owner F, then the rest (R210, R211). -/
def Dev.waitRank (d : Dev) (p : Nat × Nat) : Nat := if p.2 = 4 then 0 else if d.cxOwnerF p.1 then 1 else 2

/-- The waiting selectors in the order in which decoders go to them. -/
def Dev.waitOrder (d : Dev) : List (Nat × Nat) :=
  let l := d.cx.waits
  l.filter (fun p => decide (d.waitRank p = 0)) ++ l.filter (fun p => decide (d.waitRank p = 1)) ++ l.filter (fun p => decide (d.waitRank p = 2))

/-- The decoder that a selector holds. -/
def Dev.decOf (d : Dev) (c i : Nat) : Option DecHold := d.cx.decs.find? (fun h => decide (h.ctx = c) && decide (h.sel = i))

/-- A selector gives up its decoder, and waits for none. -/
def Dev.decDrop (d : Dev) (c i : Nat) : Dev :=
  let d1 := { d with cx := { d.cx with decs := d.cx.decs.filter (fun h => !(decide (h.ctx = c) && decide (h.sel = i))),
                                       waits := d.cx.waits.filter (fun p => decide (p ≠ (c, i))),
                                       preempt := d.cx.preempt.filter (fun p => decide (p ≠ (c, i))) } }
  if i < 4 then d1.setN (O.cxDecSlot c i) 255 else d1

/-- Samples of a fade of 5 ms. -/
def fadeLen : Nat := 240

/-- The weight of the part that goes, `done` samples into a fade of `len`: at most 1, and 0 at its end. -/
def fadeW (done len : Nat) : Nat := if len ≤ done then 0 else min fxOne (Config.fadeShape done len)

/-- A sample weighted. -/
def weigh (w : Nat) (x : Int × Int) : Int × Int := (divRound (x.1 * (w : Int)) fxOne, divRound (x.2 * (w : Int)) fxOne)

/-- A fade to silence over 5 ms of a selector that leaves DECODING: what its decoder gives during the fade is free (log 107). -/
def Dev.pcmFade (d : Dev) (c i : Nat) : Dev :=
  let s := d.sel c i
  if s.state ≠ 2 then d
  else
    let r := d.fresh
    let l := (List.range fadeLen).map (fun k => weigh (fadeW k fadeLen) (if s.failed then (0, 0) else (satS 24 (Config.concealPcm (r.1 + 2 * k)), satS 24 (Config.concealPcm (r.1 + 2 * k + 1)))))
    r.2.keepSel c i { s with pcm := s.pcm ++ l }

/-- The row "Any but 0" of Table 7.10: any decoder released, its PCM faded out, back to RESOLVING, or OFF with SEL_MODE 0. -/
def Dev.selReset (d : Dev) (c i : Nat) : Dev :=
  let e := d.pcmFade c i
  (e.decDrop c i).setSel c i { state := if d.selMode c i = 0 then 0 else 1, target := (e.sel c i).target, pcm := (e.sel c i).pcm }

/-- Every selector in use starts to resolve again. -/
def Dev.selsReset (d : Dev) (c : Nat) : Dev :=
  (List.range 5).foldl (fun x i => if (x.sel c i).state = 0 then x else x.selReset c i) d

/-- The lowest-numbered free decoder of 32. -/
def Dev.freeDec (d : Dev) : Option Nat := (List.range 32).find? (fun n => !d.cx.decs.any (fun h => decide (h.dec = n)))

/-- Decoder granted to a selector (R210): DECODING, with a DEC_LAG that the signal and the decoder determine (log 16). -/
def Dev.decGrant (d : Dev) (c i : Nat) : Dev :=
  match d.freeDec with
  | none => d
  | some n =>
    let r := d.fresh
    let d1 := { r.2 with cx := { r.2.cx with decs := r.2.cx.decs ++ [({ dec := n, ctx := c, sel := i, grant := r.2.cx.grants } : DecHold)],
                                             waits := r.2.cx.waits.filter (fun p => decide (p ≠ (c, i))), grants := r.2.cx.grants + 1 } }
    let d2 := (d1.setSel c i { d1.sel c i with state := 2, found := false, failed := false, rise := 0 }).inc O.cxDecGrants
    if i < 4 then (d2.setN (O.cxDecSlot c i) n).setN (O.cxDecLag c i) (Config.decLag r.1 % 2 ^ 64 : Nat) else d2

/-- A context that decodes audio: a DAB full-ensemble or DRM context in LOCKED or SHADOW. MEAS and SENTRY contexts decode none (R218, R220), and a
selector keeps its state through HOLD (R209). -/
def Dev.cxDecodes (d : Dev) (c : Nat) : Bool :=
  decide (3 ≤ d.nat (O.cxType c)) && decide (d.nat (O.cxType c) ≤ 8) && (decide (d.cxSt c = 3) || decide (d.cxSt c = 4))

/-- Decoders at a run start of context `c` (R210): decoders taken by the Foghorn path, or of an ended warning, are given up, selectors that have
found their service join the wait, and those of the context that stand first for a free decoder take one. In HOLD nothing changes. -/
def Dev.decRun (d : Dev) (c : Nat) : Dev :=
  if !d.cxDecodes c then d else
  let d1 := (d.cx.preempt.filter (fun p => decide (p.1 = c))).foldl (fun (x : Dev) p =>
    let w := x.pcmFade c p.2
    let y := w.decDrop c p.2
    if (x.sel c p.2).state = 0 then y
    else
      let z := y.setSel c p.2 { y.sel c p.2 with state := 4 }
      { z with cx := { z.cx with waits := z.cx.waits ++ [p] } }) d
  let d2 := (List.range 5).foldl (fun (x : Dev) i =>
    let s := x.sel c i
    if s.found ∧ (s.state = 1 ∨ s.state = 5) ∧ !x.cx.waits.any (fun p => decide (p = (c, i))) then
      { x with cx := { x.cx with waits := x.cx.waits ++ [(c, i)] } }
    else x) d1
  let turn := (d2.waitOrder.take (32 - d2.cx.decs.length)).filter (fun p => decide (p.1 = c) && (decide ((d2.sel c p.2).state = 4) || (d2.sel c p.2).found))
  let d3 := turn.foldl (fun x p => x.decGrant c p.2) d2
  (List.range 5).foldl (fun (x : Dev) i =>
    let s := x.sel c i
    if s.found ∧ x.cx.waits.any (fun p => decide (p = (c, i))) then x.setSel c i { s with state := 4, found := false } else x) d3

/-- The Foghorn path takes the decoder most recently granted to a dictionary-owned selector (R211): whether there was one. -/
def Dev.decPreempt (d : Dev) : Dev × Bool :=
  let l := d.cx.decs.filter (fun h => decide (h.sel ≠ 4) && !d.cxOwnerF h.ctx && !d.cx.preempt.any (fun p => decide (p = (h.ctx, h.sel))))
  match l.foldl (fun (b : Option DecHold) h => match b with
      | none => some h
      | some g => if g.grant < h.grant then some h else b) none with
  | some h => (({ d with cx := { d.cx with preempt := d.cx.preempt ++ [(h.ctx, h.sel)] } }).inc O.cxDecPreempted, true)
  | none => (d, false)

/-- An indicator as it is now, whether or not the end of a run has delivered it (R189). -/
def Dev.qNow (d : Dev) (c o : Nat) : Int := match (d.ctx c).shown.find? (fun p => decide (p.1 = o)) with | some p => p.2.1 | none => d.num o

/-- A state change of a context. Entry to ACQUIRING resets its selectors and what it holds of the signal (Table 7.10); entry to HOLD freezes it, with the
offset of that moment (R167). -/
def Dev.cxGo (d : Dev) (c st : Nat) : Dev :=
  let d0 := if st = 2 then d.selsReset c else d
  let x := d0.ctx c
  let y := if st = 2 then { x with seen := [], info := false, svcs := [], left := [], syncMiss := 0, facMiss := 0, fibBad := none, again := [] }
    else if st = 5 then { x with again := [], offset := if d0.cxKind c < 2 then d0.qNow c (O.cxQOffset c) else x.offset, ana := { x.ana with holdPcm := 0 } }
    else x
  let d1 := ((d0.setN (O.cxState c) st).setN (O.cxTState c) d0.now).setCtx c { y with since := d0.mono, acqAt := d0.mono }
  -- the audio of a context that is held fades to silence over 5 ms (R120)
  if st = 5 then (List.range 5).foldl (fun (x : Dev) i => (x.pcmFade c i).keepSel c i { (x.pcmFade c i).sel c i with hush := x.mono }) d1 else d1

/-! ### Hypotheses (R122) -/

/-- HYP_STATE of a context as its slots stand. -/
def Dev.hypObjs (d : Dev) (c : Nat) : Dev :=
  (List.range 4).foldl (fun x h =>
    x.setN (O.cxHypState c h) (match (d.ctx c).hyps.find? (fun y => decide (y.slot = h)) with
      | some y => if y.verifying then 2 else 1
      | none => 0)) d

/-- Every hypothesis slot EMPTY. -/
def Dev.hypClear (d : Dev) (c : Nat) : Dev := (d.setCtx c { d.ctx c with hyps := [], dets := [] }).hypObjs c

/-- Offset tolerance of a signal kind, Hz (Tables 6.2 and 7.2; log 13). -/
def offsetTol (kind : Nat) : Int :=
  match kind with
  | 0 => 10000 | 1 => 200 | 2 => 30000 | 3 => 350 | _ => 400

/-- Null symbol, symbol and frame of a DAB mode (0 is mode I) in samples at 2.048 MSa/s, and CIFs per frame (Table 7.3). -/
def dabTimes (mode : Nat) : Nat × Nat × Nat × Nat :=
  match mode with
  | 0 => (2656, 2552, 196608, 4)
  | 1 => (664, 638, 49152, 1)
  | 2 => (345, 319, 49152, 1)
  | _ => (1328, 1276, 98304, 2)

/-- Symbol period of a DRM mode in tap samples, 26.667, 26.667, 20, 16.667 and 2.5 ms: from ES 201 980, since the spec does not print it (log 108). -/
def drmSymbol (mode : Nat) : Nat :=
  match mode with
  | 0 => 1280 | 1 => 1280 | 2 => 960 | 3 => 800 | _ => 480

/-- Frame period, or for NRSC-5 block period, of a signal in tap samples, as a fraction (Tables 7.1 and 7.3): 400 ms at 48 kSa/s and 100 ms at 192 kSa/s are
both 19,200 samples, and an L1 frame is 65,536 / 44,100 s. -/
def framePeriod (kind ty mode : Nat) : Nat × Nat :=
  match kind with
  | 2 => ((dabTimes mode).2.2.1, 1)
  | 3 => (19200, 1)
  | _ => if ty = 8 then (65536 * 48000, 44100 * 8) else (65536 * 1488375, 44100 * 2 * 16)

/-- Whether two timings stand within ±8 samples of each other, whole periods apart (R122, R198): each frame of a signal repeats its pattern. -/
def timingNear (p : Nat × Nat) (a b : Int) : Bool :=
  let m := ((a - b) * (p.2 : Int)) % (p.1 : Int)
  decide (m ≤ 8 * (p.2 : Int)) || decide ((p.1 : Int) - m ≤ 8 * (p.2 : Int))

/-- Two detections that are one signal (R122). -/
def sameSignal (kind ty : Nat) (a b : HypDet) : Bool :=
  decide (a.mode = b.mode) && decide ((a.offset - b.offset).natAbs ≤ (offsetTol kind).natAbs) &&
  (decide (kind < 2) || timingNear (framePeriod kind ty a.mode) a.timing b.timing)

/-- Whether a detection is one by the criterion of the type: strength, offset within its range, a null of the mode's length, and a mode that the type
searches under the objects in effect (Tables 6.2 and 7.2, R118, R199, R200). -/
def Dev.detectionOk (d : Dev) (c : Nat) (x : HypDet) : Bool :=
  let m := fun (lim : Int) => decide (x.offset.natAbs ≤ lim.natAbs)
  match d.cxKind c with
  | 0 => m 60000 && decide (600 ≤ x.peak)
  | 1 => m 200 && decide (300 ≤ x.peak)
  | 2 => m 30000 && decide (x.mode < 4) && (d.cxEff c (O.cxDabModes c)).toNat.testBit x.mode && decide (1200 ≤ x.peak) && decide (1000 ≤ x.depth) &&
    decide (9 * (dabTimes x.mode).1 ≤ 10 * x.len) && decide (10 * x.len ≤ 11 * (dabTimes x.mode).1)
  | 3 => m 350 && decide (600 ≤ x.peak) &&
    (if d.nat (O.cxType c) = 4 then decide (x.mode = 4) else decide (x.mode < 4) && (d.cxEff c (O.cxDrmModes c)).toNat.testBit x.mode)
  | 4 => m 400 && decide (600 ≤ x.peak)
  | _ => false

/-- The lowest EMPTY slot. -/
def hypFree (l : List Hyp) : Option Nat := (List.range 4).find? (fun h => !l.any (fun y => decide (y.slot = h)))

/-- The oldest SAVED slot. -/
def hypOldest (l : List Hyp) : Option Hyp :=
  (l.filter (fun y => !y.verifying)).foldl (fun a y => match a with
    | none => some y
    | some z => if y.saved < z.saved then some y else some z) none

/-- The most recently SAVED slot. -/
def hypNewest (l : List Hyp) : Option Hyp :=
  (l.filter (fun y => !y.verifying)).foldl (fun a y => match a with
    | none => some y
    | some z => if z.saved < y.saved then some y else some z) none

/-- One detection taken up (Table 4.5): entered as VERIFYING, pre-empting a slot that is, which keeps its progress. A detection of a signal that a slot holds
is not entered again. Slots, their order and how many were pre-empted. -/
def hypEnter (kind ty : Nat) (a : List Hyp × Nat × Int) (x : HypDet) : List Hyp × Nat × Int :=
  if a.1.any (fun y => sameSignal kind ty y.det x) then a
  else
    let pre := a.1.any (·.verifying)
    let l := a.1.map (fun y => if y.verifying then { y with verifying := false, saved := a.2.1 + 1 } else y)
    let l2 := match hypFree l with
      | some h => l ++ [{ slot := h, det := x, verifying := true, saved := 0 }]
      | none => (match hypOldest l with
          | some o => l.map (fun y => if y.slot = o.slot then { slot := o.slot, det := x, verifying := true, saved := 0 } else y)
          | none => l)
    (l2, a.2.1 + 1, if pre then a.2.2 + 1 else a.2.2)

/-- Detections of one sample in the order in which they are taken: the lower antenna-list entry first (Table 4.5), on one tap the higher correlation peak, and
on equal peaks the lower mode (R200). -/
def detInsert (x : HypDet) : List HypDet → List HypDet
  | [] => [x]
  | y :: t =>
    if x.entry < y.entry ∨ (x.entry = y.entry ∧ (y.peak < x.peak ∨ (x.peak = y.peak ∧ x.mode < y.mode))) then x :: y :: t else y :: detInsert x t

/-- HYP_DETECTION (R122, Table 4.5). Detections of one sample are taken in their order whichever is reported first: those of the latest sample are taken up
anew from the slots as they stood before it. -/
def Dev.hypDetect (d : Dev) (c : Nat) (x : HypDet) : Dev :=
  let s := d.ctx c
  if d.cxSt c ≠ 2 ∨ !d.detectionOk c x ∨ d.nat (O.cxAntCount c) ≤ x.entry then d
  else
    let same := s.dets.any (fun y => decide (y.sample = x.sample))
    let base := if same then s.detBase else (s.hyps, s.hypOrder, d.num (O.cxHypPreempted c))
    let l := detInsert x (if same then s.dets else [])
    let r := l.foldl (hypEnter (d.cxKind c) (d.nat (O.cxType c))) base
    let d1 := (d.setCtx c { s with hyps := r.1, hypOrder := r.2.1, dets := l, detBase := base }).hypObjs c
    if r.2.2 = d.num (O.cxHypPreempted c) then d1 else d1.setN (O.cxHypPreempted c) (if r.2.2 < 2 ^ 32 then r.2.2 else Config.counterPast (O.cxHypPreempted c) r.2.2.toNat)

/-- The tap sample index at which part (b) of a hypothesis is next due, as a fraction of the period's denominator (R198, R200). -/
def hypDue (p : Nat × Nat) (y : Hyp) : Nat := y.det.sample * p.2 + p.1 * (1 + y.later)

/-- Part (a) of the verification, or the whole of it for FM, has failed (Tables 6.2 and 7.2): its count can no longer be met. -/
def hypMissed (kind : Nat) (y : Hyp) : Bool :=
  let no := (y.recent.filter (fun b => !b)).length
  match kind with
  | 0 => decide (y.passed + 2 < y.checked)
  | 1 => decide (y.passed < y.checked) || decide (100 < y.checked)
  | 2 => decide (y.passed + 4 < y.checked)
  | _ => decide (4 < no)

/-- Verification of a hypothesis has failed by now: by part (a), or because the instant of part (b) has gone by without it (Table 7.2). -/
def Dev.hypFailed (d : Dev) (c : Nat) (y : Hyp) : Bool :=
  let k := d.cxKind c
  let p := framePeriod k (d.nat (O.cxType c)) y.det.mode
  let n := d.tapIndexNow (d.cxRate c)
  hypMissed k y || (decide (k = 2) && decide (hypDue p y + 8 < n)) || (decide (k = 3) && decide (y.det.sample + 19200 * (1 + y.later) + drmSymbol y.det.mode < n))

/-- A saved slot resumes: part (b) is tested at the first of its instants that has not gone by (R200). -/
def Dev.hypResume (d : Dev) (c : Nat) (y : Hyp) : Hyp :=
  let p := framePeriod (d.cxKind c) (d.nat (O.cxType c)) y.det.mode
  let n := d.tapIndexNow (d.cxRate c) * p.2
  { y with verifying := true, later := if hypDue p y < n then ceilDiv (n - y.det.sample * p.2) p.1 - 1 else y.later }

/-- HYP_VERIFY_FAIL (Table 4.5): of a hypothesis whose verification has failed. -/
def Dev.hypFail (d : Dev) (c : Nat) : Dev :=
  let s := d.ctx c
  match (if d.cxSt c = 2 then s.hyps.find? (·.verifying) else none) with
  | none => d
  | some y =>
    if !d.hypFailed c y then d
    else
      let l := s.hyps.filter (fun y => !y.verifying)
      let l2 := match hypNewest l with
        | some n => l.map (fun y => if y.slot = n.slot then d.hypResume c y else y)
        | none => l
      (((d.setCtx c { s with hyps := l2, dets := [] }).hypObjs c).inc (O.cxHypRejected c)).cxEvent 11 c

/-- Symbols or milliseconds checked of the hypothesis that is being verified: only those that arrive while it is (R200). -/
def Dev.hypCheck (d : Dev) (c : Nat) (l : List Bool) : Dev :=
  let s := d.ctx c
  let lim := match d.cxKind c with | 0 => 10 | 1 => 101 | 2 => 20 | _ => 2 ^ 32
  let one := fun (y : Hyp) (b : Bool) =>
    if lim ≤ y.checked then y else { y with checked := y.checked + 1, passed := if b then y.passed + 1 else y.passed, recent := (b :: y.recent).take 16 }
  d.setCtx c { s with hyps := s.hyps.map (fun y => if y.verifying then l.foldl one y else y) }

/-! ### Combining (R123 to R125) -/

/-- Entries of the antenna list whose tap runs with samples that are not muted. -/
def Dev.liveEntries (d : Dev) (c : Nat) : Nat :=
  d.cxTaps c |>.foldl (fun m p =>
    if d.nat (O.lnTapState p.2) = 2 ∧ !d.doorMuted (d.nat (O.lnTapChain p.2)) (d.nat (O.lnTapDoor p.2)) then withBit m p.1 true else m) 0

/-- The included set as SNR, mutes and idle taps now make it (R125): a tap leaves when its SNR is more than EXCLUDE_DB below
the best live tap's, and returns within EXCLUDE_DB − 3 dB of it. -/
def Dev.includedNow (d : Dev) (c : Nat) (old : Nat) : Nat :=
  let live := d.liveEntries c
  let snr := fun i => d.num (O.cxAntSnr c i)
  let best := (List.range 6).foldl (fun (b : Option Int) i => if live.testBit i then some (match b with | none => snr i | some z => max z (snr i)) else b) none
  let ex := d.cxEff c (O.cxExcludeDb c)
  (List.range 6).foldl (fun m i =>
    let inn := live.testBit i && !(d.ctx c).farDelay.testBit i &&
      (match best with
       | none => false
       | some b => if old.testBit i then decide (b - snr i ≤ ex) else decide (b - snr i ≤ ex - 300))
    if inn then withBit m i true else m) 0

/-- The included entry with the highest SNR, ties to the lower entry. -/
def Dev.bestIncluded (d : Dev) (c m : Nat) : Option Nat :=
  (List.range 6).foldl (fun (b : Option Nat) i =>
    if m.testBit i then (match b with
      | none => some i
      | some z => if d.num (O.cxAntSnr c z) < d.num (O.cxAntSnr c i) then some i else b) else b) none

/-- Combining passes to another tap or mode by a crossfade of `n` samples (R125): what combined before. -/
def Dev.mixFade (d : Dev) (c mode chosen n : Nat) : Dev :=
  let s := d.ctx c
  d.setCtx c { s with ana := { s.ana with was := some (mode, chosen, n, 0) } }

/-- SELECT moves to an entry, by a crossfade of 32 samples. -/
def Dev.selectMove (d : Dev) (c i : Nat) : Dev :=
  let s := d.ctx c
  if s.chosen = i then d else (d.setCtx c { s with chosen := i, ahead := [] }).mixFade c 1 s.chosen 32

/-- Since when each included entry's SNR has exceeded the chosen one's by SWITCH_HYST, judged anew. -/
def Dev.selectWatch (d : Dev) (c : Nat) : Dev :=
  let s := d.ctx c
  let ahead := (List.range 6).filter (fun i => (d.nat (O.cxIncluded c)).testBit i && decide (i ≠ s.chosen) &&
    decide (d.num (O.cxAntSnr c s.chosen) + d.cxEff c (O.cxSwitchHyst c) ≤ d.num (O.cxAntSnr c i)))
  d.setCtx c { s with ahead := ahead.map (fun i => (i, if Tab.has s.ahead i then Tab.get 0 s.ahead i else d.mono)) }

/-- Inclusion judged again (R125): a changed set shows in INCLUDED and raises event 74, and SELECT leaves an excluded tap. -/
def Dev.cxInclude (d : Dev) (c : Nat) : Dev :=
  let old := d.nat (O.cxIncluded c)
  let m := d.includedNow c old
  let d1 := if m = old then d else ((d.setN (O.cxIncluded c) m).ctxMark c).cxEvent 10 c
  let d2 := if m.testBit (d1.ctx c).chosen then d1
    else match d1.bestIncluded c m with
      | some i => d1.selectMove c i
      | none => d1
  d2.selectWatch c

/-- ANT_WEIGHT (Table 4.9): 0.00 for the tap that passes through or that SELECT has chosen, the loop's weight in the other modes, and −327.68 for an entry
that is excluded, unselected or beyond ANT_COUNT. -/
def Dev.cxWeights (d : Dev) (c : Nat) (loop : List Int) : Dev :=
  let mode := d.cxMode c
  (List.range 6).foldl (fun (x : Dev) i =>
    let on := decide (i < d.nat (O.cxAntCount c)) && (d.nat (O.cxIncluded c)).testBit i
    x.setN (O.cxAntWeight c i)
      (if mode = 0 then (if i = 0 ∧ on then 0 else -32768)
       else if mode = 1 then (if i = (d.ctx c).chosen ∧ on then 0 else -32768)
       else if on then loop.getD i 0 else -32768)) d

/-- BEST: the list entry with the highest SNR, ties to the lower entry. -/
def Dev.cxBestNow (d : Dev) (c : Nat) : Nat := (d.bestIncluded c (2 ^ d.nat (O.cxAntCount c) - 1)).getD 0

/-- The combiner measures each tap's delay (R124): a tap beyond ±2.0 µs is excluded. -/
def Dev.cxDelays (d : Dev) (c : Nat) (delays : List Int) : Dev :=
  let n := d.nat (O.cxAntCount c)
  let d1 := (List.range n).foldl (fun x i => x.setN (O.cxAntDelay c i) (delays.getD i 0)) d
  let far := (List.range n).foldl (fun m i => if 20000 < (delays.getD i 0).natAbs then withBit m i true else m) 0
  d1.setCtx c { d1.ctx c with farDelay := far }

/-- Combining starts on entry to LOCKED or SHADOW from ACQUIRING (R124). Before its first inclusion is judged every live tap is included, without an event:
event 74 tells of changes from that set on (log 109). -/
def Dev.cxCombine (d : Dev) (c : Nat) (delays : List Int) : Dev :=
  let d1 := d.cxDelays c delays
  let d2 := (d1.setCtx c { d1.ctx c with chosen := d1.cxBestNow c, ahead := [] }).setN (O.cxIncluded c) (d1.liveEntries c)
  d2.cxInclude c

/-! ### State changes (Table 4.4) -/

/-- Entry to LOCKED or SHADOW, by REQUEST in effect. -/
def Dev.cxLock (d : Dev) (c : Nat) : Dev := d.cxGo c (if d.cxEff c (O.cxRequest c) = 2 then 4 else 3)

/-- D_MODE and the other signal parameters shown (Table 7.20). -/
def Dev.sigShow (d : Dev) (c : Nat) (i : SigInfo) : Dev :=
  let d1 := (d.setN (O.cxDMode c) i.mode).setN (O.cxDParam c) i.param
  match d1.cxKind c with
  | 3 => ((d1.setN (O.cxDrmInterleave c) i.interleave).setN (O.cxDrmMscMap c) i.mscMap).setN (O.cxDrmServices c) i.services
  | 4 => d1.setN (O.cxNrSmode c) i.smode
  | _ => d1

/-- What a digital context shows of the signal it locks to: D_MODE from the detection (DAB), what the FAC of the confirming frame gives with the mode detected
(DRM, R201, R206), and D_SYNC_FAIL counted anew (Table 7.20). -/
def Dev.lockShow (d : Dev) (c mode : Nat) (fac : SigInfo) : Dev :=
  match d.cxKind c with
  | 2 => (d.setN (O.cxDMode c) (mode + 1 : Nat)).setN (O.cxDSyncFail c) 0
  | 3 => (d.sigShow c { fac with mode := mode }).setN (O.cxDSyncFail c) 0
  | 4 => d.setN (O.cxDSyncFail c) 0
  | _ => d

/-- Verification of a hypothesis succeeds (Tables 6.2 and 7.2): `f` tells what was found at the instant of part (b). Part (a) must not have failed. -/
def Dev.hypPassed (d : Dev) (c : Nat) (y : Hyp) (f : Confirm) : Bool :=
  let k := d.cxKind c
  let p := framePeriod k (d.nat (O.cxType c)) y.det.mode
  !hypMissed k y && decide (f.entry = y.det.entry) &&
  (match k with
   | 0 => decide (8 ≤ y.passed)
   | 1 => d.flag (O.cxSyncLock c) && decide (1 ≤ y.checked) && decide (y.checked ≤ 100)
   | 2 => f.ok && decide (hypDue p y ≤ f.at_ + 8) && decide (f.at_ ≤ hypDue p y + 8)
   | 3 => f.ok && decide (y.det.sample ≤ f.at_) && decide (f.at_ ≤ y.det.sample + 19200 * (1 + y.later) + drmSymbol y.det.mode)
   | _ => f.ok && decide (y.det.sample ≤ f.at_))

/-- HYP_CONFIRMED (Tables 4.4 and 4.5): the context locks. -/
def Dev.hypConfirm (d : Dev) (c : Nat) (f : Confirm) : Dev :=
  match (if d.cxSt c = 2 then (d.ctx c).hyps.find? (·.verifying) else none) with
  | some y =>
    if !d.hypPassed c y f then d
    else
      let d1 := ((((d.lockShow c y.det.mode f.fac).hypClear c).cxLock c).setN (O.cxTLock c) d.now |>.cxCombine c f.delays).ctxClear c
      let at_ := if d1.cxKind c < 2 then d1.tapIndexNow (d1.cxRate c) else f.at_
      (d1.setCtx c { d1.ctx c with offset := y.det.offset, timing := f.at_, lockAt := at_, infoAt := 0 }).cxEvent 0 c
  | none => d

/-- LOCKED or SHADOW goes to HOLD. -/
def Dev.cxHold (d : Dev) (c : Nat) : Dev :=
  if d.cxSt c = 3 ∨ d.cxSt c = 4 then ((d.cxGo c 5).inc (O.cxHoldCount c)).cxEvent 1 c else d

/-- The signal is lost by the criterion of its type (Tables 6.2 and 7.2), or no tap delivers samples that count (Table 4.4). -/
def Dev.cxLost (d : Dev) (c : Nat) : Bool :=
  let s := d.ctx c
  decide (d.liveEntries c = 0) ||
  (!typeDirect (d.nat (O.cxType c)) (d.nat (O.cxSubject c)) &&
   (match d.cxKind c with
    | 0 => decide (300 ≤ s.ana.loss)
    | 1 => decide (1000 ≤ s.ana.loss)
    | 2 => decide (5 ≤ s.syncMiss) || s.fibBad.any (fun t => decide (t + 2000000000 ≤ d.mono))
    | 3 => decide (5 ≤ s.facMiss)
    | _ => decide (4 ≤ s.syncMiss)))

/-- SIGNAL_LOSS (Table 4.4). -/
def Dev.cxLoss (d : Dev) (c : Nat) : Dev := if d.cxLost c then d.cxHold c else d

/-- A held signal is verified again (R167, R198): the tap of the entry delivers samples; FM: C/N of 4 dB or more with the offset within ±10 kHz of the one
held in 8 of the last 10 ms; AM: the carrier PLL locked, C/N of 0 dB or more throughout; digital: the pattern of part (b) found at a frame or block start that
the timing held predicts, within ±8 samples. A type that needs no acquisition only needs the cause cleared (Table 4.4). -/
def Dev.heldFound (d : Dev) (c : Nat) (f : Confirm) : Bool :=
  let s := d.ctx c
  let l := Tab.get [] s.again f.entry
  let k := d.cxKind c
  (d.liveEntries c).testBit f.entry &&
  (typeDirect (d.nat (O.cxType c)) (d.nat (O.cxSubject c)) ||
   (match k with
    | 0 => decide (8 ≤ (l.filter (fun b => b)).length)
    | 1 => d.flag (O.cxSyncLock c) && !l.isEmpty && l.all (fun b => b)
    | 2 => f.ok && timingNear (framePeriod k (d.nat (O.cxType c)) (d.nat (O.cxDMode c) - 1)) f.at_ s.timing
    | _ => f.ok && timingNear (framePeriod k (d.nat (O.cxType c)) (d.nat (O.cxDMode c))) f.at_ s.timing))

/-- HOLD_REVERIFIED: held state resumes; the combiner measures the delays again, and an excluded tap returns by R125. -/
def Dev.cxReverify (d : Dev) (c : Nat) (f : Confirm) : Dev :=
  if d.cxSt c = 5 ∧ d.heldFound c f then
    let d1 := ((((d.cxLock c).cxDelays c f.delays).cxInclude c).ctxMark c)
    (d1.setCtx c { d1.ctx c with syncMiss := 0, facMiss := 0, fibBad := none, ana := { (d1.ctx c).ana with loss := 0 } }).cxEvent 0 c
  else d

/-- What a RETUNE tag, or the end of a hold, clears (Table 6.3, Table 4.4): discriminator history, pilot PLL, RDS synchronisation, carrier PLL, indicator
windows. Audio that has been produced stays. -/
def Dev.cxRetuned (d : Dev) (c : Nat) : Dev :=
  let s := d.ctx c
  let a := s.ana
  let keep := a.mems.filter (fun p => match p.1 with | .discriminate | .mpxHigh | .pilot | .stereo | .carrierPll | .sideband _ => false | _ => true)
  (((d.setCtx c { s with rds := [], inds := [], window := { start := d.now },
                         ana := { a with mems := keep, hf := [], mpx := [], mpxLast := 0, mpxOver := false, mpxSince := 1000, pilotHi := 0, pilotLo := 0, peaks := [], freqs := [],
                                         phLow := 0, phHigh := 0, near := 0, carrier := [], loss := 0 } }).setN (O.cxRdsSync c) 0).setN (O.cxSyncLock c) 0).setB
    (O.cxStereo c) false

/-- HOLD_TIMEOUT: held state is discarded. -/
def Dev.cxHoldTimeout (d : Dev) (c : Nat) : Dev :=
  let ms := (d.cxEff c (O.cxHoldTimeoutMs c)).toNat
  if d.cxSt c = 5 ∧ ms ≠ 0 then
    ((((d.after (d.ctx c).since ms).cxRetuned c).cxGo c 2).hypClear c).cxEvent 2 c
  else d

/-- ACQ_TIMEOUT. -/
def Dev.cxAcqTimeout (d : Dev) (c : Nat) : Dev :=
  let ms := (d.cxEff c (O.cxAcqTimeoutMs c)).toNat
  if d.cxSt c = 2 ∧ ms ≠ 0 then
    let d1 := d.after (d.ctx c).acqAt ms
    ((d1.setCtx c { d1.ctx c with acqAt := d1.mono }).inc (O.cxAcqTimeouts c)).cxEvent 3 c
  else d

/-- RELEASING: no further runs. -/
def Dev.cxRelease (d : Dev) (c : Nat) : Dev :=
  if d.cxSt c = 0 ∨ d.cxSt c = 6 then d
  else (d.setCtx c { d.ctx c with held := [], pending := false, running := false }).cxGo c 6

/-- Every object of a context at its default (R131). -/
def Dev.cxDefaults (d : Dev) (c : Nat) : Dev :=
  { d with objs := d.objs.filter (fun p => decide (p.1 < cxBase c) || decide (cxBase (c + 1) ≤ p.1)) }

/-- RELEASING to FREE at a period boundary: taps, cost, slot and decoders freed, undelivered frames counted (R120), event 70. -/
def Dev.cxFree (d : Dev) (c : Nat) : Dev :=
  let d1 := (d.cxTaps c).foldl (fun x p => x.tapFree p.2) d
  let r := d1.ring (16 + c)
  let d2 := (d1.setRing (16 + c) { r with recs := [] }).count 32 O.cxReleaseLost r.recs.length
  let d3 := (List.range 5).foldl (fun x i => x.decDrop c i) d2
  let d4 := { d3.cxDefaults c with cx := { d3.cx with ctxs := Tab.set {} d3.cx.ctxs c {} } }
  ((d4.cxCounts).ctxEnd c).cxEvent 6 c

/-- Contexts using taps on a chain go to HOLD (R28, R69), and the chain's taps follow it. -/
def Dev.chainContexts (d : Dev) (n : Nat) : Dev :=
  let d1 := d.tapsFollowChain n
  if d1.chainUp n then d1
  else d1.activeCtxs.foldl (fun x c => if (x.cxTaps c).any (fun p => decide (x.nat (O.lnTapChain p.2) = n)) then x.cxHold c else x) d1

/-- Contexts on door C of a chain go to HOLD (R42, R43). -/
def Dev.doorCContexts (d : Dev) (n : Nat) : Dev :=
  d.activeCtxs.foldl (fun x c =>
    if (x.cxTaps c).any (fun p => decide (x.nat (O.lnTapChain p.2) = n) && decide (x.nat (O.lnTapDoor p.2) = 2)) then x.cxHold c else x) d

/-! ### Admission (R113, R114) -/

/-- Slots of the running full plan. -/
def Dev.fullSlots (d : Dev) : List Slot :=
  match d.wt.img with
  | some w => w.slots
  | none => []

/-- Half-WU of the contexts that a slot of the running plan carries. -/
def Dev.slotUsed (d : Dev) (s : Nat) : Nat :=
  ((d.activeCtxs.filter (fun c => decide (d.nat (O.cxSlotNow c) = s))).map (fun c => d.nat (O.cxCost c))).sum

/-- An open slot with room for a context of a type and cost. -/
def Dev.slotRoom (d : Dev) (s ty cost : Nat) : Bool :=
  match d.fullSlots[s]? with
  | some e => decide (e.kind = 2) && e.job.testBit ty && decide (d.slotUsed s + cost ≤ e.budget)
  | none => false

/-- Placement of a dictionary-owned context (R114). -/
def Dev.place (d : Dev) (want ty cost : Nat) : Option Nat :=
  if want = 0xFFFF then (List.range d.fullSlots.length).find? (fun s => d.slotRoom s ty cost)
  else if d.slotRoom want ty cost then some want else none

/-- Check 1 of Table 4.2 on a configuration, up to its taps: type, tap count, chains. -/
def Dev.formOk (d : Dev) (ty rate : Nat) (chains : List Nat) : Bool :=
  typeDefined ty && decide (1 ≤ chains.length) && decide (chains.length ≤ (if typeSingle ty then 1 else if d.part = 2 then 4 else 6)) &&
  decide chains.Nodup && chains.all (fun n => decide (n < d.chains)) && decide (rate ≤ 6)

/-- Check 1 of Table 4.2 on a configuration. -/
def Dev.cfgOk (d : Dev) (ty door rf rate : Nat) (chains : List Nat) : Bool :=
  d.formOk ty rate chains && chains.all (fun n => d.tapOk n door rf rate)

/-- Check 1 of Table 4.2 on a context as its objects stand. -/
def Dev.cxValid (d : Dev) (c : Nat) : Bool :=
  d.cfgOk (d.nat (O.cxType c)) (d.nat (O.cxDoor c)) (d.nat (O.cxRf c)) (d.cxRate c) (d.cxChains c)

/-- Type limits of Table 4.1, with `l` the types of every context that is not FREE. -/
def limitsOk (l : List Nat) : Bool :=
  let n := fun (ts : List Nat) => (l.filter (fun t => ts.any (fun x => decide (x = t)))).length
  decide (n [1] ≤ 63) && decide (n [3, 4] ≤ 16) && decide (n [5] ≤ 8) && decide (n [7, 8] ≤ 8) && decide (n [11] ≤ 1)

/-- A context leaves FREE: cost, taps and slot reserved, ARMED (Table 4.4). Owner 1 dictionary, 2 image plan, 3 following
engine. -/
def Dev.cxArm (d : Dev) (c owner slot : Nat) (role : Role) : Dev :=
  let ty := d.nat (O.cxType c)
  let d1 := ((((d.setN (O.cxOwner c) owner).setN (O.cxCost c) (typeCost ty (d.nat (O.cxAntCount c)) : Nat)).setN (O.cxSlotNow c) slot).setCtx c
    { owner := role }).cxGo c 1
  d1.cxCounts

/-- The five checks of Table 4.2 for contexts that a transaction takes out of FREE, in order and all together; placement in
ascending context number. Answers the code, the check number and the contexts of the first failure, or the device with the contexts
placed. -/
def Dev.admitCtx (d : Dev) (new : List Nat) (role : Role) : Except (RC × Nat × List Nat) Dev :=
  if new.isEmpty then .ok d
  else if !new.all (fun c => d.cxValid c) then .error (.invalidValue, 1, new.filter (fun c => !d.cxValid c))
  else
    let old := d.activeCtxs
    let cost := fun c => typeCost (d.nat (O.cxType c)) (d.nat (O.cxAntCount c))
    if 384 < (old.map (fun c => d.nat (O.cxCost c))).sum + (new.map cost).sum then .error (.resource, 2, new)
    else if !limitsOk ((old ++ new).map (fun c => d.nat (O.cxType c))) then .error (.resource, 3, new)
    else if 128 < ((old ++ new).map (fun c => d.nat (O.cxAntCount c))).sum then .error (.resource, 4, new)
    else
      new.foldl (fun r c => match r with
        | .error e => .error e
        | .ok x => match x.place (d.nat (O.cxSlot c)) (d.nat (O.cxType c)) (cost c) with
          | some s => .ok (x.cxArm c 1 s role)
          | none => .error (.resource, 5, [c])) (.ok d)

/-! ### Output frames (R128, R129) -/

/-- The smallest power of two from 4,096 up that holds `n` bytes, at most 1 MiB. -/
def ringPow (n : Nat) : Nat := ((List.range 9).map (fun i => 4096 * 2 ^ i)).find? (fun s => decide (n ≤ s)) |>.getD 1048576

/-- Ring SIZE of a context's output buffer (R518). -/
def Dev.cxRingSize (d : Dev) (c : Nat) : Nat :=
  let ty := d.nat (O.cxType c)
  let big := if ty = 10 then 65500 else Config.frameLargest ty
  ringPow ((d.cxEff c (O.cxOutDepth c)).toNat * ringBytes (32 + big))

/-- A context's frames are carried on streams: LOCKED, or HOLD with REQUEST RUN (R126, R127). -/
def Dev.cxOnShadowSide (d : Dev) (c : Nat) : Bool :=
  decide (d.cxSt c = 4) || (decide (d.cxSt c = 5) && decide (d.cxEff c (O.cxRequest c) = 2))

/-- One output frame (Table 4.7), delivered to the output buffer or discarded whole. The spec gives no first SEQ: a context's first frame has SEQ 1, since
OUT_SEQ is 0 before any (log 109). -/
def Dev.cxFrame (d : Dev) (c : Nat) (skipped ovl lane : Bool) (firstIndex : Nat) (payload : List Byte) : Dev :=
  let s := d.ctx c
  let seq := (s.frameSeq + 1) % 2 ^ 32
  let sh := d.cxOnShadowSide c
  let depth := (d.cxEff c (O.cxOutDepth c)).toNat
  let r := d.ring (16 + c)
  let used := (r.recs.map (fun x => ringBytes x.bytes.length)).sum
  let st := d.cxSt c
  if depth ≤ r.recs.length ∨ d.cxRingSize c < used + ringBytes (32 + payload.length) then
    let d1 := (d.setCtx c { s with frameSeq := seq, lost := s.lost + 1, framesLost := true, lossRun := true, promoted := false }).inc (O.cxOutLost c)
    if s.lossRun then d1 else d1.cxEvent 4 c
  else
    let fl := (if skipped then 1 else 0) + (if st = 5 then 2 else 0) + (if s.promoted then 4 else 0) + (if sh then 8 else 0) +
      (if ovl then 16 else 0) + (if lane then 32 else 0) + (if s.framesLost then 64 else 0)
    let b := leBytes 1 0x10 ++ leBytes 1 1 ++ leBytes 2 payload.length ++ leBytes 1 c ++ leBytes 1 (d.nat (O.cxType c)) ++ leBytes 1 st ++
      leBytes 1 fl ++ leBytes 4 seq ++ leBytes 4 s.lost ++ leBytes 8 s.tRun ++ leBytes 8 firstIndex ++ payload
    ((d.setCtx c { s with frameSeq := seq, framesLost := false, lossRun := false, promoted := false })).ringPut (16 + c) seq sh b

/-- A state in which a run produces a frame. -/
def Dev.cxProduces (d : Dev) (c : Nat) : Bool := decide (d.cxSt c = 3) || decide (d.cxSt c = 4) || decide (d.cxSt c = 5)

/-! ### Runs (R118, R121) -/

/-- The service that a selector names, in a set of service information (Table 7.9): by DAB SId in [15:0] or DRM service identifier in [23:0], or by component
number. -/
def Dev.svcFor (d : Dev) (c i : Nat) (l : List SvcEnt) : Option SvcEnt :=
  if i = 4 then l.find? (fun e => decide (e.comp = (d.sel c 4).target))
  else
    let id := (d.cxEff c (O.cxSelId c i)).toNat
    let v := if d.cxKind c = 2 then id % 2 ^ 16 else id % 2 ^ 24
    if id / 2 ^ 24 = 0 then l.find? (fun e => decide (e.sid = v)) else l.find? (fun e => decide (e.comp = id % 2 ^ 24))

/-- One selector against a set of service information, a new one or the current one (Table 7.10). A selector that is to decode waits for a run start. Only
contexts that deliver audio have selectors that resolve (R218, R220). -/
def Dev.selResolve (d : Dev) (c i : Nat) (new : Bool) (l : List SvcEnt) : Dev :=
  let s := d.sel c i
  if (s.state ≠ 1 ∧ s.state ≠ 5) ∨ s.found ∨ !d.cxDecodes c then d
  else
    match d.svcFor c i l with
    | none => let n := if new then s.absent + 1 else s.absent; d.setSel c i { s with absent := n, state := if 2 ≤ n then 5 else s.state }
    | some e =>
      let t := { s with codec := e.codec, comp := e.comp, fs := e.fs, absent := 0, start := d.tapIndexNow (d.cxRate c) }
      if d.selMode c i = 1 then d.setSel c i { t with state := 3 }
      else if e.codec = 0 then d.setSel c i t
      else if 4 ≤ e.codec then d.setSel c i { t with state := 6 }
      else d.setSel c i { t with found := true }

/-- Committed writes take effect: the context is released by REQUEST RELEASE, promoted or demoted by it, and retuned by a
changed RF (Table 4.4). -/
def Dev.cxApply (d : Dev) (c : Nat) : Dev :=
  let s := d.ctx c
  let rfOld := d.cxEff c (O.cxRf c)
  let wrote := fun (o : Nat) => s.held.any (fun p => decide (p.1 = o))
  let mode := d.cxMode c
  let d00 := d.setCtx c { s with held := [], pending := false, paired := none }
  let cmb := decide (d00.cxMode c ≠ mode)
  let d0 := if cmb then d00.mixFade c mode s.chosen 64 else d00
  let da := (List.range 4).foldl (fun x i =>
    if wrote (O.cxSelId c i) || wrote (O.cxSelMode c i) || (decide ((x.sel c i).state = 0) && decide (x.selMode c i ≠ 0)) then let y := x.selReset c i; if s.info then y.selResolve c i false s.svcs else y
    else x) d0
  let d1 := if cmb then da.ctxMark c else da
  if d1.nat (O.cxRequest c) = 0 then d1.cxRelease c
  else
    let st := d1.cxSt c
    let rq := d1.nat (O.cxRequest c)
    let d2 := if st = 3 ∧ rq = 2 then (d1.cxGo c 4).cxEvent 9 c
      else if st = 4 ∧ rq = 1 then
        let e := d1.cxGo c 3
        (e.setCtx c { e.ctx c with promoted := true }).cxEvent 8 c
      else d1
    let dr := (d2.cxTaps c).foldl (fun (x : Dev) p => x.tapRetune p.2 (d2.nat (O.cxRf c))) d2
    if rfOld ≠ d2.num (O.cxRf c) ∧ d2.cxSt c = 1 then dr
    else if rfOld ≠ d2.num (O.cxRf c) ∧ 2 ≤ d2.cxSt c ∧ d2.cxSt c ≤ 5 then
      let d3 := ((dr.cxRetuned c).cxGo c 2 |>.hypClear c).ctxClear c
      if typeDirect (d3.nat (O.cxType c)) (d3.nat (O.cxSubject c)) ∧ (d3.cxTaps c).all (fun p => decide (d3.nat (O.lnTapState p.2) = 2)) then
        ((d3.cxLock c).setN (O.cxTLock c) d3.now).cxEvent 0 c
      else d3
    else d2

/-- The Lens assigns the lowest free tap to each antenna, in list order (R82). -/
def Dev.cxAssign (d : Dev) (c : Nat) : Dev :=
  let l := d.cxChains c
  (List.range l.length).foldl (fun x i =>
    match x.freeTap with
    | some t => x.tapAssign t c i (l.getD i 0) (x.nat (O.cxDoor c)) (x.nat (O.cxRf c)) (x.cxRate c)
    | none => x) d

/-- Committed writes of a run or a skipped period take effect, but those of a promotion and a demotion written together not before the next period (R118,
R127). -/
def Dev.cxTake (d : Dev) (c : Nat) : Dev := if (d.ctx c).paired = some d.wt.grid then d else d.cxApply c

/-- A transaction that promotes some contexts and demotes others: all of them change in the period that follows, so that both take effect in the same one
(R127). `l` lists the contexts whose REQUEST it wrote. -/
def Dev.cxPair (d : Dev) (l : List Nat) : Dev :=
  let up := l.filter (fun c => decide (d.cxEff c (O.cxRequest c) = 2) && decide (d.num (O.cxRequest c) = 1))
  let down := l.filter (fun c => decide (d.cxEff c (O.cxRequest c) = 1) && decide (d.num (O.cxRequest c) = 2))
  if up.isEmpty ∨ down.isEmpty then d
  else (up ++ down).foldl (fun (x : Dev) c => if x.cxSt c = 0 then x else x.setCtx c { x.ctx c with paired := some x.wt.grid }) d

/-- Signal triggers at the start of a run, after the writes (Table 4.4, R118): a tap that is IDLE, or every tap muted. -/
def Dev.cxTriggers (d : Dev) (c : Nat) : Dev :=
  if (d.cxTaps c).any (fun p => decide (d.nat (O.lnTapState p.2) = 3)) || (!(d.cxTaps c).isEmpty && (d.cxTaps c).all (fun p => d.doorMuted (d.nat (O.lnTapChain p.2)) (d.nat (O.lnTapDoor p.2))))
  then d.cxHold c else d

/-- The start of a context's run (R118): writes first, then the signal triggers, the first run's tap assignment and the decoder grants. -/
def Dev.cxRunStart (d : Dev) (c : Nat) : Dev :=
  let d1 := (d.cxTake c).cxTriggers c
  let st := d1.cxSt c
  if st = 0 ∨ st = 6 then d1
  else
    let d2 := if st = 1 ∧ (d1.cxTaps c).isEmpty then
        let e := (d1.cxAssign c).hypClear c
        if typeDirect (e.nat (O.cxType c)) (e.nat (O.cxSubject c)) then e else e.cxGo c 2
      else d1
    let d3 := d2.decRun c
    let s := d3.ctx c
    let t := d3.nat (O.cxTap c 0)
    let upTo := d3.tapIndexNow (d3.cxRate c) + 1
    let first := if t = 255 then upTo else (d3.tapSt t).first
    (d3.setCtx c { s with running := true, tRun := d3.now, skipped := false, runFrom := min upTo (max s.nextIndex first), runTo := upTo }).inc (O.cxRunCount c)

/-- Status bits 3 to 15 of a context as they are now (Table 4.8). -/
def Dev.cxBits (d : Dev) (c : Nat) : Nat :=
  let s := d.ctx c
  let st := d.cxSt c
  (if st = 3 ∨ (st = 5 ∧ d.cxEff c (O.cxRequest c) = 1) then 8 else 0) + (if (d.ring (16 + c)).recs.isEmpty then 0 else 16) +
  (if s.hyps.any (·.verifying) then 32 else 0) + (if s.lastOvl then 64 else 0) + (if s.skipped then 128 else 0) +
  (if s.pending then 256 else 0) + 1024 * d.nat (O.cxIncluded c)

/-- The end of a run: status bits 3 to 15 change (R130). -/
def Dev.cxLatch (d : Dev) (c : Nat) : Dev := d.setCtx c { d.ctx c with latched := d.cxBits c }

/-- The indicator intervals since the last run are dropped with the samples of a skipped period: nothing was measured in them, and the filter inputs of them
are missing (R121, R286). -/
def Dev.runDrop (d : Dev) (c : Nat) : Dev :=
  let s := d.ctx c
  let w := s.window
  let n := w.rows.length - s.intervals
  let d1 := (s.shown.foldl (fun (x : Dev) p => x.setN p.1 p.2.2) d).setCtx c { s with
    shown := [], feeds := [], fqNew := [], intervals := 0, inds := []
    window := { w with rows := w.rows.take n ++ (w.rows.drop n).map (fun r => r.set 0 0) } }
  s.feeds.foldl (fun (x : Dev) p => x.mfFeed p.1 { p.2 with v := none, tags := 0 }) d1

/-- A skipped period (R121): committed writes take effect at the period's start; one SKIPPED frame; the input is discarded. -/
def Dev.cxSkip (d : Dev) (c : Nat) : Dev :=
  let d1 := d.cxTake c
  let st := d1.cxSt c
  if st = 0 ∨ st = 6 then d1
  else
    let s := d1.ctx c
    let i := s.nextIndex
    let d1 := d1.runDrop c
    let s := d1.ctx c
    let d2 := ((d1.setCtx c { s with skipped := true, tRun := d1.now, nextIndex := d1.tapIndexNow (d1.cxRate c) + 1 }).inc (O.cxSkipCount c)).cxEvent 5 c
    (d2.cxFrame c true false false i (Config.concealed c (d2.nat (O.cxType c)) (d2.ctx c).frameSeq)).cxLatch c

/-- Status bits of a context (Table 4.8): bits 0 to 2 follow the state at once, the others are those of the end of the last run (R130). -/
def Dev.cxStatus (d : Dev) (c : Nat) : Nat := if c = 0 ∨ d.cxSt c = 0 then 0 else d.cxSt c + (d.ctx c).latched

/-- The first tap sample of a context that needs no acquisition (Table 4.4): it goes to LOCKED or SHADOW. From ARMED this records no T_LOCK and raises no
event: Table 4.4 names neither there, and Table 4.11 gives event 64 for entries from ACQUIRING or HOLD; after an RF change both happen, since the entry is from
ACQUIRING (log 109). -/
def Dev.cxFirstSample (d : Dev) (t : Nat) : Dev :=
  let c := d.nat (O.lnTapContext t)
  if c = 0 ∨ !typeDirect (d.nat (O.cxType c)) (d.nat (O.cxSubject c)) then d
  else if d.cxSt c = 1 then (d.cxLock c).setN (O.cxIncluded c) 1
  else if d.cxSt c = 2 then (((d.cxLock c).setN (O.cxTLock c) d.now).setN (O.cxIncluded c) 1).cxEvent 0 c
  else d

/-- The measurement window of a MEAS context is cut short now (R191): its record, with TRUNCATED, is still due. -/
def Dev.measCut (d : Dev) (c : Nat) : Dev :=
  let s := d.ctx c
  if d.nat (O.cxType c) ≠ 9 ∨ s.window.rows.isEmpty then d
  else d.setCtx c { s with cuts := s.cuts ++ [(s.window, d.now)], window := { start := d.now } }

/-- The same for every context. -/
def Dev.measCutAll (d : Dev) : Dev := d.activeCtxs.foldl (fun (x : Dev) c => x.measCut c) d

/-! ### Commit rules -/

/-- Objects writable only while the context is FREE (R119). -/
def cxFreeOnly (c o : Nat) : Bool :=
  [O.cxType c, O.cxDoor c, O.cxAntCount c, O.cxSlot c, O.cxSubject c, O.cxIqRate c].any (fun x => decide (x = o)) ||
  (List.range 6).any (fun i => decide (O.cxAntChain c i = o))

/-- Objects not writable in RELEASING (R119, R195, R208, R222): RF, combining, timeouts, and every item at the offsets 0x6 to 0xF. -/
def cxNotReleasing (c o : Nat) : Bool :=
  decide (6 ≤ O.item o % 0x10) ||
  [O.cxRf c, O.cxCmbMode c, O.cxExcludeDb c, O.cxSwitchHyst c, O.cxSwitchHoldMs c, O.cxAcqTimeoutMs c, O.cxHoldTimeoutMs c].any
    (fun x => decide (x = o))

/-- Step 7 for a context object. -/
def Dev.cxStateOk (d : Dev) (o : Nat) : Bool :=
  match cxOf o with
  | some c => if cxFreeOnly c o then decide (d.cxSt c = 0) else if cxNotReleasing c o then decide (d.cxSt c ≠ 6) else true
  | none => true

/-- The owner check of R115: a role may write a context that is FREE, or that it owns. -/
def Dev.cxOwnerOk (d : Dev) (o : Nat) (role : Role) : Bool :=
  match cxOf o with
  | some c => decide (d.cxSt c = 0) || decide (role = (if d.nat (O.cxOwner c) = 1 then (d.ctx c).owner else .F))
  | none => true

/-- A committed write to an object of a context that is not FREE waits for the next run (R118): `old` is the value so far. -/
def Dev.cxWritten (d : Dev) (o : Nat) (old : Val) : Dev :=
  match cxOf o with
  | some c =>
    if d.cxSt c = 0 then d
    else
      let s := d.ctx c
      let h := if s.held.any (fun p => decide (p.1 = o)) then s.held else s.held ++ [(o, old)]
      d.setCtx c { s with held := h, pending := true }
  | none => d

/-! ### Rows -/

/-- TAP_FILL_DONE (R83). -/
def execTapFillDone (t : Nat) (s : State) : Host.Outcome State Fault Refusal :=
  s.upd (fun d => if d.nat (O.lnTapState t) = 1 then (d.tapFillDone t).cxFirstSample t else d)

/-- HYP_DETECTION (R122). -/
def execHypDetection (c : Nat) (det : HypDet) (s : State) : Host.Outcome State Fault Refusal := s.upd (fun d => d.hypDetect c det)

/-- HYP_VERIFY_FAIL (R122). -/
def execHypVerifyFail (c : Nat) (s : State) : Host.Outcome State Fault Refusal := s.upd (fun d => d.hypFail c)

/-- HYP_CONFIRMED (R117). -/
def execHypConfirmed (c : Nat) (cf : Confirm) (s : State) : Host.Outcome State Fault Refusal := s.upd (fun d => d.hypConfirm c cf)

/-- SIGNAL_LOSS (R117). -/
def execSignalLoss (c : Nat) (s : State) : Host.Outcome State Fault Refusal := s.upd (fun d => d.cxLoss c)

/-- HOLD_REVERIFIED (R117). -/
def execHoldReverified (c : Nat) (cf : Confirm) (s : State) : Host.Outcome State Fault Refusal := s.upd (fun d => d.cxReverify c cf)

/-- HOLD_TIMEOUT (R117). -/
def execHoldTimeout (c : Nat) (s : State) : Host.Outcome State Fault Refusal := s.upd (fun d => d.cxHoldTimeout c)

/-- ACQ_TIMEOUT (R117). -/
def execAcqTimeout (c : Nat) (s : State) : Host.Outcome State Fault Refusal := s.upd (fun d => d.cxAcqTimeout c)

/-- SELECT_SWITCH (R125): in SELECT, an included entry whose SNR has exceeded the chosen one's by SWITCH_HYST for SWITCH_HOLD_MS takes its place; of several, the
lowest. -/
def Dev.selectSwitch (d : Dev) (c i : Nat) : Dev :=
  let s := d.ctx c
  let ms := (d.cxEff c (O.cxSwitchHoldMs c)).toNat
  let ready := s.ahead.filter (fun p => decide (p.2 + ms * 1000000 ≤ d.mono) && (d.nat (O.cxIncluded c)).testBit p.1)
  if d.cxMode c = 1 ∧ (d.cxSt c = 3 ∨ d.cxSt c = 4) ∧ (ready.map (·.1)).head? = some i then d.selectMove c i else d

/-- SELECT_SWITCH. -/
def execSelectSwitch (c entry : Nat) (s : State) : Host.Outcome State Fault Refusal := s.upd (fun d => d.selectSwitch c entry)

end Sys2Proof.Machine
end

