-- ==== Sys2Proof/Machine/Rf.lean ====
section
/-! DEFINITION. Antenna chains and doors (chapter 2): gain control, the overload path, gain-step marks, the antenna feed, the
L-band synthesiser and door C's band. -/

namespace Sys2Proof.Machine

/-- What a chain holds beside its objects. -/
def Dev.chain (d : Dev) (n : Nat) : ChainSt := Tab.get {} d.rf.chains n

/-- The same replaced. -/
def Dev.setChain (d : Dev) (n : Nat) (c : ChainSt) : Dev := { d with rf := { d.rf with chains := Tab.set {} d.rf.chains n c } }

/-- The gain control of a door. -/
def Dev.door (d : Dev) (n i : Nat) : DoorSt := Tab.get {} d.rf.doors (3 * n + i)

/-- The same replaced. -/
def Dev.setDoor (d : Dev) (n i : Nat) (x : DoorSt) : Dev := { d with rf := { d.rf with doors := Tab.set {} d.rf.doors (3 * n + i) x } }

/-- The chains of the part. -/
def Dev.chainList (d : Dev) : List Nat := List.range d.chains

/-- The highest die-sensor reading, 0.01 °C (R570; the die temperature where no lane is named, log 14). -/
def Dev.dieTemp (d : Dev) : Int := (List.range 9).foldl (fun m s => max m (d.num (O.pwTemp s))) (d.num (O.pwTemp 0))

/-! ### Gain (R47, R48) -/

/-- LNA state of a gain-reduction index (R48). -/
def lnaOf (g : Nat) : Nat := min 2 (g / 12)

/-- Attenuation of a gain-reduction index, dB (R48). -/
def attenOf (g : Nat) : Nat := g - 12 * lnaOf g

/-- Nominal gain of a door band in its HIGH state, 0.01 dB (Table 2.6). Each lower state has 12 dB less. -/
def bandGain (b : Nat) : Int :=
  match b with
  | 0 => 1600 | 1 => 2200 | 2 => 2600 | _ => 3200

/-- ABS_CORR of a door band as its ramp has moved it (R305). -/
def Dev.absCorrNow (d : Dev) (j : Nat) : Int :=
  let r := Tab.get {} d.cal.ramps (1 + j)
  if r.running then
    let a := r.a.headD 0
    let b := r.b.headD 0
    a + (b - a) * (r.step : Int) / 256
  else d.num (O.caAbsCorr j)

/-- A point put into a list of points in ascending order. -/
def insertPoint (x : Nat × Int) : List (Nat × Int) → List (Nat × Int)
  | [] => [x]
  | y :: t => if x.1 < y.1 then x :: y :: t else y :: insertPoint x t

/-- What the factory entries add to the calibrated gain of door band j at index `g` and frequency `f`, 0.01 dB: GAIN_ERR + TEMPCO · (T − 25 °C),
interpolated among the entries of the same J and G; on the ZF9663-PX only (R2, Table 11.6). -/
def Dev.fxGain (d : Dev) (j g f : Nat) : Int :=
  if d.part ≠ 1 then 0
  else
    let l := d.cal.fx.filter (fun b => decide (leAt b 0 1 = j) && decide (leAt b 1 1 = g))
    let at_ := fun (b : List Byte) => (leAt b 2 4, toSigned 16 (leAt b 6 2) + divRound (toSigned 16 (leAt b 10 2) * (d.dieTemp - 2500)) 1000)
    interpolate ((l.map at_).foldl (fun a p => insertPoint p a) []) f

/-- The gain of a door band at index `g` as calibration against the tone gives it, without ABS_CORR and the factory entries, 0.01 dB (R47, R315). -/
def Dev.toneGain (d : Dev) (n b g : Nat) : Int := bandGain b - 1200 * (lnaOf g : Int) - 100 * (attenOf g : Int) + Config.gainError (d.chain n).calRun n b g

/-- Calibrated pin-to-converter gain of a door band at index `g` and RF frequency `f`, 0.01 dB (R47, R316, Table 11.6). -/
def Dev.bandGainAt (d : Dev) (n b g f : Nat) : Int := d.toneGain n b g - d.absCorrNow (4 * n + b) + d.fxGain (4 * n + b) g f

/-- The middle of a door band's RF pass band (Table 2.1), at which GAIN_NOW and PIN_FS are given (log 100). -/
def bandMid (b : Nat) : Nat := ((bandRf b).1 + (bandRf b).2) / 2

/-- Calibrated pin-to-converter gain of a door at index `g`, 0.01 dB, as GAIN_NOW gives it (R47, R316). -/
def Dev.gainAt (d : Dev) (n i g : Nat) : Int := d.bandGainAt n (d.bandOf n i) g (bandMid (d.bandOf n i))

/-- LNA_NOW, ATTEN_NOW, GAIN_NOW and PIN_FS of a door at its index. -/
def Dev.doorShow (d : Dev) (n i : Nat) : Dev :=
  let g := (d.door n i).g
  (((d.setN (O.cpLnaNow n i) (lnaOf g : Nat)).setN (O.cpAttenNow n i) (attenOf g : Nat)).setN (O.cpGainNow n i) (satS 16 (d.gainAt n i g))).setN
    (O.cpPinFs n i) (satS 16 (400 - d.gainAt n i g))

/-- Every door of a chain shown. -/
def Dev.doorsShow (d : Dev) (n : Nat) : Dev := (List.range 3).foldl (fun x i => x.doorShow n i) d

/-- A gain-step mark (R60): `doors` is the mask of the doors stepped. R60 gives one sample index to a mark and a delay to each door: of several doors
stepped at once, the mark's index takes the delay of the lowest, H before V before C (DESIGN CHOICE, log 106). -/
def Dev.gainMark (d : Dev) (n doors : Nat) : Dev :=
  let i := if doors.testBit 0 then 0 else if doors.testBit 1 then 1 else 2
  let delay := Config.doorDelay (d.chain n).calRun n i
  let mark := d.sampleIndex + delay
  (((((d.setN (O.cpLastMarkSample n) (mark : Nat)).setN (O.cpLastMarkTime n) (d.now + delay * 1000000 / 393216 : Nat)).setN
    (O.cpLastMarkDoors n) doors).inc (O.cpMarkCount n)).sweepMark n (fun s => { s with steps := s.steps ||| doors })).spanAdd
    { chain := n, door := 3, tag := tagStep, first := mark, last := some (mark + 394) }

/-- A step of one door to index `g` (R48, R52). -/
def Dev.doorStep (d : Dev) (n i g : Nat) : Dev :=
  ((d.setDoor n i { d.door n i with g := g, lastStep := some d.mono, deferred := none }).doorShow n i).inc (O.cpStepCount n i)

/-- A door whose gain control runs: enabled, on a chain in RUN, not under reference measurement. -/
def Dev.doorLive (d : Dev) (n i : Nat) : Bool := d.chainUp n && d.flag (O.cpDoorEnable n i) && !(d.door n i).suspended

/-- `gt` of R50 from the detector's mean and peak over the tick, in 0.01 dBFS. -/
def Dev.gainTarget (d : Dev) (n i : Nat) (det peak : Int) : Nat :=
  let g := (d.door n i).g
  if d.nat (O.cpGainMode n i) = 0 then
    let t := d.num (O.cpHeadroomTarget n i)
    if t + 600 < peak then min (d.nat (O.cpGredMax n i)) (g + ceilDiv (peak - t).toNat 100)
    else if det < t - 600 then max (d.nat (O.cpGredMin n i)) (g - 1)
    else g
  else 12 * d.nat (O.cpManLna n i) + d.nat (O.cpManAtten n i)

/-- At least `ms` milliseconds have passed since `t`, if it ever was. -/
def Dev.elapsed (d : Dev) (t : Option Nat) (ms : Nat) : Bool :=
  match t with
  | none => true
  | some x => decide (x + ms * 1000000 ≤ d.mono)

/-- A gain-control step applied: its mark, and `last_inc` or `last_dec` (R50). -/
def Dev.gainApply (d : Dev) (n i g : Nat) : Dev :=
  let up := decide ((d.door n i).g < g)
  let d1 := d.doorStep n i g
  let x := d1.door n i
  (d1.setDoor n i (if up then { x with lastInc := some d.mono } else { x with lastDec := some d.mono })).gainMark n (2 ^ i)

/-- A gain-control result: applied, or held to the end of the 2 µs spacing (R52). -/
def Dev.gainIssue (d : Dev) (n i g : Nat) : Dev :=
  let x := d.door n i
  match x.lastStep with
  | some t => if d.mono < t + 2000 then d.setDoor n i { x with deferred := some g } else d.gainApply n i g
  | none => d.gainApply n i g

/-- A chain's lane has power, so that its door detectors read (R49): it is starting or in RUN. -/
def Dev.lanePowered (d : Dev) (n : Nat) : Bool := decide (d.nat (O.cpChainState n) ≠ 0)

/-- R49 and R50 for one door: the detector's mean is shown whether or not the gain control runs. -/
def Dev.gainDoor (d : Dev) (n i : Nat) (det peak : Int) : Dev :=
  let d1 := if d.lanePowered n then d.setN (O.cpDetLevel n i) det else d
  if d1.doorLive n i then
    let x := d1.door n i
    let gt := d1.gainTarget n i det peak
    if x.g < gt then d1.gainIssue n i gt
    else if gt < x.g ∧ d1.elapsed x.lastInc (d.nat (O.cpHoldMs n i)) ∧ d1.elapsed x.lastDec (d.nat (O.cpReleaseMs n i)) then
      d1.gainIssue n i (x.g - 1)
    else d1
  else d1

/-- OVL_ACTIVE ends at the first tick at which every door that the step raised has gt = g (Table 2.10); judged on the indices
before the tick's steps. -/
def Dev.ovlSettled (d : Dev) (n : Nat) (det peak : List Int) : Bool :=
  (List.range 3).all fun i =>
    !(d.chain n).raised.testBit i || !d.doorLive n i || decide (d.gainTarget n i (det.getD (3 * n + i) 0) (peak.getD (3 * n + i) 0) = (d.door n i).g)

/-- GAIN_TICK (R50): every door of every chain on the 1 ms tick; entry 3n + i of the lists is chain n, door i. -/
def Dev.gainTick (d : Dev) (det peak : List Int) : Dev :=
  let d0 := d.tick 1 1000000 0
  d0.chainList.foldl (fun x n =>
    let done := decide ((x.chain n).raised ≠ 0) && x.ovlSettled n det peak
    let y := (List.range 3).foldl (fun z i => z.gainDoor n i (det.getD (3 * n + i) 0) (peak.getD (3 * n + i) 0)) x
    if done then (y.setChain n { y.chain n with raised := 0 }).setB (O.cpOvlActive n) false else y) d0

/-- GAIN_STEP_DEFERRED (R52). -/
def Dev.gainDeferred (d : Dev) (n i : Nat) : Dev :=
  let x := d.door n i
  match x.deferred with
  | some g =>
    let d1 := d.clockTo ((x.lastStep.getD 0) + 2000)
    if d1.doorLive n i then d1.gainApply n i g else d1.setDoor n i { x with deferred := none }
  | none => d

/-! ### Overload (R53 to R58) -/

/-- The doors that an overload selects (R53, step 1), as a mask; `det` in 0.01 dBFS. -/
def Dev.ovlSelect (d : Dev) (n : Nat) (det : List Int) : Nat :=
  let on := (List.range 3).filter (fun i => d.flag (O.cpDoorEnable n i))
  let top := on.foldl (fun (m : Int) i => max m (det.getD i (-32768))) (-32768)
  on.foldl (fun m i => if top ≤ -600 ∨ top - 300 ≤ det.getD i (-32768) then withBit m i true else m) 0

/-- Doors of a mask whose index is 55. -/
def Dev.doorsAt55 (d : Dev) (n mask : Nat) : Nat :=
  (List.range 3).foldl (fun m i => if mask.testBit i ∧ (d.door n i).g = 55 then withBit m i true else m) 0

/-- Event 17 + 4n (R55). -/
def Dev.ovlPersist (d : Dev) (n : Nat) : Dev :=
  let on := (List.range 3).foldl (fun m i => if d.flag (O.cpDoorEnable n i) then withBit m i true else m) 0
  (d.setChain n { d.chain n with armed := false }).raise (17 + 4 * n) (d.doorsAt55 n on)

/-- A code of the 14-bit converter that is clipped: within 32 codes of either full-scale code (R53). -/
def codeClipped (x : Int) : Bool := decide (x ≤ -8192 + 32) || decide (8191 - 32 ≤ x)

/-- The places of the clipped codes among the last 64 samples of a lane, counted back from the present one. -/
def clipAges (l : List Int) : List Nat :=
  (l.reverse.take 64).zipIdx.filterMap (fun p => if codeClipped p.1 then some p.2 else none)

/-- The lanes in use by a chain: its own, lane G, or in an overlap both (R53, R58); their clipped samples, as places counted back. -/
def Dev.lanesClipped (d : Dev) (n : Nat) (own spare : List Int) : List (List Nat) :=
  match d.nat (O.cpLane n) with
  | 0 => [clipAges own]
  | 1 => [clipAges own, clipAges spare]
  | _ => [clipAges spare]

/-- Overload is declared on chain `n` (R53 to R56): `from_` is the index of the first clipped sample, `det` the door detectors. -/
def Dev.ovlDeclare (d : Dev) (n from_ : Nat) (det : List Int) : Dev :=
  let d2 := (d.setN (O.cpLastOvl n) d.now).sweepMark n (fun s => { s with ovl := true })
  let c0 := d2.chain n
  let cont := match c0.lastDecl with | some t => decide (d2.mono ≤ t + 1000000) | none => false
  let rearm := match c0.lastDecl with | some t => decide (t + 1000000000 ≤ d2.mono) | none => true
  let sel := d2.ovlSelect n det
  let full := d2.doorsAt55 n sel
  let all55 := decide (sel ≠ 0) && decide (full = sel)
  let ready : Bool := match c0.stepAt with | some t => decide (t + 1000 ≤ d2.mono) | none => true
  let stepped := if ready then clearBits sel full else 0
  let at55 := if all55 then some (if cont then c0.at55.getD d2.mono else d2.mono) else if cont then c0.at55 else none
  let d3 := d2.setChain n { c0 with lastDecl := some d2.mono, at55 := at55, armed := c0.armed || rearm,
                                    raised := c0.raised ||| stepped,
                                    stepAt := if stepped = 0 then c0.stepAt else some d2.mono }
  let step := d3.nat (O.cpOvlStep n)
  let d4 := (List.range 3).foldl (fun x i =>
    if stepped.testBit i then x.doorStep n i (min 55 ((x.door n i).g + step)) else x) d3
  let d5 := (List.range 3).foldl (fun x i =>
    if ready ∧ sel.testBit i then x.setDoor n i { x.door n i with lastInc := some x.mono } else x) d4
  let d6 := if stepped = 0 then d5
    else (((d5.gainMark n stepped).inc (O.cpOvlCount n)).setB (O.cpOvlActive n) true).raise (16 + 4 * n) stepped
  let flagged := if stepped ≠ 0 then d6.spanAdd { chain := n, door := 3, tag := tagOvl, first := from_, last := some (d6.nat (O.cpLastMarkSample n) + 394) }
    else if ready ∨ all55 then d6.spanAdd { chain := n, door := 3, tag := tagOvl, first := from_, last := some (from_ + 394) }
    else d6
  if all55 ∧ flagged.nat (O.cpPersistMs n) = 0 ∧ (flagged.chain n).armed then flagged.ovlPersist n else flagged

/-- OVERLOAD_DECLARED (R53 to R58): the last samples of the chain's own lane and of lane G, oldest first and ending with the present one. Clipped samples are
counted, each index once whichever lane clipped at it (log 106); overload is declared where a lane in use holds OVL_CLIP_COUNT of them, and acted on
while OVL_ENABLE is 1. -/
def Dev.overload (d : Dev) (n : Nat) (own spare det : List Int) : Dev :=
  if !d.chainUp n then d
  else
    let l := d.lanesClipped n own spare
    let ages := ((l.flatMap id).eraseDups)
    let c := ages.length
    let d0 := d.count 64 (O.cpClipSamples n) c
    let d1 := d0.setChain n { d0.chain n with clipped := (d0.chain n).clipped + c }
    if d1.flag (O.cpOvlEnable n) ∧ l.any (fun x => decide (d1.nat (O.cpOvlClipCount n) ≤ x.length)) then
      d1.ovlDeclare n (d1.sampleIndex - ages.foldl Nat.max 0) det
    else d1

/-- OVERLOAD_PERSIST (R55). -/
def Dev.overloadPersist (d : Dev) (n : Nat) : Dev :=
  let c := d.chain n
  match c.at55 with
  | some t => if c.armed then (d.after t (d.nat (O.cpPersistMs n))).ovlPersist n else d
  | none => d

/-- OVERLOAD_CONTINUITY_END (R55): more than 1 ms without a declaration. -/
def Dev.overloadEnd (d : Dev) (n : Nat) : Dev :=
  let c := d.chain n
  match c.lastDecl with
  | some t => (d.clockTo (t + 1000001)).setChain n { c with at55 := none }
  | none => d

/-- OVERLOAD_PERSIST_REARM (R55): 1 s without a declaration. -/
def Dev.overloadRearm (d : Dev) (n : Nat) : Dev :=
  let c := d.chain n
  match c.lastDecl with
  | some t => (d.clockTo (t + 1000000000)).setChain n { c with at55 := none, armed := true }
  | none => d

/-! ### Antenna feed (R64 to R68) -/

/-- A Buoy slot beside its objects. -/
def Dev.buoy (d : Dev) (i : Nat) : BlBuoy := Tab.get {} d.bl.buoys i

/-- A Buoy slot's record set, with DL_QUEUED. -/
def Dev.setBuoy (d : Dev) (i : Nat) (b : BlBuoy) : Dev :=
  ({ d with bl := { d.bl with buoys := Tab.set {} d.bl.buoys i b } } : Dev).setN (O.blDlQueued i) (b.queue.length : Nat)

/-- The update of a Buoy's firmware ends in a state (R439): FW_STATE, event 117; the messages of the update still queued go. -/
def Dev.blFwEnd (d : Dev) (st : Nat) : Dev :=
  match d.bl.fw with
  | none => d
  | some f =>
    let b := d.buoy f.target
    let d1 := ({ d with bl := { d.bl with fw := none } } : Dev).setBuoy f.target { b with queue := b.queue.filter (fun m => decide (m.ty ≠ 0x0B) && decide (m.ty ≠ 0x0C)) }
    (d1.setN O.blFwState st).raise 117 (256 * st + f.target)

/-- A Buoy slot enters a state of Table 15.7; an update of a target that leaves ACTIVE fails (R439). -/
def Dev.buoyGo (d : Dev) (i st : Nat) : Dev :=
  let d1 := d.setN (O.blBuoyState i) st
  if decide (st ≠ 2) && (match d.bl.fw with | some f => decide (f.target = i) | none => false) then d1.blFwEnd 3 else d1

/-- Buoy slots of a chain whose feed has left ON go to FEED_OFF, with event 113 for an ACTIVE one (Table 15.7). -/
def Dev.feedLost (d : Dev) (n : Nat) : Dev :=
  (List.range 4).foldl (fun x k =>
    let i := 4 * n + k
    let st := x.nat (O.blBuoyState i)
    if st = 1 ∨ st = 2 ∨ st = 4 then
      let y := x.buoyGo i 3
      if st = 2 then y.raise 113 i else y
    else x) d

/-- A feed state entered. -/
def Dev.feedGo (d : Dev) (n st : Nat) : Dev :=
  let old := d.nat (O.cpFeedState n)
  let d0 := (d.setN (O.cpFeedState n) st).setChain n { d.chain n with feedSince := d.mono }
  let d1 := if st = 1 then d0.mfMark (513 + 2 * n) else d0
  if old = 2 ∧ st ≠ 2 then d1.feedLost n else d1

/-- The feed driven: FEED_x_EN high or low (R64). -/
def Dev.feedDrive (d : Dev) (n : Nat) (on : Bool) : Dev := d.setChain n { d.chain n with feedEn := on }

/-- FEED_x_EN high and the inrush timer started; with INRUSH_MS = 0 the feed is ON at once (Table 2.9). -/
def Dev.feedStart (d : Dev) (n : Nat) : Dev :=
  let d1 := (d.feedDrive n true).feedGo n 1
  if d1.nat (O.cpInrushMs n) = 0 then d1.feedGo n 2 else d1

/-- FEED_x_EN low, retry allowance restored, OFF (Table 2.9). -/
def Dev.feedOff (d : Dev) (n : Nat) : Dev :=
  let d1 := d.feedDrive n false
  (d1.setChain n { d1.chain n with retryLeft := d1.nat (O.cpRetryCount n) }).feedGo n 0

/-- A trip: FEED_x_EN low, event 18 + 4n, FAULT_COUNT, TRIPPED; then RETRY_WAIT with one retry used, or LATCHED with the event
again (Table 2.9). -/
def Dev.feedTrip (d : Dev) (n : Nat) : Dev :=
  let d1 := (((d.feedDrive n false).feedGo n 4).inc (O.cpFaultCount n)).raise (18 + 4 * n) 4
  let c := d1.chain n
  if 0 < c.retryLeft then (d1.setChain n { c with retryLeft := c.retryLeft - 1 }).feedGo n 5
  else (d1.feedGo n 6).raise (18 + 4 * n) 6

/-- The feed becomes held (R67). -/
def Dev.feedHold (d : Dev) (n : Nat) : Dev :=
  let d1 := d.feedOff n
  d1.setChain n { d1.chain n with feedHeld := true }

/-- A released feed starts when FEED_ENABLE is 1 (Table 2.9, OFF row). -/
def Dev.feedCheck (d : Dev) (n : Nat) : Dev :=
  if !(d.chain n).feedHeld ∧ d.flag (O.cpFeedEnable n) ∧ d.nat (O.cpFeedState n) = 0 then
    (d.setChain n { d.chain n with retryLeft := d.nat (O.cpRetryCount n) }).feedStart n
  else d

/-- The feed is released (R67). -/
def Dev.feedRelease (d : Dev) (n : Nat) : Dev := (d.setChain n { d.chain n with feedHeld := false }).feedCheck n

/-- Every feed of the part held. -/
def Dev.feedsHold (d : Dev) : Dev := d.chainList.foldl (fun x n => x.feedHold n) d

/-- FEED_ENABLE written. -/
def Dev.feedEnabled (d : Dev) (n : Nat) : Dev := if d.flag (O.cpFeedEnable n) then d.feedCheck n else d.feedOff n

/-- A write of 1 to FEED_RESET. -/
def Dev.feedReset (d : Dev) (n : Nat) : Dev := if d.nat (O.cpFeedState n) = 6 then (d.feedOff n).feedCheck n else d

/-- FEED_TRIP: the comparator fired in RAMP, ON or OPEN (R64, R66). -/
def Dev.feedTripNow (d : Dev) (n : Nat) : Dev :=
  let st := d.nat (O.cpFeedState n)
  if st = 1 ∨ st = 2 ∨ st = 3 then d.feedTrip n else d

/-- FEED_INRUSH_END. -/
def Dev.feedInrushEnd (d : Dev) (n : Nat) : Dev :=
  if d.nat (O.cpFeedState n) = 1 then (d.after (d.chain n).feedSince (d.nat (O.cpInrushMs n))).feedGo n 2 else d

/-- FEED_OPEN_DETECT: never with I_OPEN = 0. -/
def Dev.feedOpen (d : Dev) (n : Nat) : Dev :=
  if d.nat (O.cpFeedState n) = 2 ∧ d.nat (O.cpIOpen n) ≠ 0 then
    ((d.after (d.chain n).feedSince 50).feedGo n 3).raise (18 + 4 * n) 3
  else d

/-- FEED_OPEN_RECOVER. -/
def Dev.feedOpenRecover (d : Dev) (n : Nat) : Dev :=
  if d.nat (O.cpFeedState n) = 3 then (d.after (d.chain n).feedSince 50).feedGo n 2 else d

/-- FEED_LIMIT_DWELL. -/
def Dev.feedLimit (d : Dev) (n : Nat) : Dev :=
  if d.nat (O.cpFeedState n) = 2 ∨ d.nat (O.cpFeedState n) = 3 then (d.after (d.chain n).feedSince 10).feedTrip n else d

/-- FEED_ON_10S. -/
def Dev.feedOn10s (d : Dev) (n : Nat) : Dev :=
  if d.nat (O.cpFeedState n) = 2 then
    let d1 := d.after (d.chain n).feedSince 10000
    d1.setChain n { d1.chain n with retryLeft := d1.nat (O.cpRetryCount n) }
  else d

/-- FEED_RETRY_EXPIRED. -/
def Dev.feedRetry (d : Dev) (n : Nat) : Dev :=
  if d.nat (O.cpFeedState n) = 5 then (d.after (d.chain n).feedSince (d.nat (O.cpRetryMs n))).feedStart n else d

/-! ### L-band synthesiser (Table 2.3) and door C's band (R43) -/

/-- Chains that need LO_L (R41), as a mask; while a power-up calibration runs every chain in it does (R306). -/
def Dev.lsynUsers (d : Dev) : Nat :=
  d.chainList.foldl (fun m n =>
    if (d.flag (O.cpChainEnable n) ∧ d.flag (O.cpDoorEnable n 2) ∧ d.nat (O.cpDoorCBand n) = 1) ∨ (d.chain n).calSince.isSome then
      withBit m n true else m) 0

/-- Calibration starts with attempt `k`: the L-band mixers are muted, and contexts on L-band doors go to HOLD (R42). -/
def Dev.lsynCalibrate (d : Dev) (k : Nat) : Dev :=
  let d1 := { d.setN O.cpLsynState 1 with rf := { d.rf with lsyn := { d.rf.lsyn with attempts := k, users := d.lsynUsers, since := d.mono } } }
  (d1.chainList.foldl (fun x n => if x.nat (O.cpDoorCBand n) = 1 then x.doorCContexts n else x) d1).muteShowAll

/-- A chain that no longer needs LO_L counts as a further chain when it comes to need it again (Table 2.3, last row). -/
def Dev.lsynTrim (d : Dev) : Dev :=
  { d with rf := { d.rf with lsyn := { d.rf.lsyn with users := d.rf.lsyn.users &&& d.lsynUsers } } }

/-- LSYN_NEEDED: from OFF, or from UNLOCKED when a further chain needs LO_L. -/
def Dev.lsynNeeded (d : Dev) : Dev :=
  let u := d.lsynUsers
  let st := d.nat O.cpLsynState
  if st = 0 ∧ u ≠ 0 then d.lsynCalibrate 1
  else if st = 3 ∧ clearBits u d.rf.lsyn.users ≠ 0 then d.lsynCalibrate 1
  else d

/-- LSYN_LOCKED: its band changes here and nowhere else (R304). -/
def Dev.lsynLocked (d : Dev) : Dev :=
  if d.nat O.cpLsynState = 1 then
    let k := d.rf.lsyn.cals
    (((({ d with rf := { d.rf with lsyn := { d.rf.lsyn with band := Config.lsynBand k, cals := k + 1 } } } : Dev).setN O.cpLsynState 2).setN O.cpLsynLastCal d.now).setN O.cpLsynCalTemp (satS 16 d.dieTemp)).muteShowAll
  else d

/-- LSYN_CAL_TIMEOUT: 1.2 ms without lock. -/
def Dev.lsynTimeout (d : Dev) : Dev :=
  if d.nat O.cpLsynState = 1 then
    let d1 := d.clockTo (d.rf.lsyn.since + 1200000)
    if d1.rf.lsyn.attempts < 3 then d1.lsynCalibrate (d1.rf.lsyn.attempts + 1)
    else
      let d2 := (d1.setN O.cpLsynState 3).inc O.cpLsynUnlockCount
      ({ d2 with rf := { d2.rf with lsyn := { d2.rf.lsyn with users := d2.lsynUsers } } }).raise 46 3
  else d

/-- LSYN_LOCK_DROP. -/
def Dev.lsynDrop (d : Dev) : Dev :=
  if d.nat O.cpLsynState = 2 then ((d.inc O.cpLsynUnlockCount).lsynCalibrate 1).raise 46 1 else d

/-- A write of 1 to LSYN_CAL_CMD. -/
def Dev.lsynCalCmd (d : Dev) : Dev :=
  if d.nat O.cpLsynState = 2 ∨ d.nat O.cpLsynState = 3 then d.lsynCalibrate 1 else d

/-- LSYN_NOT_NEEDED. -/
def Dev.lsynNotNeeded (d : Dev) : Dev :=
  if d.lsynUsers = 0 ∧ d.nat O.cpLsynState ≠ 0 then
    ({ d.setN O.cpLsynState 0 with rf := { d.rf with lsyn := { band := d.rf.lsyn.band, cals := d.rf.lsyn.cals } } } : Dev).muteShowAll
  else d

/-- LSYN_TEMP_CAL at a calibration window (Table 2.3): 0 in LSYN_TEMP_DELTA disables it. -/
def Dev.lsynTempCal (d : Dev) : Dev :=
  let k := d.nat O.cpLsynTempDelta
  if d.nat O.cpLsynState = 2 ∧ k ≠ 0 ∧ 100 * k ≤ (d.dieTemp - d.num O.cpLsynCalTemp).natAbs then d.lsynCalibrate 1 else d

/-- DOOR_C_BAND changed (R43): door C muted, contexts on it to HOLD, its levels shown for the new band. -/
def Dev.bandSwitch (d : Dev) (n : Nat) : Dev :=
  let d1 := (d.setChain n { d.chain n with bandMute := true }).setB (O.cpBandSwitching n) true
  ((d1.doorCContexts n).doorShow n 2).muteShow n

/-- BAND_SWITCH_DONE (R43): where the chain needs LO_L it waits for the synthesiser to reach LOCKED. -/
def Dev.bandSwitchDone (d : Dev) (n : Nat) : Dev :=
  if (d.chain n).bandMute ∧ (!d.lsynUsers.testBit n ∨ d.nat O.cpLsynState = 2) then
    ((d.setChain n { d.chain n with bandMute := false }).setB (O.cpBandSwitching n) false).muteShow n
  else d

/-! ### Sweep levels (R88, R93) -/

/-- What the calibration of a chain's doors adds in a bin: the converter samples are referred to the pin with each door's gain at the middle of its band, and
the calibrated gain at the bin's own frequency may differ from it (R88, Table 11.6; log 100). `gs` are the gain indices of the doors at the frame. -/
def Dev.binCor (d : Dev) (n : Nat) (gs : List Nat) (b : Nat) : Int :=
  let f := 3000 * b
  match ([0, 1, d.bandOf n 2] : List Nat).find? (fun j => decide ((bandRf j).1 ≤ f + bandLo j) && decide (f + bandLo j ≤ (bandRf j).2)) with
  | some j =>
    let g := gs.getD (min 2 j) 0
    d.bandGainAt n j g (bandMid j) - d.bandGainAt n j g (f + bandLo j)
  | none => 0

/-- The entries of an interval's channels, from the sub-band samples of its frames (R86 to R93). -/
def Dev.sweepEnts (d : Dev) (chain : Nat) (sg : SweepSeg) (i : SweepInt) (frames : List (Nat × FrameIn)) : List SweepEnt :=
  (List.range (sg.last + 1 - sg.first)).map fun k =>
    sweepEnt (i.frames.map (fun p =>
      channelFrame (match frames.find? (fun f => decide (f.1 = p.1)) with | some f => f.2 | none => []) (d.binCor chain p.2) sg.raster (sg.first + k)))

/-- The records of an interval that has ended: at its cut, or at the end of its length. A whole interval also feeds the filters and the following
engine. -/
def Dev.sweepDue (d : Dev) (seg chain : Nat) (sg : SweepSeg) (i : SweepInt) (frames : List (Nat × FrameIn)) : Dev :=
  let es := d.sweepEnts chain sg i frames
  match i.cutAt with
  | some t => (d.sweepRecords seg chain sg i es t).1
  | none =>
    let r := d.sweepRecords seg chain sg i es (i.tEnd sg)
    (r.1.sweepFeed seg chain sg i es (i.tEnd sg) r.2).sweepFollow chain sg i es r.2

/-- SWEEP_INTERVAL_END (R92): the records of the first interval of a segment and chain that has ended; none having ended yet, the open one ends
at its time, and its record is formed when the last frame stamped in it is complete, 166.667 µs later. `frames` are the sub-band samples of its
frames. -/
def Dev.sweepIntervalEnd (d : Dev) (seg chain : Nat) (frames : List (Nat × FrameIn)) : Dev :=
  let k := 8 * seg + chain
  let mine := fun (x : Dev) => x.lens.due.find? (fun c => decide (c.1 = k))
  let d1 := if (mine d).isSome ∨ !Tab.has d.lens.ints k then d
    else
      let i := Tab.get {} d.lens.ints k
      (d.timeTo (i.tEnd (d.lens.plan.getD seg {}) + 166667)).rollInts
  match mine d1 with
  | some c => ({ d1 with lens := { d1.lens with due := d1.lens.due.erase c } } : Dev).sweepDue seg chain c.2.1 c.2.2 frames
  | none => d1

/-! ### Rows -/

/-- LSYN_NEEDED (R41). -/
def execLsynNeeded (s : State) : Host.Outcome State Fault Refusal := s.upd Dev.lsynNeeded
/-- LSYN_LOCKED (R41). -/
def execLsynLocked (s : State) : Host.Outcome State Fault Refusal := s.upd Dev.lsynLocked
/-- LSYN_CAL_TIMEOUT (R41). -/
def execLsynCalTimeout (s : State) : Host.Outcome State Fault Refusal := s.upd Dev.lsynTimeout
/-- LSYN_LOCK_DROP (R41). -/
def execLsynLockDrop (s : State) : Host.Outcome State Fault Refusal := s.upd Dev.lsynDrop
/-- LSYN_NOT_NEEDED (R41). -/
def execLsynNotNeeded (s : State) : Host.Outcome State Fault Refusal := s.upd Dev.lsynNotNeeded
/-- BAND_SWITCH_DONE (R43). -/
def execBandSwitchDone (n : Nat) (s : State) : Host.Outcome State Fault Refusal := s.upd (fun d => d.bandSwitchDone n)
/-- GAIN_TICK (R50). -/
def execGainTick (det peak : List Int) (s : State) : Host.Outcome State Fault Refusal := s.upd (fun d => d.gainTick det peak)
/-- GAIN_STEP_DEFERRED (R52). -/
def execGainStepDeferred (n i : Nat) (s : State) : Host.Outcome State Fault Refusal := s.upd (fun d => d.gainDeferred n i)
/-- OVERLOAD_DECLARED (R53). -/
def execOverloadDeclared (n : Nat) (codes : List Int × List Int) (det : List Int) (s : State) : Host.Outcome State Fault Refusal :=
  s.upd (fun d => d.overload n codes.1 codes.2 det)
/-- SWEEP_INTERVAL_END (R92). -/
def execSweepIntervalEnd (seg chain : Nat) (frames : List (Nat × FrameIn)) (s : State) : Host.Outcome State Fault Refusal :=
  s.upd (fun d => if d.fabricOn then d.sweepIntervalEnd seg chain frames else d)
/-- OVERLOAD_PERSIST (R55). -/
def execOverloadPersist (n : Nat) (s : State) : Host.Outcome State Fault Refusal := s.upd (fun d => d.overloadPersist n)
/-- OVERLOAD_CONTINUITY_END (R55). -/
def execOverloadContinuityEnd (n : Nat) (s : State) : Host.Outcome State Fault Refusal := s.upd (fun d => d.overloadEnd n)
/-- OVERLOAD_PERSIST_REARM (R55). -/
def execOverloadPersistRearm (n : Nat) (s : State) : Host.Outcome State Fault Refusal := s.upd (fun d => d.overloadRearm n)
/-- FEED_TRIP (R64). -/
def execFeedTrip (n : Nat) (s : State) : Host.Outcome State Fault Refusal := s.upd (fun d => d.feedTripNow n)
/-- FEED_INRUSH_END (R66). -/
def execFeedInrushEnd (n : Nat) (s : State) : Host.Outcome State Fault Refusal := s.upd (fun d => d.feedInrushEnd n)
/-- FEED_OPEN_DETECT (R66). -/
def execFeedOpenDetect (n : Nat) (s : State) : Host.Outcome State Fault Refusal := s.upd (fun d => d.feedOpen n)
/-- FEED_OPEN_RECOVER (R66). -/
def execFeedOpenRecover (n : Nat) (s : State) : Host.Outcome State Fault Refusal := s.upd (fun d => d.feedOpenRecover n)
/-- FEED_LIMIT_DWELL (R66). -/
def execFeedLimitDwell (n : Nat) (s : State) : Host.Outcome State Fault Refusal := s.upd (fun d => d.feedLimit n)
/-- FEED_ON_10S (R66). -/
def execFeedOn10s (n : Nat) (s : State) : Host.Outcome State Fault Refusal := s.upd (fun d => d.feedOn10s n)
/-- FEED_RETRY_EXPIRED (R66). -/
def execFeedRetryExpired (n : Nat) (s : State) : Host.Outcome State Fault Refusal := s.upd (fun d => d.feedRetry n)

end Sys2Proof.Machine
end

