-- ==== Sys2Proof/Machine/Bank.lean ====
section
/-! DEFINITION. The banks of eNVM (R31): what a store writes into each (Tables 11.4, 11.5 and 13.7, R372, R546), and when a bank is valid. -/

namespace Sys2Proof.Machine

/-! ### Serialisations (R374, R375) -/

/-- The canonical serialisation of a class over every area, Local records and user-default records included. -/
def Dev.serial (d : Dev) (c : Cls) : List Byte := (List.range 19).flatMap (fun a => (Dict.oids d.part a c).flatMap d.serialObject)

/-- The records of that serialisation. -/
def Dev.serialCount (d : Dev) (c : Cls) : Nat :=
  ((List.range 19).map (fun a => (Dict.oids d.part a c).length)).sum + (if c = .P then d.udef.length else 0)

/-- The records that serialised bytes spell; `fuel` bounds their number. -/
def parseRecs : Nat → List Byte → List BankRec
  | 0, _ => []
  | f + 1, b =>
    if b.length < 8 then []
    else
      let n := leAt b 6 2
      { oid := leAt b 0 4, ty := leAt b 4 1, flags := leAt b 5 1, val := slice b 8 n } :: parseRecs f (b.drop (8 + n))

/-- The records of a bank's body. -/
def Bank.recs (b : Bank) : List BankRec := parseRecs b.body.length b.body

/-- The record holds a user default. -/
def BankRec.user (r : BankRec) : Bool := r.flags.testBit 0

/-- The value of a record. -/
def BankRec.value (r : BankRec) : Val := (Dict.ty r.oid).decode r.val

/-- A record of an object of class `c` that the firmware defines, of its type, with a value that passes step 6 of Table 13.4 (R378). -/
def BankRec.okFor (r : BankRec) (part : Nat) (c : Cls) : Bool :=
  match Dict.row part r.oid with
  | some w => decide (w.cls = c) && decide (w.ty.code = r.ty) && w.lenOk r.val.length && w.valueOk part r.value
  | none => false

/-! ### Configuration and statistics banks (Table 13.7, R372) -/

/-- MAGIC of a bank of class P or S. -/
def bankMagic (c : Cls) : Nat := if c = .P then 0x47464E43 else 0x54535453

/-- Bytes 0 to LENGTH − 1. -/
def Bank.bytes (b : Bank) : List Byte :=
  leBytes 4 b.magic ++ leBytes 1 b.format ++ leBytes 1 b.part ++ leBytes 2 0 ++ leBytes 4 b.seq ++ leBytes 4 b.length ++ leBytes 8 b.tStore ++
  leBytes 4 b.fw ++ leBytes 4 b.records ++ padTo 32 b.daymark ++ b.body

/-- MAGIC is correct and MARKER equals the SHA-256 of the bank's bytes (R378). -/
def Bank.valid (c : Cls) (b : Bank) : Bool := decide (b.magic = bankMagic c) && decide (b.marker = sha256 b.bytes)

/-- What a store of class P or S puts into a bank. -/
def Dev.bankNow (d : Dev) (c : Cls) (seq : Nat) : Bank :=
  let body := d.serial c
  let b : Bank := { magic := bankMagic c, format := 1, part := d.part, seq := seq, length := 64 + body.length, tStore := d.now,
                    fw := d.nat O.syFwVersion, records := d.serialCount c, daymark := if c = .P then d.daymark .P else zeroBytes 32, body := body }
  { b with marker := sha256 b.bytes }

/-! ### Calibration banks (Tables 11.4 and 11.5) -/

/-- A reference entry. -/
def RefEnt.bytes (r : RefEnt) : List Byte :=
  leBytes 2 (toUnsigned 16 r.absCorr) ++ leBytes 2 r.unc ++ leBytes 2 (toUnsigned 16 r.level) ++ leBytes 2 (toUnsigned 16 r.temp) ++ leBytes 4 r.freq ++
  leBytes 8 r.t ++ padTo 16 r.id ++ leBytes 1 (if r.valid then 1 else 0) ++ zeroBytes 11

/-- A class C value of a calibration bank. -/
def CalBank.num (b : CalBank) (o : Nat) : Int := (Tab.get (Dict.dflt o) b.vals o).int

/-- The antenna factor of a door band: AF_POINTS, the frequencies and the levels. -/
def CalBank.af (b : CalBank) (j : Nat) : List Byte :=
  leBytes 1 (b.num (O.caAfPoints j)).toNat ++ zeroBytes 3 ++ (List.range 16).flatMap (fun i => leBytes 4 (b.num (O.caAfFreq j i)).toNat) ++
  (List.range 16).flatMap (fun i => leBytes 2 (toUnsigned 16 (b.num (O.caAfValue j i))))

/-- A replaced element as numbers. -/
def ElemSel.nums (e : ElemSel) : List Nat := [e.sub, e.stage, if e.cap then 1 else 0, e.idx, e.spare, if e.live then 1 else 0]

/-- Coarse selections as numbers. -/
def LaneSel.nums (s : LaneSel) : List Nat := s.elems.length :: s.elems.flatMap ElemSel.nums ++ s.corners

/-- Bytes 0 to LENGTH − 1. -/
def CalBank.bytes (b : CalBank) : List Byte :=
  leBytes 4 b.magic ++ leBytes 1 b.format ++ leBytes 1 b.part ++ leBytes 1 b.reason ++ leBytes 1 0 ++ leBytes 4 b.seq ++ leBytes 4 (7200 + 16 * b.fx.length) ++
  leBytes 8 b.tStore ++ leBytes 2 (toUnsigned 16 b.temp) ++ leBytes 2 b.fx.length ++ zeroBytes 36 ++
  (List.range 24).flatMap (fun j => (Tab.get {} b.refs j).bytes) ++ (List.range 24).flatMap b.af ++
  (List.range 7).flatMap (fun n => padTo 512 (Config.seedBytes n (Tab.get {} b.seed n).nums)) ++ b.fx.flatMap (padTo 16)

/-- The valid bank that R320 selects from: MAGIC is correct and MARKER equals the SHA-256 of the bank's bytes. -/
def CalBank.valid (b : CalBank) : Bool := decide (b.magic = 0x4C414343) && decide (b.marker = sha256 b.bytes)

/-- What a calibration store puts into a bank. -/
def Dev.calNow (d : Dev) (seq : Nat) (temp : Int) : CalBank :=
  let b : CalBank := { magic := 0x4C414343, format := 1, part := d.part, seq := seq, reason := d.cal.reason, tStore := d.now, temp := temp,
                       refs := d.cal.refs, vals := d.objs.filter (fun p => decide (Dict.cls p.1 = .C)), fx := d.cal.fx, seed := d.cal.sel }
  { b with marker := sha256 b.bytes }

/-! ### LMS-state banks (R546) -/

/-- The 12 bytes that MARKER covers. -/
def LmsBank.bytes (b : LmsBank) : List Byte := leBytes 4 b.magic ++ leBytes 4 b.seq ++ leBytes 4 b.limit

/-- MAGIC is correct and MARKER equals the SHA-256 of the 12 bytes. -/
def LmsBank.valid (b : LmsBank) : Bool := decide (b.magic = 0x54534D4C) && decide (b.marker = sha256 b.bytes)

/-- An LMS-state bank as a store writes it. -/
def lmsBank (seq limit : Nat) : LmsBank :=
  let b : LmsBank := { magic := 0x54534D4C, seq := seq, limit := limit }
  { b with marker := sha256 b.bytes }

/-- The valid bank with the higher SEQ, bank A with equal SEQ; true: bank A. -/
def pickBank (ma : Bool) (sa : Nat) (mb : Bool) (sb : Nat) : Option Bool :=
  match ma, mb with
  | true, true => some (decide (sb ≤ sa))
  | true, false => some true
  | false, true => some false
  | false, false => none

end Sys2Proof.Machine
end

