-- ==== Sys2Proof/Machine/Store.lean ====
section
/-! DEFINITION. Copies to the eNVM log (R382), the bank stores of configuration, calibration and statistics (R320, R372,
R375 to R377, R614), and the replies that wait for them. -/

namespace Sys2Proof.Machine

/-! ### The eNVM log -/

/-- An entry appended to the eNVM ring (R382). -/
def Nvm.put (m : Nvm) (e : LogEntry) : Nvm := { m with log := (m.log ++ [e]).drop (m.log.length + 1 - nvmLogEntries) }

/-- A power-fail condition holds (R560): no eNVM erase or program starts. -/
def Dev.pfail (d : Dev) : Bool := decide (d.nat O.pwSupplyWarn ≠ 0) || d.pw.wake1Low

/-- The oldest entry awaiting eNVM is copied, or its write fails: event 127 with cause 2, and the entry stays in the RAM log
only (R382). -/
def Dev.logCopy (d : Dev) (ok : Bool) : Dev :=
  match d.log.pend with
  | [] => d
  | e :: t =>
    if d.pfail then d
    else if ok then { d with log := { d.log with pend := t }, nvm := d.nvm.put e }
    else
      let ram := d.log.ram.map (fun x => if x.seq = e.seq then { x with vflags := withBit x.vflags 5 false } else x)
      (({ d with log := { d.log with pend := t, ram := ram } }).setN O.lgLgAlertCause 2).raise 127 2

/-- Every entry awaiting eNVM is copied. -/
def Dev.logFlush (d : Dev) : Dev :=
  { d with log := { d.log with pend := [] }, nvm := d.log.pend.foldl Nvm.put d.nvm }

/-- A KIND 3 record with origin F written straight to the eNVM log as well as to the RAM ring. -/
def Dev.recordNv (d : Dev) (code old new : Nat) : Dev := (d.record code old new).logFlush

/-! ### Replies that wait for a store (R377) -/

/-- A reply handed to its requester: over a transport, or into the dictionary port of a core (port 0; `dest` is 2 · core +
bank), where the port's DONE bit and flag are set. A reply whose session has ended is not sent. -/
def Dev.reply (d : Dev) (port dest opcode session tag : Nat) (body : List Byte) : Dev :=
  if port = 0 then
    let p := Tab.get {} d.ports dest
    let d1 := { d with ports := Tab.set {} d.ports dest { p with busy := false, done := true, rsp := body } }
    if p.doneBit < 1024 then { d1 with lflags := Tab.set false d1.lflags (1024 * (dest / 2) + p.doneBit) true } else d1
  else if session ≠ 0 ∧ (d.sessionByNum session).isNone then d
  else
    let c := d.compose port dest opcode 1 session tag body
    let h := c.2.hand c.1
    if h.2 then h.1.raise 99 0 else h.1

/-- A store of kind `k` has ended: replies whose last awaited store succeeded go out, and after a failure the replies it
covers go out with STORE_FAILED. -/
def Dev.storeReplies (d : Dev) (k : StoreKind) (ok : Bool) : Dev :=
  let step := fun (x : Dev) (r : Durable) =>
    if r.taken.any (fun t => decide (t = k)) then
      let r2 := { r with waits := r.waits.filter (fun t => decide (t ≠ k)), taken := r.taken.filter (fun t => decide (t ≠ k)) }
      let y : Dev := { x with host := { x.host with left := x.host.left ++ r.writes } }
      if !ok then y.reply r.port r.dest r.opcode r.session r.tag r.failed
      else if r2.waits.isEmpty then y.reply r.port r.dest r.opcode r.session r.tag r.body
      else { x with host := { x.host with durable := x.host.durable ++ [r2] } }
    else { x with host := { x.host with durable := x.host.durable ++ [r] } }
  d.host.durable.foldl step { d with host := { d.host with durable := [] } }

/-- The running store of kind `k` covers every reply that waits for that kind. -/
def Dev.storeTakes (d : Dev) (k : StoreKind) : Dev :=
  { d with host := { d.host with durable := d.host.durable.map (fun r =>
      if r.waits.any (fun t => decide (t = k)) then { r with taken := k :: r.taken.filter (fun t => decide (t ≠ k)) } else r) } }

/-! ### Due stores (R614) -/

/-- The mono time at which a kind of store is due. -/
def Dev.storeDue (d : Dev) (k : StoreKind) : Option Nat :=
  match k with
  | .cfg => d.store.cfgDue
  | .cal => d.store.calDue
  | .lms => d.store.lmsDue
  | .stats => some (d.store.ckptAt + d.nat O.lgCkptS * 1000000000)

/-- A store of kind `k`, due at `t`, may start: none runs, no power-fail condition holds, and no other kind that is due fell
due before it. -/
def Dev.storeTurn (d : Dev) (k : StoreKind) (t : Nat) : Bool :=
  d.store.job.isNone && !d.pfail && d.serverUp &&
  [StoreKind.cfg, StoreKind.cal, StoreKind.stats, StoreKind.lms].all (fun j =>
    decide (j = k) || (match d.storeDue j with | some u => !(decide (u ≤ d.mono) && decide (u < t)) | none => true))

/-! ### Configuration store (R376) -/

/-- Bytes of one serialisation record. -/
def recordLen (o : Nat) (v : Val) : Nat := 8 + ((Dict.ty o).encode v).length

/-- Elements of a row that exist on a part. -/
def Row.count (part area : Nat) (r : Row) : Nat :=
  if part = 2 ∧ (area = 5 ∨ area = 12 ∨ area = 15) then ((r.oids area).filter (fun o => !Dict.lacks part o)).length
  else r.na * r.nb * r.ne

/-- Bytes of the canonical serialisation of a class over all areas, every object at its present value; a BLOB's present
length counts (R374). -/
def Dev.serialLength (d : Dev) (c : Cls) : Nat :=
  let fixed := ((List.range 19).flatMap (fun a => ((rowsOf a).filter (fun r => decide (r.cls = c))).map (fun r =>
    r.count d.part a * (8 + (match r.ty with | .blob _ => 0 | .str n => n | t => t.size))))).sum
  let blobs := (d.objs.filter (fun p => decide (Dict.cls p.1 = c))).map (fun p => match Dict.ty p.1 with | .blob _ => p.2.raw.length | _ => 0)
  fixed + blobs.sum + (d.udef.map (fun p => if c = .P then recordLen p.1 p.2 else 0)).sum

/-- LENGTH of a configuration bank that holds the present values (Table 13.7). -/
def Dev.cfgLength (d : Dev) : Nat := 64 + d.serialLength .P

/-- The active configuration bank's SEQ: CFG_SEQ, 0 with no valid bank. -/
def Dev.cfgStoreStart (d : Dev) : Dev :=
  match d.store.cfgDue with
  | none => d
  | some t =>
    let d0 := d.clockTo t
    if d0.storeTurn .cfg t then
      let seq := d0.nat O.lgCfgSeq + 1
      let toA := decide (d0.nat O.lgCfgBank ≠ 1)
      let d1 := (d0.logFlush).recordNv 2 seq d0.store.cfgCover
      let b := d1.bankNow .P seq
      let d2 := if toA then { d1 with nvm := { d1.nvm with cfgA := {} } } else { d1 with nvm := { d1.nvm with cfgB := {} } }
      ({ d2 with store := { d2.store with job := some { kind := .cfg, toA := toA, cfg := b }, cfgDue := none } }).storeTakes .cfg
    else d

/-- CFG_STORE_DONE (R376): the bank becomes active, or the store fails and is tried again after STORE_DELAY_MS. -/
def Dev.cfgStoreDone (d : Dev) (ok : Bool) : Dev :=
  match d.store.job with
  | some j =>
    if j.kind = .cfg then
      let d1 := { d with store := { d.store with job := none } }
      if ok then
        let d2 := if j.toA then { d1 with nvm := { d1.nvm with cfgA := j.cfg } } else { d1 with nvm := { d1.nvm with cfgB := j.cfg } }
        let d3 := ((((d2.setN O.lgCfgBank (if j.toA then 1 else 2)).setN O.lgCfgSeq j.cfg.seq).setN O.lgCfgLastStore j.cfg.tStore).setN
          O.lgCfgLen j.cfg.length).setB O.lgCfgDirty d2.store.cfgDue.isSome
        (d3.recordNv 3 j.cfg.seq 0).storeReplies .cfg true
      else
        let due := match d1.store.cfgDue with
          | some t => t
          | none => d1.mono + d1.nat O.lgStoreDelayMs * 1000000
        ((({ d1 with store := { d1.store with cfgDue := some due } }).setN O.lgLgAlertCause 3).raise 127 3).storeReplies .cfg false
    else d
  | none => d

/-! ### Calibration store (R319, R320) -/

/-- A calibration store falls due, for a reason of Table 11.4. -/
def Dev.calStoreDue (d : Dev) (reason : Nat) : Dev :=
  { d with
    store := { d.store with calDue := some (d.store.calDue.getD d.mono), calCover := d.log.next - 1 }
    cal := { d.cal with reason := reason } }

/-- The factory entries set, with FX_COUNT; their commit is stored with REASON 4 (R319, Table 11.4). -/
def Dev.fxSet (d : Dev) (l : List (List Byte)) : Dev :=
  (({ d with cal := { d.cal with fx := l } } : Dev).setN O.caFxCount l.length).calStoreDue 4

/-- A commit of FX_ENTRY (R319): entry FX_INDEX replaced, or added after the last (log 100). -/
def Dev.fxWrite (d : Dev) (b : List Byte) : Dev :=
  let i := d.nat O.caFxIndex
  if i < d.cal.fx.length then d.fxSet (d.cal.fx.set i b) else d.fxSet (d.cal.fx ++ [b])

/-- A commit of FX_COUNT: entries past it go, and entries that it adds hold zeros (log 100). -/
def Dev.fxResize (d : Dev) (n : Nat) : Dev := d.fxSet (d.cal.fx.take n ++ List.replicate (n - d.cal.fx.length) (zeroBytes 16))

/-- Whether a write of FX_ENTRY or FX_COUNT is refused with STATE: only the ZF9663-PX holds factory entries, at most 2,048 (R2, Table 11.4;
log 100). -/
def Dev.fxRefused (d : Dev) (o n : Nat) : Bool :=
  decide (d.part ≠ 1) || (if o = O.caFxEntry then decide (d.cal.fx.length < d.nat O.caFxIndex) || decide (2048 ≤ d.nat O.caFxIndex) else decide (2048 < n))

/-- CAL_STORE_START (R320). -/
def Dev.calStoreStart (d : Dev) (temp : Int) : Dev :=
  match d.store.calDue with
  | none => d
  | some t =>
    let d0 := d.clockTo t
    if d0.storeTurn .cal t then
      let seq := d0.nat O.caCalSeq + 1
      let toA := decide (d0.nat O.caCalBank ≠ 1)
      let d1 := (d0.logFlush).recordNv 5 seq d0.store.calCover
      let b := d1.calNow seq temp
      let d2 := if toA then { d1 with nvm := { d1.nvm with calA := {} } } else { d1 with nvm := { d1.nvm with calB := {} } }
      ({ d2 with store := { d2.store with job := some { kind := .cal, toA := toA, cal := b }, calDue := none } }).storeTakes .cal
    else d

/-- The reference procedure ends once its record is stored (R316): DONE, or FAILED when a target failed; event 43 with cause
3. -/
def Dev.refStored (d : Dev) : Dev :=
  if d.nat O.caRefState = 3 then
    ((d.setN O.caRefState (if d.nat O.caRefFailed = 0 then 4 else 5)).setN O.caLastCause 3).raise 43 0xFF03
  else d

/-- CAL_STORE_DONE (R320). A failed store leaves the active bank and is tried again 100 ms later (log 118). -/
def Dev.calStoreDone (d : Dev) (ok : Bool) : Dev :=
  match d.store.job with
  | some j =>
    if j.kind = .cal then
      let d1 := { d with store := { d.store with job := none } }
      if ok then
        let d2 := if j.toA then { d1 with nvm := { d1.nvm with calA := j.cal } } else { d1 with nvm := { d1.nvm with calB := j.cal } }
        let d3 := (({ d2 with cal := { d2.cal with seed := j.cal.seed } } : Dev).setN O.caCalBank (if j.toA then 1 else 2)).setN O.caCalSeq j.cal.seq
        ((d3.recordNv 6 j.cal.seq 0).storeReplies .cal true).refStored
      else
        ({ d1 with store := { d1.store with calDue := some (d1.store.calDue.getD (d1.mono + 100000000)) } }).storeReplies .cal false
    else d
  | none => d

/-! ### Statistics (R372) -/

/-- The statistics bank to take, if any (R372). -/
def Nvm.statPick (m : Nvm) : Option Bool := pickBank (m.statA.valid .S) m.statA.seq (m.statB.valid .S) m.statB.seq

/-- The checkpoint itself: the inactive bank takes every S value, and a CKPT record is written. It is one step, so no other store runs beside it (log
5). -/
def Dev.checkpoint (d : Dev) : Dev :=
  let p := d.nvm.statPick
  let seq := (match p with | some true => d.nvm.statA.seq | some false => d.nvm.statB.seq | none => 0) + 1
  let toA := decide (p ≠ some true)
  let b := d.bankNow .S seq
  let d1 := if toA then { d with nvm := { d.nvm with statA := b } } else { d with nvm := { d.nvm with statB := b } }
  ({ d1 with store := { d1.store with ckptAt := d1.mono } }).recordNv 10 seq 0

/-- STATS_CHECKPOINT: every CKPT_S seconds, when its turn comes (R614). -/
def Dev.statsCheckpoint (d : Dev) : Dev :=
  let t := d.store.ckptAt + d.nat O.lgCkptS * 1000000000
  let d0 := d.clockTo t
  if d0.storeTurn .stats t then d0.checkpoint else d

/-! ### Rows -/

/-- CFG_STORE_START (R376). -/
def execCfgStoreStart (s : State) : Host.Outcome State Fault Refusal := s.upd Dev.cfgStoreStart
/-- STATS_CHECKPOINT (R372). -/
def execStatsCheckpoint (s : State) : Host.Outcome State Fault Refusal := s.upd Dev.statsCheckpoint
/-- LOG_NV_COPY (R382). -/
def execLogNvCopy (ok : Bool) (s : State) : Host.Outcome State Fault Refusal := s.upd (fun d => d.logCopy ok)

end Sys2Proof.Machine
end

