-- ==== Sys2Proof/Machine/Cal.lean ====
section
/-! DEFINITION. Calibration (chapter 11): power-up calibration, the due lanes, the Lamp Changer, ramped corrections, the
reference procedure, level uncertainty and the Buoy-link synthesiser's channels. -/

namespace Sys2Proof.Machine

/-! ### Quality figures (R301) -/

/-- The lanes of the part: A–G, without E and F on the ZF9463-AQ (R1). -/
def Dev.laneList (d : Dev) : List Nat := (List.range 7).filter (fun n => decide (n = 6) || decide (n < d.chains))

/-- The worst of some figures (R301). -/
def worst (l : List Int) : Int := l.foldl min (l.headD (-32768))

/-- CQF of some items of a lane set to the worst of their figures, with event 45 for each below its CQF_MIN. -/
def Dev.cqfSet (d : Dev) (n : Nat) (items : List Nat) (figs : List (List Int)) : Dev :=
  items.foldl (fun x i =>
    let q := worst (figs.getD i [])
    let y := x.setN (O.caCqf n i) q
    if q < y.num (O.caCqfMin i) then y.raise 45 (256 * n + i) else y) d

/-! ### Coarse selections (R302, R304) -/

/-- An element is replaced when it fails, or its error exceeds half the range of its stage's trim DAC. -/
def elemBad (m : ElemMeas) : Bool := m.failed || decide (500 < m.err)

/-- The lowest-numbered unused spare of an element's kind in its stage: of two comparators, or of four capacitor units. -/
def spareFor (l : List ElemSel) (m : ElemMeas) : Option Nat :=
  (List.range (if m.cap then 4 else 2)).find? (fun k => !l.any (fun e =>
    decide (e.sub = m.sub) && decide (e.stage = m.stage) && decide (e.cap = m.cap) && decide (e.spare = k)))

/-- An element replaced where it must be and a spare remains; where none does, it stays in use. A spare that fails in its turn is replaced as the element it
stands for, and stays used. -/
def elemReplace (l : List ElemSel) (m : ElemMeas) : List ElemSel :=
  if !elemBad m then l
  else
    match spareFor l m with
    | none => l
    | some k =>
      l.map (fun e => if e.sub = m.sub ∧ e.stage = m.stage ∧ e.cap = m.cap ∧ e.idx = m.idx then { e with live := false } else e) ++
        [{ sub := m.sub, stage := m.stage, cap := m.cap, idx := m.idx, spare := k, live := true }]

/-- The coarse selections of a lane. -/
def Dev.laneSel (d : Dev) (n : Nat) : LaneSel := Tab.get {} d.cal.sel n

/-- They change; SPARES_USED shows the spare elements in use. -/
def Dev.setLaneSel (d : Dev) (n : Nat) (s : LaneSel) : Dev :=
  ({ d with cal := { d.cal with sel := Tab.set {} d.cal.sel n s } }).setN (O.caSparesUsed n) (satU 8 ((s.elems.filter (fun (e : ElemSel) => e.live)).length : Nat) : Nat)

/-- Due causes of a lane: bit 0 time, bit 1 temperature, bit 2 command, bit 3 a command during a hand-over (R308, R313). -/
def Dev.dueBits (d : Dev) (n : Nat) : Nat := Tab.get 0 d.cal.due n

/-- The due causes replaced; LANE_DUE shows the highest-ranking (R308). -/
def Dev.setDue (d : Dev) (n b : Nat) : Dev :=
  ({ d with cal := { d.cal with due := Tab.set 0 d.cal.due n b } }).setN (O.caLaneDue n)
    (if b.testBit 2 ∨ b.testBit 3 then 3 else if b.testBit 1 then 2 else if b.testBit 0 then 1 else 0)

/-- A lane has been calibrated: its due causes end, but for a command that came during a hand-over. -/
def Dev.dueClear (d : Dev) (n : Nat) : Dev := d.setDue n (if (d.dueBits n).testBit 3 then 8 else 0)

/-- LANE_LAST_T and LANE_LAST_TEMP of a lane taken now. -/
def Dev.laneStamp (d : Dev) (n : Nat) : Dev := (d.setN (O.caLaneLastT n) d.now).setN (O.caLaneLastTemp n) (d.num (O.pwTemp n))

/-- A calibration of a lane counted, with TRIM_MARGIN: the smallest trim range left (R303). -/
def Dev.laneCounted (d : Dev) (n : Nat) (r : LaneReport) : Dev :=
  (d.inc (O.caLaneCalCount n)).setN (O.caTrimMargin n) (r.margins.foldl min (r.margins.headD 0) : Nat)

/-- Items 0–3 of a lane calibrated in service (R302): elements that power-up calibration or an earlier one replaced stay out of use. -/
def Dev.laneResults (d : Dev) (n : Nat) (r : LaneReport) : Dev :=
  ((d.cqfSet n [0, 1, 2, 3] r.figs).setLaneSel n { d.laneSel n with elems := r.elems.foldl elemReplace (d.laneSel n).elems }).laneCounted n r

/-- A lane at power-up calibration: every element is tested again, and the corners of its doors are selected (R302, R304). -/
def Dev.laneRetested (d : Dev) (n : Nat) (corners : List Nat) (r : LaneReport) : Dev :=
  (((d.setLaneSel n { elems := r.elems.foldl elemReplace [], corners := corners }).laneCounted n r).laneStamp n).dueClear n

/-! ### Power-up calibration (R306, R307) -/

/-- Power-up calibration starts on some lanes (bits 0 A to 6 G). -/
def Dev.calStart (d : Dev) (lanes : Nat) : Dev :=
  if lanes = 0 then d
  else
    let d1 := d.chainList.foldl (fun x n =>
      if lanes.testBit n then (x.setN (O.cpChainState n) 1).setChain n { x.chain n with calSince := some x.mono } else x) d
    { d1 with cal := { d1.cal with runs := d1.cal.runs ++ [(lanes, d1.mono)] } }

/-- The enabled chains, as a mask of lanes. -/
def Dev.enabledLanes (d : Dev) : Nat := d.chainList.foldl (fun m n => if d.flag (O.cpChainEnable n) then withBit m n true else m) 0

/-- A chain leaves every calibration under way. -/
def Dev.calQuit (d : Dev) (n : Nat) : Dev :=
  let d1 := d.setChain n { d.chain n with calSince := none }
  { d1 with cal := { d1.cal with runs := (d1.cal.runs.map (fun (p : Nat × Nat) => (withBit p.1 n false, p.2))).filter (fun p => decide (p.1 ≠ 0)) } }

/-- One chain at the end of its power-up calibration. -/
def Dev.chainCalDone (d : Dev) (r : CalReport) (n : Nat) : Dev :=
  let d1 := d.setChain n { d.chain n with calSince := none }
  if (List.range 3).any (fun i => r.noTone.testBit (3 * n + i)) then
    ((((d1.setN (O.cpChainState n) 3).setN O.caLastCause 7).raise 44 (256 * n + 7)).chainContexts n).feedRelease n
  else
    let d2 := (d1.setChain n { d1.chain n with calRun := (d1.chain n).calRun + 1 }).setN (O.cpChainState n) 2
    let q := r.lanes.getD n { figs := [], elems := [], margins := [] }
    let d3 := d2.cqfSet n [0, 1, 2, 3, 4, 5, 6, 7, 8, 9, 10] (q.figs.set 9 [r.synth])
    (((d3.laneRetested n (r.corners.getD n []) q).doorsShow n).chainContexts n).feedRelease n

/-- A coarse selection that differs from the seed is stored once per power-up, after full operation (R319). -/
def Dev.coarseStore (d : Dev) : Dev :=
  if d.cal.coarse && d.pw.full && !d.cal.coarseDone then
    ({ d with cal := { d.cal with coarse := false, coarseDone := true } }).calStoreDue 1
  else d

/-- Start-up: the power-up calibration of the lanes has completed, and every feed still held is released, that of a chain with CHAIN_ENABLE 0 too (R67,
R68). -/
def Dev.feedsFree (d : Dev) : Dev :=
  if d.pw.phase = .starting then d.chainList.foldl (fun (x : Dev) n => if (x.chain n).feedHeld then x.feedRelease n else x) d else d

/-- A power-up calibration completes (R306): the oldest one under way. -/
def Dev.powerupCalDone (d : Dev) (r : CalReport) : Dev :=
  match d.cal.runs with
  | [] => d
  | (lanes, t) :: rest =>
    let d0 := (({ d with cal := { d.cal with runs := rest } } : Dev).clockTo (t + r.us * 1000)).setN O.caPowerupUs r.us
    let d1 := d0.chainList.foldl (fun x n => if lanes.testBit n then x.chainCalDone r n else x) d0
    let d2 := if lanes.testBit 6 then
        let q := r.lanes.getD 6 { figs := [], elems := [], margins := [] }
        (d1.cqfSet 6 [0, 1, 2, 3] q.figs).laneRetested 6 [] q
      else d1
    let new := (List.range 7).any (fun n => lanes.testBit n && decide (d2.laneSel n ≠ Tab.get {} d2.cal.seed n))
    ({ d2.raise 42 lanes with cal := { (d2.raise 42 lanes).cal with coarse := d2.cal.coarse || new } } : Dev).feedsFree.coarseStore

/-! ### Lane due causes (R308) -/

/-- LANE_DUE_TIME: INTERVAL_S seconds since LANE_LAST_T. -/
def Dev.laneDueTime (d : Dev) (n : Nat) : Dev :=
  let s := d.nat O.caIntervalS
  if s = 0 ∨ !d.laneList.any (fun x => decide (x = n)) ∨ (d.dueBits n).testBit 0 then d
  else
    let d1 := d.timeTo (d.nat (O.caLaneLastT n) + s * 1000000000)
    d1.setDue n (withBit (d1.dueBits n) 0 true)

/-- A write of 1 to LANE_CAL_CMD (R308, R313). -/
def Dev.laneCalCmd (d : Dev) (n : Nat) : Dev :=
  if d.laneList.any (fun x => decide (x = n)) then d.setDue n (withBit (d.dueBits n) (if d.nat O.cpLanegStage = 0 then 2 else 3) true) else d

/-- The temperature trigger of every lane, at a reading of the sensors (R308). -/
def Dev.laneTemps (d : Dev) : Dev :=
  let k := d.nat O.caTempDelta
  if k = 0 then d
  else d.laneList.foldl (fun x n =>
    if 100 * k ≤ (x.num (O.pwTemp n) - x.num (O.caLaneLastTemp n)).natAbs then x.setDue n (withBit (x.dueBits n) 1 true) else x) d

/-! ### Ramps (R305) -/

/-- A ramp's value, term by term. -/
def Ramp.at (r : Ramp) : List Int := (List.range r.b.length).map (fun i =>
  let a := r.a.getD i 0
  a + (r.b.getD i 0 - a) * (r.step : Int) / 256)

/-- A ramp of correction `k` starts towards `b` from the value reached, or from `a` where none runs. -/
def Dev.rampTo (d : Dev) (k : Nat) (a b : List Int) : Dev :=
  let r := Tab.get {} d.cal.ramps k
  let r2 : Ramp := { a := if r.running then r.at else a, b := b, step := 0, running := true, since := d.mono, ms := d.nat O.caRampMs }
  ({ d with cal := { d.cal with ramps := Tab.set {} d.cal.ramps k r2 } }).sweepMarkAll (fun i => { i with ramp := true })

/-- The alignment terms of lane G as its objects hold them: delay, gains, phases. -/
def Dev.alignTerms (d : Dev) : List Int :=
  d.num O.cpAlignDelay :: ((List.range 3).map (fun i => d.num (O.cpAlignGain i)) ++ (List.range 3).map (fun i => d.num (O.cpAlignPhase i)))

/-- The alignment objects set. -/
def Dev.setAlign (d : Dev) (l : List Int) : Dev :=
  let d1 := d.setN O.cpAlignDelay (l.getD 0 0)
  let d2 := (List.range 3).foldl (fun x i => x.setN (O.cpAlignGain i) (l.getD (1 + i) 0)) d1
  (List.range 3).foldl (fun x i => x.setN (O.cpAlignPhase i) (l.getD (4 + i) 0)) d2

/-- A ramp ends. -/
def Dev.rampQuit (d : Dev) (k : Nat) : Dev :=
  if (Tab.get {} d.cal.ramps k).running then { d with cal := { d.cal with ramps := Tab.set {} d.cal.ramps k {}, rampEnd := d.mono } } else d

/-- CAL_RAMP_STEP: one of 256 equal steps, every RAMP_MS / 256. -/
def Dev.rampStep (d : Dev) (k : Nat) : Dev :=
  let r := Tab.get {} d.cal.ramps k
  if r.running then
    let d := d.clockTo (r.since + (r.step + 1) * r.ms * 1000000 / 256)
    let r2 := { r with step := r.step + 1 }
    let d1 := if r2.step < 256 then { d with cal := { d.cal with ramps := Tab.set {} d.cal.ramps k r2 } } else d.rampQuit k
    if k = 0 then d1.setAlign r2.at
    else
      let n := (k - 1) / 4
      d1.doorsShow n
  else d

/-! ### The Lamp Changer (Table 11.3) -/

/-- A stage of lane G entered. -/
def Dev.laneGGo (d : Dev) (st : Nat) : Dev := ({ d with cal := { d.cal with stageAt := d.mono } }).setN O.cpLanegStage st

/-- Lane G powers down and is IDLE; commands that came during the hand-over stay due. -/
def Dev.laneGIdle (d : Dev) : Dev :=
  let d1 := ((d.spanClose (d.nat O.cpLanegChain) 3 tagLane).laneGGo 0).setN O.cpLanegChain 255
  let d2 := d1.rampQuit 0
  d2.laneList.foldl (fun x n => if (x.dueBits n).testBit 3 then x.setDue n (withBit (withBit (x.dueBits n) 3 false) 2 true) else x) d2

/-- LANE of chain `n` changed, with event 19 + 4n (R70). -/
def Dev.laneSet (d : Dev) (n v : Nat) : Dev :=
  ((((d.setN (O.cpLane n) v).sweepMark n (fun i => { i with lane := true, laneG := i.laneG || decide (v = 2) })).mfMark (512 + 2 * n)).mfMark
    (513 + 2 * n)).raise (19 + 4 * n) v

/-- LANE goes from 2 back to 1, lane G still carrying the chain: a stage, without event 19 + 4n (R70, Table 11.3). -/
def Dev.laneBack (d : Dev) (n : Nat) : Dev :=
  (((d.setN (O.cpLane n) 1).sweepMark n (fun i => { i with lane := true })).mfMark (512 + 2 * n)).mfMark (513 + 2 * n)

/-- A crossfade on chain `n` begins: its samples carry LANE (Table 3.2). -/
def Dev.xfadeOpen (d : Dev) (n : Nat) : Dev := d.spanOpen n 3 tagLane

/-- It ends. -/
def Dev.xfadeClose (d : Dev) (n : Nat) : Dev := d.spanClose n 3 tagLane

/-- Lane G connects to the chain it serves: OVERLAP_IN. -/
def Dev.laneGOverlap (d : Dev) : Dev := (d.laneSet (d.nat O.cpLanegChain) 1).laneGGo 3

/-- LANEG_WARM_DONE: 200 µs after power-up of lane G. -/
def Dev.laneGWarm (d : Dev) : Dev :=
  if d.nat O.cpLanegStage = 1 then
    let d1 := d.clockTo (d.cal.stageAt + 200000)
    if d1.nat (O.caLaneDue 6) ≠ 0 then d1.laneGGo 2 else d1.laneGOverlap
  else d

/-- LANEG_SELF_CAL_DONE. -/
def Dev.laneGSelf (d : Dev) (r : LaneReport) : Dev :=
  if d.nat O.cpLanegStage = 2 then
    let d1 := ((d.laneResults 6 r).laneStamp 6).dueClear 6
    if d1.nat O.cpLanegChain = 255 then ((d1.laneGIdle).setN O.caLastCause 2).raise 43 0x602
    else d1.laneGOverlap
  else d

/-- An alignment within the limits of R312, its usable samples apart. -/
def alignWithin (a : Align) : Bool :=
  decide (a.delay.natAbs ≤ 2000) && a.gains.all (fun g => decide (g.natAbs ≤ 100)) && a.phases.all (fun p => decide (p.natAbs ≤ 1000))

/-- The terms of an alignment, clamped to the limits of R312. -/
def alignClamped (a : Align) : List Int :=
  clampI (-2000) 2000 a.delay :: (a.gains.map (clampI (-100) 100) ++ a.phases.map (clampI (-1000) 1000))

/-- OVERLAP_IN_DONE: 2 ms of overlap; the alignment is applied, or the hand-over aborts. -/
def Dev.overlapIn (d : Dev) (a : Align) : Dev :=
  if d.nat O.cpLanegStage = 3 then
    let n := d.nat O.cpLanegChain
    let d1 := d.after d.cal.stageAt 2
    if alignWithin a && d1.overlapUsable n (d1.sampleIndex - 786432) d1.sampleIndex then ((d1.setAlign (alignClamped a)).laneGGo 4).xfadeOpen n
    else (((d1.laneSet n 0).laneGIdle).inc O.cpAborts |>.setN O.caLastCause 4).raise 44 (256 * n + 4)
  else d

/-- XFADE_IN_DONE: lane G serves, and lane n recalibrates. -/
def Dev.xfadeIn (d : Dev) : Dev :=
  if d.nat O.cpLanegStage = 4 then ((((d.after d.cal.stageAt 1).xfadeClose (d.nat O.cpLanegChain)).laneSet (d.nat O.cpLanegChain) 2).laneGGo 5) else d

/-- LANE_RECAL_DONE: the recalibration of lane n completes, or fails and its corrections stay. LANE reads 1 again. -/
def Dev.laneRecal (d : Dev) (ok : Bool) (r : LaneReport) : Dev :=
  if d.nat O.cpLanegStage = 5 then
    let n := d.nat O.cpLanegChain
    let d1 := if ok then
        let x := d.laneResults n r
        (x.setChain n { x.chain n with calRun := (x.chain n).calRun + 1 }).doorsShow n
      else (d.setN O.caLastCause 5).raise 44 (256 * n + 5)
    (d1.laneBack n).laneGGo 6
  else d

/-- OVERLAP_OUT_DONE: the alignment term of lane G is ramped onto the difference measured. -/
def Dev.overlapOut (d : Dev) (a : Align) : Dev :=
  if d.nat O.cpLanegStage = 6 then
    let d1 := d.after d.cal.stageAt 2
    (d1.rampTo 0 d1.alignTerms (alignClamped a)).laneGGo 7
  else d

/-- RAMP_OUT_DONE: the ramp has taken its 256 steps. -/
def Dev.rampOut (d : Dev) : Dev :=
  if d.nat O.cpLanegStage = 7 then
    let r := Tab.get {} d.cal.ramps 0
    let d1 := if r.running then ((d.clockTo (r.since + r.ms * 1000000)).rampQuit 0).setAlign r.b else d
    (d1.laneGGo 8).xfadeOpen (d1.nat O.cpLanegChain)
  else d

/-- XFADE_OUT_DONE: the chain is on its own lane again. -/
def Dev.xfadeOut (d : Dev) : Dev :=
  if d.nat O.cpLanegStage = 8 then
    let n := d.nat O.cpLanegChain
    let d1 := (((((d.after d.cal.stageAt 1).xfadeClose n).laneSet n 0).laneStamp n).dueClear n).laneGIdle
    ((d1.inc O.cpHandovers).setN O.caLastCause 1).raise 43 (256 * n + 1)
  else d

/-- Lane G released from chain `n` (R69). -/
def Dev.laneGRelease (d : Dev) (n : Nat) : Dev :=
  if d.nat O.cpLanegStage ≠ 0 ∧ d.nat O.cpLanegChain = n then
    (if d.nat (O.cpLane n) ≠ 0 then d.laneSet n 0 else d).laneGIdle
  else d

/-- Lane G and its work stop with the lane island. -/
def Dev.laneGStop (d : Dev) : Dev :=
  if d.nat O.cpLanegStage = 0 then d
  else
    let n := d.nat O.cpLanegChain
    (if n ≠ 255 ∧ d.nat (O.cpLane n) ≠ 0 then d.laneSet n 0 else d).laneGIdle

/-! ### CHAIN_ENABLE (R69, R306) -/

/-- A chain's lane powered down: OFF, out of any calibration, contexts to HOLD. -/
def Dev.chainOff (d : Dev) (n : Nat) : Dev :=
  (((d.laneGRelease n).calQuit n).setN (O.cpChainState n) 0).chainContexts n

/-- CHAIN_ENABLE changed while the lane island runs. A chain whose power-up calibration it ends has its feed released: at a return to RUN the hold lasts no
longer than that calibration (R67, R68). -/
def Dev.chainEnabled (d : Dev) (n : Nat) (lanesOn : Bool) : Dev :=
  if d.flag (O.cpChainEnable n) then
    let d1 := (d.mfClear (512 + 2 * n)).mfClear (513 + 2 * n)
    if lanesOn ∧ d1.nat (O.cpChainState n) = 0 then d1.calStart (2 ^ n) else d1
  else
    let x := d.chainOff n
    if d.pw.phase ≠ .starting ∧ (d.chain n).calSince.isSome then x.feedRelease n else x

/-! ### Level uncertainty (R317) -/

/-- LEVEL_UNC of door band j (R317), in 0.01 dB. -/
def Dev.levelUncNow (d : Dev) (j : Nat) : Nat :=
  let r := Tab.get {} d.cal.refs j
  let t := d.dieTemp
  if r.valid then
    let flat := if j % 4 < 2 then 2000 else 3000
    (isqrt ((200 * r.unc) ^ 2 + 1000 ^ 2 + flat ^ 2 + (t - r.temp).natAbs ^ 2) + 100) / 200
  else if d.part = 1 then
    match d.cal.fx.find? (fun b => decide (leAt b 0 1 = j)) with
    | some b => (isqrt ((200 * leAt b 8 2) ^ 2 + (t - 2500).natAbs ^ 2) + 100) / 200
    | none => 300
  else 300

/-- LEVEL_UNC of every door band of the part. -/
def Dev.levelUncs (d : Dev) : Dev := (List.range (4 * d.chains)).foldl (fun x j => x.setN (O.caLevelUnc j) (satU 16 (x.levelUncNow j) : Nat)) d

/-! ### The reference procedure (R315, R316) -/

/-- The doors that REF_TARGETS names, of the chains the part has (R1). -/
def Dev.refTargets (d : Dev) : Nat := d.nat O.caRefTargets % 2 ^ (3 * d.chains)

/-- The code with which a write of 1 to REF_CMD is refused, if it is. -/
def Dev.refRefuse (d : Dev) : Option RC :=
  let t := d.refTargets
  let f := d.nat O.caRefFreq
  let out := (List.range 18).any (fun k => t.testBit k &&
    (let b := bandRf (d.bandOf (k / 3) (k % 3)); decide (f < b.1) || decide (b.2 < f)))
  if t = 0 ∨ out then some .invalidValue
  else if 1 ≤ d.nat O.caRefState ∧ d.nat O.caRefState ≤ 3 then some .state
  else none

/-- REF_CMD accepted. -/
def Dev.refStart (d : Dev) : Dev :=
  let d1 := ((d.setN O.caRefState 1).setN O.caRefDone 0).setN O.caRefFailed 0
  { d1 with cal := { d1.cal with targets := d1.refTargets } }

/-- The lowest target still to be tried is measured (R315, steps 1 and 2). -/
def Dev.refMeasure (d : Dev) : Dev :=
  match (List.range 18).find? (fun k => d.cal.targets.testBit k) with
  | some k =>
    let n := k / 3
    let i := k % 3
    let g := ((List.range 56).find? (fun g => decide (d.num O.caRefLevel + 1200 ≤ 400 - d.gainAt n i g))).getD 55
    let old := (d.door n i).g
    let d1 := d.setDoor n i { d.door n i with suspended := true }
    let d2 := if g = old then d1 else (d1.doorStep n i g).gainMark n (2 ^ i)
    (({ d2 with cal := { d2.cal with measuring := some (k, old, d2.mono), targets := withBit d2.cal.targets k false } } : Dev).setN
      O.caRefState 2).muteShow n
  | none => d

/-- A measurement passed: ABS_CORR and its ramp, and the reference entry (R316). -/
def Dev.refPass (d : Dev) (k : Nat) (level : Int) : Dev :=
  let n := k / 3
  let j := d.bandIndex n (k % 3)
  let new := d.num O.caRefLevel - level
  let old := d.num (O.caAbsCorr j)
  let e : RefEnt := { absCorr := new, unc := d.nat O.caRefUnc, level := d.num O.caRefLevel, temp := satS 16 d.dieTemp, freq := d.nat O.caRefFreq,
                      t := d.now, id := d.raw O.caRefId, valid := true }
  let d1 := (d.setN (O.caAbsCorr j) new).rampTo (1 + j) [old] [new]
  let d2 := { d1 with cal := { d1.cal with refs := Tab.set {} d1.cal.refs j e } }
  ((((d2.setN (O.caRefT j) d2.now).setN O.caRefDone (withBit (d2.nat O.caRefDone) k true)).setN (O.caLevelUnc j) (satU 16 (d2.levelUncNow j) : Nat)).doorsShow
    n).daymarksChanged true

/-- After a target: the next one waits for a window, or the record is stored (R316). -/
def Dev.refNext (d : Dev) : Dev := if d.cal.targets = 0 then (d.setN O.caRefState 3).calStoreDue 2 else d.setN O.caRefState 1

/-- REF_MEASURE_DONE (R315, R316), 10.5 ms after the door's input was switched: `tone` is the tone power at the converter in 0.01 dBFS, which the calibration
without ABS_CORR and the factory entries refers to the pin, `offset` its distance from REF_FREQ in Hz, and `snr` its SNR. -/
def Dev.refDone (d : Dev) (tone offset snr : Int) : Dev :=
  match d.cal.measuring with
  | none => d
  | some (k, old, at_) =>
    let d := d.clockTo (at_ + 10500000)
    let level := tone + 400 - d.toneGain (k / 3) (d.bandOf (k / 3) (k % 3)) (d.door (k / 3) (k % 3)).g
    let n := k / 3
    let i := k % 3
    let first := (List.range 3).all (fun b => !(d.nat O.caRefDone ||| d.nat O.caRefFailed).testBit (3 * n + b))
    let d1 := { d with cal := { d.cal with measuring := none } }
    let d2 := d1.setDoor n i { d1.door n i with suspended := false }
    let d3 := (if (d2.door n i).g = old then d2 else (d2.doorStep n i old).gainMark n (2 ^ i)).muteShow n
    let was := d3.num (O.caCqf n 11)
    let q := if first then snr else min was snr
    let lim := d3.num (O.caCqfMin 11)
    let d4 := d3.setN (O.caCqf n 11) q
    let d5 := if q < lim ∧ (first ∨ lim ≤ was) then d4.raise 45 (256 * n + 11) else d4
    let pass := decide (lim ≤ snr) && decide (offset.natAbs ≤ 1000) && decide ((d5.num O.caRefLevel - level).natAbs ≤ 300)
    let d6 := if pass then d5.refPass k level
      else ((d5.setN O.caRefFailed (withBit (d5.nat O.caRefFailed) k true)).setN O.caLastCause 6).raise 44 0xFF06
    d6.refNext

/-! ### Windows (R309, R310) -/

/-- Whether due lane `a` ranks before lane `b`: cause, then temperature change, then the lower lane (R309). -/
def Dev.laneBefore (d : Dev) (a b : Nat) : Bool :=
  let dt := fun n => (d.num (O.pwTemp n) - d.num (O.caLaneLastTemp n)).natAbs
  let r := fun n => d.nat (O.caLaneDue n)
  decide (r b < r a) || (decide (r a = r b) && (decide (dt b < dt a) || (decide (dt a = dt b) && decide (a < b))))

/-- The lane that a window with a LANE_MASK selects (R309). -/
def Dev.laneSelect (d : Dev) (mask : Nat) : Option Nat :=
  let c := d.chainList.filter (fun n => mask.testBit n && decide (d.nat (O.caLaneDue n) ≠ 0) && d.flag (O.cpChainEnable n))
  match c.foldl (fun (b : Option Nat) n => match b with
      | none => some n
      | some m => if d.laneBefore n m then some n else b) none with
  | some n => some n
  | none => if mask.testBit 6 ∧ d.nat (O.caLaneDue 6) ≠ 0 then some 6 else none

/-- A calibration-window slot run starts (R309, R310, R315). -/
def Dev.calWindow (d : Dev) (lanes items : Nat) : Dev :=
  let d1 := d.lsynTempCal
  let d2 := if items.testBit 0 ∧ d1.nat O.cpLanegStage = 0 then
      match d1.laneSelect lanes with
      | some 6 => (d1.setN O.cpLanegChain 255).laneGGo 2
      | some n => (d1.setN O.cpLanegChain n).laneGGo 1
      | none => d1
    else d1
  if items.testBit 1 ∧ d2.nat O.caRefState = 1 then d2.refMeasure else d2

/-! ### Buoy-link synthesiser (R322) -/

/-- All eight channels are to be calibrated. -/
def Dev.linkCal (d : Dev) : Dev := { d with cal := { d.cal with linkDue := 255 } }

/-- A channel's calibration stored. -/
def Dev.linkStored (d : Dev) (c : Nat) : Dev :=
  ({ d with cal := { d.cal with linkDue := withBit d.cal.linkDue c false, linkTemp := Tab.set 0 d.cal.linkTemp c d.dieTemp } }).setN O.caLinkCalValid
    (withBit (d.nat O.caLinkCalValid) c true)

/-- LINK_CHANNEL_CAL_DONE. -/
def Dev.linkChannelDone (d : Dev) (c : Nat) : Dev := if d.cal.linkDue.testBit c then d.linkStored c else d

/-- Calibrations that the die temperature has made invalid. -/
def Dev.linkTemps (d : Dev) : Dev :=
  (List.range 8).foldl (fun x c =>
    if 100 * x.nat O.caLinkTempDelta ≤ (x.dieTemp - Tab.get 0 x.cal.linkTemp c).natAbs then
      x.setN O.caLinkCalValid (withBit (x.nat O.caLinkCalValid) c false)
    else x) d

/-- What a reading of the sensors means to calibration (R308, R317, R322). -/
def Dev.calTemps (d : Dev) : Dev := d.laneTemps.linkTemps.levelUncs

/-! ### Rows -/

/-- LANE_DUE_TIME (R308). -/
def execLaneDueTime (n : Nat) (s : State) : Host.Outcome State Fault Refusal := s.upd (fun d => d.byKeeper 3 (fun x => x.laneDueTime n))
/-- LANEG_WARM_DONE (R311). -/
def execLanegWarmDone (s : State) : Host.Outcome State Fault Refusal := s.upd (fun d => d.byKeeper 3 Dev.laneGWarm)
/-- LANEG_SELF_CAL_DONE (R311). -/
def execLanegSelfCalDone (r : LaneReport) (s : State) : Host.Outcome State Fault Refusal := s.upd (fun d => d.byKeeper 3 (fun x => x.laneGSelf r))
/-- OVERLAP_IN_DONE (R311). -/
def execOverlapInDone (a : Align) (s : State) : Host.Outcome State Fault Refusal := s.upd (fun d => d.byKeeper 3 (fun x => x.overlapIn a))
/-- XFADE_IN_DONE (R311). -/
def execXfadeInDone (s : State) : Host.Outcome State Fault Refusal := s.upd (fun d => d.byKeeper 3 Dev.xfadeIn)
/-- LANE_RECAL_DONE (R311). -/
def execLaneRecalDone (ok : Bool) (r : LaneReport) (s : State) : Host.Outcome State Fault Refusal := s.upd (fun d => d.byKeeper 3 (fun x => x.laneRecal ok r))
/-- OVERLAP_OUT_DONE (R311). -/
def execOverlapOutDone (a : Align) (s : State) : Host.Outcome State Fault Refusal := s.upd (fun d => d.byKeeper 3 (fun x => x.overlapOut a))
/-- RAMP_OUT_DONE (R311). -/
def execRampOutDone (s : State) : Host.Outcome State Fault Refusal := s.upd (fun d => d.byKeeper 3 Dev.rampOut)
/-- XFADE_OUT_DONE (R311). -/
def execXfadeOutDone (s : State) : Host.Outcome State Fault Refusal := s.upd (fun d => d.byKeeper 3 Dev.xfadeOut)
/-- CAL_RAMP_STEP (R305). -/
def execCalRampStep (k : Nat) (s : State) : Host.Outcome State Fault Refusal := s.upd (fun d => d.rampStep k)
/-- REF_MEASURE_DONE (R316). -/
def execRefMeasureDone (tone offset snr : Int) (s : State) : Host.Outcome State Fault Refusal := s.upd (fun d => d.byKeeper 3 (fun x => x.refDone tone offset snr))
/-- CAL_STORE_START (R320). -/
def execCalStoreStart (s : State) : Host.Outcome State Fault Refusal := s.upd (fun d => d.calStoreStart d.dieTemp)

end Sys2Proof.Machine
end

