-- ==== Sys2Proof/Machine/Hss.lean ====
section
/-! DEFINITION. Verification of an HSS signature with L = 2, LMS_SHA256_M32_H10 and LMOTS_SHA256_N32_W8 (R532, NIST SP
800-208). Structures keep the big-endian byte order of that standard. -/

namespace Sys2Proof.Machine

/-- A Winternitz chain from step `j`, `n` steps long. -/
def otsChain (pre : List Byte) : Nat → Nat → List Byte → List Byte
  | 0, _, x => x
  | n + 1, j, x => otsChain pre n (j + 1) (sha256 (pre ++ leBytes 1 j ++ x))

/-- The public-key candidate of an LM-OTS signature: `sig` holds the type, C and 34 strings of 32 bytes. -/
def otsCandidate (ident : List Byte) (q : Nat) (msg sig : List Byte) : List Byte :=
  let pre := ident ++ beBytes 4 q
  let h := sha256 (pre ++ beBytes 2 0x8181 ++ slice sig 4 32 ++ msg)
  let sum := (h.map (fun b => 255 - b.toNat)).sum
  let digits := (h ++ beBytes 2 sum).map (fun b => b.toNat)
  let z := (List.range 34).flatMap (fun i =>
    let a := digits.getD i 0
    otsChain (pre ++ beBytes 2 i) (255 - a) a (slice sig (36 + 32 * i) 32))
  sha256 (pre ++ beBytes 2 0x8080 ++ z)

/-- The root that a leaf's authentication path leads to, from node `node` with `n` levels left. -/
def lmsClimb (ident path : List Byte) : Nat → Nat → Nat → List Byte → List Byte
  | 0, _, _, x => x
  | n + 1, i, node, x =>
    let p := slice path (32 * i) 32
    let pre := ident ++ beBytes 4 (node / 2) ++ beBytes 2 0x8383
    lmsClimb ident path n (i + 1) (node / 2) (sha256 (pre ++ (if node % 2 = 1 then p ++ x else x ++ p)))

/-- LMS verification: a public key of 56 bytes and a signature of 1,452 bytes. -/
def lmsVerify (pub msg sig : List Byte) : Bool :=
  let ident := slice pub 8 16
  let q := beNat (sig.take 4)
  let leaf := sha256 (ident ++ beBytes 4 (1024 + q) ++ beBytes 2 0x8282 ++ otsCandidate ident q msg (slice sig 4 1124))
  decide (pub.length = 56) && decide (sig.length = 1452) &&
  decide (beNat (pub.take 4) = 6) && decide (beNat (slice pub 4 4) = 4) && decide (q < 1024) &&
  decide (beNat (slice sig 4 4) = 4) && decide (beNat (slice sig 1128 4) = 6) &&
  decide (lmsClimb ident (slice sig 1132 320) 10 0 (1024 + q) leaf = slice pub 24 32)

/-- HSS verification with L = 2: a public key of 60 bytes and a signature of 2,964 bytes (R532). -/
def hssVerify (pub msg sig : List Byte) : Bool :=
  let mid := slice sig 1456 56
  decide (pub.length = 60) && decide (sig.length = 2964) && decide (beNat (pub.take 4) = 2) && decide (beNat (sig.take 4) = 1) &&
  lmsVerify (pub.drop 4) mid (slice sig 4 1452) && lmsVerify mid msg (slice sig 1512 1452)

end Sys2Proof.Machine
end

