-- ==== Sys2Proof/Machine/Analogue.lean ====
section
/-! DEFINITION. The FM and AM chains (R165, R166, Table 6.1): blankers, combining, bandwidth filter, discriminator or detector, stereo, audio controls
and PCM. Each interval of 1 ms is processed at once; a stage whose response the spec gives in outline only is a free function of its settings, its
memory and its input (log 107). -/

namespace Sys2Proof.Machine

/-! ### Stages -/

/-- Complex samples as a list of numbers. -/
def flat (l : List (Int × Int)) : List Int := l.flatMap (fun p => [p.1, p.2])

/-- The other way round. -/
def pairs : List Int → List (Int × Int)
  | a :: b :: t => (a, b) :: pairs t
  | _ => []

/-- Exactly `n` numbers. -/
def fit (n : Nat) (l : List Int) : List Int := (l ++ List.replicate n 0).take n

/-- A stage takes its input: `n` numbers come out, and its memory moves on. -/
def AnaSt.pass (a : AnaSt) (st : Config.Stage) (settings inp : List Int) (n : Nat) : AnaSt × List Int :=
  let mem := match a.mems.find? (fun p => decide (p.1 = st)) with | some p => p.2 | none => []
  let r := Config.stage st settings mem inp
  ({ a with mems := a.mems.filter (fun p => !decide (p.1 = st)) ++ [(st, r.1)] }, fit n r.2)

/-! ### The IF blanker (R168) -/

/-- Power of a complex sample. -/
def powerOf (x : Int × Int) : Nat := (x.1 * x.1 + x.2 * x.2).toNat

/-- The median: the largest value that at least half of the numbers reach. -/
def median (l : List Nat) : Nat := (lastWhere 64 (fun v => decide (l.length ≤ 2 * (l.filter (fun x => decide (v.toNat ≤ x))).length)) 0).toNat

/-- A power stands above a median by more than `th` hundredths of a decibel. -/
def above (th : Int) (l : List Nat) (p : Nat) : Bool := !l.isEmpty && decide (median l * dbLin th < p * dbLin 0)

/-- Weight of a gated sample `k` samples inside the gate's edge: a raised cosine of 0.5 µs at 6.144 MSa/s. -/
def edgeW (k : Nat) : Nat := if 3072 ≤ 1000 * k then 0 else (((fxOne : Int) + cosTurn (1000 * k) 6144) / 2).toNat

/-- Weight of a sample, with the samples before it (nearest first) and after it: 1 outside the gate (R168). -/
def gateW (before after : List Bool) (on : Bool) : Nat :=
  if on then max (edgeW (before.takeWhile (fun b => b)).length) (edgeW (after.takeWhile (fun b => b)).length) else fxOne

/-- One sample of the 6.144 MSa/s stream at device time `t`: the blanker's state, the closures of the gate, and the sample that leaves it, weighted. `th` is
BLANK_THRESH, none where the blanker is off; `lim` is BLANK_MAX_US. 1.0 µs and 1.5 µs reach 6 and 9 samples to the two sides. A gate that BLANK_MAX_US has
opened stays open until the excess ends (log 110). -/
def Gate.step (g : Gate) (th : Option Int) (lim t : Nat) (x : Int × Int) : Gate × Nat × List (Int × Int) :=
  let p := powerOf x
  let hot := match th with | some v => above v g.hist p | none => false
  let wait := g.wait ++ [(x, hot)]
  let g0 := { g with hist := (p :: g.hist).take 6144, wait := wait }
  match wait with
  | (y, h) :: rest =>
    if wait.length ≤ 6 then (g0, 0, [])
    else
      let since := if h then 0 else g.since + 1
      let want := wait.any (·.2) || decide (since ≤ 9)
      let ms := t / 1000000
      let spent := if ms = g.ms then g.spent else 0
      let shut := want && (g.shut || (decide (0 < g.run) && decide (lim * 6144 ≤ g.run * 1000)))
      let on := want && !shut && decide (spent * 1000 ≤ 614400)
      let out := g.out ++ [(y, on)]
      let g1 := { g0 with wait := rest, run := if on then g.run + 1 else 0, since := since, spent := if on then spent + 1 else spent, ms := ms, shut := shut, out := out }
      let n := if on ∧ g.run = 0 then 1 else 0
      if out.length ≤ 8 then (g1, n, [])
      else
        let z := out.getD 4 ((0, 0), false)
        let w := gateW ((out.take 4).reverse.map (·.2)) ((out.drop 5).map (·.2)) z.2
        ({ g1 with out := out.drop 1 }, n, [weigh w z.1])
  | [] => (g0, 0, [])

/-- A millisecond of one tap's stream through its blanker, from device time `t`. -/
def Gate.run_ (g : Gate) (th : Option Int) (lim t : Nat) (l : List (Int × Int)) : Gate × Nat × List (Int × Int) :=
  l.zipIdx.foldl (fun (a : Gate × Nat × List (Int × Int)) x =>
    let r := a.1.step th lim (t + x.2 * 1000000 / 6144) x.1
    (r.1, a.2.1 + r.2.1, a.2.2 ++ r.2.2)) (g, 0, [])

/-! ### Combining (R123 to R125) -/

/-- One complex sample of an entry times a weight in 2^-30. -/
def weightMul (w x : Int × Int) : Int × Int := ((w.1 * x.1 - w.2 * x.2) / 2 ^ 30, (w.1 * x.2 + w.2 * x.1) / 2 ^ 30)

/-- Weights of the entries in a mode (Table 4.6): the loop's, or 1 for the tap that passes through or is chosen. -/
def modeWeights (mode chosen mask : Nat) (loop : List (Int × Int)) : List (Int × Int) :=
  (List.range 6).map (fun i =>
    if !mask.testBit i then (0, 0)
    else if mode = 2 ∨ mode = 3 then loop.getD i (0, 0)
    else if i = (if mode = 1 then chosen else 0) then (2 ^ 30, 0) else (0, 0))

/-- One combined sample: a sample tagged OVL weighs nothing if some included tap has an untagged one (R125). -/
def combineOne (mask : Nat) (ws xs : List (Int × Int)) (ovl : List Bool) : Int × Int :=
  let ok := (List.range 6).any (fun i => mask.testBit i && !ovl.getD i false)
  (List.range 6).foldl (fun (a : Int × Int) i =>
    if ok && ovl.getD i false then a else let y := weightMul (ws.getD i (0, 0)) (xs.getD i (0, 0)); (a.1 + y.1, a.2 + y.2)) (0, 0)

/-- How a context combines now: mode, chosen entry, included entries. While it acquires, the tap of the hypothesis being verified (R122). -/
def Dev.mixPlan (d : Dev) (c : Nat) : Nat × Nat × Nat :=
  let s := d.ctx c
  if d.cxSt c = 2 then
    let e := match s.hyps.find? (·.verifying) with | some y => y.det.entry | none => 0
    (1, e, 2 ^ e)
  else
    let m := d.nat (O.cxIncluded c)
    (d.cxMode c, s.chosen, if m = 0 then 2 ^ s.chosen else m)

/-- Combined samples of an interval of `n`, with whether the sample stays flagged OVL: `xs` and `ovl` per entry. -/
def AnaSt.combine (a : AnaSt) (plan : Nat × Nat × Nat) (n : Nat) (xs : List (List (Int × Int))) (ovl : List (List Bool)) :
    AnaSt × List ((Int × Int) × Bool) :=
  let blocks := (n + 63) / 64
  let needs := decide (2 ≤ plan.1) || (match a.was with | some w => decide (2 ≤ w.1) | none => false)
  let r := if needs then a.pass .weights [plan.1, plan.2.2] (xs.flatMap flat) (12 * blocks) else (a, [])
  let loop := pairs r.2
  let at_ := fun (k : Nat) => (loop.drop (6 * (k / 64))).take 6
  let y := (List.range n).map (fun k =>
    let x := xs.map (fun l => l.getD k (0, 0))
    let o := ovl.map (fun l => l.getD k false)
    let v := combineOne plan.2.2 (modeWeights plan.1 plan.2.1 plan.2.2 (at_ k)) x o
    let v2 := match a.was with
      | some (m, ch, len, done) =>
        let w := fadeW (done + k) len
        let u := weigh w (combineOne plan.2.2 (modeWeights m ch plan.2.2 (at_ k)) x o)
        let z := weigh (fxOne - w) v
        (u.1 + z.1, u.2 + z.2)
      | none => v
    (v2, (List.range 6).all (fun i => !plan.2.2.testBit i || o.getD i false)))
  ({ r.1 with was := match a.was with | some (m, ch, len, done) => if len ≤ done + n then none else some (m, ch, len, done + n) | none => none }, y)

/-! ### Bandwidth (R171 to R173) -/

/-- The bandwidth filter at a setting, crossfaded from the one before (R172). -/
def AnaSt.bandPass (a : AnaSt) (setting : Nat) (l : List (Int × Int)) : AnaSt × List (Int × Int) :=
  let n := l.length
  let r := a.pass (.band setting) [] (flat l) (2 * n)
  match a.bandWas with
  | some (old, len, done) =>
    let q := r.1.pass (.band old) [] (flat l) (2 * n)
    let y := ((pairs r.2).zip (pairs q.2)).zipIdx.map (fun p =>
      let w := fadeW (done + p.2) len
      let u := weigh (fxOne - w) p.1.1
      let v := weigh w p.1.2
      (u.1 + v.1, u.2 + v.2))
    ({ q.1 with bandWas := if len ≤ done + n then none else some (old, len, done + n) }, y)
  | none => (r.1, pairs r.2)

/-! ### FM (R169, R174 to R176) -/

/-- MPX samples given out once 36 later ones are known: `rep` of them replaced by interpolation between the samples at the two ends, at most 32 of an
excursion. `l` lists samples with whether they are to be replaced; answers the last sample, whether the excursion goes on past its 32, what is left, and
the samples. `fuel` bounds them. -/
def mpxEmit : Nat → Int → Bool → List (Int × Bool) → Int × Bool × List (Int × Bool) × List Int
  | 0, last, spent, l => (last, spent, l, [])
  | f + 1, last, spent, l =>
    if l.length ≤ 36 then (last, spent, l, [])
    else match l with
      | [] => (last, spent, l, [])
      | (v, rep) :: t =>
        if !rep || spent then
          let r := mpxEmit f v (rep && spent) t
          (r.1, r.2.1, r.2.2.1, v :: r.2.2.2)
        else
          let n := ((l.take 32).takeWhile (·.2)).length
          let b := (l.getD n (0, false)).1
          let ys := (List.range n).map (fun j => last + divRound ((b - last) * ((j + 1 : Nat) : Int)) (n + 1))
          let r := mpxEmit f (ys.getLastD last) (decide (n = 32)) (l.drop n)
          (r.1, r.2.1, r.2.2.1, ys ++ r.2.2.2)

/-- Marks of the MPX blanker: from 4 samples before a sample that exceeds to 4 after it (R169). `l` are samples that wait, `x` the new ones with whether they
exceed, `since` the samples between them and the last that did. -/
def mpxMark (l x : List (Int × Bool)) (since : Nat) : List (Int × Bool) :=
  let hot := x.map (·.2)
  let m := l.length
  (l ++ x.map (fun p => (p.1, false))).zipIdx.map (fun p =>
    let near := (List.range 9).any (fun k => decide (m + 4 ≤ p.2 + k) && hot.getD (p.2 + k - 4 - m) false)
    (p.1.1, p.1.2 || near || (decide (m ≤ p.2) && decide (p.2 - m + 1 + since ≤ 4))))

/-- The MPX blanker on an interval's samples, with whether each is tagged OVL (R169, R170). -/
def AnaSt.mpxBlank (a : AnaSt) (th : Option Int) (mpx : List Int) (ovl : List Bool) : AnaSt × List Int × List Nat :=
  let r := a.pass .mpxHigh [] mpx mpx.length
  let hp := r.2.map (·.toNat)
  let st := (mpx.zip hp).zipIdx.foldl (fun (q : List Nat × List (Int × Bool)) (x : (Int × Nat) × Nat) =>
    let hot := match th with | some v => above v q.1 x.1.2 || ovl.getD x.2 false | none => false
    ((x.1.2 :: q.1).take 3840, q.2 ++ [(x.1.1, hot)])) (a.hf, [])
  let marked := mpxMark a.mpx st.2 a.mpxSince
  let e := mpxEmit marked.length a.mpxLast a.mpxOver marked
  ({ r.1 with hf := st.1, mpx := e.2.2.1, mpxLast := e.1, mpxOver := e.2.1
              mpxSince := st.2.foldl (fun n x => if x.2 then 0 else n + 1) a.mpxSince }, e.2.2.2, hp)

/-- Median of three. -/
def median3 (a b c : Int) : Int := max (min a b) (min (max a b) c)

/-- Peak absolute value after a median of three samples (Table 6.7). -/
def peak3 : List Int → Nat
  | a :: b :: c :: t => max (median3 a b c).natAbs (peak3 (b :: c :: t))
  | _ => 0

/-- The audio controls of an interval: blend α, high-cut and mute of a context, and the de-emphasis of FM. -/
structure AudioSet where
  alpha : Int
  hcut : Int
  hcutMin : Nat
  hcutTop : Nat
  mute : Int
  deemph : Option Nat
  gain : Int

/-- High-cut of a channel: bypassed at h = 1 (R178). -/
def AnaSt.cutHigh (a : AnaSt) (u : AudioSet) (ch : Nat) (l : List Int) : AnaSt × List Int :=
  if (fxOne : Int) ≤ u.hcut then (a, l) else a.pass (.highCut ch) [(u.hcutMin : Int), u.hcutTop, u.hcut] l l.length

/-- De-emphasis of a channel: 50 µs, 75 µs or off. -/
def AnaSt.deemph (a : AnaSt) (u : AudioSet) (ch : Nat) (l : List Int) : AnaSt × List Int :=
  match u.deemph with
  | some k => if k < 2 then a.pass (.deemphasis ch) [(k : Int)] l l.length else (a, l)
  | none => (a, l)

/-- One channel through high-cut, soft mute and de-emphasis to 24-bit samples, and how many were saturated: `num`/`den` scales a value to full scale. -/
def AnaSt.channel (a : AnaSt) (u : AudioSet) (ch : Nat) (num den : Int) (l : List Int) : AnaSt × List Int × Nat :=
  let x := a.cutHigh u ch l
  let g : Int := (gainFx (u.gain - divRound u.mute fxOne) : Nat)
  let y := x.1.deemph u ch x.2
  let z := y.2.map (fun v => divRound (v * g * 8388608 * num) (den * (fxOne : Int)).toNat)
  (y.1, z.map (satS 24), (z.filter (fun v => decide (satS 24 v ≠ v))).length)

/-- What an interval of a chain gives: PCM, saturated samples, and measured values. -/
structure ChainOut where
  pcm : List (Int × Int) := []
  sats : Nat := 0
  /-- instantaneous frequency: mean in 2^-8 Hz, peak in 2^-8 Hz, mean square of the MPX in Hz², mean power in 100–150 kHz, samples above DEV_REF, samples -/
  mean : Int := 0
  peak : Nat := 0
  square : Nat := 0
  high : Nat := 0
  beyond : Nat := 0
  count : Nat := 0
  pilot : Nat := 0
  /-- AM: PLL frequency in 0.1 Hz, rms phase error in 0.01°, positive and negative peak and mean modulation depth in 0.01 % -/
  freq : Int := 0
  phase : Nat := 0
  up : Nat := 0
  down : Nat := 0
  depth : Nat := 0

/-- The FM chain after the combiner: deviation in 2^-8 Hz, at most ±192 kHz (R174); 75 kHz give −3.0 dBFS; L = S + αD, R = S − αD. -/
def AnaSt.fmChain (a : AnaSt) (setting : Nat) (th : Option Int) (ref : Nat) (u : AudioSet) (audio : Bool) (x : List ((Int × Int) × Bool)) : AnaSt × ChainOut :=
  let b := a.bandPass setting (x.map (·.1))
  let n := x.length
  let r := b.1.pass .discriminate [] (flat b.2) n
  let mpx := r.2.map (fun v => clampI (-49152000) 49152000 v)
  let m := r.1.mpxBlank th mpx (x.map (·.2))
  let p := m.1.pass .pilot [] m.2.1 1
  let avg := fun (l : List Nat) => if l.isEmpty then 0 else l.sum / l.length
  let o : ChainOut :=
    { mean := if mpx.isEmpty then 0 else mpx.sum / (mpx.length : Int), peak := peak3 m.2.1
      square := avg (mpx.map (fun v => (v * v).toNat / 65536)), high := avg m.2.2, count := n
      beyond := (mpx.filter (fun v => decide (256 * ref < v.natAbs))).length, pilot := (p.2.headD 0).toNat }
  if !audio then (p.1, o)
  else
    let q := p.1.pass .stereo [] m.2.1 96
    let sd := pairs q.2
    let ad := fun (v : Int) => divRound (v * u.alpha) fxOne
    let l := q.1.channel u 0 1 (75000 * 256) (sd.map (fun s => s.1 + ad s.2))
    let rr := l.1.channel u 1 1 (75000 * 256) (sd.map (fun s => s.1 - ad s.2))
    (rr.1, { o with pcm := l.2.1.zip rr.2.1, sats := l.2.2 + rr.2.2 })

/-! ### AM (R182, R186 to R188) -/

/-- Detected samples of a detector: 0 envelope, 1 the in-phase component, 2 and 3 one sideband (R187). -/
def AnaSt.detect (a : AnaSt) (det : Nat) (x locked : List (Int × Int)) : AnaSt × List Int :=
  if det = 0 then (a, x.map (fun v => ((isqrt (powerOf v) : Nat) : Int)))
  else if det = 1 then (a, locked.map (·.1))
  else a.pass (.sideband det) [] (flat locked) locked.length

/-- Detected samples divided by the mean carrier amplitude of the last 20 ms, 480 samples: depths in 2^-24 (R182). -/
def normalise (carrier : List Int) (l : List Int) : List Int × List Int :=
  l.foldl (fun (q : List Int × List Int) v =>
    let h := (v :: q.1).take 480
    let m := h.sum / (h.length : Int)
    (h, q.2 ++ [if m ≤ 0 then 0 else (v - m) * 16777216 / m])) (carrier, [])

/-- Overloaded audio samples replaced by the last unaffected one (R170). -/
def holdGood (on : Bool) (last : Int) (l : List (Int × Bool)) : Int × List Int :=
  l.foldl (fun (q : Int × List Int) x => if on && x.2 then (q.1, q.2 ++ [q.1]) else (x.1, q.2 ++ [x.1])) (last, [])

/-- The AM chain after the combiner: 100 % modulation gives −3.0 dBFS; mono, L = R. -/
def AnaSt.amChain (a : AnaSt) (setting pllBw det : Nat) (locked blank : Bool) (u : AudioSet) (audio : Bool) (x : List ((Int × Int) × Bool)) : AnaSt × ChainOut :=
  let n := x.length
  let b := a.bandPass setting (x.map (·.1))
  let p := b.1.pass .carrierPll [(pllBw : Int), if locked then 1 else 0] (flat b.2) (2 * n + 2)
  let lk := pairs (p.2.take (2 * n))
  let v := p.1.detect det b.2 lk
  let w := match a.detWas with
    | some (old, done) =>
      let o := v.1.detect old b.2 lk
      let y := (v.2.zip o.2).zipIdx.map (fun (q : (Int × Int) × Nat) =>
        let k := fadeW (done + q.2) 240
        divRound (q.1.1 * ((fxOne - k : Nat) : Int) + q.1.2 * (k : Int)) fxOne)
      ({ o.1 with detWas := if 240 ≤ done + n then none else some (old, done + n) }, y)
    | none => v
  let m := normalise w.1.carrier w.2
  let g := holdGood blank w.1.lastGood (m.2.zip (x.map (·.2)))
  let pct := fun (k : Int) => (k * 10000 / 16777216).toNat
  let o : ChainOut :=
    { freq := p.2.getD (2 * n) 0, phase := (p.2.getD (2 * n + 1) 0).toNat, count := n
      up := pct (m.2.foldl max 0), down := pct (-(m.2.foldl min 0)), depth := if m.2.isEmpty then 0 else pct ((m.2.map (fun k => ((k.natAbs : Nat) : Int))).sum / (m.2.length : Int)) }
  let a1 := { w.1 with carrier := m.1, lastGood := g.1 }
  if !audio then (a1, o)
  else
    let r := a1.pass .rate48 [] g.2 48
    let l := r.1.channel u 0 1 16777216 r.2
    (l.1, { o with pcm := l.2.1.map (fun k => (k, k)), sats := l.2.2 })

end Sys2Proof.Machine
end

