-- ==== Sys2Proof/Machine/Recv.lean ====
section
/-! DEFINITION. Reception (chapters 6 and 7): quality indicators, bandwidth, blend, high-cut and soft mute, RDS blocks,
measurement windows, service information and reconfiguration, decoded audio, and what a run's output frames carry. -/

namespace Sys2Proof.Machine

/-! ### Indicators (R189, R215) -/

/-- The device time of a tap sample index of a rate (R80). -/
def Dev.tapTime (d : Dev) (rate n : Nat) : Nat := d.now - (d.mono - (d.rf.epoch + n * 2000000000 / rateTwice rate))

/-- A context that demodulates: it has its taps and is not leaving. -/
def Dev.cxWorks (d : Dev) (c : Nat) : Bool := decide (2 ≤ d.cxSt c) && decide (d.cxSt c ≤ 5)

/-- The kind of a context that computes indicators, IQ export computing none. -/
def Dev.cxAnalogue (d : Dev) (c : Nat) : Bool := decide (d.cxKind c < 2) && decide (d.nat (O.cxType c) ≠ 0)

/-- The taps of a context, by number. -/
def Dev.tapNumbers (d : Dev) (c : Nat) : List Nat := (d.cxTaps c).map (·.2)

/-- Some tap of a context carries a tag on a sample in [a, b). -/
def Dev.cxTagged (d : Dev) (c tag a b : Nat) : Bool := (d.tapNumbers c).any (fun t => !(d.tapTags t tag a b).isEmpty)

/-- OFLAGS bits of the samples of an interval, [a, b). -/
def Dev.indTags (d : Dev) (c a b : Nat) : Nat :=
  (if d.cxTagged c tagOvl a b then 16 else 0) + (if d.cxTagged c tagLane a b then 32 else 0) + 
  (if d.ramped ((b - a) * 2000000000 / rateTwice (d.cxRate c)) then 64 else 0)

/-- A LEVEL object from a measured value, or −327.68. -/
def levelOr (v : Option Int) : Int := v.getD (-32768)

/-- AQ of an interval (R177); none where an indicator it needs is missing. -/
def Dev.aqOf (d : Dev) (c : Nat) (v : List (Option Int)) : Option Int :=
  match v.getD 1 none with
  | none => none
  | some snr =>
    if d.cxKind c = 1 then some (satS 16 snr)
    else match v.getD 2 none, v.getD 3 none with
      | some u, some m => some (satS 16 (min snr (min (-u - 600) (-m - 600))))
      | _, _ => none

/-- A power ratio in 0.01 dB. -/
def ratioDb (num den : Nat) : Int := linDb (num * dbLin 0 / max 1 den)

/-- The taps of an interval through blanker, decimator and delay (R165, R166, R79, R124): the chain's memory, closures of the gates, the samples of each
entry, and which of them are tagged OVL. `n` samples end before index `b` at device time `t`. -/
def Dev.front (d : Dev) (c n b t : Nat) (taps : List (List (Int × Int))) : AnaSt × Nat × List (List (Int × Int)) × List (List Bool) :=
  let meas := decide (d.nat (O.cxType c) = 9)
  let th := if d.cxEff c (O.cxBlankEnable c) = 1 ∧ !meas then some (d.cxEff c (O.cxBlankThresh c)) else none
  let lim := (d.cxEff c (O.cxBlankMaxUs c)).toNat
  (List.range 6).foldl (fun (a : AnaSt × Nat × List (List (Int × Int)) × List (List Bool)) i =>
    let l := taps.getD i []
    let tap := d.nat (O.cxTap c i)
    if l.isEmpty ∨ tap = 255 then (a.1, a.2.1, a.2.2.1 ++ [List.replicate n (0, 0)], a.2.2.2 ++ [List.replicate n false])
    else
      let g := (Tab.get {} a.1.gates i).run_ th lim (t - 1000000) l
      let a1 := { a.1 with gates := Tab.set {} a.1.gates i g.1 }
      let r := a1.pass (.decimate i) [d.num (O.lnTapNco tap), d.num (O.lnTapSubband tap), d.num (O.lnTapSubbands tap)] (flat g.2.2) (2 * n)
      let q := if i = 0 then r else r.1.pass (.align i) [d.num (O.cxAntDelay c i)] r.2 (2 * n)
      let runs := d.tapTags tap tagOvl (b - n) b
      (q.1, a.2.1 + g.2.1, a.2.2.1 ++ [pairs q.2], a.2.2.2 ++ [(List.range n).map (fun k => ivHas runs (b - n + k))])) ((d.ctx c).ana, 0, [], [])

/-- The audio controls in effect for a context. -/
def Dev.audioSet (d : Dev) (c : Nat) : AudioSet :=
  let s := d.ctx c
  { alpha := s.alpha, hcut := s.hcut, hcutMin := (d.cxEff c (O.cxHicutMin c)).toNat,
    hcutTop := if d.cxKind c = 0 then 15000 else ([8000, 6000, 5000, 4000, 3000, 2500, 2000] : List Nat).getD s.bw 8000
    mute := s.mute, deemph := if d.cxKind c = 0 then some (d.cxEff c (O.cxDeemph c)).toNat else none, gain := -300 - s.ana.devGain }

/-- The gain reduction of DEV_COMP after a further millisecond (R174): towards what maps the peak deviation of the last 1 s to −1.0 dBFS, by at most 0.01 dB,
never above nominal. `p` is that peak in Hz. -/
def devGainStep (on : Bool) (g : Int) (p : Nat) : Int :=
  let want := if on then max 0 (ratioDb (p * p) (75000 * 75000) - 200) else 0
  if g < want then g + 1 else if want < g then g - 1 else g

/-- PCM of an interval: in HOLD it fades to silence over 5 ms (R120). -/
def Dev.pcmOut (d : Dev) (c m : Nat) (l : List (Int × Int)) : Dev :=
  let s := d.ctx c
  let a := s.ana
  let st := d.cxSt c
  let ty := d.nat (O.cxType c)
  if (ty ≠ 1 ∧ ty ≠ 2) ∨ (st ≠ 3 ∧ st ≠ 4 ∧ st ≠ 5) then d
  else
    let y := if st = 5 then l.zipIdx.map (fun p => weigh (fadeW (a.holdPcm + p.2) fadeLen) p.1) else l
    let q := a.pcm ++ y
    d.setCtx c { s with ana := { a with pcm := q.drop (q.length - 48000), pcmM := if a.pcm.isEmpty then m else a.pcmM + (q.length - 48000)
                                        holdPcm := if st = 5 then a.holdPcm + l.length else 0 } }

/-- A verification millisecond of an entry (Table 6.2): C/N of 4 dB or more with the offset within ±10 kHz of `off` (FM), C/N of 0 dB or more (AM). -/
def cnGood (fm : Bool) (off : Int) (x : Int × Int) : Bool :=
  if fm then decide (400 ≤ x.1) && decide ((x.2 - off).natAbs ≤ 10000) else decide (0 ≤ x.1)

/-- Verification while the context acquires, and the criterion for held state of every entry while it is held (R167). -/
def Dev.indVerify (d : Dev) (c : Nat) (r : SigIn) : Dev :=
  let s := d.ctx c
  let fm := decide (d.cxKind c = 0)
  match d.cxSt c with
  | 2 => (match s.hyps.find? (·.verifying) with
      | some y => d.hypCheck c [cnGood fm y.det.offset (r.cn.getD y.det.entry (-32768, 0))]
      | none => d)
  | 5 => d.setCtx c { s with again := (List.range 6).foldl (fun m i =>
      if (r.taps.getD i []).isEmpty then m
      else Tab.set [] m i ((cnGood fm s.offset (r.cn.getD i (-32768, 0)) :: Tab.get [] m i).take (if fm then 10 else 100))) s.again }
  | _ => d

/-- A deferred change of detector is made once the running crossfade has ended (R187). -/
def AnaSt.detTurn (a : AnaSt) (now_ : Nat) : AnaSt × Nat :=
  match a.detWas, a.detNext with
  | none, some v => if v = now_ then ({ a with detNext := none }, now_) else ({ a with detNext := none, detWas := some (now_, 0) }, v)
  | _, _ => (a, now_)

/-- INDICATOR_INTERVAL (R165, R166, R189): a millisecond of signal goes through the chain. Its indicators are delivered at the end of the run, to the objects
of Table 6.12 and the context's filter channels (R279). In HOLD, or without tap samples, nothing can be measured. -/
def Dev.indicate (d : Dev) (c : Nat) (r : SigIn) : Dev :=
  if !d.cxAnalogue c ∨ !d.cxWorks c then d
  else
    let k := d.sampleTick (8192 + c) 1000000
    let d0 := (k.1).indVerify c r
    let t := k.2
    let ty := d0.nat (O.cxType c)
    let fm := decide (d0.cxKind c = 0)
    let rate := d0.cxRate c
    let n := rateTwice rate / 2000
    let b := d0.tapIndexNow rate + 1
    let fr := d0.front c n b t r.taps
    let mix := fr.1.combine (d0.mixPlan c) n fr.2.2.1 fr.2.2.2
    let det := mix.1.detTurn (d0.nat (O.cxAmSideband c))
    let s := d0.ctx c
    let audio := decide (ty ≤ 2)
    let blank := decide (ty ≠ 9)
    let u := d0.audioSet c
    let o := if fm then
        det.1.fmChain s.bw (if blank ∧ d0.cxEff c (O.cxMpxBlankEnable c) = 1 then some (d0.cxEff c (O.cxBlankThresh c)) else none) (d0.cxEff c (O.cxDevRef c)).toNat u
          audio mix.2
      else det.1.amChain s.bw (d0.cxEff c (O.cxAmPllBw c)).toNat det.2 (d0.flag (O.cxSyncLock c)) (blank && decide (d0.cxEff c (O.cxBlankEnable c) = 1)) u audio mix.2
    let out := o.2
    let hold := decide (d0.cxSt c = 5) || r.taps.all (·.isEmpty)
    let freqs := if hold then o.1.freqs else (out.mean :: o.1.freqs).take 100
    let offset : Int := if fm then divRound freqs.sum (256 * max 1 freqs.length) else divRound out.freq 10
    let usn := ratioDb (2 * out.high) (75000 * 75000)
    let dev : Int := if fm then ((out.peak / 256 : Nat) : Int) else out.up
    let v : List (Option Int) := if hold then List.replicate 7 none
      else [r.level, r.snr, if fm then some usn else none, if fm then r.multipath else none, some offset, some dev, if fm then some (out.pilot : Int) else none]
    let aq := d0.aqOf c v
    let peaks := (out.peak / 256 :: o.1.peaks).take 1000
    let cnt := fun (b : Bool) (x : Nat) => if b then x + 1 else 0
    let low := match (if hold then none else r.snr) with | some q => decide (q < (if fm then 0 else -300)) | none => decide (0 < s.ana.loss)
    let a := { o.1 with freqs := freqs, peaks := peaks, loss := cnt low o.1.loss
                        devGain := if fm ∧ audio then devGainStep (decide (d0.cxEff c (O.cxDevComp c) = 1)) o.1.devGain (peaks.foldl max 0) else 0
                        pilotHi := cnt (decide (3000 ≤ out.pilot)) o.1.pilotHi, pilotLo := cnt (decide (out.pilot < 2000)) o.1.pilotLo
                        phLow := cnt (!fm && decide (out.phase < 2000)) o.1.phLow, phHigh := cnt (!fm && decide (4500 < out.phase)) o.1.phHigh
                        sides := (r.lo, r.hi), near := cnt (decide ((r.lo - r.hi).natAbs ≤ 300)) o.1.near }
    let shown : List (Nat × Int × Int) := [(O.cxQLevel c, levelOr (v.getD 0 none), -32768), (O.cxQSnr c, levelOr (v.getD 1 none), -32768),
      (O.cxQUsn c, levelOr (v.getD 2 none), -32768), (O.cxQMultipath c, levelOr (v.getD 3 none), -32768), (O.cxQOffset c, (v.getD 4 none).getD 0, 0),
      (O.cxQDeviation c, (v.getD 5 none).getD 0, 0), (O.cxQPilot c, (v.getD 6 none).getD 0, 0), (O.cxQAq c, levelOr aq, -32768), (O.cxQTime c, (t : Int), (t : Int))]
    let tags := d0.indTags c (b - n) b
    let feeds := ([(0, 0), (1, 1), (3, 3), (4, 2), (5, 5)] : List (Nat × Nat)).filterMap (fun (p : Nat × Nat) =>
      if !fm ∧ (p.1 = 3 ∨ p.1 = 4) then none else some (ctxChan c p.1, ({ t := t, v := v.getD p.2 none, tags := tags } : MfIn)))
    let row : List Int := [if hold then 0 else 1, levelOr (v.getD 0 none), levelOr (v.getD 1 none), levelOr (v.getD 2 none), levelOr (v.getD 3 none),
      if fm then divRound (10 * out.mean) 256 else out.freq, dev, if fm then (out.beyond : Int) else out.down, if fm then (out.pilot : Int) else out.depth, out.square, out.count]
    let w := s.window
    let muted := d0.cxTagged c tagMuted (b - n) b
    let d1 := d0.setCtx c { s with
      ana := a, shown := shown, feeds := s.feeds ++ feeds, intervals := s.intervals + 1
      window := if ty = 9 then { w with rows := w.rows ++ [row], ovlMs := if tags.testBit 4 then w.ovlMs + 1 else w.ovlMs, lane := w.lane || tags.testBit 5, muted := w.muted || muted } else w
      inds := if hold then s.inds else s.inds ++ [[levelOr (v.getD 0 none), levelOr (v.getD 1 none), levelOr (v.getD 2 none), levelOr (v.getD 3 none), levelOr aq, dev]]
      fqNew := s.fqNew ++ (match aq with | some q => [(d0.mono, q)] | none => [])
      qbits := s.qbits ||| ((if 0 < fr.2.1 then 4 else 0) + (if 0 < out.sats then 8 else 0)) }
    let d2 := ((((d1.count 32 (O.cxBlankCount c) fr.2.1).count 32 (O.cxAudioSat c) out.sats).setN (O.cxDevGain c) a.devGain).setN (O.cxAmSideband c) det.2)
    d2.pcmOut c (48 * ((d2.mono - d2.rf.epoch) / 1000000 - 1) + (if fm then 72 else 192)) out.pcm

/-- Interval parts of 1 ms of [b − n, b) with samples tagged OVL, of ten. -/
def Dev.ovlParts (d : Dev) (c n b : Nat) : Nat :=
  ((List.range 10).filter (fun k => d.cxTagged c tagOvl (b - n + n * k / 10) (b - n + n * (k + 1) / 10))).length

/-- DIGITAL_INDICATOR_INTERVAL (R215): intervals of 10 ms. Part (a) of a verification checks the symbols that arrive in them (R198). -/
def Dev.indicateDig (d : Dev) (c : Nat) (r : DigIn) : Dev :=
  if d.cxAnalogue c ∨ d.cxKind c = 5 ∨ d.nat (O.cxType c) = 0 ∨ !d.cxWorks c then d
  else
    let k := d.sampleTick (8256 + c) 10000000
    let d0 := if k.1.cxSt c = 2 then k.1.hypCheck c r.guard else k.1
    let t := k.2
    let rate := d0.cxRate c
    let n := rateTwice rate / 200
    let b := d0.tapIndexNow rate + 1
    let hold := decide (d0.cxSt c = 5)
    let v := if hold then List.replicate 6 none else r.vals
    let d1 := d0
    let shown : List (Nat × Int × Int) := [(O.cxDLevel c, levelOr (v.getD 0 none), -32768), (O.cxDSnr c, levelOr (v.getD 1 none), -32768),
      (O.cxDMer c, levelOr (v.getD 2 none), -32768), (O.cxDOffset c, (v.getD 3 none).getD 0, 0), (O.cxDDelaySpread c, (v.getD 4 none).getD 0, 0),
      (O.cxDCdno c, if d0.cxKind c = 4 then levelOr (v.getD 5 none) else -32768, -32768), (O.cxDTime c, (t : Int), (t : Int))]
    let feeds := ([(0, 0), (1, 1), (2, 2), (3, 4)] : List (Nat × Nat)).map (fun (p : Nat × Nat) => (ctxChan c p.1, ({ t := t, v := v.getD p.2 none, tags := d1.indTags c (b - n) b } : MfIn)))
    let s := d1.ctx c
    let bad := match s.errAt with | some t1 => decide (d1.mono < t1 + 1000000000) | none => false
    let w := s.window
    let tags := d1.indTags c (b - n) b
    let row : List Int := [if hold then 0 else 1, levelOr (v.getD 0 none), levelOr (v.getD 1 none), levelOr (v.getD 2 none), 0, 10 * (v.getD 3 none).getD 0, (v.getD 4 none).getD 0, 0, 0, 0, 0]
    d1.setCtx c { s with
      shown := shown, feeds := s.feeds ++ feeds, intervals := s.intervals + 1
      window := if d1.nat (O.cxType c) = 9 then { w with rows := w.rows ++ [row], ovlMs := w.ovlMs + d1.ovlParts c n b, lane := w.lane || tags.testBit 5, muted := w.muted || d1.cxTagged c tagMuted (b - n) b } else w
      inds := if hold then s.inds else s.inds ++ [[levelOr (v.getD 0 none), levelOr (v.getD 1 none), levelOr (v.getD 2 none), 0, 0, (v.getD 4 none).getD (-32768)]]
      fqNew := s.fqNew ++ (if bad then [(d1.mono, -2000)] else match v.getD 2 none with | some q => [(d1.mono, q)] | none => []) }

/-! ### Bandwidth (R171 to R173) -/

/-- FM IF bandwidths, Hz (Table 6.4). -/
def fmIf : List Nat := [300000, 236000, 184000, 150000, 120000, 96000, 72000, 56000]
/-- AM two-sided IF bandwidths, Hz (Table 6.5). -/
def amIf : List Nat := [16000, 12000, 10000, 8000, 6000, 5000, 4000]

/-- How many of some rising limits a value has reached. -/
def reached (l : List Int) (v : Int) : Nat := (l.filter (fun x => decide (x ≤ v))).length

/-- The target setting in AUTO (R172, R173). -/
def Dev.bwTarget (d : Dev) (c : Nat) (lo hi : Int) : Nat :=
  let a := max lo hi
  if d.cxKind c = 0 then
    let snr := d.qNow c (O.cxQSnr c)
    let noise := if 1400 ≤ snr then 0 else if 1000 ≤ snr then 4 else if 600 ≤ snr then 6 else 7
    max (reached [-3000, -2400, -1800, -1200, -600] a) noise
  else reached [-4000, -3400, -2800, -2200, -1600, -1000] a

/-- A setting applied by a crossfade of IFBW_XFADE tap samples. -/
def Dev.bwSet (d : Dev) (c w : Nat) : Dev :=
  let s := d.ctx c
  let x := (d.cxEff c (O.cxIfbwXfade c)).toNat
  (d.setCtx c { s with bw := w, bwAt := d.mono, bwFade := d.mono + x * 2000000000 / rateTwice (d.cxRate c), qbits := s.qbits ||| 16
                       ana := { s.ana with bandWas := if x = 0 then none else some (s.bw, x, 0) } }).setN (O.cxIfbw c)
    ((if d.cxKind c = 0 then fmIf else amIf).getD w 0 : Nat)

/-- AUTO of the bandwidth filter: IFBW_MODE or AM_BW_MODE 0; MEAS holds setting 0 (R191). -/
def Dev.bwAuto (d : Dev) (c : Nat) : Bool :=
  decide (d.nat (O.cxType c) ≠ 9) && decide (d.cxEff c (if d.cxKind c = 0 then O.cxIfbwMode c else O.cxAmBwMode c) = 0)

/-- IFBW_DECISION (R172): each 1 ms in AUTO; one inside a crossfade is left to the next. -/
def Dev.bwDecide (d : Dev) (c : Nat) (lo hi : Int) : Dev :=
  if !d.cxAnalogue c ∨ !d.cxWorks c ∨ !d.bwAuto c then d
  else
    let d0 := (d.sampleTick (8320 + c) 1000000).1
    let s := d0.ctx c
    let t := d0.bwTarget c lo hi
    if d0.mono < s.bwFade then d0
    else if s.bw < t then d0.bwSet c t
    else if t < s.bw ∧ s.bwAt + (d0.cxEff c (O.cxIfbwReleaseMs c)).toNat * 1000000 ≤ d0.mono then d0.bwSet c (s.bw - 1)
    else d0

/-- The setting at a run start (R171, R173, R191): the fixed one, and before the first decision of AUTO setting 0 (log 96). The first
setting of a context is no change. -/
def Dev.bwFixed (d : Dev) (c : Nat) : Dev :=
  if !d.cxAnalogue c then d
  else
    let w := if d.bwAuto c then (d.ctx c).bw else if d.nat (O.cxType c) = 9 then 0
      else (d.cxEff c (if d.cxKind c = 0 then O.cxIfbwFixed c else O.cxAmBwFixed c)).toNat
    if d.nat (O.cxIfbw c) = 0 then (d.setCtx c { d.ctx c with bw := w }).setN (O.cxIfbw c) ((if d.cxKind c = 0 then fmIf else amIf).getD w 0 : Nat)
    else if (d.ctx c).bw = w then d else d.bwSet c w

/-! ### Audio quality controls (R177 to R179) -/

/-- A ratio limited to 0 … 1, in fixed point. -/
def unitRatio (a b : Int) : Int := if b ≤ 0 then 0 else clampI 0 (fxOne : Int) (a * (fxOne : Int) / b)

/-- AUDIO_QUALITY_TICK (R178, R179): targets from AQ, then one smoothing step of 1 ms. Frozen in HOLD. While STEREO is 0 or STEREO_MODE is 1 the target of α
is 0: both reach the audio only through α (R175). -/
def Dev.aqTick (d : Dev) (c : Nat) : Dev :=
  let ty := d.nat (O.cxType c)
  if (ty ≠ 1 ∧ ty ≠ 2) ∨ (d.cxSt c ≠ 3 ∧ d.cxSt c ≠ 4) then d
  else
    let d0 := (d.sampleTick (8384 + c) 1000000).1
    let aq := d0.qNow c (O.cxQAq c)
    if aq = -32768 then d0
    else
      let e := fun (o : Nat) => d0.cxEff c o
      let s := d0.ctx c
      let mono := !d0.flag (O.cxStereo c) || decide (e (O.cxStereoMode c) = 1)
      let ta := if mono then 0 else unitRatio (aq - e (O.cxBlendLo c)) (e (O.cxBlendHi c) - e (O.cxBlendLo c))
      let th := unitRatio (aq - e (O.cxHicutLo c)) (e (O.cxHicutHi c) - e (O.cxHicutLo c))
      let tm := e (O.cxMuteMax c) * unitRatio (e (O.cxMuteHi c) - aq) (e (O.cxMuteHi c) - e (O.cxMuteLo c))
      let att := (e (O.cxAttackMs c)).toNat
      let rel := (e (O.cxReleaseMs c)).toNat
      let a := if ty = 1 then smooth s.alpha ta (if ta < s.alpha then att else rel) else 0
      let h := smooth s.hcut th (if th < s.hcut then att else rel)
      let m := smooth s.mute tm (if s.mute < tm then att else rel)
      let base := (e (O.cxHicutMin c)).toNat
      let corner := base * fxPow 64 ((d0.audioSet c).hcutTop * fxOne / base) h.toNat (fxOne)
      (((d0.setCtx c { s with alpha := a, hcut := h, mute := m }).setN (O.cxBlend c) (divRound (100 * a) fxOne)).setN (O.cxHicut c)
        (if (fxOne : Int) ≤ h then 0 else divRound (corner : Int) (10 * fxOne))).setN (O.cxMuteAtten c) (divRound m fxOne)

/-- STEREO_CHANGE (R175): the pilot has stood at 3.0 kHz or above, or below 2.0 kHz, for 100 ms. -/
def Dev.stereoSet (d : Dev) (c : Nat) (v : Bool) : Dev :=
  let a := (d.ctx c).ana
  if d.nat (O.cxType c) = 1 ∧ d.cxWorks c ∧ 100 ≤ (if v then a.pilotHi else a.pilotLo) then d.setB (O.cxStereo c) v else d

/-! ### Synchronous AM (R186 to R188) -/

/-- The detector that AM_MODE gives at once (R187). -/
def Dev.detNow (d : Dev) (c : Nat) : Nat :=
  match (d.cxEff c (O.cxAmMode c)).toNat with
  | 0 => if d.flag (O.cxSyncLock c) then max 1 (d.nat (O.cxAmSideband c)) else 0
  | 1 => 0
  | k => k - 1

/-- A change of detector, by a 10 ms crossfade; one asked for during a crossfade waits for its end (R187). -/
def Dev.detSet (d : Dev) (c v : Nat) : Dev :=
  let s := d.ctx c
  let now_ := d.nat (O.cxAmSideband c)
  if s.ana.detWas.isSome then d.setCtx c { s with ana := { s.ana with detNext := if v = now_ then none else some v } }
  else if now_ = v then d
  else (d.setCtx c { s with ana := { s.ana with detWas := some (now_, 0) } }).setN (O.cxAmSideband c) v

/-- A context with an AM chain: AM, MEAS and SENTRY with subject AM. -/
def Dev.cxAm (d : Dev) (c : Nat) : Bool := decide (d.cxKind c = 1) && d.cxWorks c

/-- AM_PLL_LOCK (R188): below 20° for 50 ms. -/
def Dev.pllLock (d : Dev) (c : Nat) : Dev :=
  if d.cxAm c ∧ 50 ≤ (d.ctx c).ana.phLow then let e := d.setB (O.cxSyncLock c) true; e.detSet c (e.detNow c) else d

/-- AM_PLL_UNLOCK (R188): above 45° for 20 ms. -/
def Dev.pllUnlock (d : Dev) (c : Nat) : Dev :=
  if d.cxAm c ∧ 20 ≤ (d.ctx c).ana.phHigh then let e := d.setB (O.cxSyncLock c) false; e.detSet c (e.detNow c) else d

/-- The detector that AUTO wants while the PLL is locked (R187): the sideband away from a side whose adjacency ratio exceeds the other's by 6 dB, and DSB again
once both have been within 3 dB for 1 s. -/
def AnaSt.detWants (a : AnaSt) : Option Nat :=
  if a.sides.2 + 600 ≤ a.sides.1 then some 2 else if a.sides.1 + 600 ≤ a.sides.2 then some 3 else if 1000 ≤ a.near then some 1 else none

/-- AM_DETECTOR_CHANGE (R187): AUTO with the PLL locked chooses DSB, USB or LSB. -/
def Dev.detChange (d : Dev) (c v : Nat) : Dev :=
  if d.cxAm c ∧ d.cxEff c (O.cxAmMode c) = 0 ∧ d.flag (O.cxSyncLock c) ∧ (d.ctx c).ana.detWants = some v then d.detSet c v else d

/-! ### RDS (R183, R184) -/

/-- The remainder of a polynomial over GF(2) of 26 bits by the generator of IEC 62106, x^10+x^8+x^7+x^5+x^4+x^3+1, bit by bit
from the top (log 19). -/
def rdsRem : Nat → Nat → Nat
  | 0, w => w % 1024
  | n + 1, w => rdsRem n (if w.testBit (n + 10) then w ^^^ (0x5B9 * 2 ^ n) else w)

/-- The offset words of IEC 62106 by OFFSET code 0 A, 1 B, 2 C, 3 C', 4 D, 5 E (log 19). -/
def rdsOffsets : List Nat := [0x0FC, 0x198, 0x168, 0x350, 0x1B4, 0x000]

/-- The offsets that may follow an offset (R184). -/
def rdsNext (o : Nat) : List Nat :=
  match o with
  | 0 => [1] | 1 => [2, 3] | 2 => [4] | 3 => [4] | _ => [0, 5]

/-- Error bursts of at most `b` bits, shortest first, as odd patterns. -/
def bursts (b : Nat) : List Nat :=
  (List.range b).flatMap (fun l => (List.range (2 ^ l)).filterMap (fun k => let p := 2 ^ l + k; if p % 2 = 1 then some p else none))

/-- The burst that turns a block into one with a given offset, shifted into place: none needed, or the first of at most `b`
bits. -/
def rdsFix (w off b : Nat) : Option Nat :=
  if rdsRem 16 w = off then some 0
  else (bursts b).findSome? (fun p => (List.range 26).findSome? (fun k =>
    let e := p * 2 ^ k
    if e < 67108864 ∧ rdsRem 16 (w ^^^ e) = off then some e else none))

/-- RDS streams that a context demodulates: RDS_ENABLE, and stream 0 alone in SENTRY (R183, R194); MEAS has none (R191). -/
def Dev.rdsOn (d : Dev) (c stream : Nat) : Bool :=
  (decide (d.nat (O.cxType c) = 1) || (decide (d.nat (O.cxType c) = 11) && decide (d.nat (O.cxSubject c) = 0) && decide (stream = 0))) &&
  (d.cxEff c (O.cxRdsEnable c)).toNat.testBit stream && (decide (d.cxSt c = 3) || decide (d.cxSt c = 4))

/-- A stream that is not selected any more holds no synchronisation. -/
def Dev.rdsDrop (d : Dev) (c : Nat) : Dev :=
  let off := (List.range 4).filter (fun i => !(d.cxEff c (O.cxRdsEnable c)).toNat.testBit i)
  off.foldl (fun (x : Dev) i =>
    (x.setCtx c { x.ctx c with rds := Tab.set {} (x.ctx c).rds i {} }).setN (O.cxRdsSync c) (withBit (x.nat (O.cxRdsSync c)) i false : Nat)) d

/-- Biphase and differential decoding of a block's 52 chips, the first in the top bit (R183): a bit is its first chip, which the second inverts, and a data bit
says whether it differs from the bit before. The last biphase bit, and the word. -/
def rdsWord (last : Bool) (chips : Nat) : Bool × Nat :=
  (List.range 26).foldl (fun (p : Bool × Nat) k => let b := chips.testBit (51 - 2 * k); (b, 2 * p.2 + (if b != p.1 then 1 else 0))) (last, 0)

/-- RDS_BLOCK (R183, R184): the chips of a block of `stream` that covers the tap samples from `first` to `sample`. -/
def Dev.rdsBlock (d : Dev) (c stream chips sample first : Nat) : Dev :=
  if !d.rdsOn c stream then d
  else
    let s := d.ctx c
    let x := Tab.get {} s.rds stream
    let dec := rdsWord x.last chips
    let w := dec.2
    let ovl := d.cxTagged c tagOvl first (sample + 1)
    let put := fun (e : Dev) (y : RdsSync) => (e.setCtx c { e.ctx c with rds := Tab.set {} (e.ctx c).rds stream { y with last := dec.1, lostAt := if x.sync && !y.sync then d.mono else x.lostAt } }).setN (O.cxRdsSync c)
      (withBit (e.nat (O.cxRdsSync c)) stream y.sync : Nat)
    if !x.sync then
      let hit := (List.range 6).find? (fun k => decide (rdsRem 16 w = rdsOffsets.getD k 0))
      match hit with
      | none => put d { prev := none }
      | some k =>
        if x.prev.any (fun p => (rdsNext p).any (fun n => decide (n = k))) then put d { sync := true, expect := k, fresh := true }
        else put d { prev := some k }
    else
      let cand := rdsNext x.expect
      let lim := (d.cxEff c (O.cxRdsErrMax c)).toNat
      let exact := cand.find? (fun k => decide (rdsRem 16 w = rdsOffsets.getD k 0))
      let fix := match exact with
        | some k => some (k, 0)
        | none => cand.findSome? (fun k => (rdsFix w (rdsOffsets.getD k 0) lim).map (fun e => (k, e)))
      let bad := fix.isNone
      let k := match fix with | some p => p.1 | none => cand.headD 0
      let e := match fix with | some p => p.2 | none => 0
      let info := (w ^^^ e) / 1024
      let fl := (if x.fresh then 1 else 0) + (if bad then 2 else 0) + (if ovl then 4 else 0)
      let ent := leBytes 2 info ++ leBytes 1 stream ++ leBytes 1 k ++ leBytes 1 (if bad then 255 else popcount 26 e) ++ leBytes 1 fl
      let hist := (bad :: x.hist).take 50
      let lost := decide (25 ≤ (hist.filter (fun b => b)).length) && decide (hist.length = 50)
      let y : RdsSync := if lost then {} else { sync := true, expect := k, hist := hist }
      let d1 := (put d y).inc (O.cxRdsBlocks c)
      let d2 := if bad then d1.inc (O.cxRdsUncorr c) else d1
      d2.setCtx c { d2.ctx c with rdsOut := (d2.ctx c).rdsOut ++ [(sample, stream, ent)],
                                  pis := if stream = 0 ∧ k = 0 then ((if bad then 0 else info) :: (d2.ctx c).pis).take 2 else (d2.ctx c).pis }

/-! ### Measurement windows (R191 to R193, R218) -/

/-- LEVEL_UNC of the door band that a context's best tap uses. -/
def Dev.cxUnc (d : Dev) (c : Nat) : Nat :=
  let n := (d.cxChains c).getD (d.nat (O.cxBest c)) 0
  d.nat (O.caLevelUnc (d.bandIndex n (d.nat (O.cxDoor c))))

/-- Column `k` of a window's intervals that hold a measurement. -/
def MeasWin.col (w : MeasWin) (k : Nat) : List Int := (w.rows.filter (fun r => decide (r.getD 0 0 = 1))).map (fun r => r.getD k 0)

/-- The mean of some numbers, to nearest; 0 of none. -/
def meanInt (l : List Int) : Int := divRound l.sum (max 1 l.length)

/-- A transmitter put before the first weaker one (R219). -/
def tiiInsert (x : Nat × Nat × Int × Int) : List (Nat × Nat × Int × Int) → List (Nat × Nat × Int × Int)
  | [] => [x]
  | y :: t => if y.2.2.1 < x.2.2.1 then x :: y :: t else y :: tiiInsert x t

/-- The transmitters reported (R219, Table 7.18): ranked by level, within 20 dB of the strongest, at most `n`; level and delay against the strongest. -/
def tiiEntries (n : Nat) (l : List (Nat × Nat × Int × Int)) : List (Nat × Nat × Int × Int) :=
  let s := l.foldl (fun a x => tiiInsert x a) []
  match s with
  | [] => []
  | top :: _ => ((s.filter (fun x => decide (top.2.2.1 - 2000 ≤ x.2.2.1))).take n).map (fun x => (x.1, x.2.1, x.2.2.1 - top.2.2.1, x.2.2.2 - top.2.2.2))

/-- The record of a window that ends at device time `tEnd` (Tables 6.11 and 7.17); `cut`: it was cut short. With MPX power and PEAK_B. -/
def Dev.measRecord (d : Dev) (c : Nat) (w : MeasWin) (tEnd : Nat) (cut : Bool) (r : MeasRep) : List Byte × Int × Nat :=
  let ms := (d.cxEff c (O.cxMeasWindowMs c)).toNat
  let k := d.cxKind c
  let fm := decide (k = 0)
  let short := fm && decide (ms < 60000)
  let start := max w.start (tEnd - ms * 1000000)
  let lv := fun (v : Int) => leBytes 2 (toUnsigned 16 v)
  let db := fun (j : Nat) => meanDb ((w.col j).filter (fun v => decide (v ≠ -32768)))
  let top := fun (j : Nat) => ((w.col j).foldl max 0).toNat
  let head := leBytes 1 0x11 ++ leBytes 1 1 ++ leBytes 1 (d.nat (O.cxSubject c)) ++
    leBytes 1 ((if 0 < w.ovlMs then 1 else 0) + (if w.lane then 2 else 0) + (if cut then 4 else 0) + (if w.muted then 8 else 0) + (if short then 16 else 0)) ++
    leBytes 2 ms ++ leBytes 2 (satU 16 w.ovlMs) ++ leBytes 8 start ++ leBytes 8 tEnd ++ lv (db 1) ++ leBytes 2 (d.cxUnc c)
  let mpx := if fm ∧ !(w.col 9).isEmpty then ratioDb (2 * (meanInt (w.col 9)).toNat) (19000 * 19000) else -32768
  let peakB := if fm then ((w.col 7).sum * 10000).toNat / max 1 (w.col 10).sum.toNat else top 7
  let tii := if k = 2 ∧ d.nat (O.cxDMode c) = 1 then tiiEntries (d.cxEff c (O.cxTiiMax c)).toNat r.tii else []
  let body := if k < 2 then
      lv (db 2) ++ lv (if fm then db 4 else -32768) ++ lv (if fm then db 3 else -32768) ++ lv mpx ++
      leBytes 4 (toUnsigned 32 (meanInt (w.col 5))) ++ leBytes 4 (top 6) ++ leBytes 4 peakB ++ leBytes 4 (meanInt (w.col 8)).toNat ++
      (List.range 4).flatMap (fun i => leBytes 2 (if fm then r.rdsDev.getD i 0 else 0)) ++ zeroBytes 4
    else
      lv (db 2) ++ lv (db 3) ++ leBytes 4 (if k = 3 then w.fac else r.errRate) ++ leBytes 4 (toUnsigned 32 (meanInt (w.col 5))) ++
      leBytes 4 (meanInt (w.col 6)).toNat ++ leBytes 1 tii.length ++
      leBytes 1 (d.nat (O.cxDMode c)) ++ leBytes 2 (if k = 3 then r.doppler else 0) ++ lv (if k = 3 then r.wmer else -32768) ++
      leBytes 1 (if k = 3 then d.nat (O.cxDParam c) else 0) ++ zeroBytes 13 ++
      tii.flatMap (fun e => leBytes 1 e.1 ++ leBytes 1 e.2.1 ++ lv e.2.2.1 ++ leBytes 4 (toUnsigned 32 e.2.2.2))
  (head ++ body, mpx, peakB)

/-- MEAS_WINDOW_END (R191): the record is carried in this run's frame. A window that was cut short gives its record first. -/
def Dev.measEnd (d : Dev) (c : Nat) (r : MeasRep) : Dev :=
  if d.nat (O.cxType c) ≠ 9 ∨ !d.cxWorks c then d
  else
    let put := fun (e : Dev) (x : List Byte × Int × Nat) =>
      let e1 := if e.cxKind c = 0 then (e.setN (O.cxMpxPower c) x.2.1).setN (O.cxDevExceed c) x.2.2 else e
      e1.setCtx c { e1.ctx c with meas := (e1.ctx c).meas ++ [x.1] }
    match (d.ctx c).cuts with
    | w :: rest => put (d.setCtx c { d.ctx c with cuts := rest }) (d.measRecord c w.1 w.2 true r)
    | [] =>
      let len := max 1 (d.cxEff c (O.cxMeasWindowMs c)).toNat * 1000000
      let d0 := d.tick (8448 + c) len 0
      let tEnd := d0.now / len * len
      put (d0.setCtx c { d0.ctx c with window := { start := tEnd } }) (d0.measRecord c (d0.ctx c).window tEnd false r)

/-! ### Service information (R205 to R209) -/

/-- A digital context that receives service information: LOCKED or SHADOW. -/
def Dev.cxDigital (d : Dev) (c : Nat) : Bool :=
  decide (2 ≤ d.cxKind c) && decide (d.cxKind c ≤ 4) && (decide (d.cxSt c = 3) || decide (d.cxSt c = 4))

/-- Every selector against a new set of service information. -/
def Dev.selsResolve (d : Dev) (c : Nat) (l : List SvcEnt) : Dev := (List.range 5).foldl (fun x i => x.selResolve c i true l) d

/-- A complete set of service information taken over: what it signals, and its services. -/
def Dev.svcTake (d : Dev) (c eid : Nat) (info : SigInfo) (l : List SvcEnt) : Dev :=
  let s := d.ctx c
  let d1 := (d.sigShow c info).setCtx c { s with info := true, svcs := l, infoAt := if s.info then s.infoAt else d.tapIndexNow (d.cxRate c) }
  if d1.cxKind c = 2 then d1.setN (O.cxEid c) eid
  else if d1.cxKind c = 4 then d1.setN (O.cxNrPrograms c) (l.foldl (fun m e => if e.comp < 8 then withBit m e.comp true else m) 0 : Nat)
  else d1

/-- SERVICE_INFO_COMPLETE (R209). An ensemble whose EId has changed without a reconfiguration is a new signal (R205). -/
def Dev.svcInfo (d : Dev) (c : Nat) (r : SvcRep) : Dev :=
  if !d.cxDigital c then d
  else if d.cxKind c = 2 ∧ (d.ctx c).info ∧ d.nat (O.cxEid c) ≠ r.eid then (((d.cxRetuned c).cxGo c 2).hypClear c).ctxClear c
  else (d.svcTake c r.eid r.info r.services).selsResolve c r.services

/-- A selector whose component keeps its number, start, size and protection decodes on (R205). -/
def Dev.selKept (d : Dev) (c i : Nat) (l : List SvcEnt) : Bool :=
  let s := d.sel c i
  let at_ : List SvcEnt → Option (Nat × Nat × Nat) := fun m => (m.find? (fun e => decide (e.comp = s.comp))).map (fun e => (e.start, e.size, e.prot))
  decide (s.codec ≠ 0) && (at_ l).isSome && decide (at_ l = at_ (d.ctx c).svcs)

/-- A reconfiguration (R205 to R207): the new configuration applies, selectors that it does not keep resolve again, and the run carries RECONFIG. -/
def Dev.reconfig (d : Dev) (c : Nat) (keep : Nat → Bool) (info : SigInfo) : Dev :=
  let d1 := (List.range 5).foldl (fun x i => if keep i ∨ (x.sel c i).state = 0 then x else x.selReset c i) ((d.sigShow c info).inc (O.cxDReconfig c))
  d1.setCtx c { d1.ctx c with reconf := true, seen := [] }

/-- DAB_RECONFIG (R205): from the CIF of count `cif`. -/
def Dev.dabReconfig (d : Dev) (c cif : Nat) (r : SvcRep) : Dev :=
  if d.cxDigital c ∧ d.cxKind c = 2 then
    let d1 := (d.reconfig c (fun i => d.selKept c i r.services) r.info).setN (O.cxCifCount c) cif
    (d1.svcTake c r.eid r.info r.services).selsResolve c r.services
  else d

/-- DRM_RECONFIG (R206): from the superframe that the FAC names. -/
def Dev.drmReconfig (d : Dev) (c : Nat) (l : List SvcEnt) (i : SigInfo) : Dev :=
  if d.cxDigital c ∧ d.cxKind c = 3 then ((d.reconfig c (fun k => d.selKept c k l) i).svcTake c 0 i l).selsResolve c l else d

/-- NRSC5_MODE_CHANGE (R207): logical channels restart. -/
def Dev.nrscChange (d : Dev) (c : Nat) (i : SigInfo) : Dev :=
  if d.cxDigital c ∧ d.cxKind c = 4 then
    let e := d.reconfig c (fun _ => true) i
    e.setCtx c { e.ctx c with lockAt := e.tapIndexNow (e.cxRate c) }
  else d

/-! ### Decoded audio (R212 to R214) -/

/-- Samples at 48 kSa/s of a selector's decoder, its resampler included. -/
def Dev.decoded (d : Dev) (c i : Nat) (mono : Bool) (l : List (Int × Int)) : Dev × List (Int × Int) :=
  let s := d.ctx c
  let fs := (d.sel c i).fs
  let one := if mono then l.map (fun p => (p.1, p.1)) else l
  if fs = 48000 ∨ fs = 0 then (d, one)
  else
    let r := s.ana.pass (.decoderRate i) [(fs : Int)] (flat one) (2 * (l.length * 48000 / fs))
    (d.setCtx c { s with ana := r.1 }, (pairs r.2).map (fun p => (satS 24 p.1, satS 24 p.2)))

/-- A coded frame that passed its check: after failed ones the PCM fades in over 5 ms. -/
def Dev.codedGood (d : Dev) (c : Nat) (x : CodedOut) : Dev :=
  if (d.sel c x.sel).state ≠ 2 ∨ d.cxSt c = 5 then d
  else
    let r := d.decoded c x.sel x.mono x.pcm
    let s := r.1.sel c x.sel
    let rise := if s.failed then fadeLen else s.rise
    let y := r.2.zipIdx.map (fun p => if p.2 < rise then weigh (fxOne - fadeW (fadeLen - rise + p.2) fadeLen) p.1 else p.1)
    let q := s.pcm ++ y
    r.1.keepSel c x.sel { s with pcm := q.drop (q.length - 48000), frame := r.2.length, failed := false, rise := rise - r.2.length }

/-- CODED_FRAME_FAILED (R214): at the first one the PCM fades to silence, and silence follows while frames fail, as long as the frame before. -/
def Dev.codedFail (d : Dev) (c i : Nat) : Dev :=
  let s := d.sel c i
  if s.state = 2 then
    let d0 := if s.failed then d else d.pcmFade c i
    let t := d0.sel c i
    let quiet := List.replicate (if s.failed then s.frame else s.frame - fadeLen) (0, 0)
    let d1 := d0.keepSel c i { t with pcm := t.pcm ++ quiet, failed := true, rise := 0 }
    let d2 := d1.setCtx c { d1.ctx c with audioErr := (d1.ctx c).audioErr + 1, errAt := if i = 0 then some d1.mono else (d1.ctx c).errAt }
    if i < 4 then d2.inc (O.cxDecErr c i) else d2
  else d

/-- Silence of the decoding selectors of a context in HOLD, up to now (R120). -/
def Dev.hushAll (d : Dev) (c : Nat) : Dev :=
  if d.cxSt c ≠ 5 then d
  else (List.range 5).foldl (fun (x : Dev) i =>
    let s := x.sel c i
    if s.state ≠ 2 then x
    else
      let n := (x.mono - s.hush) * 48 / 1000000
      let q := s.pcm ++ List.replicate (min 48000 n) (0, 0)
      x.keepSel c i { s with pcm := q.drop (q.length - 48000), hush := s.hush + ceilDiv (n * 1000000) 48, failed := false }) d

/-! ### Output frames (R190, R192, R216, R217, R103) -/

/-- Column `k` of the run's indicator intervals, without intervals that have no value. -/
def CtxSt.col (s : CtxSt) (k : Nat) : List Int := (s.inds.map (fun l => l.getD k (-32768))).filter (fun v => decide (v ≠ -32768))

/-- QFLAGS of the run summary (Table 6.9). -/
def Dev.anaFlags (d : Dev) (c : Nat) : Nat :=
  (if d.flag (O.cxStereo c) then 1 else 0) + (if d.flag (O.cxSyncLock c) then 2 else 0) + ((d.ctx c).qbits &&& 28) +
  (if 2 ≤ d.nat (O.cxAmSideband c) then 32 else 0)

/-- An RDS entry put before the first that ends later; ties by stream (R190). -/
def insertRds (x : Nat × Nat × List Byte) : List (Nat × Nat × List Byte) → List (Nat × Nat × List Byte)
  | [] => [x]
  | y :: t => if x.1 < y.1 ∨ (x.1 = y.1 ∧ x.2.1 < y.2.1) then x :: y :: t else y :: insertRds x t

/-- Payload of an FM, AM or SENTRY-FM or -AM run (Tables 6.9 and 6.10). -/
def Dev.anaPayload (d : Dev) (c first : Nat) : List Byte :=
  let s := d.ctx c
  let rds := s.rdsOut.foldl (fun l x => insertRds x l) []
  let lv := fun (v : Int) => leBytes 2 (toUnsigned 16 v)
  let aq := s.col 4
  leBytes 1 0x12 ++ leBytes 1 1 ++ leBytes 2 rds.length ++ lv (meanDb (s.col 0)) ++ lv (meanDb (s.col 1)) ++ lv (meanDb (s.col 2)) ++ lv (meanDb (s.col 3)) ++
  lv (aq.foldl min (aq.headD (-32768))) ++ leBytes 2 (d.anaFlags c) ++ leBytes 4 (toUnsigned 32 (d.num (O.cxQOffset c))) ++
  leBytes 4 (((s.inds.map (fun (l : List Int) => l.getD 5 0)).foldl max 0).toNat) ++ leBytes 4 (d.nat (O.cxIfbw c)) ++ leBytes 1 (d.nat (O.cxBlend c)) ++
  leBytes 1 (divRound s.mute (25 * fxOne)).toNat ++ leBytes 2 (d.nat (O.cxHicut c)) ++
  rds.flatMap (fun e => e.2.2 ++ leBytes 2 (e.1 - first))

/-- A selector delivers encoded audio (Tables 7.10 and 7.16). -/
def Dev.selEncodes (d : Dev) (c i : Nat) : Bool :=
  let s := d.sel c i
  decide (s.codec ≠ 0) && (decide (s.state = 3) || decide (s.state = 4) || decide (s.state = 6) || (decide (s.state = 2) && decide (d.selMode c i = 3)))

/-- A selector resolved to a component delivers encoded audio of an item that ends at sample `n`: in DAB from the first logical frame after 16 CIFs of 24 ms
since it resolved (R201). -/
def Dev.encodes (d : Dev) (c comp n : Nat) : Bool :=
  (List.range 4).any (fun i =>
    let s := d.sel c i
    decide (s.comp = comp) && d.selEncodes c i && (decide (d.cxKind c ≠ 2) || decide (s.start + 16 * 49152 ≤ n)))

/-- Samples of an L1 frame of NRSC-5, 65,536 / 44,100 s, at the type's tap rate. -/
def l1Frame (ty : Nat) : Nat := if ty = 8 then 65536 * 48000 / 44100 else 65536 * 1488375 / 88200

/-- The steps of Table 7.4: an item that ends at sample `n` comes after those before it. DAB: subchannels 16 CIFs after the service information; DRM: streams
with the SDC and D deinterleaved frames; NRSC-5: logical channels but PIDS one complete L1 frame after lock; the rest from lock on. -/
def Dev.stepDone (d : Dev) (c : Nat) (e : DigEnt) : Bool :=
  let s := d.ctx c
  let ty := d.nat (O.cxType c)
  let depth := if d.nat (O.cxDrmInterleave c) = 0 then 1 else if ty = 4 then 6 else 5
  match e.ety with
  | 0x02 | 0x05 => s.info && decide (s.infoAt + 16 * 49152 ≤ e.sample)
  | 0x03 | 0x04 => s.info
  | 0x12 => s.info && decide (s.infoAt ≤ e.sample) && decide (s.lockAt + depth * 19200 ≤ e.sample)
  | 0x20 => if e.src = 5 then decide (s.lockAt < e.sample) else decide (s.lockAt + l1Frame ty ≤ e.sample)
  | 0x21 | 0x22 => decide (s.lockAt + l1Frame ty ≤ e.sample)
  | _ => decide (s.lockAt < e.sample)

/-- Whether an entry is carried (Table 7.16, R201, R218, R220). -/
def Dev.carried (d : Dev) (c : Nat) (e : DigEnt) : Bool :=
  let b := fun (o : Nat) => (d.cxEff c o).toNat.testBit e.src
  let ty := d.nat (O.cxType c)
  let full := decide (ty = 5) || decide (ty = 3) || decide (ty = 4) || decide (ty = 7) || decide (ty = 8)
  d.stepDone c e &&
  (match e.ety with
  | 0x01 => decide (d.cxEff c (O.cxFibFrames c) = 1)
  | 0x02 => full && b (O.cxSubchFrames c)
  | 0x03 | 0x04 => full && d.encodes c e.src e.sample
  | 0x05 => full && b (O.cxPktFrames c)
  | 0x10 | 0x11 => decide (d.cxEff c (O.cxFacFrames c) = 1)
  | 0x12 => full && (b (O.cxStreamFrames c) || d.encodes c e.src e.sample)
  | 0x20 => full && b (O.cxLcFrames c)
  | 0x21 => full && (b (O.cxAudioFrames c) || d.encodes c e.src e.sample)
  | 0x22 => full && b (O.cxPsdFrames c)
  | _ => false)

/-- An entry put in the order of R216: SAMPLE_OFF, then ETYPE, then SOURCE. -/
def insertEnt (x : DigEnt) : List DigEnt → List DigEnt
  | [] => [x]
  | y :: t =>
    if x.sample < y.sample ∨ (x.sample = y.sample ∧ (x.ety < y.ety ∨ (x.ety = y.ety ∧ x.src < y.src))) then x :: y :: t else y :: insertEnt x t

/-- The entries that fit in a payload with `room` bytes left; the rest wait for the next run (R216). -/
def fitEnts : Nat → List DigEnt → List DigEnt × List DigEnt
  | _, [] => ([], [])
  | room, e :: t => if 12 + e.content.length ≤ room then let r := fitEnts (room - 12 - e.content.length) t; (e :: r.1, r.2) else ([], e :: t)

/-- The bits of a byte, the top one first. -/
def byteBits (b : Byte) : List Bool := (List.range 8).map (fun i => b.toNat.testBit (7 - i))

/-- The CRC of a FIB over some bits, x^16 + x^12 + x^5 + 1 from all ones, of EN 300 401 (log 108). -/
def crcBits (r : Nat) (l : List Bool) : Nat :=
  l.foldl (fun r b => let top := (r.testBit 15) != b; let s := r * 2 % 65536; if top then s ^^^ 0x1021 else s) r

/-- A FIB of 32 bytes whose last two are the complement of the CRC of the others. -/
def fibOk (l : List Byte) : Bool :=
  decide (l.length = 32) && decide (crcBits 0xFFFF ((l.take 30).flatMap byteBits) ^^^ 0xFFFF = 256 * (l.getD 30 0).toNat + (l.getD 31 0).toNat)

/-- The CRC of an entry has failed: that of a FIB is computed. -/
def entBad (e : DigEnt) : Bool := if e.ety = 1 then !fibOk e.content else e.bad

/-- EFLAGS bits 0 to 3 of an entry (Table 7.14): OVL where some tap's samples of its symbols were tagged (R203). The erasure of soft decisions is in what
was decoded. -/
def Dev.entFlags (d : Dev) (c : Nat) (e : DigEnt) : Nat :=
  (if entBad e then 1 else 0) + (if e.err = 255 then 2 else 0) + (if 0 < e.err ∧ e.err < 255 then 4 else 0) +
  (if d.cxTagged c tagOvl (e.sample + 1 - e.span) (e.sample + 1) then 8 else 0)

/-- Table 7.14 for one entry with its flags, with FIRST where its source has not been seen since lock, reconfiguration or selection. -/
def entBytes (first : Nat) (seen : List (Nat × Nat)) (fl : Nat) (e : DigEnt) : List Byte :=
  leBytes 1 e.ety ++ leBytes 1 e.src ++ leBytes 2 e.content.length ++
  leBytes 1 (fl + (if seen.any (fun p => decide (p = (e.ety, e.src))) then 0 else 16)) ++ leBytes 1 e.err ++ leBytes 2 e.counter ++
  leBytes 4 (toUnsigned 32 ((e.sample : Int) - first)) ++ e.content

/-- The entries of a frame one after another, each source's first marked. -/
def entsBytes (first : Nat) (fl : DigEnt → Nat) : List (Nat × Nat) → List DigEnt → List Byte
  | _, [] => []
  | seen, e :: t => entBytes first seen (fl e) e ++ entsBytes first fl ((e.ety, e.src) :: seen) t

/-- The blocks of a run whose passing SYNC_OK and SYNC_FAIL count: FIBs, FAC blocks, or NRSC-5 blocks (Table 7.13); true: passed. -/
def Dev.syncBlocks (d : Dev) (c : Nat) (r : DigRun) : List Bool :=
  match d.cxKind c with
  | 2 => (r.entries.filter (fun e => decide (e.ety = 1))).map (fun e => !entBad e)
  | 3 => (r.entries.filter (fun e => decide (e.ety = 0x10))).map (fun e => !entBad e)
  | _ => r.sync

/-- The last FIC, FAC or PIDS of the run passed its CRC (Table 7.15). -/
def Dev.infoPassed (d : Dev) (c : Nat) (r : DigRun) : Bool :=
  match d.cxKind c with
  | 4 => (((r.entries.filter (fun e => decide (e.ety = 0x20) && decide (e.src = 5))).getLast?).map (fun e => !entBad e)).getD false
  | _ => ((d.syncBlocks c r).getLast?).getD false

/-- Payload of a digital run (Tables 7.13 to 7.16), and the device with the entries that wait for the next run. -/
def Dev.digPayload (d : Dev) (c first : Nat) (ovl : Bool) (r : DigRun) : Dev × List Byte :=
  let s := d.ctx c
  let l := (r.entries.filter (d.carried c)).foldl (fun a e => insertEnt e a) []
  let f := fitEnts (65500 - 32) (s.left ++ l)
  let seen := s.seen.filter (fun p => d.carried c { ety := p.1, src := p.2, bad := false, err := 0, counter := 0, sample := 2 ^ 64, span := 0, content := [] })
  let lv := fun (v : Int) => leBytes 2 (toUnsigned 16 v)
  let sels := (List.range 5).map (fun i => (d.sel c i).state)
  let blocks := d.syncBlocks c r
  let count := fun (b : Bool) => satU 16 (blocks.filter (fun x => x == b)).length
  let q := (if r.sync.all (fun b => b) ∧ d.cxSt c ≠ 5 then 1 else 0) + (if d.infoPassed c r then 2 else 0) + (if s.info then 4 else 0) + (if s.reconf then 8 else 0) +
    (if ovl then 16 else 0) + (if sels.any (fun x => decide (x = 2)) then 32 else 0) + (if sels.any (fun x => decide (x = 4)) then 64 else 0)
  let b := leBytes 1 0x13 ++ leBytes 1 1 ++ leBytes 2 f.1.length ++ lv (meanDb (s.col 0)) ++ lv (meanDb (s.col 1)) ++ lv (meanDb (s.col 2)) ++ leBytes 2 q ++
    leBytes 4 (toUnsigned 32 (d.num (O.cxDOffset c))) ++ leBytes 2 (count true) ++ leBytes 2 (count false) ++ leBytes 2 r.counter ++ leBytes 1 (d.nat (O.cxDMode c)) ++
    leBytes 1 (d.nat (O.cxDParam c)) ++ leBytes 2 (if d.cxKind c = 4 then 0 else satU 16 s.audioErr) ++ leBytes 2 (satU 16 (meanInt (s.col 5)).toNat) ++ zeroBytes 4 ++
    entsBytes first (d.entFlags c) seen f.1
  (d.setCtx c { s with left := f.2, seen := f.1.foldl (fun a e => if a.any (fun p => decide (p = (e.ety, e.src))) then a else (e.ety, e.src) :: a) seen }, b)

/-! ### IQ export (R102 to R104, R106) -/

/-- A Q31 number in the sample format of a record: S16 by the shift, saturated, or S32. -/
def iqNumber (fmt shift : Nat) (x : Int) : Int := if fmt = 1 then x else satS 16 (divRound (x * (2 ^ shift : Nat)) 65536)

/-- A complex sample is saturated in a record's format. -/
def iqClips (fmt shift : Nat) (x : Int × Int) : Bool :=
  decide (fmt ≠ 1) && [x.1, x.2].any (fun v => decide (iqNumber fmt shift v ≠ divRound (v * (2 ^ shift : Nat)) 65536))

/-- A complete IQ record (Table 3.10), and the device with its SEQ counted: a context's first record has SEQ 1, since the spec gives no first number (log 109).
GAP: the record does not start where the one before ended. -/
def Dev.iqRecord (d : Dev) (c : Nat) (r : IqOpen) : Dev × List Byte :=
  let s := d.ctx c
  let t := d.nat (O.cxTap c 0)
  let shift := if r.format = 1 then 0 else r.shift
  let rate := d.cxRate c
  let n := r.data.length
  let q := (s.iqSeq + 1) % 2 ^ 32
  let gap := decide (0 < s.iqSeq) && decide (r.first ≠ s.iqNext)
  let sat := (r.data.filter (iqClips r.format shift)).length
  let fs : Int := 3000 - (if r.format = 1 then 0 else divRound (60206 * (shift : Int)) 100)
  let tag := fun (g : Nat) => !(d.tapTags t g r.first (r.first + n)).isEmpty
  let w := if r.format = 1 then 4 else 2
  let num := fun (x : Int) => leBytes w (toUnsigned (8 * w) (iqNumber r.format shift x))
  (d.setCtx c { s with iqSeq := q, iqNext := r.first + n },
   leBytes 1 2 ++ leBytes 1 1 ++ leBytes 2 n ++ leBytes 1 c ++ leBytes 1 t ++ leBytes 1 (d.nat (O.lnTapChain t)) ++ leBytes 1 (d.nat (O.lnTapDoor t)) ++
   leBytes 4 q ++ leBytes 1 r.format ++ leBytes 1 shift ++ leBytes 1 rate ++
   leBytes 1 ((if tag tagOvl then 1 else 0) + (if tag tagMuted then 2 else 0) + (if tag tagRetune then 4 else 0) + (if tag tagLane then 8 else 0) +
     (if sat = 0 then 0 else 16) + (if gap then 32 else 0)) ++ leBytes 4 (d.tapRfAt t r.first) ++
   leBytes 2 (toUnsigned 16 fs) ++ zeroBytes 2 ++ leBytes 8 r.first ++ leBytes 8 (d.tapTime rate r.first) ++ leBytes 4 sat ++
   leBytes 4 (d.tapCount t r.first (r.first + n)) ++ r.data.flatMap (fun x => num x.1 ++ num x.2))

/-- A record that begins at sample `n` takes the settings of that moment (R106); IQ_SAMPLES of a record in format 1 is at most 4,096 (R104). -/
def Dev.iqBegin (d : Dev) (c n : Nat) : IqOpen :=
  let fmt := d.nat (O.lnIqFormat c)
  { format := fmt, shift := d.nat (O.lnIqShift c), size := if fmt = 1 then min 4096 (d.nat (O.lnIqSamples c)) else d.nat (O.lnIqSamples c), first := n, data := [] }

/-- The samples of a run, the first at index `first`, go into records; complete records come out, each with the index of its first sample. A record under way
that they do not continue is dropped, and the next one carries GAP (log 103). -/
def Dev.iqTake (d : Dev) (c first : Nat) (l : List (Int × Int)) : Dev × List (Nat × List Byte) :=
  let s := d.ctx c
  let start := match s.iqOpen with | some r => if r.first + r.data.length = first then some r else none | none => none
  let r := l.zipIdx.foldl (fun (a : (Dev × Option IqOpen) × List (Nat × List Byte)) x =>
    let o := a.1.2.getD (a.1.1.iqBegin c (first + x.2))
    let o1 := { o with data := o.data ++ [x.1] }
    if o1.size ≤ o1.data.length then let y := a.1.1.iqRecord c o1; ((y.1, none), a.2 ++ [(o1.first, y.2)]) else ((a.1.1, some o1), a.2)) ((d, start), [])
  (r.1.1.setCtx c { r.1.1.ctx c with iqOpen := r.1.2 }, r.2)

/-- The records of a run put into frames of at most 65,500 bytes (R104): the first frame's FIRST_INDEX is that of the run's first sample, a further one's that of
its first record. -/
def iqFrames (first : Nat) (l : List (Nat × List Byte)) : List (Nat × List Byte) :=
  l.foldl (fun (a : List (Nat × List Byte)) x =>
    match a.getLast? with
    | some p => if p.2.length + x.2.length ≤ 65500 then a.dropLast ++ [(p.1, p.2 ++ x.2)] else a ++ [x]
    | none => [(first, x.2)]) [] |> fun r => if r.isEmpty then [(first, [])] else r

/-! ### The end of a run (R128) -/

/-- The frames of a run by type: MEAS carries its records, or (for DAB and DRM30) the summary where none is due. -/
def Dev.runFrames (d : Dev) (c first : Nat) (ovl : Bool) (r : RunReport) : Dev × List (Nat × List Byte) :=
  let s := d.ctx c
  if d.nat (O.cxType c) = 10 then let x := d.iqTake c first r.iq; (x.1, iqFrames first x.2)
  else if d.nat (O.cxType c) = 9 ∧ (d.cxKind c < 2 ∨ !s.meas.isEmpty) then
    (d.setCtx c { s with meas := [] }, [(first, s.meas.flatten)])
  else if d.cxKind c < 2 then (d.setCtx c { s with rdsOut := [] }, [(first, d.anaPayload c first)])
  else
    let p := d.digPayload c first ovl r.dig
    (p.1, [(first, p.2)])

/-- Indicator values of the run reach the objects and the filter channels (R189). -/
def Dev.runDeliver (d : Dev) (c : Nat) : Dev :=
  let s := d.ctx c
  let d1 := (s.shown.foldl (fun (x : Dev) p => x.setN p.1 p.2.1) d).setCtx c { s with
    shown := [], feeds := [], fq := s.fq.filter (fun p => decide (d.mono < p.1 + 100000000)) ++ s.fqNew, fqNew := [], intervals := 0 }
  s.feeds.foldl (fun (x : Dev) p => x.mfFeed p.1 p.2) d1

/-- Synchronisation of a digital run counted for the loss criterion (Table 7.2), with the counts of Table 7.20. -/
def Dev.runSync (d : Dev) (c : Nat) (r : DigRun) : Dev :=
  let s := d.ctx c
  let blocks := d.syncBlocks c r
  let miss := fun (n : Nat) (l : List Bool) => l.foldl (fun n b => if b then 0 else n + 1) n
  let fails := (blocks.filter (fun b => !b)).length
  let d1 := (d.setCtx c { s with
    syncMiss := if d.cxKind c = 3 then s.syncMiss else miss s.syncMiss r.sync
    facMiss := if d.cxKind c = 3 then miss s.facMiss blocks else s.facMiss
    fibBad := if d.cxKind c ≠ 2 ∨ blocks.any (fun b => b) then none else if blocks.isEmpty then s.fibBad else some (s.fibBad.getD d.mono)
    window := { s.window with fac := s.window.fac + (if d.cxKind c = 3 then fails else 0) } }).count 32 (O.cxDSyncFail c) fails
  if d1.cxKind c = 2 then d1.setN (O.cxCifCount c) r.counter else if d1.cxKind c = 4 then d1.setN (O.cxNrAlfn c) r.alfn else d1

/-- CONTEXT_RUN_END (R128): the run consumed the samples that had arrived at its start; measurements and indicators are delivered, frames produced, status
bits updated (R130). -/
def Dev.cxRunEnd (d : Dev) (c : Nat) (r : RunReport) : Dev :=
  if !(d.ctx c).running then d
  else
    let s := d.ctx c
    let ovl := d.cxTagged c tagOvl s.runFrom s.runTo
    let lane := d.cxTagged c tagLane s.runFrom s.runTo
    let d1 := (List.range (d.nat (O.cxAntCount c))).foldl (fun (x : Dev) i => x.setN (O.cxAntSnr c i) (r.snr.getD i 0)) d
    let d2 := (d1.setN (O.cxBest c) (d1.cxBestNow c)).runDeliver c
    let d3 := d2.setCtx c { d2.ctx c with running := false, lastOvl := ovl, nextIndex := s.runTo }
    let d4 := if d3.cxProduces c then
        let e := if d3.cxDigital c then r.dig.audio.foldl (fun (x : Dev) a => x.codedGood c a) (d3.runSync c r.dig) else d3
        let f := (((if e.cxSt c = 5 then e else e.cxInclude c).cxWeights c r.weights).hushAll c).runFrames c s.runFrom ovl r
        f.2.foldl (fun x p => x.cxFrame c false ovl lane p.1 p.2) f.1
      else d3
    (d4.setCtx c { d4.ctx c with inds := [], qbits := 0, audioErr := 0, reconf := false }).cxLatch c

/-- A context run starts (R118, R138): committed writes and decoder grants, then the fixed bandwidth, the detector of AM_MODE and the RDS streams selected. -/
def Dev.runStart (d : Dev) (c : Nat) : Dev :=
  let d1 := d.cxRunStart c
  if (d1.ctx c).running then
    let d2 := (d1.bwFixed c).rdsDrop c
    if d2.cxAm c then d2.detSet c (d2.detNow c) else d2
  else d1

/-! ### Rows -/

/-- INDICATOR_INTERVAL (R189). -/
def execIndicatorInterval (c : Nat) (r : SigIn) (s : State) : Host.Outcome State Fault Refusal := s.upd (fun d => d.indicate c r)
/-- DIGITAL_INDICATOR_INTERVAL (R215). -/
def execDigitalIndicatorInterval (c : Nat) (r : DigIn) (s : State) : Host.Outcome State Fault Refusal := s.upd (fun d => d.indicateDig c r)
/-- AUDIO_QUALITY_TICK (R178). -/
def execAudioQualityTick (c : Nat) (s : State) : Host.Outcome State Fault Refusal := s.upd (fun d => d.aqTick c)
/-- IFBW_DECISION (R172). -/
def execIfbwDecision (c : Nat) (lo hi : Int) (s : State) : Host.Outcome State Fault Refusal := s.upd (fun d => d.bwDecide c lo hi)
/-- STEREO_CHANGE (R175). -/
def execStereoChange (c : Nat) (v : Bool) (s : State) : Host.Outcome State Fault Refusal := s.upd (fun d => d.stereoSet c v)
/-- RDS_BLOCK (R184). -/
def execRdsBlock (c stream chips sample first : Nat) (s : State) : Host.Outcome State Fault Refusal :=
  s.upd (fun d => d.rdsBlock c stream chips sample first)
/-- AM_PLL_LOCK (R188). -/
def execAmPllLock (c : Nat) (s : State) : Host.Outcome State Fault Refusal := s.upd (fun d => d.pllLock c)
/-- AM_PLL_UNLOCK (R188). -/
def execAmPllUnlock (c : Nat) (s : State) : Host.Outcome State Fault Refusal := s.upd (fun d => d.pllUnlock c)
/-- AM_DETECTOR_CHANGE (R187). -/
def execAmDetectorChange (c v : Nat) (s : State) : Host.Outcome State Fault Refusal := s.upd (fun d => d.detChange c v)
/-- MEAS_WINDOW_END (R191). -/
def execMeasWindowEnd (c : Nat) (r : MeasRep) (s : State) : Host.Outcome State Fault Refusal := s.upd (fun d => d.measEnd c r)
/-- SERVICE_INFO_COMPLETE (R209). -/
def execServiceInfoComplete (c : Nat) (r : SvcRep) (s : State) : Host.Outcome State Fault Refusal := s.upd (fun d => d.svcInfo c r)
/-- DAB_RECONFIG (R205). -/
def execDabReconfig (c cif : Nat) (r : SvcRep) (s : State) : Host.Outcome State Fault Refusal := s.upd (fun d => d.dabReconfig c cif r)
/-- DRM_RECONFIG (R206). -/
def execDrmReconfig (c : Nat) (services : List SvcEnt) (i : SigInfo) (s : State) : Host.Outcome State Fault Refusal := s.upd (fun d => d.drmReconfig c services i)
/-- NRSC5_MODE_CHANGE (R207). -/
def execNrsc5ModeChange (c : Nat) (i : SigInfo) (s : State) : Host.Outcome State Fault Refusal := s.upd (fun d => d.nrscChange c i)
/-- CODED_FRAME_FAILED (R214). -/
def execCodedFrameFailed (c i : Nat) (s : State) : Host.Outcome State Fault Refusal := s.upd (fun d => d.codedFail c i)

end Sys2Proof.Machine
end

