-- ==== Sys2Proof/Machine/Sec.lean ====
section
/-! DEFINITION. Signed images and their verification (R531 to R535), the anti-rollback counters (R536), firmware activation
and recovery requests (R540, R541), keys and roots (R542), debug authentication (R544) and attestation (R545 to R547). -/

namespace Sys2Proof.Machine

/-! ### Signed images -/

/-- Flash areas of Table 20.4: address and size. Area 1 is A, 2 is B. -/
def fwArea (a : Nat) : Nat × Nat := (if a = 1 then 0x00100000 else 0x00900000, 0x00800000)
/-- Watch image areas. -/
def watchArea (a : Nat) : Nat × Nat := (if a = 1 then 0x01100000 else 0x01200000, 0x00100000)
/-- An area of flash as bytes. -/
def Dev.flashArea (d : Dev) (a : Nat × Nat) : List Byte := memBytes d.flash a.1 a.2

/-- SIGNED_LEN and the position of the signature block that an image's header gives, by type (Table 20.2). -/
def imageExtent (ty : Nat) (img : List Byte) : Nat × Nat :=
  match ty with
  | 3 => (128, 128 + 32 * leAt img 12 4 + leAt img 8 4)
  | 4 => (let n := 64 + 12 * leAt img 5 1 + leAt img 16 4 + leAt img 20 4
          (n, n))
  | _ => (leAt img 8 4, leAt img 8 4)

/-- The version field of an image (R535). -/
def imageVersion (ty : Nat) (img : List Byte) : Nat := if ty = 2 ∨ ty = 3 then leAt img 20 4 else leAt img 12 4

/-- Whether Table 20.2 lets a root sign a type at all. -/
def rootMay (ty root : Nat) : Bool :=
  match ty with
  | 1 => decide (root = 0)
  | 4 => decide (root = 1 ∨ root = 2)
  | _ => decide (root ≤ 2)

/-- A key or hash that reads as all ones counts as not programmed (R530). -/
def notOnes (l : List Byte) : Bool := l.any (fun b => decide (b ≠ 0xFF))

/-- Customer root slot `s` is programmed, and not revoked (R534). -/
def Dev.rootIn (d : Dev) (s : Nat) : Bool := (d.nat O.scRootState).testBit (2 * s) && notOnes (d.raw (O.scCustRoot s))

/-- Check 2 of R534: the root that a block names. -/
def Dev.rootOk (d : Dev) (ty root : Nat) (pub : List Byte) : Bool :=
  if root = 0 then
    decide (sha256 pub = d.raw O.scSkenumRoot) && notOnes (d.raw O.scSkenumRoot) &&
    !(decide (ty = 2 ∨ ty = 3) && (d.rootIn 0 || d.rootIn 1))
  else
    let s := root - 1
    decide (sha256 pub = d.raw (O.scCustRoot s)) && d.rootIn s && !(d.nat O.scRootState).testBit (2 * s + 1)

/-- The header of a code image (Table 20.5). -/
def codeHeaderOk (ty : Nat) (img : List Byte) : Bool :=
  if ty = 1 ∨ ty = 5 then
    decide (leAt img 0 4 = (if ty = 1 then 0x57464B53 else 0x4345524B)) && decide (leAt img 4 1 = 1) && decide (leAt img 5 1 = ty)
  else true

/-- The checks of R534 for an image of a type in an area, against counter `k`: 0 when it passes, else the number of the check
that fails first. -/
def Dev.verify (d : Dev) (ty k : Nat) (img : List Byte) : Nat :=
  let e := imageExtent ty img
  let blk := slice img e.2 3040
  let root := leAt blk 5 1
  let pub := slice blk 16 60
  if !(codeHeaderOk ty img && decide (e.2 + 3040 ≤ img.length) && decide (leAt blk 0 4 = 0x53474953) && decide (leAt blk 4 1 = ty) &&
       rootMay ty root && decide (leAt blk 8 4 = e.1)) then 1
  else if !d.rootOk ty root pub then 2
  else if !hssVerify pub (img.take e.1 ++ blk.take 16) (slice blk 76 2964) then 3
  else if imageVersion ty img < d.nat (O.scRollback k) then 4
  else 0

/-- A rejected image: event 9 and its record (R534, Table 20.7). `area`: 1 A, 2 B, 3 the early watch, 0 elsewhere. -/
def Dev.rejectImage (d : Dev) (ty check area : Nat) : Dev := (d.record 0x48 ty (check + 256 * area)).raise 9 ty

/-! ### Anti-rollback counters -/

/-- Greatest value of a counter (R535). -/
def counterMax (k : Nat) : Nat := if k < 16 then 4096 else 256

/-- Counters that exist: 0–4 and 16–31. -/
def counterExists (k : Nat) : Bool := decide (k ≤ 4) || (decide (16 ≤ k) && decide (k ≤ 31))

/-- A counter raised to `v`, never above its maximum and never lower. -/
def Dev.raiseCounter (d : Dev) (k v : Nat) : Dev :=
  let w := min v (counterMax k)
  if d.nat (O.scRollback k) < w then d.setN (O.scRollback k) w else d

/-- The version that ROLLBACK_ADV would advance counter `k` to (R536); none: no such image. -/
def Dev.rollbackVersion (d : Dev) (k : Nat) : Option Nat :=
  if k = 0 then (if d.nat O.scBootArea = 1 ∨ d.nat O.scBootArea = 2 then some d.sec.fwVersion else none)
  else if k = 1 then
    (let img := d.flashArea (0, 0x00100000)
     if d.verify 5 1 img = 0 then some (imageVersion 5 img) else none)
  else if k = 2 then (if d.nat O.wtRunBank ≠ 0 then some (d.nat O.wtImageVersion) else none)
  else if k = 3 then (if d.nat O.llLlRunBank ≠ 0 then some (d.nat O.llLlVersion) else none)
  else if 16 ≤ k ∧ k ≤ 31 then (if d.nat (O.kpProgState (k - 16)) = 2 then some (d.nat (O.kpProgVersion (k - 16))) else none)
  else none

/-- A recovery script that fails its verification at a write of 1 to ROLLBACK_ADV is a rejected image (R534, R536). -/
def Dev.recoveryRejected (d : Dev) : Dev :=
  match d.verify 5 1 (d.flashArea (0, 0x00100000)) with
  | 0 => d
  | c => d.rejectImage 5 c 0

/-- Whether ROLLBACK_ADV = `k` is refused with STATE (R536). -/
def Dev.rollbackRefused (d : Dev) (k : Nat) : Bool :=
  match d.rollbackVersion k with
  | some v => decide (v ≤ d.nat (O.scRollback k))
  | none => true

/-- ROLLBACK_ADV committed (R536). -/
def Dev.rollbackAdv (d : Dev) (k : Nat) : Dev :=
  match d.rollbackVersion k with
  | some v =>
    if d.nat (O.scRollback k) < v then
      let d1 := d.raiseCounter k v
      (d1.record 0x47 k (d1.nat (O.scRollback k))).raise 10 k
    else d
  | none => d

/-! ### Firmware activation (R540) and recovery requests (R541) -/

/-- FW_ACTIVATE committed: verification starts. -/
def Dev.fwActivate (d : Dev) (a : Nat) : Dev :=
  ({ d with sec := { d.sec with checking := some a } }).setN O.scFwActResult 1

/-- FW_CHECKS_DONE (R540): a newer image that passes schedules a reset with cause FW_UPDATE. -/
def Dev.fwChecksDone (d : Dev) : Dev :=
  match d.sec.checking with
  | none => d
  | some a =>
    let d0 := { d with sec := { d.sec with checking := none } }
    let img := d.flashArea (fwArea a)
    match d.verify 1 0 img with
    | 0 =>
      if imageVersion 1 img ≤ d.sec.fwVersion then d0.setN O.scFwActResult 6
      else ({ d0 with pw := { d0.pw with pendReset := some (8, 0, d0.mono + 10000000) } }).setN O.scFwActResult 2
    | c => (d0.setN O.scFwActResult (if c = 1 then 5 else if c = 4 then 4 else 3)).rejectImage 1 c a

/-- RECOVER_CMD committed (R541): a reset with cause RECOVERY. -/
def Dev.recoverCmd (d : Dev) : Dev := { d with pw := { d.pw with pendReset := some (9, 0, d.mono) } }

/-! ### Keys and roots (R534, R542) -/

/-- Bit positions in KEY_STATE of slot `s` of role N (`m` false) or M: programmed; the next bit is revoked. -/
def keyBit (m : Bool) (s : Nat) : Nat := (if m then 8 else 0) + 2 * s

/-- A session key programmed. -/
def Dev.keyProgram (d : Dev) (m : Bool) (s : Nat) (org : Origin) : Dev :=
  (d.setN O.scKeyState (withBit (d.nat O.scKeyState) (keyBit m s) true)).recordBy org 0x43
    ((if m then Role.M.code else Role.N.code) + 256 * s) 0

/-- The debug key programmed. -/
def Dev.debugKeyProgram (d : Dev) (org : Origin) : Dev := d.recordBy org 0x43 Role.D.code 0

/-- KEY_REVOKE committed: slots of bits [3:0] N and [7:4] M. -/
def Dev.keyRevoke (d : Dev) (v : Nat) (org : Origin) : Dev :=
  (List.range 8).foldl (fun (x : Dev) i =>
    let m := decide (4 ≤ i)
    let b := keyBit m (i % 4) + 1
    if v.testBit i && !(x.nat O.scKeyState).testBit b then
      (x.setN O.scKeyState (withBit (x.nat O.scKeyState) b true)).recordBy org 0x44
        ((if m then Role.M.code else Role.N.code) + 256 * (i % 4)) 0
    else x) d

/-- A session key that AUTH_HELLO may name: programmed, not revoked, not all ones. -/
def Dev.sessionKey (d : Dev) (m : Bool) (s : Nat) : Option (List Byte) :=
  let k := d.raw (if m then O.scMKey s else O.scNKey s)
  let st := d.nat O.scKeyState
  if s < 4 ∧ st.testBit (keyBit m s) ∧ !st.testBit (keyBit m s + 1) ∧ notOnes k then some k else none

/-- A customer root programmed. -/
def Dev.rootProgram (d : Dev) (s : Nat) (org : Origin) : Dev :=
  (d.setN O.scRootState (withBit (d.nat O.scRootState) (2 * s) true)).recordBy org 0x45 s 0

/-- ROOT_REVOKE committed. -/
def Dev.rootRevoke (d : Dev) (v : Nat) (org : Origin) : Dev :=
  (List.range 2).foldl (fun (x : Dev) s =>
    if v.testBit s && !(x.nat O.scRootState).testBit (2 * s + 1) then
      (x.setN O.scRootState (withBit (x.nat O.scRootState) (2 * s + 1) true)).recordBy org 0x46 s 0
    else x) d

/-! ### Debug (R543, R544) -/

/-- DEBUG_CHALLENGE (R544): a new 32-byte value at every read. -/
def Dev.debugChallenge (d : Dev) : Dev :=
  if d.fabricOn then
    let r := d.fresh
    { r.2 with sec := { r.2.sec with challenge := some (padTo 32 (Config.random 32 r.1)) } }
  else d

/-- The response that unlocks level `l` for the present challenge. -/
def Dev.debugExpected (d : Dev) (l : Nat) (c : List Byte) : List Byte :=
  hmac (d.raw O.scDebugKey) ([0x54, 0x4E, 0x44, 0x52, 0x2D, 0x47] ++ leBytes 1 l ++ c ++ leBytes 8 (d.nat O.syDeviceId))

/-- Whether a response is correct. -/
def Dev.debugRight (d : Dev) (l : Nat) (r : List Byte) : Bool :=
  let st := d.nat O.scDebugState
  let k := d.raw O.scDebugKey
  decide (l = 1 ∨ l = 2) && decide (st ≠ 3) && decide (st ≠ 4) && !d.flag O.scDebugDisable && !k.isEmpty && notOnes k &&
  (match d.sec.challenge with
   | some c => decide (r = d.debugExpected l c)
   | none => false)

/-- DEBUG_RESPONSE (R544). -/
def Dev.debugResponse (d : Dev) (l : Nat) (r : List Byte) : Dev :=
  if !d.fabricOn then d
  else if d.debugRight l r then
    ((({ d with sec := { d.sec with unlocked := true } }).setN O.scDebugState l).record 0x49 l 0).raise 11 1
  else
    let n := d.sec.wrong + 1
    let d1 := ({ d with sec := { d.sec with wrong := n } }).inc O.scDebugFails
    let d2 := if 3 ≤ n ∧ d1.nat O.scDebugState ≠ 4 then d1.setN O.scDebugState 3 else d1
    (d2.record 0x4A l n).raise 11 0

/-! ### Attestation (R545 to R547) -/

/-- ATTEST_GEN committed. -/
def Dev.attestGen (d : Dev) : Dev :=
  ({ d with sec := { d.sec with genAt := some d.mono } }).setN O.scAttestState 1

/-- ATTEST_GEN_DONE (R545, R546): seed and public key in OTP, bank A stored with SEQ 1 and LIMIT 1,024, EPOCH bit 0. The bank
store waits its turn like every other (R560, R614). -/
def Dev.attestGenDone (d : Dev) : Dev :=
  if d.nat O.scAttestState = 1 ∧ d.storeTurn .lms d.mono then
    let r := d.fresh
    let q := r.2.fresh
    let seed := padTo 32 (Config.random 32 r.1)
    let ident := padTo 16 (Config.random 16 q.1)
    let d1 := { q.2 with sec := { q.2.sec with seed := seed, ident := ident, epoch := 1, genAt := none, lmsSeq := 1, lmsBankA := true } }
    let d2 := ((d1.setRaw O.scAttestPub (padTo 60 (Config.attestPub seed ident))).record 0x4B 0 0).recordNv 0x4C 1 1024
    let d3 := { d2 with nvm := { d2.nvm with lmsA := lmsBank 1 1024 } }
    ((((d3.recordNv 0x4D 1 0).setN O.scAttestLimit 1024).setN O.scAttestIndex 0).setN O.scAttestState 3)
  else d

/-- The last index plus 1 (R545). -/
def attestEnd : Nat := 1073741824

/-- EPOCH bits programmed for every epoch that begins below `limit`. -/
def epochFor (bits limit : Nat) : Nat :=
  (List.range 128).foldl (fun (v : Nat) e => if e * 8388608 < limit then withBit v e true else v) bits

/-- An LMS-state store falls due. -/
def Dev.lmsStoreDue (d : Dev) : Dev := { d with store := { d.store with lmsDue := some (d.store.lmsDue.getD d.mono) } }

/-- LMS_STORE_START (R546). -/
def Dev.lmsStoreStart (d : Dev) : Dev :=
  match d.store.lmsDue with
  | none => d
  | some t =>
    let d0 := d.clockTo t
    if d0.storeTurn .lms t then
      let limit := min (d0.nat O.scAttestLimit + 1024) attestEnd
      let seq := d0.sec.lmsSeq + 1
      let toA := !d0.sec.lmsBankA
      let d1 := ({ d0.logFlush with sec := { d0.sec with epoch := epochFor d0.sec.epoch limit } }).recordNv 0x4C seq limit
      let d2 := if toA then { d1 with nvm := { d1.nvm with lmsA := {} } } else { d1 with nvm := { d1.nvm with lmsB := {} } }
      ({ d2 with store := { d2.store with lmsDue := none,
                                          job := some { kind := .lms, toA := toA, lms := lmsBank seq limit } } }).storeTakes .lms
    else d

/-- LMS_STORE_DONE (R546): LIMIT rises, or the store is tried again after 100 ms. -/
def Dev.lmsStoreDone (d : Dev) (ok : Bool) : Dev :=
  match d.store.job with
  | some j =>
    if j.kind = .lms then
      let d1 := { d with store := { d.store with job := none } }
      if ok then
        let d2 := if j.toA then { d1 with nvm := { d1.nvm with lmsA := j.lms } } else { d1 with nvm := { d1.nvm with lmsB := j.lms } }
        let d3 := { d2 with sec := { d2.sec with lmsSeq := j.lms.seq, lmsBankA := j.toA } }
        ((d3.setN O.scAttestLimit j.lms.limit).recordNv 0x4D j.lms.seq 0).storeReplies .lms true
      else ({ d1 with store := { d1.store with lmsDue := some (d1.mono + 100000000) } }).storeReplies .lms false
    else d
  | none => d

/-- INDEX and the reservation at a boot (R546); `incomplete` lists the bank SEQs of LMS stores begun since the last boot without a valid bank
(R379). With no valid bank at all one record stands for them. -/
def Dev.lmsBoot (d : Dev) (incomplete : List Nat) : Dev :=
  if (d.raw O.scAttestPub).isEmpty then d
  else
    match pickBank d.nvm.lmsA.valid d.nvm.lmsA.seq d.nvm.lmsB.valid d.nvm.lmsB.seq with
    | some a =>
      let b := if a then d.nvm.lmsA else d.nvm.lmsB
      let d1 := { d with sec := { d.sec with lmsSeq := b.seq, lmsBankA := a } }
      let d2 := incomplete.foldl (fun (x : Dev) q => (x.record 0x4E q b.limit).inc O.scLmsStoreIncomplete) d1
      let d3 := (d2.setN O.scAttestLimit b.limit).setN O.scAttestIndex b.limit
      if b.limit < attestEnd then (d3.setN O.scAttestState 2).lmsStoreDue else d3.setN O.scAttestState 4
    | none =>
      let p := popcount 128 d.sec.epoch
      let d1 := ((({ d with sec := { d.sec with lmsSeq := 0, lmsBankA := false } }).record 0x4E 0 (p * 8388608)).inc O.scLmsStoreIncomplete)
      let d2 := (d1.setN O.scAttestLimit (p * 8388608)).setN O.scAttestIndex (p * 8388608)
      if p < 128 then (d2.setN O.scAttestState 2).lmsStoreDue else d2.setN O.scAttestState 4

/-- ATTEST_TREES_BUILT (R546). -/
def Dev.treesBuilt (d : Dev) : Dev := if d.nat O.scAttestState = 2 then d.setN O.scAttestState 3 else d

/-- ATTEST_NONCE committed (R547). -/
def Dev.attestNonce (d : Dev) : Dev := { d with sec := { d.sec with quoteAt := some d.mono } }

/-- The result code that refuses a nonce (R546, R547). -/
def Dev.nonceRefused (d : Dev) : Option RC :=
  if d.nat O.scAttestState = 4 then some .resource
  else if d.nat O.scAttestState ≠ 3 ∨ d.sec.quoteAt.isSome then some .state
  else none

/-- Bytes 0–175 of a quote (Table 20.8). -/
def Dev.quoteHead (d : Dev) : List Byte :=
  leBytes 4 0x544F5551 ++ leBytes 1 1 ++ leBytes 1 d.part ++
  leBytes 2 ((if d.sec.unlocked then 1 else 0) + (if d.nat O.scBootArea = 3 then 2 else 0) + (if d.flag O.lgCfgDirty then 4 else 0) +
             (if d.timeDisc then 8 else 0)) ++
  leBytes 8 (d.nat O.syDeviceId) ++ leBytes 8 d.now ++ leBytes 4 (d.nat O.scAttestIndex) ++ leBytes 4 (d.nat O.syFwVersion) ++
  padTo 32 (d.raw O.scAttestNonce) ++ padTo 32 (d.raw O.scFwHash) ++ d.daymark .P ++ d.daymark .C ++
  leBytes 8 ((d.log.next - 1) % 281474976710656) ++ leBytes 4 (d.nat O.lgCfgSeq) ++ leBytes 4 (d.nat O.caCalSeq)

/-- ATTEST_QUOTE_DONE (R547): signed with leaf INDEX; a quote that would need an index at LIMIT waits for the store (R546). -/
def Dev.quoteDone (d : Dev) : Dev :=
  match d.sec.quoteAt with
  | none => d
  | some _ =>
    let i := d.nat O.scAttestIndex
    if i < d.nat O.scAttestLimit then
      let h := d.quoteHead
      let sig := padTo 4472 (Config.attestSig d.sec.seed d.sec.ident i h)
      let d1 := ((({ d with sec := { d.sec with quoteAt := none } }).setRaw O.scAttestQuote (h ++ sig)).setN O.scAttestIndex (i + 1)).inc O.scAttestQseq
      let d2 := if i + 1 = attestEnd then d1.setN O.scAttestState 4 else d1
      let low := decide (d2.nat O.scAttestLimit ≤ i + 1 + 64) && decide (d2.nat O.scAttestLimit < attestEnd)
      let busy := (match d2.store.job with | some j => decide (j.kind = .lms) | none => false)
      (if low && !busy then d2.lmsStoreDue else d2).raise 12 0
    else d

/-! ### Rows -/

/-- FW_CHECKS_DONE (R540). -/
def execFwChecksDone (s : State) : Host.Outcome State Fault Refusal := s.upd Dev.fwChecksDone
/-- DEBUG_CHALLENGE (R544). -/
def execDebugChallenge (s : State) : Host.Outcome State Fault Refusal := s.upd Dev.debugChallenge
/-- DEBUG_RESPONSE (R544). -/
def execDebugResponse (level : Nat) (resp : List Byte) (s : State) : Host.Outcome State Fault Refusal :=
  s.upd (fun d => d.debugResponse level resp)
/-- ATTEST_GEN_DONE (R545). -/
def execAttestGenDone (s : State) : Host.Outcome State Fault Refusal := s.upd Dev.attestGenDone
/-- ATTEST_TREES_BUILT (R546). -/
def execAttestTreesBuilt (s : State) : Host.Outcome State Fault Refusal := s.upd Dev.treesBuilt
/-- ATTEST_QUOTE_DONE (R547). -/
def execAttestQuoteDone (s : State) : Host.Outcome State Fault Refusal := s.upd Dev.quoteDone
/-- LMS_STORE_START (R546). -/
def execLmsStoreStart (s : State) : Host.Outcome State Fault Refusal := s.upd Dev.lmsStoreStart
/-- LMS_STORE_DONE (R546). -/
def execLmsStoreDone (ok : Bool) (s : State) : Host.Outcome State Fault Refusal := s.upd (fun d => d.lmsStoreDone ok)

end Sys2Proof.Machine
end

