-- ==== Sys2Proof/Machine/Watch.lean ====
section
/-! DEFINITION. The watch image (R140 to R145), its checks (Table 5.8), activation (R146 to R148), the slot mask (R149, R150)
and the period start (R151 to R158). -/

namespace Sys2Proof.Machine

/-! ### Reading an image -/

/-- A slot entry (Table 5.6). -/
def readSlot (b : List Byte) : Slot :=
  { start := leAt b 0 2, est := leAt b 2 2, budget := leAt b 4 2, kind := leAt b 6 1, cls := leAt b 7 1, rank := leAt b 8 1,
    track := leAt b 9 1, job := leAt b 10 2 }

/-- A context-plan entry (Table 5.7). -/
def readPlan (b : List Byte) : CtxPlan :=
  { ctx := leAt b 0 1, ty := leAt b 1 1, door := leAt b 2 1, antCount := leAt b 3 1, rf := leAt b 4 4,
    chains := (List.range 6).map (fun i => leAt b (8 + i) 1), cmb := leAt b 14 1, subject := leAt b 15 1, iqRate := leAt b 16 1,
    request := leAt b 17 1, slot := leAt b 18 2, acqMs := leAt b 20 2, holdMs := leAt b 22 2, outDepth := leAt b 24 1 }

/-- A sweep-plan segment (R144). -/
def readSeg (b : List Byte) : SweepSeg :=
  { chainMask := leAt b 0 1, raster := leAt b 1 1, filter := leAt b 2 1, following := leAt b 3 1, first := leAt b 4 2, last := leAt b 6 2,
    interval := leAt b 8 2 }

/-- A Buoy-poll entry (R145). -/
def readPoll (b : List Byte) : PollEnt :=
  { group := leAt b 0 1, chain := leAt b 1 1, buoy := leAt b 2 1, channel := leAt b 3 1, every := leAt b 4 2, phase := leAt b 6 2,
    kind := leAt b 8 1 }

/-- A calibration-window entry (R145). -/
def readWin (b : List Byte) : WinEnt :=
  { group := leAt b 0 1, lanes := leAt b 1 1, items := leAt b 2 2, every := leAt b 4 2, phase := leAt b 6 2 }

/-- A directory entry (R141): type, count, offset, length. -/
structure SecEnt where
  ty : Nat
  count : Nat
  off : Nat
  len : Nat
  deriving DecidableEq, Repr

/-- The directory of an image. -/
def imageDir (b : List Byte) : List SecEnt :=
  (List.range (leAt b 7 1)).map (fun i =>
    let o := 128 + 16 * i
    { ty := leAt b o 1, count := leAt b (o + 2) 2, off := leAt b (o + 4) 4, len := leAt b (o + 8) 4 })

/-- The entries of a section, each of `n` bytes. -/
def secEntries {α : Type} (b : List Byte) (dir : List SecEnt) (ty n : Nat) (f : List Byte → α) : List α :=
  match dir.find? (fun e => decide (e.ty = ty)) with
  | some e => (List.range e.count).map (fun i => f (slice b (e.off + n * i) n))
  | none => []

/-- Whether an image has a section. -/
def hasSec (dir : List SecEnt) (ty : Nat) : Bool := dir.any (fun e => decide (e.ty = ty))

/-- An image read from its bytes. -/
def readImage (b : List Byte) : WatchImg :=
  let dir := imageDir b
  { kind := leAt b 5 1, minChains := leAt b 6 1, periodUs := leAt b 12 4, imageId := leAt b 16 4, version := leAt b 20 4,
    guardUs := leAt b 34 2, initMask := slice b 40 32, digest := slice b 72 32,
    slots := secEntries b dir 1 16 readSlot, sweep := secEntries b dir 2 16 readSeg, plans := secEntries b dir 3 32 readPlan,
    polls := secEntries b dir 4 16 readPoll, wins := secEntries b dir 5 16 readWin,
    rules := (match dir.find? (fun e => decide (e.ty = 6)) with | some e => slice b e.off e.len | none => []),
    hasStorm := hasSec dir 7, stormSlots := secEntries b dir 7 16 readSlot, stormPlans := secEntries b dir 8 32 readPlan,
    stormSweep := secEntries b dir 9 16 readSeg }

/-! ### Rule tables (R270) -/

/-- A rule (Table 9.7). -/
structure LlRule where
  src : Nat
  dst : Nat
  flags : Nat
  leave : Int
  margin : Int
  least : Int
  dwell : Nat
  blend : Nat

/-- The rules of a RULE_TABLES section; none where the section is to be ignored. -/
def imageRules (b : List Byte) : Option (List LlRule) :=
  let n := leAt b 1 1
  let l := (List.range n).map (fun i =>
    let e := slice b (16 + 16 * i) 16
    ({ src := leAt e 0 1, dst := leAt e 1 1, flags := leAt e 2 1, leave := toSigned 16 (leAt e 4 2), margin := toSigned 16 (leAt e 6 2),
       least := toSigned 16 (leAt e 8 2), dwell := leAt e 10 2, blend := leAt e 12 2 } : LlRule))
  if leAt b 0 1 = 1 ∧ 1 ≤ n ∧ n ≤ 16 ∧ b.length = 16 + 16 * n ∧ l.all (fun r => decide (r.src < 4) && decide (r.dst < 4)) ∧
     (l.map (fun r => 4 * r.src + r.dst)).Nodup then some l else none

/-- PLACE_SLOT of an image (R270). -/
def WatchImg.placeSlot (w : WatchImg) : Nat := if (imageRules w.rules).isSome then leAt w.rules 4 2 else 0xFFFF

/-! ### The checks (Table 5.8) -/

/-- Entry size of a section type; 0 for RULE_TABLES. -/
def secSize (ty : Nat) : Nat := if ty = 3 ∨ ty = 8 then 32 else if ty = 6 then 0 else 16

/-- COUNT range of a section type (Table 5.5). -/
def secCount (ty : Nat) : Nat × Nat :=
  match ty with
  | 1 | 7 => (1, 256)
  | 2 | 5 | 9 => (0, 64)
  | 3 | 8 => (0, 63)
  | 4 => (0, 256)
  | _ => (1, 1)

/-- Check 3: header and directory. -/
def imageFormOk (b : List Byte) (kind : Nat) : Bool :=
  let dir := imageDir b
  let n := leAt b 8 4
  decide (leAt b 0 4 = 0x48435457) && decide (leAt b 4 1 = 1) && decide (leAt b 5 1 = kind) &&
  decide (leAt b 6 1 = 4 ∨ leAt b 6 1 = 6) && decide (1 ≤ leAt b 7 1) && decide (leAt b 7 1 ≤ 9) &&
  decide ((dir.map (fun e => e.ty)).Nodup) && hasSec dir 1 &&
  dir.all (fun e => decide (1 ≤ e.ty) && decide (e.ty ≤ 9) && decide ((secCount e.ty).1 ≤ e.count) && decide (e.count ≤ (secCount e.ty).2) &&
    decide (e.off % 16 = 0) && decide (e.off + e.len ≤ n) && (decide (e.ty = 6) || decide (e.len = e.count * secSize e.ty))) &&
  (!hasSec dir 8 || hasSec dir 7) &&
  decide ((secEntries b dir 1 16 readSlot).length = leAt b 32 2)

/-- A slot put before the slots that start later, in START_US order. -/
def insertSlot (x : Nat × Slot) : List (Nat × Slot) → List (Nat × Slot)
  | [] => [x]
  | y :: t => if x.2.start < y.2.start then x :: y :: t else y :: insertSlot x t

/-- The slots of one track with their numbers, in START_US order, ties by number (R136). -/
def trackSlots (l : List Slot) (k : Nat) : List (Nat × Slot) :=
  ((l.zipIdx.map (fun p => (p.2, p.1))).filter (fun p => decide (p.2.track = k) && decide (p.2.kind ≠ 0))).foldl (fun a x => insertSlot x a) []

/-- Slots that end within the period and before the next one starts. -/
def slotsFit (p : Nat) : List (Nat × Slot) → Bool
  | [] => true
  | [(_, s)] => decide (s.start < p) && decide (1 ≤ s.est) && decide (s.start + s.est ≤ p)
  | (_, s) :: (m, u) :: t =>
    decide (s.start < p) && decide (1 ≤ s.est) && decide (s.start + s.est ≤ p) && decide (s.start + s.est ≤ u.start) && slotsFit p ((m, u) :: t)

/-- Check 6. -/
def tracksOk (p : Nat) (l : List Slot) : Bool := (List.range 7).all (fun k => slotsFit p (trackSlots l k))

/-- The Keeper of a job (Table 5.3). -/
def jobKeeper (j : Nat) : Option Nat :=
  if j = 1 ∨ j = 2 then some 2 else if j = 3 then some 1 else if j = 4 ∨ j = 5 then some 0
  else if j = 6 ∨ j = 7 ∨ (0x100 ≤ j ∧ j ≤ 0x10F) then some 3 else none

/-- KIND, TRACK and JOB of a slot consistent by Tables 5.1 to 5.3, with its class, rank and budget (check 7). -/
def slotOkay (s : Slot) : Bool :=
  decide (s.kind ≤ 5) && decide (s.cls ≤ 1) && (if s.cls = 0 then decide (s.rank = 0) else decide (1 ≤ s.rank)) &&
  (match s.kind with
   | 0 => decide (s.track ≤ 6)
   | 1 | 2 => decide (s.track = 0)
   | 3 => decide (jobKeeper s.job = some (s.track - 1)) && decide (1 ≤ s.track)
   | 4 => decide (s.track = 5)
   | _ => decide (s.track = 6)) &&
  (decide (s.kind = 1 ∨ s.kind = 2) || decide (s.budget = 0))

/-- Check 7. -/
def budgetsOk (l : List Slot) : Bool :=
  l.all slotOkay && decide (((l.filter (fun s => decide (s.track = 0))).map (fun s => s.budget)).sum ≤ 384)

/-- A plan with the early station in place of RF 0 (R143). -/
def Dev.planFor (d : Dev) (p : CtxPlan) : CtxPlan :=
  if p.rf = 0 then
    let m := d.nat O.wtEarlyChains
    let l := (List.range 6).filter (fun n => m.testBit n)
    { p with ty := d.nat O.wtEarlyType, rf := d.nat O.wtEarlyRf, door := d.nat O.wtEarlyDoor, antCount := l.length, chains := l }
  else p

/-- Antenna list of a plan. -/
def CtxPlan.ants (p : CtxPlan) : List Nat := p.chains.take p.antCount

/-- Check 8 on one plan. -/
def Dev.planOk (d : Dev) (slots : List Slot) (q : CtxPlan) : Bool :=
  let p := d.planFor q
  decide (1 ≤ p.ctx) && decide (p.ctx ≤ 63) && decide (p.ants.length = p.antCount) &&
  d.cfgOk p.ty p.door p.rf (typeRate p.ty p.subject p.iqRate) p.ants && cmbOk p.ty p.cmb && decide (p.request = 1 ∨ p.request = 2) &&
  decide (3 ≤ p.outDepth) && decide (p.outDepth ≤ 16) &&
  (match slots[p.slot]? with | some s => decide (s.kind = 1) | none => false)

/-- Check 8: plans, type limits, and cost per slot within its budget. -/
def Dev.plansOk (d : Dev) (slots : List Slot) (l : List CtxPlan) : Bool :=
  decide ((l.map (fun p => p.ctx)).Nodup) && l.all (d.planOk slots) && limitsOk (l.map (fun p => (d.planFor p).ty)) &&
  (List.range slots.length).all (fun s =>
    decide (((l.filter (fun p => decide (p.slot = s))).map (fun p => typeCost (d.planFor p).ty (d.planFor p).antCount)).sum ≤
      (match slots[s]? with | some e => e.budget | none => 0)))

/-- Check 9 (Table 3.5). -/
def segOkay (s : SweepSeg) : Bool :=
  decide (s.chainMask < 64) && decide (s.raster ≤ 8) && decide (s.first ≤ s.last) && decide (s.last < rasterCount s.raster) &&
  decide (1 ≤ s.interval) && decide (s.interval ≤ 1000) && decide (s.filter < 8) && decide (s.following ≤ 1)

/-- Check 10. -/
def dueRange (every phase : Nat) : Bool := decide (1 ≤ every) && decide (every ≤ 1000) && decide (phase < every)

/-- Check 10 on a poll entry. -/
def pollOk (p : PollEnt) : Bool :=
  dueRange p.every p.phase && decide (p.chain ≤ 5) && decide (p.buoy ≤ 3) && decide (p.channel ≤ 7) && decide (p.kind ≤ 2)

/-- Check 10 on a calibration-window entry. -/
def winOk (w : WinEnt) : Bool := dueRange w.every w.phase && decide (w.lanes < 128) && decide (w.items < 4)

/-- Slots of the storm plan (R155). -/
def WatchImg.storm (w : WatchImg) : List Slot :=
  if w.hasStorm then w.stormSlots else w.slots.map (fun s => if s.cls = 0 then s else { s with kind := 0 })

/-- Context plans of the storm plan. -/
def WatchImg.stormCtxs (w : WatchImg) : List CtxPlan := if w.hasStorm then w.stormPlans else w.plans

/-- Sweep plan of the storm plan. -/
def WatchImg.stormSegs (w : WatchImg) : List SweepSeg := if w.hasStorm then w.stormSweep else w.sweep

/-- Check 11: checks 6–10 on the storm sections; STORM_SWEEP may stand without STORM_SLOTS (Table 5.5). -/
def Dev.stormOk (d : Dev) (w : WatchImg) : Bool :=
  w.stormSweep.all segOkay &&
  (!w.hasStorm || (tracksOk w.periodUs w.stormSlots && budgetsOk w.stormSlots && d.plansOk w.stormSlots w.stormPlans))

/-- The checks of Table 5.8 in order: 0 when all pass, else the ACT_RESULT of the first that fails. An early image (`kind` 1)
is not held to check 2 or 11 (R159). -/
def Dev.watchCheck (d : Dev) (b : List Byte) (kind : Nat) : Nat :=
  let w := readImage b
  let v := d.verify 2 2 b
  if (v ≠ 0 ∧ v ≠ 4) ∨ w.digest ≠ sha256 (slice b 128 (leAt b 8 4 - 128)) then 3
  else if kind = 0 ∧ v = 4 then 4
  else if !imageFormOk b kind then 5
  else if w.periodUs < 1000 ∨ 50000 < w.periodUs ∨ 1000 < w.guardUs then 6
  else if d.chains < w.minChains then 7
  else if !tracksOk w.periodUs w.slots then 8
  else if !budgetsOk w.slots then 9
  else if !d.plansOk w.slots w.plans then 10
  else if !w.sweep.all segOkay then 11
  else if !(w.polls.all pollOk && w.wins.all winOk) then 12
  else if kind = 0 ∧ !d.stormOk w then 13
  else 0

/-- The check of R534 that a watch image fails, for its IMAGE_REJECTED record; 0: the failure is none of these. -/
def Dev.watchVerify (d : Dev) (b : List Byte) : Nat := d.verify 2 2 b

/-! ### Activation -/

/-- ACTIVATE committed (R146). -/
def Dev.activate (d : Dev) (a : Nat) : Dev := ({ d with wt := { d.wt with checking := some a } }).setN O.wtActResult 1

/-- Event of the Watch: `e` of Table 5.15, ARG the period index. -/
def Dev.wtEvent (d : Dev) (e : Nat) : Dev := d.raise e (d.nat O.wtPeriodIndex % 2 ^ 32)

/-- A rejected area (R146, R159): ACT_RESULT, event 55, and event 9 with its record when the signature or version fails. -/
def Dev.watchRejected (d : Dev) (code ver area : Nat) : Dev :=
  let d1 := d.setN O.wtActResult code
  (if ver ≠ 0 then d1.rejectImage 2 ver area else d1).wtEvent 55

/-- WATCH_CHECKS_DONE (R146, R159). At start-up a rejected area is followed by the other one; event 61 when none is left. -/
def Dev.watchChecksDone (d : Dev) : Dev :=
  match d.wt.checking with
  | none => d
  | some a =>
    let b := d.flashArea (watchArea a)
    let c := d.watchCheck b 0
    let d0 := { d with wt := { d.wt with checking := none } }
    if c = 0 then { d0 with wt := { d0.wt with next := some (readImage b, a), bootTry := [] } }
    else
      let d1 := d0.watchRejected c (if c = 3 ∨ c = 4 then d.watchVerify b else 0) a
      match d.wt.bootTry with
      | [] => d1
      | n :: t =>
        if n = 0 then ({ d1 with wt := { d1.wt with bootTry := t } }).wtEvent 61
        else ({ d1 with wt := { d1.wt with bootTry := t, checking := some n } }).setN O.wtActResult 1

/-- BOOT_IMAGE_SELECT (R159): the early watch is checked and, when it may run, takes effect at the first period start; then the
full image of BOOT_BANK is checked, and the other area after it. -/
def Dev.bootSelect (d : Dev) : Dev :=
  if !d.serverUp ∨ d.wt.checking.isSome then d
  else
    let eb := memBytes d.nvm.early 0 NvmUse.early.region.2
    let want := d.flag O.wtEarlyEnable && decide (d.nat O.wtEarlyRf ≠ 0) && d.wt.img.isNone
    let v := d.watchVerify eb
    let d0 := if want && decide (v ≠ 0) && decide (v ≠ 4) then d.rejectImage 2 v 3 else d
    let a := d.nat O.wtBootBank
    let w := if want && decide (d.watchCheck eb 1 = 0) then { d0.wt with next := some (readImage eb, 3) } else d0.wt
    ({ d0 with wt := { w with checking := some a, bootTry := [3 - a, 0], selected := true } }).setN O.wtActResult 1

/-! ### Contexts at a change of plan (R116, R148, R155) -/

/-- The plan that a running image has for a context: of the storm plan while it runs, else of the full plan (R148, R155). -/
def Dev.planOld (d : Dev) (c : Nat) : Option CtxPlan :=
  match d.wt.img with
  | none => none
  | some w =>
    let find := fun (l : List CtxPlan) => l.find? (fun p => decide (p.ctx = c))
    if d.wt.storm then (find w.stormCtxs).or (find w.plans) else find w.plans

/-- Whether the old plan and a new one are equal in TYPE, DOOR, RF and antenna list (R148): both name the early station (R160), or the new one
has what the old one gave the context. -/
def Dev.planKept (d : Dev) (old : Nat → Option CtxPlan) (q : CtxPlan) : Bool :=
  let p := d.planFor q
  (decide (q.rf = 0) && (match old q.ctx with | some o => decide (o.rf = 0) | none => false)) ||
  decide (d.nat (O.cxType p.ctx) = p.ty) && decide (d.nat (O.cxDoor p.ctx) = p.door) && decide (d.nat (O.cxRf p.ctx) = p.rf) &&
  decide (d.cxChains p.ctx = p.ants)

/-- A context object set by a plan: like a committed write for a context that is not FREE (R118, R148). -/
def Dev.planSet (d : Dev) (o : Nat) (v : Nat) : Dev :=
  if d.nat o = v then d else (d.cxWritten o (d.get o)).setN o v

/-- The fields of a plan beyond TYPE, DOOR, RF and the antenna list. -/
def Dev.planFields (d : Dev) (p : CtxPlan) : Dev :=
  let d1 := (((d.planSet (O.cxCmbMode p.ctx) p.cmb).planSet (O.cxSubject p.ctx) p.subject).planSet (O.cxIqRate p.ctx) p.iqRate).planSet
    (O.cxRequest p.ctx) p.request
  (((d1.planSet (O.cxAcqTimeoutMs p.ctx) p.acqMs).planSet (O.cxHoldTimeoutMs p.ctx) p.holdMs).planSet (O.cxOutDepth p.ctx) p.outDepth).planSet
    (O.cxSlot p.ctx) p.slot

/-- A planned context leaves FREE (Table 4.4). -/
def Dev.planArm (d : Dev) (q : CtxPlan) : Dev :=
  let p := d.planFor q
  let c := p.ctx
  let d1 := ((((d.setN (O.cxType c) p.ty).setN (O.cxDoor c) p.door).setN (O.cxRf c) p.rf).setN (O.cxAntCount c) p.antCount)
  let d2 := (List.range 6).foldl (fun (x : Dev) i => x.setN (O.cxAntChain c i) (p.chains.getD i 0xFF)) d1
  (d2.planFields p).cxArm c 2 p.slot .F

/-- Planned contexts that are FREE are armed. -/
def Dev.planArms (d : Dev) (l : List CtxPlan) : Dev := l.foldl (fun (x : Dev) p => if x.cxSt p.ctx = 0 then x.planArm p else x) d

/-- Image-plan contexts that a plan does not keep go to RELEASING; those it keeps take its fields and slot. -/
def Dev.planChange (d : Dev) (old : Nat → Option CtxPlan) (l : List CtxPlan) : Dev :=
  d.activeCtxs.foldl (fun (x : Dev) c =>
    if x.nat (O.cxOwner c) = 2 then
      match l.find? (fun p => decide (p.ctx = c)) with
      | some p => if x.planKept old p then (x.planFields (x.planFor p)).setN (O.cxSlotNow c) p.slot else x.cxRelease c
      | none => x.cxRelease c
    else x) d

/-- A context placed again by R114, or released: its number is planned by the new image, or no slot has room for it. `evict` says whether event 71
is raised. -/
def Dev.placeAgain (d : Dev) (l : List CtxPlan) (evict : Bool) (c : Nat) : Dev :=
  match (if l.any (fun p => decide (p.ctx = c)) then none else d.place (d.nat (O.cxSlot c)) (d.nat (O.cxType c)) (d.nat (O.cxCost c))) with
  | some s => d.setN (O.cxSlotNow c) s
  | none => if evict then (d.cxRelease c).cxEvent 7 c else d.cxRelease c

/-- At a new image no slot carries a context that is RELEASING; dictionary-owned contexts are placed again in ascending number or evicted (R116),
then those of the following engine, in PLACE_SLOT of the new rule tables, or released (R266; log 112). -/
def Dev.replace (d : Dev) (w : WatchImg) : Dev :=
  let of := fun (k : Nat) => d.activeCtxs.filter (fun c => decide (d.nat (O.cxOwner c) = k) && decide (d.cxSt c ≠ 6))
  let gone := d.activeCtxs.filter (fun c => decide (d.cxSt c = 6))
  let d1 := (gone ++ of 1 ++ of 3).foldl (fun (x : Dev) c => x.setN (O.cxSlotNow c) 0xFFFF) d
  let d2 := (of 1).foldl (fun (x : Dev) c => x.placeAgain w.plans true c) d1
  (of 3).foldl (fun (x : Dev) c => (x.setN (O.cxSlot c) w.placeSlot).placeAgain w.plans false c) d2

/-! ### Mask (R149, R150) -/

/-- Mask writes that were never used (R150). -/
def Dev.maskSuper (d : Dev) (l : List MaskWrite) : Dev :=
  l.foldl (fun (x : Dev) w =>
    ((w.elems.foldl (fun (y : Dev) e => y.logSuper w.org (O.wtSlotMask e.1) e.2 8) x).inc O.wtMaskSuperseded).wtEvent 59) d

/-- The mask as the objects hold it. -/
def Dev.maskObjs (d : Dev) : List Nat := (List.range 4).map (fun i => d.nat (O.wtSlotMask i))

/-- The mask read at a period start with index `k`. DESIGN CHOICE (log 113): under the storm plan, on which the mask has no effect, a waiting
write is taken all the same; of several waiting writes each but the last counts as superseded, also where they name different elements. -/
def Dev.maskRead (d : Dev) (k : Nat) : Dev :=
  let l := d.wt.maskWrites
  let d1 := d.maskSuper l.dropLast
  let m := d1.maskObjs
  let d2 := { d1 with wt := { d1.wt with maskWrites := [], mask := m } }
  if l.isEmpty then d2
  else
    let d3 := d2.setN O.wtMaskPeriod k
    if m = d.wt.mask then d3 else d3.wtEvent 58

/-- Bit `s` of a mask of four elements. -/
def maskBit (m : List Nat) (s : Nat) : Bool := (m.getD (s / 64) 0).testBit (s % 64)

/-! ### An image takes effect (R147) -/

/-- Period of the running image in ns. -/
def Dev.periodNs (d : Dev) : Nat := match d.wt.img with | some w => w.periodUs * 1000 | none => 1

/-- The new image becomes the running image at this period start. -/
def Dev.imageTakes (d : Dev) (w : WatchImg) (a : Nat) : Dev :=
  let early := decide (d.nat O.wtRunBank = 3) && decide (a ≠ 3)
  let d0 := d.maskSuper d.wt.maskWrites
  let p := w.periodUs * 1000
  let d1 := { d0 with wt := { d0.wt with img := some w, next := none, grid := d0.now / p * p, run := 0, storm := false, stormOnGrid := 0,
                                         stormExit := false, maskWrites := [], kept := [], resync := false } }
  let d2 := (List.range 4).foldl (fun (x : Dev) i => x.setN (O.wtSlotMask i) (leAt w.initMask (8 * i) 8)) d1
  let d3 := (((((((d2.setN O.wtWatchState (if w.kind = 1 then 1 else 2)).setN O.wtPeriodUs w.periodUs).setN O.wtRunBank a).setN O.wtImageId w.imageId).setN
    O.wtImageVersion w.version).setRaw O.wtImageDigest w.digest).setN O.wtActResult (if a = 3 then d.num O.wtActResult else 2))
  let d4 := (List.range 256).foldl (fun (x : Dev) s => x.setN (O.wtSlotState s) 0) d3
  let d5 := (((d4.sweepPlan w.sweep).measCutAll).planChange d.planOld w.plans).replace w
  let d6 := { d5 with wt := { d5.wt with mask := d5.maskObjs } }
  let d7 := (d6.setN O.wtPeriodIndex (d6.wt.grid / p)).setN O.wtMaskPeriod (d6.wt.grid / p)
  let d8 := if a = 3 then d7 else d7.wtEvent 54
  if early then d8.wtEvent 60 else d8

/-! ### Storm plan and resynchronisation -/

/-- The next period starts under the storm plan (R154, R155). -/
def Dev.enterStorm (d : Dev) : Dev :=
  match d.wt.img with
  | none => d
  | some w =>
    let d1 := (({ d with wt := { d.wt with storm := true, run := 0, stormOnGrid := 0 } }).setN O.wtWatchState 3).inc O.wtStormCount
    let both := d1.activeCtxs.foldl (fun (x : Dev) c =>
      if x.nat (O.cxOwner c) = 2 then
        match w.stormCtxs.find? (fun p => decide (p.ctx = c)) with
        | some p => if x.planKept d.planOld p then (x.planFields (x.planFor p)).setN (O.cxSlotNow c) p.slot else x.cxRelease c
        | none => x
      else x) d1
    ((both.sweepPlan w.stormSegs).measCutAll).wtEvent 51

/-- The full plan returns (R156). -/
def Dev.exitStorm (d : Dev) : Dev :=
  match d.wt.img with
  | none => d
  | some w =>
    let d1 := ({ d with wt := { d.wt with storm := false, stormExit := false, stormOnGrid := 0 } }).setN O.wtWatchState (if w.kind = 1 then 1 else 2)
    (((d1.sweepPlan w.sweep).measCutAll).planChange d.planOld w.plans).wtEvent 52

/-- One period skipped by every context, `n` times. -/
def Dev.skipAll : Nat → Dev → Dev
  | 0, d => d
  | n + 1, d => Dev.skipAll n (d.activeCtxs.foldl (fun (x : Dev) c => x.cxSkip c) d)

/-- Resynchronisation at the start of a period (R157): the first grid point at or after completion; grid points passed over are
periods that every context skips. `step`: caused by a step of device time; DESIGN CHOICE (log 70): the grid points that the step itself jumps over
are not passed over, so they are counted from the time stepped to. -/
def Dev.resyncGrid (d : Dev) (step : Bool) : Dev :=
  let p := d.periodNs
  let done := if step then d.now else max d.wt.doneAt d.now
  let g := (done + p - 1) / p * p
  let from_ := if step then max (d.wt.grid + p) ((d.wt.stepTo + p - 1) / p * p) else d.wt.grid + p
  let d1 := Dev.skipAll ((g - from_) / p) d
  ((({ d1 with wt := { d1.wt with grid := g, run := 0, resync := false } }).timeTo g).inc O.wtResyncCount).wtEvent 53

/-! ### Which slots run (R151) -/

/-- The slots of the plan in force. -/
def Dev.planSlots (d : Dev) : List Slot :=
  match d.wt.img with
  | some w => if d.wt.storm then w.storm else w.slots
  | none => []

/-- The context plans in force. -/
def Dev.planCtxs (d : Dev) : List CtxPlan :=
  match d.wt.img with
  | some w => if d.wt.storm then w.stormCtxs else w.plans
  | none => []

/-- The SENTRY context (R554): the type 11 context, planned by the image before dictionary-owned. -/
def Dev.sentryCtx (d : Dev) : Option Nat :=
  let l := d.activeCtxs.filter (fun c => decide (d.nat (O.cxType c) = 11))
  match l.find? (fun c => decide (d.nat (O.cxOwner c) = 2)) with
  | some c => some c
  | none => l.head?

/-- The device is in SENTRY or on its way there. -/
def Dev.inSentry (d : Dev) : Bool := d.asleep || decide (d.pw.phase = .sentryEntry)

/-- In SENTRY only the slot of the SENTRY context and the KEEPER slots of K0 run (R554). -/
def Dev.sentrySlot (d : Dev) (s : Nat) (e : Slot) : Bool :=
  !d.inSentry || (decide (e.kind = 3) && decide (e.track = 1)) ||
  (match d.sentryCtx with | some c => decide (d.nat (O.cxSlotNow c) = s) | none => false)

/-- When the slots of a track end, each starting at its grid offset or when the one before it ends. -/
def trackEnd (g : Nat) : List (Nat × Slot) → Nat → Nat
  | [], t => t
  | (_, s) :: r, t => trackEnd g r (max t (g + s.start * 1000) + s.est * 1000)

/-- Whether a track fits (R151): its slots of `keep` end by the limit. -/
def trackFits (slots : List Slot) (keep : List Nat) (g now limit k : Nat) : Bool :=
  decide (trackEnd g ((trackSlots slots k).filter (fun p => keep.any (fun n => decide (n = p.1)))) now ≤ limit)

/-- The optional slot to shed next: lowest rank, then highest number, on a track that does not fit. -/
def shedNext (slots : List Slot) (keep : List Nat) (g now limit : Nat) : Option Nat :=
  let cand := (keep.filter (fun n => match slots[n]? with
    | some s => decide (s.cls = 1) && !trackFits slots keep g now limit s.track
    | none => false))
  let rank : Nat → Nat := fun n => (slots.getD n {}).rank
  cand.foldl (fun (b : Option Nat) n => match b with
    | none => some n
    | some m => if rank n < rank m ∨ (rank n = rank m ∧ m < n) then some n else some m) none

/-- Slots shed until every track fits or no optional slot is left on one that does not: what is kept, and what is shed.
`fuel` bounds the number of slots. -/
def shedAll (slots : List Slot) (g now limit : Nat) : Nat → List Nat → List Nat → List Nat × List Nat
  | 0, keep, shed => (keep, shed)
  | f + 1, keep, shed =>
    match shedNext slots keep g now limit with
    | some n => shedAll slots g now limit f (keep.filter (fun m => decide (m ≠ n))) (shed ++ [n])
    | none => (keep, shed)

/-- SLOT_STATE of a slot of the running full plan. -/
def Dev.slotMark (d : Dev) (s v : Nat) : Dev := if s < d.fullSlots.length then d.setN (O.wtSlotState s) v else d

/-- The contexts among some, in ascending number, that an open slot has room for (R114, R155). -/
def Dev.roomFor (d : Dev) (e : Slot) (l : List Nat) : List Nat :=
  (l.foldl (fun (a : List Nat × Nat) c =>
    let n := a.2 + d.nat (O.cxCost c)
    if e.job.testBit (d.nat (O.cxType c)) ∧ n ≤ e.budget then (a.1 ++ [c], n) else a) ([], 0)).1

/-- Contexts that run in slot `s` of the plan in force (R138, R155): those that it plans in a CONTEXTS slot, the others that have room in an OPEN
slot. -/
def Dev.slotCtxs (d : Dev) (s : Nat) : List Nat :=
  match d.planSlots[s]? with
  | none => []
  | some e =>
    let l := d.activeCtxs.filter (fun c => decide (d.nat (O.cxSlotNow c) = s) && decide (d.cxSt c ≠ 6))
    if e.kind = 1 then l.filter (fun c => decide (d.nat (O.cxOwner c) = 2) && d.planCtxs.any (fun p => decide (p.ctx = c)))
    else if e.kind = 2 then d.roomFor e (l.filter (fun c => decide (d.nat (O.cxOwner c) ≠ 2)))
    else []

/-- The run of a period: slots kept, marked and counted; contexts whose slot does not run skip it. Answers the slots of the plan
that do not run. -/
def Dev.periodRun (d : Dev) (late : Nat) : Dev × List Nat :=
  match d.wt.img with
  | none => (d, [])
  | some w =>
    let slots := d.planSlots
    let storm := d.wt.storm
    let all := (List.range slots.length).filter (fun n => match slots[n]? with | some s => decide (s.kind ≠ 0) | none => false)
    let at_ := fun (n : Nat) => slots.getD n {}
    let masked := all.filter (fun n => !((storm || maskBit d.wt.mask n) && d.sentrySlot n (at_ n)))
    let k1 := all.filter (fun n => !masked.any (fun m => decide (m = n)))
    let rank := d.nat O.wtThermRank
    let thermal := k1.filter (fun n => decide ((at_ n).cls = 1) && decide ((at_ n).rank ≤ rank))
    let k2 := k1.filter (fun n => !thermal.any (fun m => decide (m = n)))
    let g := d.wt.grid
    let r := if late = 0 then (k2, []) else shedAll slots g d.now (g + w.periodUs * 1000 - w.guardUs * 1000) 256 k2 []
    let d1 := if storm then (List.range w.slots.length).foldl (fun (x : Dev) n => if (w.slots.getD n {}).kind = 0 then x.slotMark n 0 else x.slotMark n 5) d
      else ((masked.foldl (fun (x : Dev) n => x.slotMark n 2) d))
    let d2 := (thermal.foldl (fun (x : Dev) n => if storm then x else (x.slotMark n 4).inc (O.wtSlotShed n)) d1)
    let d3 := (r.2.foldl (fun (x : Dev) n => if storm then x.inc O.wtShedCount else ((x.slotMark n 3).inc (O.wtSlotShed n)).inc O.wtShedCount) d2)
    let d4 := if r.2.isEmpty then d3 else d3.wtEvent 50
    let d5 := { d4 with wt := { d4.wt with kept := r.1.map (fun n => (n, RunSt.waiting)) } }
    let runs := r.1.flatMap (fun n => d5.slotCtxs n)
    let d6 := d5.activeCtxs.foldl (fun (x : Dev) c => if runs.any (fun y => decide (y = c)) ∨ x.cxSt c = 6 then x else x.cxSkip c) d5
    let dropped := all.filter (fun n => !r.1.any (fun m => decide (m = n)))
    -- the period is complete at once when nothing runs
    (if r.1.isEmpty then { d6 with wt := { d6.wt with doneAt := d6.now } } else d6, dropped)

/-- Every slot run of the present period has completed. -/
def Dev.periodDone (d : Dev) : Bool := d.wt.kept.all (fun p => decide (p.2 = .done))

/-- Contexts that were RELEASING are freed, and taps that were leaving go, at a period boundary. -/
def Dev.boundary (d : Dev) : Dev := d.activeCtxs.foldl (fun (x : Dev) c => if x.cxSt c = 6 then x.cxFree c else x) d

/-- The Watch stops (R552): contexts go to RELEASING. -/
def Dev.watchStop (d : Dev) : Dev :=
  let d1 := d.activeCtxs.foldl (fun (x : Dev) c => x.cxRelease c) d
  ((({ d1 with wt := { d1.wt with img := none, next := none, kept := [], stopping := false, storm := false, run := 0, maskWrites := [] } }).sweepPlan []).setN
    O.wtWatchState 0).setN O.wtRunBank 0

/-- Lateness and its events (R152): each late start adds its lateness, in ns, to LATE_COUNT. DEDUCED (log 70): the rule's words go before the
table's. -/
def Dev.lateness (d : Dev) (late : Nat) : Dev :=
  let was := d.wt.wasLate
  let run := if late = 0 then 0 else d.wt.run + 1
  let d1 := (({ d with wt := { d.wt with run := run, wasLate := decide (late ≠ 0) } }).setN O.wtLateNs (satU 32 late)).setN O.wtLateRun (satU 8 run)
  if late = 0 then (if was then d1.wtEvent 49 else d1)
  else
    let d2 := (d1.count 32 O.wtLateCount late).setN O.wtMaxLateNs (max (d1.nat O.wtMaxLateNs) (satU 32 late))
    if was then d2 else d2.wtEvent 48

/-- The grid of the next period of the running image: the next grid point, the storm plan, or a resynchronisation (R151, R154,
R157). -/
def Dev.nextGrid (d : Dev) : Dev :=
  let p := d.periodNs
  if d.wt.resync then d.resyncGrid true
  else
    let g := d.wt.grid + p
    let past := decide (g < d.wt.doneAt) && decide (16 ≤ d.wt.run)
    if past && d.wt.storm then d.resyncGrid false
    else
      let d1 := ({ d with wt := { d.wt with grid := g } }).timeTo g
      if past then d1.enterStorm else d1

/-- On-grid periods counted under the storm plan, and its end (R156). -/
def Dev.stormReturn (d : Dev) : Dev :=
  if !d.wt.storm then (if d.wt.stormExit then { d with wt := { d.wt with stormExit := false } } else d)
  else if d.wt.stormExit ∨ (d.nat O.wtStormReturn ≠ 0 ∧ d.nat O.wtStormReturn ≤ d.wt.stormOnGrid) then d.exitStorm
  else d

/-- PERIOD_START (R151) with everything inside it; answers also the slots of the plan that do not run. -/
def Dev.periodStart (d : Dev) : Dev × List Nat :=
  if !d.serverUp ∨ !d.periodDone ∨ (d.wt.img.isNone ∧ d.wt.next.isNone) then (d, [])
  else if d.wt.stopping then (d.boundary.watchStop, [])
  else
    let d0 := if d.wt.img.isNone then d else d.nextGrid
    let d1 := d0.boundary
    let d2 := match d1.wt.next with
      | some (w, a) => if d1.inSentry then d1 else d1.imageTakes w a
      | none => d1
    let d3 := d2.stormReturn
    let k := d3.wt.grid / d3.periodNs
    let d4 := (d3.setN O.wtPeriodIndex k).maskRead k
    let late := d4.now - d4.wt.grid
    let d5 := d4.lateness late
    let d6 := { d5 with wt := { d5.wt with stormOnGrid := if d5.wt.storm then (if late = 0 then d5.wt.stormOnGrid + 1 else 0) else 0 } }
    let d7 := if d6.inSentry then d6 else d6.planArms d6.planCtxs
    d7.periodRun late

/-! ### Slot runs -/

/-- The slot before `s` on its track among those kept has completed (R136). -/
def Dev.slotReady (d : Dev) (s : Nat) : Bool :=
  let slots := d.planSlots
  let e := slots.getD s {}
  let before := (trackSlots slots e.track).takeWhile (fun p => decide (p.1 ≠ s))
  before.all (fun p => d.wt.kept.all (fun q => decide (q.1 ≠ p.1) || decide (q.2 = .done)))

/-- A slot of the period may start. -/
def Dev.slotWaits (d : Dev) (s : Nat) : Bool :=
  d.wt.kept.any (fun q => decide (q.1 = s) && decide (q.2 = .waiting)) && d.slotReady s

/-- The run of slot `s` starts: at its grid offset at the earliest. -/
def Dev.slotBegin (d : Dev) (s : Nat) : Dev :=
  let d1 := d.timeTo (d.wt.grid + (d.planSlots.getD s {}).start * 1000)
  { d1 with wt := { d1.wt with kept := d1.wt.kept.map (fun (q : Nat × RunSt) => if q.1 = s then (s, RunSt.running d1.now) else q) } }

/-- The running image has a storm plan of its own and runs it: its slots are not those of the full plan (R155). -/
def Dev.ownStorm (d : Dev) : Bool := d.wt.storm && (match d.wt.img with | some w => w.hasStorm | none => false)

/-- SLOT_RUN_DONE (R137): the run took `us`. SLOT_STATE stays 5 while a storm plan runs. -/
def Dev.slotDone (d : Dev) (s us : Nat) : Dev :=
  match d.wt.kept.find? (fun q => decide (q.1 = s)) with
  | some (_, .running t) =>
    let d1 := d.timeTo (t + us * 1000)
    let d2 := { d1 with wt := { d1.wt with kept := d1.wt.kept.map (fun (q : Nat × RunSt) => if q.1 = s then (s, RunSt.done) else q) } }
    let d3 := if d2.periodDone then { d2 with wt := { d2.wt with doneAt := d2.now } } else d2
    if d3.ownStorm ∨ d3.fullSlots.length ≤ s then d3
    else
      let d4 := (if d3.wt.storm then d3 else d3.slotMark s 1).setN (O.wtSlotLastUs s) (satU 16 us)
      if (d3.planSlots.getD s {}).est < us then d4.inc (O.wtSlotOverruns s) else d4
  | _ => d

/-! ### Thermal governor (R158) -/

/-- THERM_RANK_RISE: at the 140 °C crossing and every 100 ms at or above it. -/
def Dev.thermRise (d : Dev) (top : Int) : Dev :=
  if 14000 ≤ top then
    let first := d.wt.rankUpAt.isNone
    let d0 := match d.wt.rankUpAt with | some t => d.after t 100 | none => d
    let d1 := ({ d0 with wt := { d0.wt with rankUpAt := some d0.mono, rankDownAt := none } }).setN O.wtThermRank ((min 255 (d0.nat O.wtThermRank + 1) : Nat) : Int)
    if first then d1.wtEvent 56 else d1
  else d

/-- THERM_RANK_FALL: every 1 s below 135 °C. -/
def Dev.thermFall (d : Dev) (top : Int) : Dev :=
  if top < 13500 ∧ d.nat O.wtThermRank ≠ 0 then
    let d0 := d.after (d.wt.rankDownAt.getD d.mono) 1000
    let n : Nat := d0.nat O.wtThermRank - 1
    let d1 := ({ d0 with wt := { d0.wt with rankDownAt := some d0.mono, rankUpAt := none } }).setN O.wtThermRank n
    if n = 0 then d1.wtEvent 57 else d1
  else d

/-- STORM_EXIT committed. -/
def Dev.stormExitSet (d : Dev) : Dev := { d with wt := { d.wt with stormExit := true } }

/-- SLOT_MASK committed (R149). -/
def Dev.maskWrite (d : Dev) (elems : List (Nat × Nat)) (org : Origin) : Dev :=
  { d with wt := { d.wt with maskWrites := d.wt.maskWrites ++ [{ elems := elems, org := org }] } }

/-! ### Rows -/

/-- WATCH_CHECKS_DONE (R146). -/
def execWatchChecksDone (s : State) : Host.Outcome State Fault Refusal := s.upd Dev.watchChecksDone
/-- BOOT_IMAGE_SELECT (R159). -/
def execBootImageSelect (s : State) : Host.Outcome State Fault Refusal := s.upd Dev.bootSelect
/-- THERM_RANK_RISE (R158). -/
def execThermRankRise (s : State) : Host.Outcome State Fault Refusal := s.upd (fun d => if d.fabricOn then d.thermRise d.dieTemp else d)
/-- THERM_RANK_FALL (R158). -/
def execThermRankFall (s : State) : Host.Outcome State Fault Refusal := s.upd (fun d => if d.fabricOn then d.thermFall d.dieTemp else d)

end Sys2Proof.Machine
end

