-- ==== Sys2Proof/Machine/Audio.lean ====
section
/-! DEFINITION. Audio ports, routing, memory rings and AVTP streams (chapter 12). -/

namespace Sys2Proof.Machine

/-! ### Sides -/

/-- Number of a side: 2 · port + (0 TX, 1 RX). -/
abbrev sideNo (p x : Nat) : Nat := 2 * p + x

/-- A side's state beside its objects. -/
def Dev.side (d : Dev) (p x : Nat) : AuSide := Tab.get {} d.au.sides (sideNo p x)

/-- The same replaced. -/
def Dev.setSide (d : Dev) (p x : Nat) (s : AuSide) : Dev := { d with au := { d.au with sides := Tab.set {} d.au.sides (sideNo p x) s } }

/-- SIDE_STATE. -/
def Dev.sideSt (d : Dev) (p x : Nat) : Nat := d.nat (O.auSideState p x)

/-- Event 81 + 2p with the latest cause in FAULT (R342). -/
def Dev.apFault (d : Dev) (p x cause : Nat) : Dev := (d.setN (O.auFault p x) cause).raise (81 + 2 * p) (256 * cause + x)

/-- Event 80 + 2p (R334). -/
def Dev.apRate (d : Dev) (p x : Nat) : Dev := d.raise (80 + 2 * p) x

/-- A frame counted in XRUN, LATE or FRAMING (`o`), with the event at the first after a frame without one (R342). -/
def Dev.apCount (d : Dev) (p x o cause : Nat) : Dev :=
  let s := d.side p x
  let d1 := (d.inc o).setSide p x { s with counted := true }
  if s.counted then d1.setN (O.auFault p x) cause else d1.apFault p x cause

/-- A frame without one. -/
def Dev.apClean (d : Dev) (p x : Nat) : Dev := d.setSide p x { d.side p x with counted := false }

/-- Rates of R332 with the frequency of their PLL. -/
def masterRates : List (Nat × Nat) :=
  ([8000, 12000, 16000, 24000, 32000, 48000, 64000, 96000, 192000].map (fun r => (r, 49152000))) ++
  ([11025, 22050, 44100, 88200, 176400].map (fun r => (r, 45158400)))

/-- Whether a master breaks R332. -/
def masterOk (rate slots bits : Nat) : Bool :=
  match masterRates.find? (fun p => decide (p.1 = rate)) with
  | some p => (let b := rate * slots * bits
               decide (p.2 % b = 0) && decide (b ≤ 24576000) && decide (bits ≠ 24))
  | none => false

/-- The configuration check of R336. -/
def Dev.sideOk (d : Dev) (p x : Nat) : Bool :=
  let fmt := d.nat (O.auFormat p x)
  let slots := d.nat (O.auSlots p x)
  let bits := d.nat (O.auSlotBits p x)
  decide (d.nat (O.auBufFrames p x) ≠ 0) && decide (d.nat (O.auWordBits p x) ≤ bits) &&
  (if fmt = 3 then decide (1 ≤ slots) && decide (slots ≤ 8) else decide (slots = 2)) &&
  (decide (d.nat (O.auClkRole p x) = 1) || masterOk (d.nat (O.auRate p x)) slots bits)

/-- The configuration a side starts with. -/
def Dev.sideConfig (d : Dev) (p x : Nat) : Dev :=
  let s := d.side p x
  let n := d.nat
  (d.setSide p x { mask := if s.masks.isEmpty then n (O.auSlotMask p x) else s.mask, group := n (O.auGroup p x), ws := s.ws, lastClass := s.lastClass, masks := s.masks, high := s.high, wire := [], role := n (O.auClkRole p x), format := n (O.auFormat p x),
                   slots := n (O.auSlots p x), slotBits := n (O.auSlotBits p x), wordBits := n (O.auWordBits p x), rate := n (O.auRate p x),
                   flags := n (O.auWireFlags p x), buf := n (O.auBufFrames p x), lead := n (O.auLeadFrames p x), tail := n (O.auTailFrames p x),
                   fill := if x = 0 then n (O.auUnderrunFill p x) else 0, lastEdge := s.lastEdge }).setN (O.auFill p x) 0

/-- Frame rate of a side, in mHz: the master's rate, or the measured rate of a slave. -/
def Dev.sideMhz (d : Dev) (p x : Nat) : Nat :=
  let s := d.side p x
  if s.role = 0 then 1000 * s.rate else if d.nat (O.auMeasRate p x) ≠ 0 then d.nat (O.auMeasRate p x) else 1000 * d.nat (O.auRateClass p x)

/-- `n` frames of a side, in ns. -/
def Dev.frameNs (d : Dev) (p x n : Nat) : Nat := let r := d.sideMhz p x; if r = 0 then 0 else n * 1000000000000 / r

/-- The lead of a side, in ns (R338). -/
def Dev.leadNs (d : Dev) (p x : Nat) : Nat := d.frameNs p x (d.side p x).lead

/-- A slave side without clock. -/
def Dev.noClock (d : Dev) (p x : Nat) : Bool := decide ((d.side p x).role = 1) && decide (d.nat (O.auRateClass p x) = 0)

/-- The start instant is `t` (device time): the side goes to LEAD. A master's first data edge is the first of the grid of R332 at
or after it. -/
def Dev.sideLead (d : Dev) (p x t : Nat) : Dev :=
  let s := d.side p x
  let j := (t * s.rate + 999999999) / 1000000000
  let edge := if s.role = 0 then j * 1000000000 / s.rate else t
  (d.setSide p x { s with t0 := some (d.mono + (t - d.now)), j0 := j, e0 := d.mono + (edge - d.now), begun := false, clk := false }).setN
    (O.auSideState p x) 3

/-- Start instant for sides whose longest lead is `lead` (R338); `at_` is GROUP_AT for a group start, else 0. -/
def Dev.startAt (d : Dev) (at_ lead : Nat) : Nat := max at_ (d.now + 2000000 + lead)

/-- A side begins to start on its own: WAIT_CLOCK without a clock, else LEAD. -/
def Dev.sideStart (d : Dev) (p x : Nat) : Dev :=
  if d.noClock p x then d.setN (O.auSideState p x) 2 else d.sideLead p x (d.startAt 0 (d.leadNs p x))

/-- ENABLE has become 1 on a STOPPED side (Table 12.3). -/
def Dev.sideOn (d : Dev) (p x : Nat) : Dev :=
  if !d.sideOk p x then (d.setN (O.auSideState p x) 6).apFault p x 1
  else
    let d1 := d.sideConfig p x
    if (d1.side p x).group ≠ 0 then d1.setN (O.auSideState p x) 1 else d1.sideStart p x

/-- A side is STOPPED: a master stops BCLK. A side enabled again during its tail starts. -/
def Dev.sideStopped (d : Dev) (p x : Nat) : Dev :=
  let d1 := (d.setSide p x { d.side p x with clk := false, fifo := [], pipe := [], mixes := [], gaps := [], begun := false, t0 := none }).setN (O.auSideState p x) 0
  let d2 := d1.setN (O.auFill p x) 0
  if d2.flag (O.auEnable p x) ∧ d2.au.on then d2.sideOn p x else d2

/-- The tail begins: data ends (R340). -/
def Dev.sideTail (d : Dev) (p x : Nat) : Dev :=
  let s := d.side p x
  let d1 := (d.setSide p x { s with tailLeft := s.tail, fifo := [], pipe := [] }).setN (O.auSideState p x) 5
  if s.tail = 0 then d1.sideStopped p x else d1

/-- SIDE_ENABLE committed (R337). `on` is the new value. -/
def Dev.sideEnable (d : Dev) (p x : Nat) (on : Bool) : Dev :=
  if !d.au.on then d
  else
    let st := d.sideSt p x
    if on then (if st = 0 then d.sideOn p x else d)
    else if st = 4 ∨ st = 3 then d.sideTail p x
    else if st = 6 ∨ st = 1 ∨ st = 2 then d.sideStopped p x
    else d

/-- Every side, TX before RX. -/
def allSides : List (Nat × Nat) := (List.range 8).flatMap (fun p => [(p, 0), (p, 1)])

/-- The first WS edge of a slave side at or after mono time `t`, from the last edge seen and the measured rate; `t` itself where no edge
has been seen. -/
def Dev.firstEdge (d : Dev) (p x t : Nat) : Nat :=
  let e := (d.side p x).lastEdge
  if e = 0 ∨ t ≤ e then t else e + d.frameNs p x (((t - e) * d.sideMhz p x + 999999999999) / 1000000000000)

/-- One BCLK period of a side, ns. -/
def Dev.bclkNs (d : Dev) (p x : Nat) : Nat := let s := d.side p x; d.frameNs p x 1 / max 1 (s.slots * s.slotBits)

/-- Start instant of a slave side of a group (R339): where its WS edges fall within one BCLK period of those of a lower-numbered slave
side of the group, it takes that side's edge. `l` holds the sides before it. -/
def Dev.slaveStart (d : Dev) (l : List (Nat × Nat)) (p x t : Nat) : Nat :=
  let m := d.mono + (t - d.now)
  match l.find? (fun q => decide ((d.side q.1 q.2).role = 1) && !d.noClock q.1 q.2 &&
      (let a := d.firstEdge q.1 q.2 m
       let b := d.bclkNs q.1 q.2
       decide (d.firstEdge p x (a - b) ≤ a + b))) with
  | some q => d.now + (d.firstEdge q.1 q.2 m - d.bclkNs q.1 q.2 - d.mono)
  | none => t

/-- GROUP_GO committed (R337 to R339): the armed sides of each group named start on one instant. -/
def Dev.groupGo (d : Dev) (v : Nat) : Dev :=
  (List.range 4).foldl (fun (x : Dev) i =>
    if v.testBit i then
      let l := allSides.filter (fun q => decide (x.sideSt q.1 q.2 = 1) && decide ((x.side q.1 q.2).group = i + 1))
      let lead := (l.map (fun q => if x.noClock q.1 q.2 then 0 else x.leadNs q.1 q.2)).foldl max 0
      let t := x.startAt (x.nat O.auGroupAt) lead
      l.foldl (fun (y : Dev) q =>
        if y.noClock q.1 q.2 then y.setN (O.auSideState q.1 q.2) 2
        else y.sideLead q.1 q.2 (if (y.side q.1 q.2).role = 1 then y.slaveStart (l.takeWhile (fun r => decide (r ≠ q))) q.1 q.2 t else t)) x
    else x) d

/-- SIDE_LEAD_START (R338): LEAD_FRAMES frames before the first data edge. -/
def Dev.sideLeadStart (d : Dev) (p x : Nat) : Dev :=
  let s := d.side p x
  if d.sideSt p x = 3 ∧ !s.clk then
    let d1 := d.clockTo (s.e0 - d.leadNs p x)
    d1.setSide p x { s with clk := true }
  else d

/-! ### Rates (R333 to R335) -/

/-- The rate of R332 nearest to a measured rate within ±1 %, or 0. -/
def rateClass (mhz : Nat) : Nat :=
  let near := masterRates.filter (fun p => decide (((mhz : Int) - 1000 * p.1).natAbs * 100 ≤ 1000 * p.1))
  (near.foldl (fun (b : Option Nat) p => match b with
    | none => some p.1
    | some r => if ((mhz : Int) - 1000 * p.1).natAbs < ((mhz : Int) - 1000 * r).natAbs then some p.1 else some r) none).getD 0

/-- A side's rate class set, with event 80 + 2p on a change; a RUNNING side reacquires within 20 ms. -/
def Dev.classSet (d : Dev) (p x c : Nat) : Dev :=
  if d.nat (O.auRateClass p x) = c then d
  else
    let d1 := d.setN (O.auRateClass p x) c
    let d2 := if c = 0 then d1 else d1.setSide p x { d1.side p x with lastClass := c, reacq := if d1.sideSt p x = 4 then d1.mono + 20000000 else (d1.side p x).reacq }
    d2.apRate p x

/-- A slave side in WAIT_CLOCK whose rate class is non-zero (Table 12.3): before its start the start instant is fixed, with GROUP_AT for a side of a group
(log 117); after it FRAME advances by the frame periods elapsed at `last`, the last class. -/
def Dev.waitDone (d1 : Dev) (p x last : Nat) : Dev :=
  if d1.sideSt p x = 2 ∧ d1.nat (O.auRateClass p x) ≠ 0 then
    let s := d1.side p x
    if s.begun then
      let el := divRound (((d1.mono - s.lastEdge : Nat) : Int) * last) 1000000000
      let d2 := d1.setN (O.auFrame p x) (d1.num (O.auFrame p x) + el)
      (d2.setSide p x { d2.side p x with lastEdge := d2.mono, fifo := [], pipe := [], next := d2.nat (O.auFrame p x) + 1 }).setN (O.auSideState p x) 4
    else d1.sideLead p x (d1.startAt (if s.group ≠ 0 then d1.nat O.auGroupAt else 0) (d1.leadNs p x))
  else d1

/-- A measured rate of a slave side: MEAS_RATE, RATE_CLASS, RATE_PPM, and event 80 + 2p. -/
def Dev.rateSet (d : Dev) (p x mhz : Nat) : Dev :=
  let c := rateClass mhz
  let ppm : Int := if c = 0 then 0 else divRound (((mhz : Int) - 1000 * c) * 100000000) (1000 * c)
  let d1 := (d.setN (O.auMeasRate p x) mhz).classSet p x c
  let d2 := d1.setN (O.auRatePpm p x) ppm
  let tol := 100 * d2.nat (O.auRateTol p x)
  let s := d2.side p x
  if !s.high ∧ tol < ppm.natAbs then (d2.setSide p x { s with high := true }).apRate p x
  else if s.high ∧ 2 * ppm.natAbs < tol then d2.setSide p x { s with high := false }
  else d2

/-- A slave as configured, or as it runs. -/
def Dev.isSlave (d : Dev) (p x : Nat) : Bool := decide (d.nat (O.auClkRole p x) = 1)

/-- The rate of some WS edges, given by their times in ns, in mHz (R333). -/
def edgesMhz (l : List Nat) : Nat :=
  let span := l.getLastD 0 - l.headD 0
  if span = 0 then 0 else (divRound (((l.length - 1) * 1000000000000 : Nat) : Int) span).toNat

/-- The edges of the last 1 s. -/
def lastSecond (l : List Nat) : List Nat := l.filter (fun t => decide (l.getLastD 0 < t + 1000000000))

/-- RATE_MEASURE (R333): every 100 ms, from the WS edges of the last 1 s. -/
def Dev.rateMeasure (d : Dev) (p x : Nat) (edges : List Nat) : Dev :=
  if d.au.on ∧ d.isSlave p x then
    let d1 := d.tick (8512 + sideNo p x) 100000000 0
    let d2 := d1.rateSet p x (edgesMhz (lastSecond edges))
    if d.nat (O.auRateClass p x) = 0 then d2.waitDone p x (d.side p x).lastClass else d2
  else d

/-- SLAVE_CLOCK_LOSS (R333, R337): no WS edge for four frames at the last class. -/
def Dev.clockLoss (d : Dev) (p x : Nat) : Dev :=
  if d.au.on ∧ d.isSlave p x ∧ d.nat (O.auRateClass p x) ≠ 0 then
    let last := (d.side p x).lastEdge
    let d0 := if last = 0 then d else d.clockTo (last + 4000000000 / max 1 (d.nat (O.auRateClass p x)))
    let d1 := (d0.setN (O.auRateClass p x) 0).apRate p x
    if d1.sideSt p x = 4 then d1.setN (O.auSideState p x) 2 else d1
  else d

/-- SLAVE_CLOCK_RETURN (R337): WS edges are seen again, at the times given. -/
def Dev.clockReturn (d : Dev) (p x : Nat) (edges : List Nat) : Dev :=
  let mhz := edgesMhz (lastSecond edges)
  if d.au.on ∧ d.isSlave p x ∧ d.nat (O.auRateClass p x) = 0 ∧ rateClass mhz ≠ 0 then (d.rateSet p x mhz).waitDone p x (d.side p x).lastClass else d

/-! ### Sample formats (R331, R351) -/

/-- A number limited to 24 bits. -/
def sat24 (v : Int) : Int := satS 24 v

/-- A sample as a TX or AVTP word of 16, 24 or 32 bits. -/
def txWord (bits : Nat) (v : Int) : Nat :=
  if bits = 16 then toUnsigned 16 (satS 16 (divRound v 256)) else if bits = 32 then toUnsigned 32 (v * 256) else toUnsigned 24 v

/-- A wire word as a sample. -/
def rxSample (bits w : Nat) : Int :=
  if bits = 16 then toSigned 16 w * 256 else if bits = 32 then sat24 (divRound (toSigned 32 w) 256) else toSigned 24 w

/-- Bytes per sample of a ring (Table 12.5). -/
def packBytes (pack : Nat) : Nat := if pack = 0 then 3 else 4

/-- A sample packed (Table 12.5). -/
def packSample (pack : Nat) (v : Int) : List Byte :=
  match pack with
  | 0 => leBytes 3 (toUnsigned 24 v)
  | 1 => leBytes 4 (toUnsigned 24 v * 256)
  | 2 => leBytes 4 (toUnsigned 32 v)
  | _ => leBytes 4 (toUnsigned 24 v)

/-- A packed sample read back. -/
def unpackSample (pack : Nat) (b : List Byte) : Int :=
  match pack with
  | 0 => toSigned 24 (leNat (b.take 3))
  | 1 => toSigned 24 (leNat (b.drop 1))
  | _ => toSigned 24 (leNat (b.take 3))

/-! ### The wire (R329, R330) -/

/-- BCLK periods from the WS edge to the first data bit (Table 12.2). -/
def AuSide.delay (s : AuSide) : Nat := if s.format = 0 ∨ (s.format = 3 ∧ s.flags.testBit 3) then 1 else 0

/-- TX data changes on the falling BCLK edge and RX data is sampled on the rising one, or the other way round (R329): true for rising. -/
def AuSide.dataEdge (s : AuSide) (rx : Bool) : Bool := rx != s.flags.testBit 0

/-- Level of WS in BCLK period `k` of a frame (Table 12.2, R330). -/
def AuSide.wsAt (s : AuSide) (k : Nat) : Bool :=
  let early := decide (2 * k < s.slots * s.slotBits)
  let level := if s.format = 0 then !early else if s.format = 3 ∧ s.role = 0 ∧ s.flags.testBit 2 then decide (k = 0) else early
  level != s.flags.testBit 1

/-- The bits of one slot on SD: the word, MSB first, at the start of the slot, or at its end in the right-justified format; the others are 0. -/
def AuSide.slotSd (s : AuSide) (w : Option Nat) : List (Option Bool) :=
  match w with
  | none => List.replicate s.slotBits none
  | some v =>
    let word := (List.range s.wordBits).map (fun i => some (v.testBit (s.wordBits - 1 - i)))
    let pad := List.replicate (s.slotBits - s.wordBits) (some false)
    if s.format = 2 then pad ++ word else word ++ pad

/-- A frame of words sent on TX: the levels of WS and SD in each BCLK period. -/
def AuSide.send (s : AuSide) (words : List (Option Nat)) : AuSide :=
  let n := s.slots * s.slotBits
  let sd := words.flatMap s.slotSd
  let out := if s.delay = 1 then s.carry :: sd else sd
  { s with wire := words, line := (List.range n).map (fun k => (s.wsAt k, out.getD k (some false))), carry := sd.getLastD (some false), ws := s.wsAt (n - 1) }

/-- The words of a frame received: SD as sampled in each BCLK period from the WS edge; bits of a slot beyond WORD_BITS are ignored. -/
def AuSide.receive (s : AuSide) (sd : List Bool) : List Nat :=
  (List.range s.slots).map (fun i =>
    let at_ := i * s.slotBits + s.delay + (if s.format = 2 then s.slotBits - s.wordBits else 0)
    (List.range s.wordBits).foldl (fun v b => 2 * v + (if sd.getD (at_ + b) false then 1 else 0)) 0)

/-! ### Frames at the pins -/

/-- Bit `i` of a mask is clear: the slot is masked. -/
def slotOff (m i : Nat) : Bool := !m.testBit i

/-- The mask writes that have crossed apply at this frame: the last one, the others superseded (R343). -/
def Dev.maskUse (d : Dev) (p x : Nat) : Dev :=
  let s := d.side p x
  match s.masks.getLast? with
  | none => d
  | some w =>
    let d1 := s.masks.dropLast.foldl (fun (y : Dev) m => (y.logSuper m.2 (O.auSlotMask p x) m.1 1).inc (O.auMaskSuperseded p x)) d
    (d1.setSide p x { d1.side p x with mask := w.1, masks := [] }).setN (O.auMaskFrame p x) (d1.num (O.auFrame p x))

/-- Instant of the WS edge of frame `n`: on the grid of R332, or as the measured rate of a slave places it. -/
def Dev.edgeAt (d : Dev) (p x n : Nat) : Nat :=
  let s := d.side p x
  let f := d.nat (O.auFrame p x)
  if s.role = 0 then s.e0 + ((s.j0 + n) * 1000000000 / s.rate - s.j0 * 1000000000 / s.rate)
  else if !s.begun then d.firstEdge p x (s.t0.getD d.mono) + d.frameNs p x n
  else if f ≤ n then s.lastEdge + d.frameNs p x (n - f)
  else s.lastEdge - d.frameNs p x (f - n)

/-- A WS edge of a side: the first at or after the start instant takes it from LEAD to RUNNING (R337). The answer says whether a data frame
begins; a slave's edges before that are time-stamped too (R333). -/
def Dev.frameEdge (d : Dev) (p x : Nat) : Dev × Bool :=
  let st := d.sideSt p x
  let s := d.side p x
  if st = 3 then
    let d1 := if s.role = 0 then d.clockTo s.e0 else d
    if s.t0.any (fun t => decide (t ≤ d1.mono)) then
      ((((d1.setSide p x { s with begun := true, clk := true, lastEdge := d1.mono, e0 := d1.mono }).setN (O.auFrame p x) 0).setN (O.auTFirst p x) d1.now).setN
        (O.auSideState p x) 4, true)
    else (d1.setSide p x (let s1 := { s with lastEdge := d1.mono }; if s.clk then s1.send (List.replicate s.slots (some 0)) else s1), false)
  else if st = 4 then
    let n := d.nat (O.auFrame p x) + 1
    let d1 := if s.role = 0 then d.clockTo (d.edgeAt p x n) else d
    ((d1.setSide p x { s with lastEdge := d1.mono }).setN (O.auFrame p x) n, true)
  else if st = 1 ∧ s.role = 1 then (d.setSide p x { s with lastEdge := d.mono }, false)
  else (d, false)

/-- TX frames no more than BUF_FRAMES frames before their edge enter the FIFO (R341). -/
def Dev.txFlow (d : Dev) (p : Nat) : Dev :=
  let s := d.side p 0
  let lim := s.buf + (if s.begun then d.nat (O.auFrame p 0) + 1 else 0)
  let l := s.fifo ++ s.pipe.filter (fun f => decide (f.1 < lim))
  (d.setSide p 0 { s with fifo := l, pipe := s.pipe.filter (fun f => decide (lim ≤ f.1)) }).setN (O.auFill p 0) l.length

/-- A frame of the tail: zero data; after the last one the side is STOPPED. -/
def Dev.tailFrame (d : Dev) (p x : Nat) : Dev :=
  let s := d.side p x
  let d1 := d.setSide p x (({ s with tailLeft := s.tailLeft - 1 } : AuSide).send (List.replicate s.slots (some 0)))
  if s.tailLeft ≤ 1 then d1.sideStopped p x else d1

/-- Words of a TX frame on the wire: masked slots by WIRE_FLAGS bit 4. -/
def txWords (s : AuSide) (v : List Int) : List (Option Nat) :=
  (List.range s.slots).map (fun i =>
    if slotOff s.mask i then (if s.flags.testBit 4 then none else some 0) else some (txWord s.wordBits (v.getD i 0)))

/-- T_EARLY_AUDIO recorded when the first frame with the early station's sound leaves port `p` (Table 21.6). -/
def Dev.earlyPin (d : Dev) (p n : Nat) : Dev :=
  match d.au.early with
  | some (q, m) => if q = p ∧ m ≤ n ∧ d.nat O.pwTEarlyAudio = 0 then d.setN O.pwTEarlyAudio d.now else d
  | none => d

/-- AUDIO_TX_FRAME (R340 to R343): at the WS edge the frame of that number, zero, or the last frame. `bclks` is a slave's count of
BCLK periods since the edge before. -/
def Dev.txFrame (d : Dev) (p bclks : Nat) : Dev :=
  if !d.au.on then d
  else if d.sideSt p 0 = 5 then d.tailFrame p 0
  else
    let e := d.frameEdge p 0
    if !e.2 then e.1
    else
      let d2 := e.1.maskUse p 0
      let s := d2.side p 0
      let n := d2.nat (O.auFrame p 0)
      let hit := s.fifo.find? (fun f => decide (f.1 = n))
      let rest := s.fifo.filter (fun f => decide (n < f.1))
      let put := fun (y : Dev) (v : List Int) =>
        (y.setSide p 0 (({ y.side p 0 with fifo := rest, lastSent := v } : AuSide).send (txWords s v))).txFlow p
      if s.role = 1 ∧ bclks ≠ s.slots * s.slotBits then put (d2.apCount p 0 (O.auFraming p 0) 5) []
      else if d2.mono < s.reacq then put (d2.apCount p 0 (O.auXrun p 0) 2) []
      else match hit with
        | some f => (put (d2.apClean p 0) f.2).earlyPin p n
        | none => put (d2.apCount p 0 (O.auXrun p 0) 2) (if s.fill = 1 then s.lastSent else [])

/-- An RX frame that does not enter the FIFO: the internal stream takes zero for it (R335, R341). -/
def Dev.rxGap (d : Dev) (p : Nat) : Dev := let s := d.side p 1; d.setSide p 1 { s with gaps := s.gaps ++ [s.lastEdge] }

/-- AUDIO_RX_FRAME (R341): a completed frame goes into the FIFO, or is dropped. `sd` is SD in each BCLK period from the WS edge on. -/
def Dev.rxFrame (d : Dev) (p bclks : Nat) (sd : List Bool) : Dev :=
  if !d.au.on then d
  else if d.sideSt p 1 = 5 then d.tailFrame p 1
  else
    let e := d.frameEdge p 1
    if !e.2 then e.1
    else
      let d2 := e.1.maskUse p 1
      let s := d2.side p 1
      if s.role = 1 ∧ bclks ≠ s.slots * s.slotBits then (d2.apCount p 1 (O.auFraming p 1) 5).rxGap p
      else if d2.mono < s.reacq then (d2.apCount p 1 (O.auXrun p 1) 3).rxGap p
      else if s.buf ≤ s.fifo.length then (d2.apCount p 1 (O.auXrun p 1) 3).rxGap p
      else
        let words := s.receive sd
        let v := (List.range s.slots).map (fun i => if slotOff s.mask i then 0 else rxSample s.wordBits (words.getD i 0))
        let d3 := (d2.apClean p 1)
        (d3.setSide p 1 { d3.side p 1 with fifo := s.fifo ++ [(s.lastEdge, v)], ws := s.wsAt (s.slots * s.slotBits - 1) }).setN (O.auFill p 1) (s.fifo.length + 1 : Nat)

/-! ### Routing (R345 to R349) -/

/-- KIND and bytes of a source or destination value (Table 12.4). -/
def srcKind (v : Nat) : Nat := field v 31 24
/-- Byte 1. -/
def srcB1 (v : Nat) : Nat := field v 15 8
/-- Byte 0. -/
def srcB0 (v : Nat) : Nat := field v 7 0

/-- A context is LOCKED, or in HOLD with REQUEST RUN. -/
def Dev.cxLive (d : Dev) (c : Nat) : Bool := decide (d.cxSt c = 3) || (decide (d.cxSt c = 5) && decide (d.cxEff c (O.cxRequest c) = 1))

/-- Whether a source is live (R347). A selector that has left DECODING is until its fade to silence has been given (Table 7.10). -/
def Dev.srcLive (d : Dev) (v : Nat) : Bool :=
  match srcKind v with
  | 1 => (let c := srcB0 v
          decide (d.nat (O.cxType c) = 1 ∨ d.nat (O.cxType c) = 2) && d.cxLive c)
  | 2 => (decide ((d.sel (srcB1 v) (srcB0 v)).state = 2) || !(d.sel (srcB1 v) (srcB0 v)).pcm.isEmpty) && d.cxLive (srcB1 v)
  | 3 => decide (d.nat (O.llFollowState (srcB0 v)) ≠ 0) && decide (d.nat (O.llFollowState (srcB0 v)) ≠ 5)
  | 4 => decide (d.sideSt (srcB1 v) 1 = 4)
  | 5 => decide (d.nat (O.auRingDir (srcB0 v)) = 0) && decide (d.nat (O.auRingFrames (srcB0 v)) ≠ 0)
  | _ => false

/-- A routing entry beside its objects. -/
def Dev.route_ (d : Dev) (r : Nat) : RouteSt := Tab.get {} d.au.routes r

/-- The same replaced. -/
def Dev.setRoute (d : Dev) (r : Nat) (x : RouteSt) : Dev := { d with au := { d.au with routes := Tab.set {} d.au.routes r x } }

/-- What an entry applies. -/
def RouteSt.cfg (x : RouteSt) : RouteCfg := match x.layers with | (c, _, _) :: _ => c | [] => {}

/-- The entry as its objects stand. -/
def Dev.routeObjs (d : Dev) (r : Nat) : RouteCfg :=
  { src := d.nat (O.auRouteSrc r), dst := d.nat (O.auRouteDst r), map := d.nat (O.auRouteMap r), gain := d.num (O.auRouteGain r) }

/-- Output of a destination value: a TX side by its port, an AVTP stream as 8 + stream; none for a ring or no destination. -/
def outOf (v : Nat) : Option Nat :=
  match srcKind v with
  | 1 => some (srcB1 v)
  | 2 => some (8 + srcB0 v)
  | _ => none

/-- The layers of an output (R243). -/
def Dev.hold (d : Dev) (o : Nat) : List HoldLayer := Tab.get [] d.au.holds o

/-- The warning that claims an output. -/
def Dev.holder (d : Dev) (o : Nat) : Option Nat :=
  match d.hold o with
  | h :: _ => if h.rev.isSome then (match (d.hold o).tail with | g :: _ => g.who | [] => none) else h.who
  | [] => none

/-- A destination is pre-empted by a warning (R349). -/
def Dev.dstHeld (d : Dev) (v : Nat) : Bool := match outOf v with | some o => (d.holder o).isSome | none => false

/-- Live sources resolved again, and ROUTE_STATE set (R347 to R349). -/
def Dev.routeResolve (d : Dev) (turnOn : Bool) : Dev :=
  (List.range 32).foldl (fun (x : Dev) r =>
    let e := x.route_ r
    let c := e.cfg
    let now_ := x.srcLive c.src && (turnOn || e.live)
    let y := x.setRoute r { e with live := now_ }
    y.setN (O.auRouteState r) (if srcKind c.src = 0 ∨ srcKind c.dst = 0 then 0 else if y.dstHeld c.dst then 3 else if now_ then 2 else 1)) d

/-- Internal frame at or after a device time. -/
def frameAfter (t : Nat) : Nat := (t * 48000 + 999999999) / 1000000000

/-- Internal frames of a time in ms. -/
def framesMs (ms : Nat) : Nat := 48 * ms

/-- ROUTE_APPLY (R348): at the next internal frame the entry takes up its objects, with a crossfade from what it carries. A write for a
pre-empted output waits until no warning claims it (R243). -/
def Dev.routeApply (d : Dev) (r : Nat) : Dev :=
  let e := d.route_ r
  let c := d.routeObjs r
  if !d.au.on ∨ !e.pending ∨ d.dstHeld e.cfg.dst ∨ d.dstHeld c.dst then d
  else
    let k := max (d.au.k + 1) (frameAfter d.now)
    let d1 := d.timeTo (k * 1000000000 / 48000)
    let n := framesMs (d1.nat (O.auRouteXfadeMs r))
    let below := if n = 0 then [] else e.layers
    ((d1.setRoute r { layers := (c, k, n) :: below, pending := false, live := d1.srcLive c.src }).setN (O.auRouteTApplied r)
      (k * 1000000000 / 48000 : Nat)).routeResolve false

/-- A routing object of entry `r` committed. -/
def Dev.routeWritten (d : Dev) (r : Nat) : Dev := d.setRoute r { d.route_ r with pending := true }

/-- Progress of a crossfade of `len` frames begun at `start`, at frame `k`: cos² and sin² weights in fixed point (R275). -/
def fadeOut (done len : Nat) : Nat := if len ≤ done then 0 else (((fxOne : Int) + cosTurn done (2 * len)) / 2).toNat

/-- Whether a layer of a routing entry is complete. -/
def layerDone (k start len : Nat) : Bool := decide (len ≤ k - start)

/-- The layers of an entry with their weights, newest first; layers below a complete one are gone. -/
def layerWeights (k : Nat) : Nat → List (RouteCfg × Nat × Nat) → List (RouteCfg × Nat)
  | _, [] => []
  | w, (c, s, n) :: t =>
    let out := fadeOut (k - s) n
    (c, fxMul w (fxOne - out)) :: (if out = 0 then [] else layerWeights k (fxMul w out) t)

/-- The layers of an entry that still count. -/
def layersLive (k : Nat) : List (RouteCfg × Nat × Nat) → List (RouteCfg × Nat × Nat)
  | [] => []
  | (c, s, n) :: t => (c, s, n) :: (if layerDone k s n then [] else layersLive k t)

/-- Frames of an output crossfade done at frame `k`, a reversed one running back. -/
def HoldLayer.done (h : HoldLayer) (k : Nat) : Nat :=
  match h.rev with
  | none => min h.len (k - h.start)
  | some r => min h.len (r - h.start) - (k - r)

/-- Layers of an output with their weights; reversed layers that have run back are gone. -/
def holdWeights (k : Nat) : Nat → List HoldLayer → List (Option Nat × Nat)
  | w, [] => [(none, w)]
  | w, h :: t =>
    let out := fadeOut (h.done k) h.len
    (h.who, fxMul w (fxOne - out)) :: (if out = 0 then [] else holdWeights k (fxMul w out) t)

/-- Layers of an output that still count at frame `k`. -/
def holdLive (k : Nat) : List HoldLayer → List HoldLayer
  | [] => []
  | h :: t =>
    if h.rev.isSome ∧ h.done k = 0 then holdLive k t
    else if h.rev.isNone ∧ h.done k = h.len then (if h.who.isNone then [] else [h])
    else h :: holdLive k t

/-- An output passes to a warning, or back to the routing table, by a crossfade of `ms`; a warning that ends within its own crossfade
reverses it (R243). -/
def Dev.holdSet (d : Dev) (o : Nat) (who : Option Nat) (ms : Nat) : Dev :=
  let k := d.au.k
  let l := holdLive k (d.hold o)
  if d.holder o = who then d
  else
    let n := framesMs ms
    let below := match l with | _ :: g :: _ => g.who | _ => none
    let l2 := match l with
      | h :: t => if h.rev.isNone && decide (h.done k < h.len) && decide (below = who) then { h with rev := some k } :: t
                  else { who := who, start := k, len := n } :: (if n = 0 then [] else l)
      | [] => [{ who := who, start := k, len := n }]
    { d with au := { d.au with holds := Tab.set [] d.au.holds o (holdLive k l2) } }

/-- A stereo sample placed by ROUTE_MAP: channel offset and value. -/
def placed (map : Nat) (s : Int × Int) : List (Nat × Int) :=
  match map with
  | 0 => [(0, s.1), (1, s.2)]
  | 1 => [(0, divRound (s.1 + s.2) 2)]
  | 2 => [(0, s.1)]
  | _ => [(0, s.2)]

/-- First slot or channel of a destination. -/
def dstFirst (v : Nat) : Nat :=
  match srcKind v with
  | 1 => srcB0 v
  | 2 => srcB1 v
  | _ => 0

/-- Destinations of one kind are the same output or ring. -/
def sameDst (a b : Nat) : Bool :=
  decide (srcKind a = srcKind b) &&
  (match srcKind a with
   | 1 => decide (srcB1 a = srcB1 b)
   | 2 => decide (srcB0 a = srcB0 b)
   | 3 => decide (srcB0 a = srcB0 b)
   | _ => false)

/-- Weighted contributions of every routing entry to channel `ch` of destination `dst` at frame `k` (fixed point): `val` gives a
source's sample. -/
def Dev.routeMix (d : Dev) (k dst ch : Nat) (val : Nat → Int × Int) : Int :=
  ((List.range 32).map (fun r =>
    let e := d.route_ r
    ((layerWeights k fxOne e.layers).map (fun p =>
      let c := p.1
      if sameDst c.dst dst && d.srcLive c.src then
        ((placed c.map (val c.src)).map (fun q => if dstFirst c.dst + q.1 = ch then q.2 * ((fxMul p.2 (gainFx c.gain) : Nat) : Int) else (0 : Int))).sum
      else (0 : Int))).sum)).sum

/-- The same with a warning's audio in place of each entry's source, at 0 dB (R349). -/
def Dev.warnMix (d : Dev) (dst ch : Nat) (s : Int × Int) : Int :=
  ((List.range 32).map (fun r =>
    let c := (d.route_ r).cfg
    if sameDst c.dst dst then ((placed c.map s).map (fun q => if dstFirst c.dst + q.1 = ch then q.2 * (fxOne : Int) else (0 : Int))).sum else (0 : Int))).sum

/-- One channel of a destination, in fixed point, over the layers of its output. `warn` gives a warning's sample. -/
def Dev.destSample (d : Dev) (k dst ch : Nat) (val : Nat → Int × Int) (warn : Nat → Int × Int) : Int :=
  match outOf dst with
  | none => d.routeMix k dst ch val
  | some o =>
    ((holdWeights k fxOne (d.hold o)).map (fun p =>
      match p.1 with
      | none => if p.2 = 0 then 0 else d.routeMix k dst ch val * (p.2 : Int) / (fxOne : Int)
      | some w => d.warnMix dst ch (warn w) * (p.2 : Int) / (fxOne : Int))).sum

/-- Channels of a destination, saturated to 24 bits, and how many were saturated. -/
def Dev.destFrame (d : Dev) (k dst n : Nat) (val : Nat → Int × Int) (warn : Nat → Int × Int) : List Int × Nat :=
  let l := (List.range n).map (fun ch => divRound (d.destSample k dst ch val warn) fxOne)
  (l.map sat24, (l.filter (fun v => decide (sat24 v ≠ v))).length)

/-! ### The internal frame (R326 to R328) -/

/-- The samples that a context or selector source has produced and the audio island has not received. -/
def Dev.srcPcm (d : Dev) (v : Nat) : List (Int × Int) :=
  match srcKind v with
  | 1 => (d.ctx (srcB0 v)).ana.pcm
  | 2 => (d.sel (srcB1 v) (srcB0 v)).pcm
  | _ => []

/-- The first `n` of them taken. -/
def Dev.srcTake (d : Dev) (v n : Nat) : Dev :=
  match srcKind v with
  | 1 => (let c := srcB0 v
          let s := d.ctx c
          d.setCtx c { s with ana := { s.ana with pcm := s.ana.pcm.drop n, pcmM := s.ana.pcmM + n } })
  | 2 => (let x := d.sel (srcB1 v) (srcB0 v)
          d.keepSel (srcB1 v) (srcB0 v) { x with pcm := x.pcm.drop n })
  | _ => d

/-- Samples of context and selector sources that completed the crossing: a source without a start begins at frame `k`; a sample whose
frame has passed is discarded (R328). With the samples that arrived, by source. -/
def Dev.srcArrive (d : Dev) (k : Nat) (arr : List (Nat × Nat)) : Dev :=
  arr.foldl (fun (x : Dev) a =>
    let l := (x.srcPcm a.1).take a.2
    if l.isEmpty then x
    else
      let s := Tab.get {} x.au.srcs a.1
      let s1 : AuSrc := if s.got = 0 then { k0 := k } else s
      let s2 := l.foldl (fun (y : AuSrc) v =>
        { y with got := y.got + 1, buf := if k ≤ y.k0 + y.got then y.buf ++ [(y.got, v.1, v.2)] else y.buf }) s1
      ({ x with au := { x.au with srcs := Tab.set {} x.au.srcs a.1 s2 } } : Dev).srcTake a.1 l.length) d

/-- A source's sample for frame `k`: none when it has not arrived. -/
def AuSrc.sampleAt (s : AuSrc) (k : Nat) : Option (Int × Int) := (s.buf.find? (fun b => decide (s.k0 + b.1 = k))).map (fun b => (b.2.1, b.2.2))

/-- Bytes of frame `f` of ring `r`, from shared SRAM. -/
def Dev.ringFrame (d : Dev) (r f : Nat) : List Int :=
  let ch := d.nat (O.auRingCh r)
  let pk := d.nat (O.auRingPack r)
  let n := d.nat (O.auRingFrames r)
  let b := packBytes pk
  let a := d.nat (O.auRingAddr r) + ch * b * (f % n)
  (List.range ch).map (fun i => unpackSample pk (memBytes d.kp.sram (a + i * b) b))

/-- Bytes stored in a memory, from address `a` up. -/
def memStore (m : List (Nat × Byte)) (a : Nat) : List Byte → List (Nat × Byte)
  | [] => m
  | b :: t => memStore (Tab.set 0 m a b) (a + 1) t

/-- Reservations of some cores on a granule that the bytes from address `a` touch end (R507). -/
def Dev.resvBreak (d : Dev) (ks : List Nat) (a n : Nat) : Dev :=
  let hit := fun (g : Nat) => decide (n ≠ 0) && decide (a / 32 ≤ g) && decide (g ≤ (a + n - 1) / 32)
  let one := fun (m : List (Nat × Core)) (k : Nat) =>
    let c : Core := Tab.get {} m k
    match c.resv with
    | some g => if hit g then Tab.set {} m k { c with resv := none } else m
    | none => m
  { d with kp := { d.kp with cores := ks.foldl one d.kp.cores } }

/-- Bytes stored in shared SRAM, at an offset from 0x2000_0000. -/
def Dev.sramStore (d : Dev) (a : Nat) (b : List Byte) : Dev :=
  ({ d with kp := { d.kp with sram := memStore d.kp.sram a b } } : Dev).resvBreak [0, 1, 2, 3] (0x20000000 + a) b.length

/-- Playback rings supply one frame each that a live entry reads: the frame at RING_RD, or zero counted in RING_XRUN (R350). -/
def Dev.ringsPlay (d : Dev) : Dev × List (Nat × List Int) :=
  (List.range 8).foldl (fun (a : Dev × List (Nat × List Int)) r =>
    let x := a.1
    let used := (List.range 32).any (fun e => decide ((x.route_ e).cfg.src = 5 * 16777216 + r))
    if used && decide (x.nat (O.auRingDir r) = 0) && decide (x.nat (O.auRingFrames r) ≠ 0) then
      let rd := x.nat (O.auRingRd r)
      if rd = x.nat (O.auRingWr r) then (x.inc (O.auRingXrun r), a.2)
      else (x.setN (O.auRingRd r) ((rd + 1) % 2 ^ 32 : Nat), a.2 ++ [(r, x.ringFrame r rd)])
    else a) (d, [])

/-- Frames that a rate converter keeps behind the instant it works at (log 21). -/
def convKeep : Nat := 96

/-- The audio core takes every frame of an RX FIFO, and uses those up to 1 ms before the instant of frame `k`; the value at that instant itself is exact, between
frames it is interpolated (R327; log 21). It is zero for a frame that was dropped (R341), and while a rate class is being reacquired (R335). -/
def Dev.rxTake (d : Dev) (p : Nat) : Dev × List Int :=
  let s := d.side p 1
  let at_ := d.au.kAt - 1000000
  let l := s.pipe ++ s.fifo
  let past := l.filter (fun f => decide (f.1 ≤ at_))
  let rest := l.filter (fun f => decide (at_ < f.1))
  let d1 := (d.setSide p 1 { s with fifo := [], pipe := past.drop (past.length - convKeep) ++ rest, gaps := s.gaps.filter (fun t => decide (at_ ≤ t)) }).setN
    (O.auFill p 1) 0
  if past.isEmpty ∨ s.gaps.any (fun t => decide (t = at_)) ∨ (at_ < s.reacq ∧ s.reacq ≤ at_ + 20000000) then (d1, [])
  else
    match past.getLast? with
    | none => (d1, [])
    | some f =>
      if f.1 = at_ then (d1, f.2)
      else (d1, (List.range s.slots).map (fun i => sat24 (Config.resample (l.map (fun g => ((g.1 : Int) - at_, g.2.getD i 0))))))

/-- TX frames of a side whose place on the internal timeline lies up to this internal frame: a frame exactly on it takes the mix, another is
interpolated; one whose edge has passed is LATE (R341). -/
def Dev.txMake (d : Dev) (p : Nat) (mix : List Int) : Dev :=
  let s := d.side p 0
  let st := d.sideSt p 0
  if st ≠ 4 ∧ st ≠ 3 then d
  else
    let mixes := ((d.au.kAt, mix) :: s.mixes).take convKeep
    let d := d.setSide p 0 { s with mixes := mixes }
    let due := ((List.range 512).map (fun i => s.next + i)).takeWhile (fun n => decide (d.edgeAt p 0 n ≤ d.au.kAt + 1000000))
    (due.foldl (fun (x : Dev) n =>
      let at_ := d.edgeAt p 0 n
      let v := (x, if at_ = d.au.kAt + 1000000 then mix
        else (List.range s.slots).map (fun c => sat24 (Config.resample (mixes.map (fun m => ((m.1 : Int) + 1000000 - at_, m.2.getD c 0))))))
      if st = 4 ∧ n ≤ x.nat (O.auFrame p 0) then (v.1.setSide p 0 { v.1.side p 0 with next := n + 1 }).apCount p 0 (O.auLate p 0) 4
      else v.1.setSide p 0 { v.1.side p 0 with pipe := (v.1.side p 0).pipe ++ [(n, v.2)], next := n + 1 }) d).txFlow p

/-- A follow slot beside its objects. -/
def Dev.llSlot (d : Dev) (f : Nat) : LlSlot := Tab.get {} d.ll.slots f
/-- The same replaced. -/
def Dev.setLl (d : Dev) (f : Nat) (x : LlSlot) : Dev := { d with ll := { d.ll with slots := Tab.set {} d.ll.slots f x } }

/-- Source of a delay line's samples: its FM or AM context, or selector 0 of a digital one (R266); 0 where the line records none. -/
def Dev.lineSrc (d : Dev) (l : LlLine) : Nat := if l.ctx = 0 then 0 else if d.cxDigital l.ctx then 0x02000000 + 256 * l.ctx else 0x01000000 + l.ctx

/-- A delay line takes the sample of frame `k` of its context (R274), zero where a source that has started has none (R328). -/
def Dev.linePush (d : Dev) (k : Nat) (l : LlLine) : LlLine :=
  let s := Tab.get ({} : AuSrc) d.au.srcs (d.lineSrc l)
  if l.ctx ≠ 0 ∧ s.got ≠ 0 ∧ s.k0 ≤ k then { l with held := (((s.sampleAt k).getD (0, 0)) :: l.held).take 192001 } else l

/-- Sources that delay lines record. -/
def Dev.lineSrcs (d : Dev) : List Nat := ([0, 1] : List Nat).flatMap (fun f => [d.lineSrc (d.llSlot f).lineA, d.lineSrc (d.llSlot f).lineB])

/-- What a delay line gives: the sample its delay ago at its gain. -/
def LlLine.out (l : LlLine) : Int × Int :=
  match l.held[l.d]? with
  | some p => let g : Int := (gainFx l.g : Nat); (sat24 (divRound (p.1 * g) fxOne), sat24 (divRound (p.2 * g) fxOne))
  | none => (0, 0)

/-- Frames of a follow crossfade done at frame `k`. -/
def LlFade.done (h : LlFade) (k : Nat) : Nat :=
  match h.rev with
  | none => min h.len (k - h.start)
  | some r => min h.len (r - h.start) - (k - r)

/-- What a follow slot gives at frame `k` (Table 9.9, R275): its active line, faded in over 5 ms, or the crossfade of both lines. -/
def Dev.followOut (d : Dev) (f k : Nat) : Int × Int :=
  let s := d.llSlot f
  let a := if s.useB then s.lineB else s.lineA
  let b := if s.useB then s.lineA else s.lineB
  let mix := fun (w : Nat) (x y : Int × Int) =>
    (divRound (x.1 * (w : Int) + y.1 * ((fxOne - w : Nat) : Int)) fxOne, divRound (x.2 * (w : Int) + y.2 * ((fxOne - w : Nat) : Int)) fxOne)
  if d.nat (O.llFollowState f) ≠ 2 ∧ d.nat (O.llFollowState f) ≠ 3 then (0, 0)
  else
    match s.fadeIn with
    | none => (0, 0)
    | some k0 =>
      let one := mix (fadeOut (k - k0) 240) (0, 0) a.out
      match s.fade with
      | some h => mix (fadeOut (h.done k) h.len) one b.out
      | none => one

/-- Both slots' lines take the frame's samples; an output whose line holds its delay starts to fade in. -/
def Dev.linesPush (d : Dev) (k : Nat) : Dev :=
  [0, 1].foldl (fun (x : Dev) f =>
    let s := x.llSlot f
    let s1 := { s with lineA := x.linePush k s.lineA, lineB := x.linePush k s.lineB }
    let a := if s1.useB then s1.lineB else s1.lineA
    x.setLl f { s1 with fadeIn := if s1.fadeIn.isNone ∧ s1.active.isSome ∧ a.d < a.held.length then some k else s1.fadeIn,
                        fade := match s1.fade with | some h => if h.rev.isSome ∧ h.done k = 0 then none else some h | none => none }) d

/-- The samples of one internal frame: the value of each source, with gaps counted. -/
def Dev.srcValues (d : Dev) (k : Nat) (rx : List (Nat × List Int)) (rings : List (Nat × List Int)) (v : Nat) : Int × Int :=
  let two := fun (l : List Int) (i : Nat) => (l.getD i 0, l.getD (i + 1) (l.getD i 0))
  match srcKind v with
  | 1 | 2 => ((Tab.get {} d.au.srcs v).sampleAt k).getD (0, 0)
  | 3 => d.followOut (srcB0 v) k
  | 4 => two (((rx.find? (fun f => decide (f.1 = srcB1 v))).map (fun f => f.2)).getD []) (srcB0 v)
  | 5 => two (((rings.find? (fun f => decide (f.1 = srcB0 v))).map (fun f => f.2)).getD []) 0
  | _ => (0, 0)

/-- Entries whose live source has no sample for frame `k`: ROUTE_GAPS (R328). -/
def Dev.gapsCount (d : Dev) (k : Nat) : Dev :=
  (List.range 32).foldl (fun (x : Dev) r =>
    let e := x.route_ r
    let v := e.cfg.src
    let s := Tab.get {} x.au.srcs v
    if e.live && decide (srcKind v = 1 ∨ srcKind v = 2) && decide (s.got ≠ 0) && decide (s.k0 ≤ k) && (s.sampleAt k).isNone then x.inc (O.auRouteGaps r) else x) d

/-- Sources that stopped being live start anew when they are live again; used samples go. -/
def Dev.srcsTidy (d : Dev) (k : Nat) (keep : List Nat) : Dev :=
  { d with au := { d.au with srcs := (d.au.srcs.filter (fun p => d.srcLive p.1 || keep.any (fun v => decide (v = p.1)))).map (fun p =>
      (p.1, { p.2 with buf := p.2.buf.filter (fun b => decide (k < p.2.k0 + b.1)) })) } }

/-- Audio source of a warning slot (Table 8.10): a context, or the warning selector of one, as a source value. -/
def Dev.warnSrc (d : Dev) (w : Nat) : Nat :=
  let c := d.nat (O.sdWarnContext w)
  if d.nat (O.sdWarnClass w) < 2 then 0x01000000 + c else 0x02000000 + 256 * c + 4

/-- Audio source of a source field and of a warning, as values of one internal frame. -/
structure Heard where
  val : Nat → Int × Int
  warn : Nat → Int × Int

/-- The frame of every enabled TX side at internal frame `k`, saturations counted. -/
def Dev.txStage (d : Dev) (k : Nat) (h : Heard) : Dev :=
  (List.range 8).foldl (fun (x : Dev) p =>
    if x.sideSt p 0 = 3 ∨ x.sideSt p 0 = 4 then
      let f := d.destFrame k (0x01000000 + 256 * p) (x.side p 0).slots h.val h.warn
      (x.txMake p f.1).count 32 (O.auMixSat p 0) f.2
    else x) d

/-- The frame of every enabled AVTP stream. -/
def Dev.avtpStage (d : Dev) (k : Nat) (h : Heard) : Dev :=
  (List.range 63).foldl (fun (x : Dev) i =>
    if x.flag (O.auAvtpEnable i) then
      let f := d.destFrame k (0x02000000 + i) (x.nat (O.auAvtpCh i)) h.val h.warn
      let q := Tab.get [] x.au.avtp i
      ({ x with au := { x.au with avtp := Tab.set [] x.au.avtp i (q ++ [(k, f.1)]) } }).count 32 (O.auAvtpSat i) f.2
    else x) d

/-- One frame into capture ring `r`: its bytes at the write index, the index moved on; a full ring counts an XRUN (R350). -/
def Dev.ringCapture (x : Dev) (r : Nat) (f : List Int) : Dev :=
  let n := x.nat (O.auRingFrames r)
  let wr := x.nat (O.auRingWr r)
  if n ≤ (wr + 2 ^ 32 - x.nat (O.auRingRd r)) % 2 ^ 32 then x.inc (O.auRingXrun r)
  else
    let b := f.flatMap (packSample (x.nat (O.auRingPack r)))
    let a := x.nat (O.auRingAddr r) + b.length * (wr % n)
    (x.sramStore a b).setN (O.auRingWr r) ((wr + 1) % 2 ^ 32 : Nat)

/-- The frame of every capture ring that is a destination. -/
def Dev.ringStage (d : Dev) (k : Nat) (h : Heard) : Dev :=
  (List.range 8).foldl (fun (x : Dev) r =>
    if x.nat (O.auRingDir r) = 1 ∧ x.nat (O.auRingFrames r) ≠ 0 ∧ (List.range 32).any (fun e => sameDst (x.route_ e).cfg.dst (0x03000000 + r)) then
      x.ringCapture r (d.destFrame k (0x03000000 + r) (x.nat (O.auRingCh r)) h.val h.warn).1
    else x) d

/-- RX frames of all ports that reach internal time. -/
def Dev.rxTakeAll (d : Dev) : Dev × List (Nat × List Int) :=
  (List.range 8).foldl (fun (a : Dev × List (Nat × List Int)) p =>
    ((a.1.rxTake p).1, a.2 ++ [(p, (a.1.rxTake p).2)])) (d, [])

/-- Used samples and finished fades go. -/
def Dev.frameTidy (d : Dev) (k : Nat) : Dev :=
  let warns := (List.range 8).filter (fun w => decide (d.nat (O.sdWarnState w) = 2) || decide (d.nat (O.sdWarnState w) = 3))
  let x := d.srcsTidy k (warns.map d.warnSrc ++ d.lineSrcs)
  { x with au := { x.au with routes := x.au.routes.map (fun p => (p.1, { p.2 with layers := layersLive k p.2.layers })),
                             holds := (x.au.holds.map (fun p => (p.1, holdLive k p.2))).filter (fun p => !p.2.isEmpty) } }

/-- The clock at internal frame `k` and the sources' samples that arrived with it. -/
def Dev.frameIn (d : Dev) (k : Nat) (inp : AudioIn) : Dev :=
  let d0 := d.timeTo (k * 1000000000 / 48000)
  ((((({ d0 with au := { d0.au with k := k, kAt := d0.mono } } : Dev)).srcArrive k inp.arr).linesPush k).routeResolve false).gapsCount k

/-- The first TX frame that carries the early station through routing entry 0: its context is one that the running image plans with RF 0
(R143). -/
def Dev.earlyMark (d : Dev) (k : Nat) : Dev :=
  let e := d.route_ 0
  let c := srcB0 e.cfg.src
  let s := Tab.get ({} : AuSrc) d.au.srcs e.cfg.src
  let p := srcB1 e.cfg.dst
  if d.au.early.isNone && d.planCtxs.any (fun q => decide (q.ctx = c) && decide (q.rf = 0)) && decide (srcKind e.cfg.src = 1) && decide (srcKind e.cfg.dst = 1) &&
     e.live && decide (s.got ≠ 0) && decide (s.k0 ≤ k) then
    match ((d.side p 0).fifo ++ (d.side p 0).pipe).getLast? with
    | some f => { d with au := { d.au with early := some (p, f.1) } }
    | none => d
  else d

/-- AUDIO_INTERNAL_FRAME (R326 to R328): the next internal frame mixes live sources into every destination. -/
def Dev.internalFrame (d : Dev) (inp : AudioIn) : Dev :=
  if !d.au.on then d
  else
    let k := d.au.k + 1
    let rx := (d.frameIn k inp).rxTakeAll
    let rg := rx.1.ringsPlay
    let h : Heard :=
      { val := rg.1.srcValues k rx.2 rg.2
        warn := fun w => ((Tab.get {} rg.1.au.srcs (rg.1.warnSrc w)).sampleAt k).getD (0, 0) }
    ((((rg.1.txStage k h).earlyMark k).avtpStage k h).ringStage k h).frameTidy k

/-! ### Memory rings (R350) -/

/-- Bytes of a ring as its objects give them. -/
def Dev.ringSize (d : Dev) (r : Nat) : Nat := d.nat (O.auRingFrames r) * d.nat (O.auRingCh r) * packBytes (d.nat (O.auRingPack r))

/-- Offsets in shared SRAM, multiples of 64, at which `n` bytes fit beside the rings allocated. -/
def Dev.ringRoom (d : Dev) (n : Nat) : List Nat :=
  ((List.range ((Memory.sharedSram.size - n) / 64 + 1)).map (fun i => 64 * i)).filter (fun a =>
    d.au.rings.all (fun r => decide (a + n ≤ r.2.1) || decide (r.2.1 + r.2.2 ≤ a)))

/-- RING_FRAMES committed: the ring is allocated in the 4 MiB of shared SRAM, clear of the other rings, or removed. Where it lies is not stated
(log 22). -/
def Dev.ringFramesSet (d : Dev) (r : Nat) : Dev :=
  let d0 := { d with au := { d.au with rings := d.au.rings.filter (fun p => decide (p.1 ≠ r)) } }
  if d.nat (O.auRingFrames r) = 0 then d0.setN (O.auRingAddr r) 0
  else
    let q := d0.fresh
    let l := d0.ringRoom (d0.ringSize r)
    let a := l.getD (Config.ringAddr q.1 % l.length) 0
    let d1 := { q.2 with au := { q.2.au with rings := q.2.au.rings ++ [(r, a, q.2.ringSize r)] } }
    ((d1.setN (O.auRingAddr r) a).setN (O.auRingWr r) 0).setN (O.auRingRd r) 0

/-! ### AVTP (R352 to R354) -/

/-- Channels of the enabled streams. -/
def Dev.avtpChannels (d : Dev) : Nat := ((List.range 63).map (fun i => if d.flag (O.auAvtpEnable i) then d.nat (O.auAvtpCh i) else 0)).sum

/-- AVTP_CH_USED follows a commit; a stream that is off holds no frames. -/
def Dev.avtpSet (d : Dev) : Dev :=
  let d1 := d.setN O.auAvtpChUsed (d.avtpChannels : Nat)
  { d1 with au := { d1.au with avtp := d1.au.avtp.filter (fun p => d1.flag (O.auAvtpEnable p.1)) } }

/-- An AAF PCM packet (IEEE 1722) behind its IEEE 802.1Q tag: `frames` oldest first. -/
def Dev.aafPacket (d : Dev) (i seq ts : Nat) (valid : Bool) (frames : List (List Int)) : List Byte :=
  let fmt := d.nat (O.auAvtpFormat i)
  let bits := if fmt = 0 then 16 else if fmt = 1 then 24 else 32
  let ch := d.nat (O.auAvtpCh i)
  let data := frames.flatMap (fun f => (List.range ch).flatMap (fun c => beBytes (bits / 8) (txWord bits (f.getD c 0))))
  beBytes 6 (d.nat (O.auAvtpDest i)) ++ beBytes 6 (d.nat O.ntT1Mac) ++ beBytes 2 0x8100 ++ beBytes 2 (d.nat (O.auAvtpVlan i)) ++ beBytes 2 0x22F0 ++
  beBytes 1 0x02 ++ beBytes 1 (0x80 + (if valid then 1 else 0)) ++ beBytes 1 seq ++ beBytes 1 0 ++ beBytes 8 (d.nat (O.auAvtpStreamId i)) ++
  beBytes 4 ts ++ beBytes 1 (4 - fmt) ++ beBytes 2 (0x5000 + ch) ++ beBytes 1 bits ++ beBytes 2 data.length ++ beBytes 2 0 ++ data

/-- AVTP_PACKET (R352, R354): every 125 µs or 250 µs of an enabled stream. -/
def Dev.avtpPacket (d : Dev) (i : Nat) : Dev :=
  if !d.au.on ∨ !d.flag (O.auAvtpEnable i) then d
  else
    let n := if d.nat (O.auAvtpClass i) = 0 then 6 else 12
    let q := Tab.get [] d.au.avtp i
    if q.length < n then d
    else
      let l := q.take n
      let k := (l.head?.map (fun f => f.1)).getD 0
      let ok := d.timeDisc
      let ts := (k * 1000000000 / 48000 + 1000000 + d.nat (O.auAvtpOffset i)) % 2 ^ 32
      let seq := Tab.get 0 d.au.avtpSeq i
      let pkt := d.aafPacket i seq ts ok (l.map (fun f => f.2))
      let d1 := ({ d with au := { d.au with avtp := Tab.set [] d.au.avtp i (q.drop n), avtpSeq := Tab.set 0 d.au.avtpSeq i ((seq + 1) % 256),
                                            sent := d.au.sent ++ [(i, pkt)] } }).inc (O.auAvtpSent i)
      if ok then d1 else d1.inc (O.auAvtpUnsync i)

/-! ### MCLK (R355) -/

/-- Frequency of a master clock output by its MCLK_SEL, in Hz: 0 is held low. Each is phase-locked to the master BCLKs of its family, 48 kHz for 1 and 2,
44.1 kHz for 3 and 4. -/
def mclkHz (sel : Nat) : Nat :=
  match sel with
  | 1 => 12288000 | 2 => 24576000 | 3 => 11289600 | 4 => 22579200 | _ => 0

/-- The clock on MCLK0 and MCLK1. -/
def Dev.mclk (d : Dev) (i : Nat) : Nat := if d.au.on then mclkHz (d.nat (if i = 0 then O.auMclk0Sel else O.auMclk1Sel)) else 0

/-! ### The audio island -/

/-- The audio island starts to run: internal frames from here on, and sides with ENABLE = 1 (Table 21.6, R555). -/
def Dev.audioOn (d : Dev) : Dev :=
  if d.au.on then d
  else
    let d1 := { d with au := { d.au with on := true, k := d.now * 48000 / 1000000000, kAt := d.mono } }
    let d2 := (List.range 32).foldl (fun (x : Dev) r => if (x.routeObjs r).src ≠ 0 ∨ (x.routeObjs r).dst ≠ 0 then x.routeWritten r else x) d1
    allSides.foldl (fun (x : Dev) q => if x.flag (O.auEnable q.1 q.2) ∧ x.sideSt q.1 q.2 = 0 then x.sideOn q.1 q.2 else x) d2

/-- Running sides begin their tails (R554, R556). -/
def Dev.audioTails (d : Dev) : Dev :=
  allSides.foldl (fun (x : Dev) q => if x.sideSt q.1 q.2 = 4 ∨ x.sideSt q.1 q.2 = 3 then x.sideTail q.1 q.2 else x) d

/-- The audio island stops: every side is STOPPED and nothing is held. -/
def Dev.audioOff (d : Dev) : Dev :=
  let d1 := allSides.foldl (fun (x : Dev) q => x.setN (O.auSideState q.1 q.2) 0) d
  let d2 := (List.range 32).foldl (fun (x : Dev) r => x.setN (O.auRouteState r) 0) d1
  { d2 with au := { rings := d2.au.rings, sent := d2.au.sent, early := d2.au.early } }

/-- A step of device time moves no WS edge; internal frames take their instants from the new time (R344). -/
def Dev.audioStep (d : Dev) : Dev := if d.au.on then { d with au := { d.au with k := d.now * 48000 / 1000000000 } } else d

/-! ### Pull resistors (R329, R603) -/

/-- The balls of a port side (Table 12.1). -/
inductive AudioPin where
  | bclk | ws | sd
  deriving DecidableEq, Repr

/-- Whether a ball of a side drives (x = 0 TX, 1 RX): a master drives BCLK and WS, and TX drives SD; at reset, and while a slave side is STOPPED, every ball is an
input (R329). A side that is STOPPED or in ERROR has the role of its object, another the role it started with. A ball whose slot is sent at high impedance
stays an output (log 116). -/
def Dev.audioDrives (d : Dev) (p x : Nat) (pin : AudioPin) : Bool :=
  let st := d.sideSt p x
  let role := if st = 0 ∨ st = 6 then d.nat (O.auClkRole p x) else (d.side p x).role
  d.au.on &&
    (match pin with
     | .sd => decide (x = 0) && !(decide (st = 0) && decide (role = 1))
     | _ => decide (role = 0))

/-- Level that a STOPPED master side holds: BCLK low, WS at its last level (R329). -/
def Dev.audioHeld (d : Dev) (p x : Nat) (pin : AudioPin) : Bool := match pin with | .ws => (d.side p x).ws | _ => false

/-- The pull resistor of an audio ball is enabled while the ball is an input, and disabled while it drives (R603). -/
def Dev.audioPull (d : Dev) (p x : Nat) (pin : AudioPin) : Bool := !d.audioDrives p x pin

/-! ### Rows -/

/-- AUDIO_TX_FRAME (R341). -/
def execAudioTxFrame (port bclks : Nat) (s : State) : Host.Outcome State Fault Refusal := s.upd (fun d => d.txFrame port bclks)
/-- AUDIO_RX_FRAME (R341). -/
def execAudioRxFrame (port bclks : Nat) (sd : List Bool) (s : State) : Host.Outcome State Fault Refusal := s.upd (fun d => d.rxFrame port bclks sd)
/-- SLAVE_CLOCK_LOSS (R333). -/
def execSlaveClockLoss (port side : Nat) (s : State) : Host.Outcome State Fault Refusal := s.upd (fun d => d.clockLoss port side)
/-- SLAVE_CLOCK_RETURN (R337). -/
def execSlaveClockReturn (port side : Nat) (edges : List Nat) (s : State) : Host.Outcome State Fault Refusal := s.upd (fun d => d.clockReturn port side edges)
/-- RATE_MEASURE (R333). -/
def execRateMeasure (port side : Nat) (edges : List Nat) (s : State) : Host.Outcome State Fault Refusal := s.upd (fun d => d.rateMeasure port side edges)
/-- AUDIO_INTERNAL_FRAME (R328). -/
def execAudioInternalFrame (inp : AudioIn) (s : State) : Host.Outcome State Fault Refusal := s.upd (fun d => d.internalFrame inp)
/-- ROUTE_APPLY (R348). -/
def execRouteApply (r : Nat) (s : State) : Host.Outcome State Fault Refusal := s.upd (fun d => d.byKeeper 2 (fun x => x.routeApply r))
/-- AVTP_PACKET (R352). -/
def execAvtpPacket (stream : Nat) (s : State) : Host.Outcome State Fault Refusal := s.upd (fun d => d.avtpPacket stream)
/-- SIDE_LEAD_START (R338). -/
def execSideLeadStart (port side : Nat) (s : State) : Host.Outcome State Fault Refusal := s.upd (fun d => d.sideLeadStart port side)

end Sys2Proof.Machine
end

