-- ==== Sys2Proof/Machine/Sd.lean ====
section
/-! DEFINITION. Side data and services (chapter 8, R224 to R237, R245, R246): records, RDS groups and texts, FIGs, MOT objects, TPEG
frames, broadcast time and the service list. -/

namespace Sys2Proof.Machine

/-! ### Streams (R245, R246) -/

/-- Bytes of stream `s`'s queue in use. -/
def Dev.sdUsed (d : Dev) (s : Nat) : Nat := ((d.ring (8 + s)).recs.map (fun x => ringBytes x.bytes.length)).sum

/-- Stream `s` carries records of a type and context (R245). -/
def Dev.sdCarries (d : Dev) (s rtype ctx : Nat) : Bool :=
  d.flag (O.sdSdStreamEnable s) && (d.nat (O.sdSdStreamTypes s)).testBit (rtype - 0x20) && (d.nat (O.sdSdStreamContexts s)).testBit ctx

/-- A stream that carries a record but has no room for it (R246). -/
def Dev.sdBlocked (d : Dev) (r : SdRec) (s : Nat) : Bool :=
  d.sdCarries s r.rtype r.ctx && decide (65536 < d.sdUsed s + ringBytes (32 + r.payload.length))

/-- Table 8.1 before the payload. -/
def SdRec.bytes (r : SdRec) (seq : Nat) : List Byte :=
  leBytes 1 r.rtype ++ leBytes 1 1 ++ leBytes 1 r.std ++ leBytes 1 r.flags ++ leBytes 4 r.payload.length ++ leBytes 1 r.ctx ++ leBytes 1 r.sub ++
  leBytes 2 0 ++ leBytes 4 seq ++ leBytes 4 r.sid ++ leBytes 4 r.tag ++ leBytes 8 r.tRx ++ r.payload

/-- A record put on every stream that carries it, each with its next SEQ. -/
def Dev.sdPut (d : Dev) (r : SdRec) : Dev :=
  (List.range 8).foldl (fun (x : Dev) s =>
    if x.sdCarries s r.rtype r.ctx then
      let q : Nat := (x.nat (O.sdSdStreamSeq s) + 1) % 2 ^ 32
      (x.setN (O.sdSdStreamSeq s) q).ringPut (8 + s) q false (r.bytes q)
    else x) d

/-- What the decoders hold of a context. -/
def Dev.sdCtx (d : Dev) (c : Nat) : SdCtx := Tab.get {} d.sd.ctxs c
/-- The same replaced. -/
def Dev.setSdCtx (d : Dev) (c : Nat) (x : SdCtx) : Dev := { d with sd := { d.sd with ctxs := Tab.set {} d.sd.ctxs c x } }

/-- A record waits so that its context's records go out in the order of T_RX (R227): an earlier indication has not reached K0, or with GROUP_MODE 0 a group is open
whose last block is earlier. -/
def Dev.sdHeld (d : Dev) (r : SdRec) : Bool :=
  decide (r.ctx ≠ 0) && (d.sd.inds.any (fun i => decide (i.ctx = r.ctx) && decide (i.tRx < r.tRx)) ||
    (decide (d.nat O.sdGroupMode = 0) && (d.sdCtx r.ctx).parts.any (fun p => !p.2.blocks.isEmpty && decide (p.2.last < r.tRx))))

/-- Records waiting in K1 go out in order, up to the first for which some stream lacks room; since when a stream has lacked it is kept for R246, `was` as it
stood. -/
def Dev.sdFlush (was : List (Nat × Nat)) : List SdRec → Dev → Dev
  | [], d => d
  | r :: t, d =>
    let b := (List.range 8).filter (fun s => d.sdBlocked r s)
    if d.sdHeld r then Dev.sdFlush was t { d with sd := { d.sd with out := d.sd.out ++ [r] } }
    else if b.isEmpty then Dev.sdFlush was t (d.sdPut r)
    else { d with sd := { d.sd with out := d.sd.out ++ r :: t, full := b.map (fun s => (s, Tab.get d.mono was s)) } }

/-- The same for every record waiting. -/
def Dev.sdDrain (d : Dev) : Dev := Dev.sdFlush d.sd.full d.sd.out { d with sd := { d.sd with out := [], full := [] } }

/-- A record put behind those of its context that are no later (R227); merged records keep their order. -/
def insertRec (r : SdRec) : List SdRec → List SdRec
  | [] => [r]
  | y :: t => if y.ctx = r.ctx ∧ r.ctx ≠ 0 ∧ r.tRx < y.tRx then r :: y :: t else y :: insertRec r t

/-- A record produced. -/
def Dev.sdEmit (d : Dev) (r : SdRec) : Dev := { d with sd := { d.sd with out := insertRec r d.sd.out } }

/-! ### The service list (R235, R236) -/

/-- Rank of a source of a service (R236), lower first: state, SNR, number. -/
def Dev.srcBefore (d : Dev) (a b : Nat) : Bool :=
  let st := fun (c : Nat) => if d.cxSt c = 3 then 0 else if d.cxSt c = 4 then 1 else 2
  let snr := fun (c : Nat) => d.num (if d.cxKind c = 0 then O.cxQSnr c else O.cxDSnr c)
  if st a ≠ st b then decide (st a < st b) else if snr a ≠ snr b then decide (snr b < snr a) else decide (a < b)

/-- The value of a field by the best of the entry's sources that has reported it within the last 10 s (R236). -/
def Dev.svcField (d : Dev) (e : Svc) (f : Nat) : Option (List Byte) :=
  let l := e.reps.filter (fun r => decide (r.1 = f) && e.srcs.any (fun c => decide (c = r.2.1)) && decide (d.mono ≤ r.2.2.1 + 10000000000))
  (l.foldl (fun (b : Option (Nat × Nat × Nat × List Byte)) r => match b with
    | none => some r
    | some g => if d.srcBefore r.2.1 g.2.1 then some r else b) none).map (fun r => r.2.2.2)

/-- Table 8.7. -/
def Dev.svcPayload (d : Dev) (e : Svc) (removed : Bool) : List Byte :=
  leBytes 1 e.ecc ++ leBytes 1 e.pty ++ leBytes 1 (e.flags + (if removed then 4 else 0)) ++ leBytes 1 e.srcs.length ++ padTo 48 e.label ++
  e.srcs.flatMap (fun c => leBytes 1 c ++ leBytes 1 (d.cxSt c) ++ leBytes 2 0 ++ leBytes 4 (d.nat (O.cxRf c)))

/-- The record of a service entry (Tables 8.2 and 8.7). -/
def Dev.svcRecord (d : Dev) (i : Nat) (e : Svc) (removed : Bool) (t : Nat) : Dev :=
  d.sdEmit { rtype := 0x26, std := 0xFF, flags := 0, ctx := 0, sub := 0xFF, sid := e.sid, tag := i, tRx := t, payload := d.svcPayload e removed }

/-- A service entry kept, with SVC_COUNT. -/
def Dev.setSvcs (d : Dev) (l : List (Nat × Svc)) : Dev := ({ d with sd := { d.sd with svcs := l } }).setN O.sdSvcCount l.length

/-- An entry replaced, with its record where what the record shows, states and RF of its sources among it, has changed (R235). -/
def Dev.svcPut (d : Dev) (i : Nat) (e : Svc) (t : Nat) : Dev :=
  let p := d.svcPayload e false
  let d1 := d.setSvcs (d.sd.svcs.map (fun q => if q.1 = i then (i, { e with told := p }) else q))
  if p = e.told then d1 else d1.svcRecord i e false t

/-- Sources leave an entry, with what they have reported; one without a source starts to age. -/
def Dev.svcLeave (d : Dev) (i : Nat) (e : Svc) (gone : Nat → Bool) (t : Nat) : Dev :=
  let l := e.srcs.filter (fun c => !gone c)
  d.svcPut i { e with srcs := l, reps := e.reps.filter (fun r => !gone r.2.1),
                      noSrc := if l.isEmpty then (if e.srcs.isEmpty then e.noSrc else some d.mono) else none } t

/-- Contexts that are no longer LOCKED or SHADOW are no sources (R235). -/
def Dev.svcTidy (d : Dev) : Dev :=
  d.sd.svcs.foldl (fun (x : Dev) p => x.svcLeave p.1 p.2 (fun c => decide (x.cxSt c ≠ 3) && decide (x.cxSt c ≠ 4)) x.now) d

/-- A context is a source no longer of the entries that `drop` names. -/
def Dev.svcQuit (d : Dev) (c t : Nat) (drop : Nat → Svc → Bool) : Dev :=
  d.sd.svcs.foldl (fun (x : Dev) p => if drop p.1 p.2 ∧ p.2.srcs.any (fun s => decide (s = c)) then x.svcLeave p.1 p.2 (fun s => decide (s = c)) t else x) d

/-- Whether an entry is one that a report may mean (R235): standard, SID, and the ECC where both are known. -/
def Svc.matches (e : Svc) (std sid ecc : Nat) : Bool :=
  decide (e.std = std) && decide (e.sid = sid) && (decide (2 ≤ std) || decide (ecc = 0) || decide (e.ecc = 0) || decide (e.ecc = ecc))

/-- The entry that a report of a context means: of the same ECC where it is known, else the one that has the context as a source, else the first. -/
def Dev.svcFind (d : Dev) (c std sid ecc : Nat) : Option (Nat × Svc) :=
  let cand := d.sd.svcs.filter (fun p => p.2.matches std sid ecc)
  ((cand.find? (fun p => decide (ecc ≠ 0) && decide (p.2.ecc = ecc))).or (cand.find? (fun p => p.2.srcs.any (fun x => decide (x = c))))).or cand.head?

/-- An entry with what a context reports of it; a ninth context is no source, and its report has no effect. -/
def Dev.svcHeard (d : Dev) (e : Svc) (c : Nat) (fields : List (Nat × List Byte)) (afs : List Nat) : Svc :=
  let here := e.srcs.any (fun s => decide (s = c))
  if !here ∧ 8 ≤ e.srcs.length then e
  else
    let e1 := { e with reps := e.reps.filter (fun r => !(decide (r.2.1 = c) && fields.any (fun f => decide (f.1 = r.1)))) ++ fields.map (fun f => (f.1, c, d.mono, f.2)),
                       srcs := if here then e.srcs else e.srcs ++ [c], noSrc := none,
                       afs := afs.foldl (fun l a => if l.any (fun b => decide (b = a)) then l else l ++ [a]) e.afs }
    let n := fun (f old : Nat) => ((d.svcField e1 f).map leNat).getD old
    { e1 with ecc := n 0 e.ecc, pty := n 1 e.pty, flags := n 2 e.flags, label := (d.svcField e1 3).getD e.label }

/-- A context reports fields of a service: 0 ECC, 1 PTY, 2 flags, 3 label (R235, R236). It is then a source of no other entry of that SID. -/
def Dev.svcReport (d : Dev) (c std sid ecc t : Nat) (fields : List (Nat × List Byte)) (afs : List Nat) : Dev :=
  match d.svcFind c std sid ecc with
  | some p =>
    let d1 := d.svcQuit c t (fun i e => decide (i ≠ p.1) && decide (e.std = std) && decide (e.sid = sid))
    d1.svcPut p.1 (d1.svcHeard p.2 c fields afs) t
  | none =>
    let d1 := d.svcQuit c t (fun _ e => decide (e.std = std) && decide (e.sid = sid))
    match (List.range 1024).find? (fun i => !Tab.has d1.sd.svcs i) with
    | none => d1.inc O.sdSvcFull
    | some i =>
      let e := d1.svcHeard { std := std, sid := sid } c fields afs
      (d1.setSvcs (Tab.insert i e d1.sd.svcs)).svcPut i e t

/-- SVC_AGE_OUT (R235): an entry that has had no source for SVC_AGE_S is removed. -/
def Dev.svcAge (d : Dev) (i : Nat) : Dev :=
  match Tab.get none (d.sd.svcs.map (fun p => (p.1, some p.2))) i with
  | none => d
  | some e =>
    match e.noSrc with
    | none => d
    | some t =>
      if d.nat O.sdSvcAgeS = 0 then d
      else
        let d1 := d.after t (1000 * d.nat O.sdSvcAgeS)
        ((d1.setSvcs (Tab.erase d1.sd.svcs i)).svcRecord i e true d1.now).sdDrain

/-- SVC_DUMP (R235): one record per entry, in order. -/
def Dev.svcDump (d : Dev) : Dev := (d.sd.svcs.foldl (fun (x : Dev) p => x.svcRecord p.1 p.2 false x.now) d).sdDrain

/-! ### Text, time, FIG, MOT and TPEG (R230 to R234, R237) -/

/-- Where a record comes from: context, standard, SUB, SID, T_RX, SFLAGS. -/
structure SdFrom where
  ctx : Nat
  std : Nat
  sub : Nat
  sid : Nat
  tRx : Nat
  flags : Nat

/-- A record of a type from a source. -/
def SdFrom.mk' (w : SdFrom) (rtype tag : Nat) (payload : List Byte) : SdRec :=
  { rtype := rtype, std := w.std, flags := w.flags, ctx := w.ctx, sub := w.sub, sid := w.sid, tag := tag, tRx := w.tRx, payload := payload }

/-- A text item (Tables 8.4 and 8.5); DL+ tags that point beyond the text are dropped (R231). -/
def Dev.sdText (d : Dev) (w : SdFrom) (code tflags : Nat) (text : List Byte) (tags : List (Nat × Nat × Nat)) : Dev :=
  let t := text.take 512
  let g := (tags.filter (fun x => decide (x.2.1 + x.2.2 ≤ t.length))).take 4
  d.sdEmit (w.mk' 0x22 code (leBytes 2 t.length ++ leBytes 1 tflags ++ leBytes 1 g.length ++ t ++
    g.flatMap (fun x => leBytes 1 x.1 ++ leBytes 1 0 ++ leBytes 2 x.2.1 ++ leBytes 2 x.2.2)))

/-- Whether content was delivered within a time (R237); what is older is forgotten. -/
def Dev.sdDup (d : Dev) (kind id ms : Nat) (dig : List Byte) : Bool :=
  d.sd.dups.any (fun x => decide (x.1 = kind) && decide (x.2.1 = id) && decide (x.2.2.1 = dig) && decide (d.mono < x.2.2.2 + ms * 1000000))

/-- Content delivered now. -/
def Dev.sdMark (d : Dev) (kind id : Nat) (dig : List Byte) : Dev :=
  { d with sd := { d.sd with dups := d.sd.dups.filter (fun x => decide (d.mono < x.2.2.2 + 60000000000)) ++ [(kind, id, dig, d.mono)] } }

/-- Records delivered unless they are a duplicate within `ms` (Table 8.8). -/
def Dev.sdOnce (d : Dev) (kind id ms : Nat) (dig : List Byte) (f : Dev → Dev) : Dev :=
  if d.sdDup kind id ms dig then d.inc O.sdDupSuppressed else f (d.sdMark kind id dig)

/-- Broadcast time (R234, Table 8.6), once a second per SID. -/
def Dev.sdTime (d : Dev) (w : SdFrom) (utc : Int) (ms : Nat) (off : Int) (res : Nat) : Dev :=
  d.sdOnce 2 w.sid 1000 [] (fun x =>
    ((((x.sdEmit (w.mk' 0x25 0 (leBytes 8 (toUnsigned 64 utc) ++ leBytes 2 ms ++ leBytes 2 (toUnsigned 16 off) ++ leBytes 1 res ++ zeroBytes 3))).setN
      O.sdBtUtc utc).setN O.sdBtOffset off).setN O.sdBtContext w.ctx).setN O.sdBtTRx w.tRx)

/-- A FIG (R230): each, or with FIG_MODE 0 only one whose content differs from the last of its kind delivered from the context. -/
def Dev.sdFig (d : Dev) (w : SdFrom) (ty ext key : Nat) (b : List Byte) : Dev :=
  let s := d.sdCtx w.ctx
  let same := fun (f : Nat × Nat × Nat × List Byte) => decide (f.1 = ty) && decide (f.2.1 = ext) && decide (f.2.2.1 = key)
  if d.nat O.sdFigMode = 0 ∧ s.figs.any (fun f => same f && decide (f.2.2.2 = b)) then d
  else (d.setSdCtx w.ctx { s with figs := s.figs.filter (fun f => !same f) ++ [(ty, ext, key, b)] }).sdEmit (w.mk' 0x21 (256 * ty + ext) b)

/-- A TPEG frame (R233). -/
def Dev.sdTpeg (d : Dev) (w : SdFrom) (comp : Nat) (bad : Bool) (b : List Byte) : Dev :=
  d.sdOnce 1 comp 10000 (sha256 b) (fun x => x.sdEmit ({ w with flags := withBit w.flags 1 (bad || w.flags.testBit 1) }.mk' 0x24 comp b))

/-- Segments from 0 to the last, joined, once all are there. -/
def joinSegs (t : List (Nat × List Byte)) (last : Option Nat) : Option (List Byte) :=
  match last with
  | none => none
  | some n => if (List.range (n + 1)).all (fun i => Tab.has t i) then some ((List.range (n + 1)).flatMap (fun i => Tab.get [] t i)) else none

/-- Records of a MOT object (R232): the 16-byte prefix and one part of the content each. -/
def Dev.motRecords (d : Dev) (w : SdFrom) (m : MotObj) (core ext body : List Byte) : Dev :=
  let content := ext ++ body
  let frag := d.nat O.sdMotFragBytes
  let parts := max 1 (ceilDiv content.length frag)
  let h := beNat core
  let ct := field h 14 9
  let cs := field h 8 0
  (List.range parts).foldl (fun (x : Dev) p =>
    x.sdEmit (w.mk' 0x23 m.tid (leBytes 2 m.tid ++ leBytes 1 m.app ++ leBytes 1 ct ++ leBytes 2 cs ++ leBytes 2 ext.length ++ leBytes 4 body.length ++
      leBytes 2 p ++ leBytes 2 parts ++ slice content (p * frag) frag))) d

/-- A MOT segment (R232). An object is delivered when its header and body are complete, a directory when its body is, and discarded once when its body exceeds
MOT_MAX_KIB; what then still comes of it is ignored. -/
def Dev.motSeg (d : Dev) (w : SdFrom) (app tid : Nat) (header : Bool) (idx : Nat) (last : Bool) (b : List Byte) : Dev :=
  let mine := fun (m : MotObj) => decide (m.ctx = w.ctx) && decide (m.sub = w.sub) && decide (m.tid = tid)
  let m0 := (d.sd.mots.find? mine).getD { ctx := w.ctx, sub := w.sub, tid := tid, sid := w.sid, app := app, since := d.mono }
  let m := if header then { m0 with hdr := Tab.set [] m0.hdr idx b, hdrLast := if last then some idx else m0.hdrLast }
           else { m0 with body := Tab.set [] m0.body idx b, bodyLast := if last then some idx else m0.bodyLast }
  let rest := d.sd.mots.filter (fun x => !mine x)
  let with_ := fun (l : List MotObj) => ({ d with sd := { d.sd with mots := rest ++ l } } : Dev)
  let h := if app = 4 then some (zeroBytes 7) else joinSegs m.hdr m.hdrLast
  let size := match h with | some x => field (beNat (x.take 7)) 55 28 | none => 0
  let held := (m.body.map (fun p => p.2.length)).sum
  if m0.dead then d
  else if 1024 * d.nat O.sdMotMaxKib < max size held then
    (with_ [{ ctx := w.ctx, sub := w.sub, tid := tid, sid := w.sid, app := app, since := m.since, dead := true }]).inc O.sdMotDiscarded
  else
    match h, joinSegs m.body m.bodyLast with
    | some x, some y => (with_ []).sdOnce 0 (65536 * w.sid + tid) 60000 (sha256 y) (fun z => z.motRecords w m (x.take 7) (x.drop 7) y)
    | _, _ => with_ [m]

/-- MOT_TIMEOUT (R232): 60 s after its first segment an incomplete object is discarded. -/
def Dev.motTimeout (d : Dev) (c sub tid : Nat) : Dev :=
  let mine := fun (m : MotObj) => decide (m.ctx = c) && decide (m.sub = sub) && decide (m.tid = tid)
  match d.sd.mots.find? mine with
  | none => d
  | some m =>
    let d1 := d.after m.since 60000
    let d2 : Dev := { d1 with sd := { d1.sd with mots := d1.sd.mots.filter (fun x => !mine x) } }
    if m.dead then d2 else d2.inc O.sdMotDiscarded

/-! ### RDS (R228, R229) -/

/-- The place of a block in its group, by OFFSET (Table 6.10); block E belongs to none. -/
def rdsPlace (off : Nat) : Option Nat :=
  match off with
  | 0 => some 0 | 1 => some 1 | 2 => some 2 | 3 => some 2 | 4 => some 3
  | _ => none

/-- The correctable information word of a group's place. -/
def RdsPart.word (p : RdsPart) (i : Nat) : Option Nat :=
  match p.blocks.find? (fun b => decide (b.1 = i)) with
  | some b => if b.2.2 = 0xFF then none else some b.2.1
  | none => none

/-- Table 8.3. -/
def RdsPart.payload (p : RdsPart) : List Byte :=
  let b := fun (i : Nat) => ((p.blocks.find? (fun b => decide (b.1 = i))).map (fun b => b.2)).getD (0, 0xFE)
  (List.range 4).flatMap (fun i => leBytes 2 (b i).1) ++ (List.range 4).flatMap (fun i => leBytes 1 (b i).2) ++ leBytes 1 p.flags ++ zeroBytes 3

/-- The PI that a group carries: block A, or block C' (R225). -/
def RdsPart.pid (p : RdsPart) : Nat := ((p.word 0).getD ((if p.flags.testBit 0 then p.word 2 else none).getD 0))

/-- The group record (Table 8.2). The TAG of a group without block B is not stated: it is free (log 23). -/
def Dev.groupRecord (d : Dev) (w : SdFrom) (p : RdsPart) : Dev :=
  let bad := (List.range 4).any (fun i => (p.word i).isNone)
  let r := d.fresh
  let t := match p.word 1 with | some b => (d, b / 2048) | none => (r.2, Config.groupTag r.1 % 32)
  t.1.sdEmit ({ w with sid := p.pid, flags := withBit w.flags 1 bad }.mk' 0x20 t.2 p.payload)

/-- Two characters of a word. -/
def chars2 (w : Nat) : List Nat := [w / 256, w % 256]

/-- A segment collected into a text of `n` segments: the text once every segment is there, or with `marks` all up to one with an end marker. -/
def SegText.add (s : SegText) (marks ovl : Bool) (n i : Nat) (l : List Nat) : SegText × Option (List Nat) :=
  let g := Tab.set [] s.segs i l
  let fin := if marks then (List.range n).find? (fun k => (Tab.get [] g k).any (fun ch => decide (ch = 13))) else none
  let upto := match fin with | some k => k + 1 | none => n
  if (List.range upto).all (fun k => Tab.has g k) then
    let t := ((List.range upto).flatMap (fun k => Tab.get [] g k)).takeWhile (fun ch => !marks || decide (ch ≠ 13))
    ({ s with segs := [], prev := t, ovl := s.ovl || ovl }, some t)
  else ({ s with segs := g, ovl := s.ovl || ovl }, none)

/-- A changed A/B flag starts a new text (R229). -/
def SegText.flagged (s : SegText) (ab : Bool) : SegText := if s.ab = some ab then s else { s with segs := [], ab := some ab, ovl := false }

/-- UTF-8 of RDS characters: IEC 62106 gives the set, which the spec does not restate (R231; log 24). -/
def rdsText (l : List Nat) : List Byte := l.flatMap Config.rdsChar

/-- A source whose content some segments held overloaded samples of. -/
def SdFrom.ovl (w : SdFrom) (o : Bool) : SdFrom := { w with flags := withBit w.flags 2 (o || w.flags.testBit 2) }

/-- PS or PTYN: delivered when the same complete text has been received twice in succession (R229); `a` is the text after its last segment, `was` what had been
received before. -/
def Dev.twice (d : Dev) (w : SdFrom) (code : Nat) (was : List Nat) (a : SegText × Option (List Nat)) : Dev × Bool :=
  match a.2 with
  | some x => if x = was then (d.sdText (w.ovl a.1.ovl) code 0 (rdsText x) [], true) else (d, false)
  | none => (d, false)

/-- A text that has ended begins anew without the overload of its segments. -/
def SegText.rest (a : SegText × Option (List Nat)) : SegText := if a.2.isSome then { a.1 with ovl := false } else a.1

/-- An RT once it is complete. -/
def Dev.radioText (d : Dev) (w : SdFrom) (ab : Bool) (a : SegText × Option (List Nat)) : Dev :=
  match a.2 with
  | some t => d.sdText (w.ovl a.1.ovl) 2 (if ab then 1 else 0) (rdsText t) []
  | none => d

/-- Group 4A: clock time (IEC 62106; log 19). -/
def Dev.groupTime (d : Dev) (w : SdFrom) (b c e : Nat) : Dev :=
  let mjd := (b % 4) * 32768 + c / 2
  let hour := (c % 2) * 16 + e / 4096
  let minute := field e 11 6
  let off : Int := ((30 * (e % 32) : Nat) : Int)
  d.sdTime w ((((mjd : Nat) : Int) - 40587) * 86400 + ((3600 * hour + 60 * minute : Nat) : Int)) 0 (if e.testBit 5 then -off else off) 0

/-- An indication decoded: on its way to K0 (R238). -/
def Dev.fhPush (d : Dev) (w : SdFrom) (i : FhInd) : Dev :=
  { d with sd := { d.sd with inds := d.sd.inds ++ [{ i with tRx := w.tRx, flags := w.flags, at_ := d.mono }] } }

/-- The warning indications in block B of a group of stream 0 (R229, Table 8.10). -/
def Dev.groupWarns (d : Dev) (w : SdFrom) (b : Nat) : Dev :=
  let alarm := decide (field b 9 5 = 31)
  let d1 := d.fhPush w { cls := 1, ctx := w.ctx, sid := w.sid, present := alarm, ended := !alarm }
  if b / 4096 = 0 then d1.fhPush w { cls := 0, ctx := w.ctx, sid := w.sid, present := b.testBit 10 && b.testBit 4, ended := !b.testBit 4 } else d1

/-- What a group of stream 0 with a known PI and block B gives (R229): service fields, texts and time. -/
def Dev.groupMeaning (d : Dev) (w : SdFrom) (p : RdsPart) (pid b : Nat) : Dev :=
  let c := w.ctx
  let ty := b / 2048
  let o := w.flags.testBit 2
  let rbds := decide (d.nat O.sdRdsStandard = 1)
  let s0 := d.sdCtx c
  let moved := decide (s0.pid ≠ pid)
  let s1 : SdCtx := if moved then { s0 with pid := pid, ecc := 0, ps := {}, rt := {}, ptyn := {} } else s0
  let s2 := if ty = 2 then (match p.word 2 with | some x => if field x 14 12 = 0 then { s1 with ecc := x % 256 } else s1 | none => s1) else s1
  let d1 := d.setSdCtx c s2
  -- another PI: the context carries the old service no longer
  let d2 := if moved then d1.svcQuit c w.tRx (fun _ e => decide (e.std = 0) && decide (e.sid ≠ pid)) else d1
  let d3 := if moved && rbds then d2.sdText w 4 0 (Config.rbdsCall pid) [] else d2
  let af := if ty = 0 then (match p.word 2 with | some x => (chars2 x).filter (fun v => decide (1 ≤ v) && decide (v ≤ 204)) | none => []) else []
  let fl := (if b.testBit 10 then 1 else 0) + (if rbds then 2 else 0) + 8
  let d4 := d3.svcReport c 0 pid s2.ecc w.tRx ([(1, leBytes 1 (field b 9 5)), (2, leBytes 1 fl)] ++ (if s2.ecc = 0 then [] else [(0, leBytes 1 s2.ecc)])) af
  match ty, p.word 2, p.word 3 with
  | 0, _, some e | 1, _, some e =>
    let a := s2.ps.add false o 4 (b % 4) (chars2 e)
    let r := d4.twice w 1 s2.ps.prev a
    let d5 := r.1.setSdCtx c { s2 with ps := SegText.rest a }
    if r.2 then d5.svcReport c 0 pid s2.ecc w.tRx [(3, padTo 48 (rdsText (a.2.getD [])))] [] else d5
  | 4, some x, some e =>
    let a := (s2.rt.flagged (b.testBit 4)).add true o 16 (b % 16) (chars2 x ++ chars2 e)
    (d4.radioText w (b.testBit 4) a).setSdCtx c { s2 with rt := SegText.rest a }
  | 5, _, some e =>
    let a := (s2.rt.flagged (b.testBit 4)).add true o 16 (b % 16) (chars2 e)
    (d4.radioText w (b.testBit 4) a).setSdCtx c { s2 with rt := SegText.rest a }
  | 20, some x, some e =>
    let n := s2.ptyn.flagged (b.testBit 4)
    let a := n.add false o 2 (b % 2) (chars2 x ++ chars2 e)
    (d4.twice w 3 n.prev a).1.setSdCtx c { s2 with ptyn := SegText.rest a }
  | 8, some x, some e => d4.groupTime w b x e
  | _, _, _ => d4

/-- A group ends: delivered by GROUP_MODE (R228), and interpreted when it is of stream 0 (R229). -/
def Dev.groupEnd (d : Dev) (w : SdFrom) (p : RdsPart) : Dev :=
  if p.blocks.isEmpty then d
  else
    let whole := (List.range 4).all (fun i => (p.word i).isSome)
    let v := { w.ovl (p.flags.testBit 2) with sid := p.pid, tRx := p.last }
    let d1 := if whole ∨ d.nat O.sdGroupMode = 0 then d.groupRecord v p else d
    match p.word 1 with
    | some b => if w.sub = 0 ∧ p.pid ≠ 0 then (d1.groupMeaning v p p.pid b).groupWarns v b else d1
    | none => d1

/-- Duration of an RDS block of 26 bits at 1,187.5 bit/s, ns. -/
def rdsBlockNs : Nat := 26 * 10000000000 / 11875

/-- A block at place `i` that ends at `t` follows those of a group, at the distance of its place (R228). -/
def RdsPart.follows (p : RdsPart) (i t : Nat) : Bool :=
  match p.blocks.getLast? with
  | none => true
  | some b => decide (b.1 < i) && decide (2 * p.last + (2 * (i - b.1) - 1) * rdsBlockNs < 2 * t) && decide (2 * t < 2 * p.last + (2 * (i - b.1) + 1) * rdsBlockNs)

/-- The open group of a stream ends as it stands. -/
def Dev.groupCut (d : Dev) (w : SdFrom) (stream : Nat) : Dev :=
  let s := d.sdCtx w.ctx
  let p := Tab.get {} s.parts stream
  (d.setSdCtx w.ctx { s with parts := Tab.set {} s.parts stream {} }).groupEnd { w with sub := stream } p

/-- The open groups of a context of which no further block can come: the next would have ended before `t`. -/
def Dev.groupsStale (d : Dev) (w : SdFrom) (t : Nat) : Dev :=
  (List.range 4).foldl (fun (x : Dev) k =>
    let p := Tab.get ({} : RdsPart) (x.sdCtx w.ctx).parts k
    if !p.blocks.isEmpty ∧ 2 * p.last + 3 * rdsBlockNs < 2 * t then x.groupCut w k else x) d

/-- One RDS entry (Table 6.10): a block that cannot follow in its group, or the first after synchronisation, closes the group. -/
def Dev.rdsEntry (d0 : Dev) (w : SdFrom) (info off err fl : Nat) : Dev :=
  let d := d0.groupsStale w w.tRx
  match rdsPlace off with
  | none => d
  | some i =>
    let p := Tab.get {} (d.sdCtx w.ctx).parts w.sub
    let cut := fl.testBit 0 || !p.follows i w.tRx
    let d1 := if cut then d.groupCut w w.sub else d
    let p1 := if cut then {} else p
    let p2 : RdsPart := { blocks := p1.blocks ++ [(i, info, err)], last := w.tRx,
                          flags := p1.flags ||| ((if off = 3 then 1 else 0) + (if fl.testBit 0 then 2 else 0) + (if fl.testBit 2 then 4 else 0)) }
    let s := d1.sdCtx w.ctx
    let d2 := d1.setSdCtx w.ctx { s with parts := Tab.set {} s.parts w.sub p2 }
    if i = 3 then d2.groupCut w w.sub else d2

/-! ### DAB: FIGs (R230, R234; the layouts are those of ETSI EN 300 401, log 114) -/

/-- `n` bits of some bytes from bit `pos`, the top bit of the first byte being bit 0; 0 where the bytes end before. -/
def bitsAt (b : List Byte) (pos n : Nat) : Nat := if pos + n ≤ 8 * b.length then beNat b / 2 ^ (8 * b.length - pos - n) % 2 ^ n else 0

/-- The FIGs of a FIB, each with its header byte; the first argument bounds them. -/
def figsOf : Nat → List Byte → List (List Byte)
  | 0, _ => []
  | _, [] => []
  | f + 1, h :: t => if h = 0xFF ∨ t.length < h.toNat % 32 then [] else (h :: t.take (h.toNat % 32)) :: figsOf f (t.drop (h.toNat % 32))

/-- Services of a FIG 0/2 with their component words. -/
def figServices (k : Nat) : Nat → List Byte → List (Nat × List Nat)
  | 0, _ => []
  | f + 1, b =>
    if b.length < k + 1 then []
    else
      let n := bitsAt b (8 * k + 4) 4
      (beNat (b.take k), (List.range n).map (fun i => bitsAt b (8 * (k + 1 + 2 * i)) 16)) :: figServices k f (b.drop (k + 1 + 2 * n))

/-- Packet components of a FIG 0/3: SCId and SubChId. -/
def figPackets : Nat → List Byte → List (Nat × Nat)
  | 0, _ => []
  | f + 1, b => if b.length < 5 then [] else (bitsAt b 0 12, bitsAt b 24 6) :: figPackets f (b.drop (if bitsAt b 15 1 = 1 then 7 else 5))

/-- Component identifiers of a FIG 0/8: SId, SCIdS, and SubChId, or 64 + SCId. -/
def figComponents (k : Nat) : Nat → List Byte → List (Nat × Nat × Nat)
  | 0, _ => []
  | f + 1, b =>
    if b.length < k + 2 then []
    else
      let long := decide (bitsAt b (8 * k + 8) 1 = 1)
      let n := k + (if long then 3 else 2) + bitsAt b (8 * k) 1
      (beNat (b.take k), bitsAt b (8 * k + 4) 4, if long then 64 + bitsAt b (8 * k + 12) 12 else bitsAt b (8 * k + 10) 6) :: figComponents k f (b.drop n)

/-- Types of `n` user applications, and what follows them. -/
def figApps : Nat → List Byte → List Nat × List Byte
  | 0, b => ([], b)
  | n + 1, b => let r := figApps n (b.drop (2 + bitsAt b 11 5)); (bitsAt b 0 11 :: r.1, r.2)

/-- User applications of a FIG 0/13: SId, SCIdS and type. -/
def figUsers (k : Nat) : Nat → List Byte → List (Nat × Nat × Nat)
  | 0, _ => []
  | f + 1, b =>
    if b.length < k + 1 then []
    else
      let a := figApps (bitsAt b (8 * k + 4) 4) (b.drop (k + 1))
      a.1.map (fun t => (beNat (b.take k), bitsAt b (8 * k) 4, t)) ++ figUsers k f a.2

/-- Programme types of a FIG 0/17: SId and PTY. -/
def figTypes : Nat → List Byte → List (Nat × Nat)
  | 0, _ => []
  | f + 1, b =>
    if b.length < 4 then []
    else
      let l := bitsAt b 18 1
      (bitsAt b 0 16, bitsAt b (24 + 8 * l + 3) 5) :: figTypes f (b.drop (4 + l + bitsAt b 19 1))

/-- Announcements switched by a FIG 0/19: cluster, Alarm flag, SubChId. -/
def figAlarms : Nat → List Byte → List (Nat × Bool × Nat)
  | 0, _ => []
  | f + 1, b => if b.length < 4 then [] else (bitsAt b 0 8, decide (bitsAt b 23 1 = 1), bitsAt b 26 6) :: figAlarms f (b.drop (4 + bitsAt b 25 1))

/-- UTF-8 of the characters of a DAB text (R231): set 15 is UTF-8 as carried. -/
def dabText (charset : Nat) (l : List Nat) : List Byte := if charset = 15 then l.map (BitVec.ofNat 8) else l.flatMap (Config.dabChar charset)

/-- The SubChId that a component identifier of a service names: by FIG 0/8, SCIdS 0 being the primary component of FIG 0/2. -/
def DabConf.subOf (x : DabConf) (sid k : Nat) : Option Nat :=
  let sub := fun (v : Nat) => if v < 64 then some v else (x.packs.find? (fun p => decide (p.1 = v - 64))).map (fun p => p.2)
  let word := fun (v : Nat) => if v / 2 ^ 14 = 3 then sub (64 + v / 4 % 4096) else some (v / 4 % 64)
  match x.ids.find? (fun i => decide (i.1 = sid) && decide (i.2.1 = k)) with
  | some i => sub i.2.2
  | none => if k = 0 then (x.comps.find? (fun q => decide (q.1 = sid))).bind (fun q => (q.2.find? (fun v => v.testBit 1)).bind word) else none

/-- User application types of a subchannel (FIG 0/13). -/
def DabConf.usersOf (x : DabConf) (sub : Nat) : List Nat := (x.apps.filter (fun a => decide (x.subOf a.1 a.2.1 = some sub))).map (fun a => a.2.2)

/-- The first service with a component in a subchannel; 0 unknown. -/
def DabConf.sidOf (x : DabConf) (sub : Nat) : Nat :=
  ((x.comps.find? (fun q => q.2.any (fun v => if v / 2 ^ 14 = 3 then decide ((x.packs.find? (fun p => decide (p.1 = v / 4 % 4096))).map (fun p => p.2) = some sub)
    else decide (v / 4 % 64 = sub)))).map (fun q => q.1)).getD 0

/-- A list with pairs put in place of those of the same key. -/
def merge {α β : Type} [DecidableEq β] (key : α → β) (old new : List α) : List α := old.filter (fun a => !new.any (fun b => decide (key a = key b))) ++ new

/-- ECC of a DAB service: in a 32-bit SId, else the ensemble's. -/
def DabConf.eccOf (x : DabConf) (sid : Nat) : Nat := if 65536 ≤ sid then sid / 2 ^ 24 else x.ecc

/-- A report of a DAB service. -/
def Dev.dabReport (d : Dev) (w : SdFrom) (sid : Nat) (fields : List (Nat × List Byte)) : Dev :=
  let e := (d.sdCtx w.ctx).dab.eccOf sid
  d.svcReport w.ctx 1 sid e w.tRx (fields ++ (if e = 0 then [] else [(0, leBytes 1 e)])) []

/-- The configuration of a context's ensemble replaced. -/
def Dev.setDab (d : Dev) (c : Nat) (x : DabConf) : Dev := d.setSdCtx c { d.sdCtx c with dab := x }

/-- A FIG of type 0 (R230): `b` what follows its extension byte `g`. -/
def Dev.figZero (d : Dev) (w : SdFrom) (frame g : Nat) (fig b : List Byte) : Dev :=
  let s := d.sdCtx w.ctx
  let x := s.dab
  let k := if g.testBit 5 then 4 else 2
  let keep := fun (y : DabConf) => d.setDab w.ctx y
  match g % 32 with
  | 0 =>
    let eid := bitsAt b 0 16
    if x.eid ≠ 0 ∧ x.eid ≠ eid then (keep { eid := eid }).svcQuit w.ctx w.tRx (fun _ e => decide (e.std = 1)) else keep { x with eid := eid }
  | 2 =>
    let l := figServices k 16 b
    l.foldl (fun (y : Dev) q =>
      y.dabReport w q.1 [(2, leBytes 1 ((if q.2.any (fun v => decide (v / 2 ^ 14 = 0)) then 8 else 0) + (if q.2.any (fun v => decide (v / 2 ^ 14 ≠ 0)) then 16 else 0)))])
      (keep { x with comps := merge (fun (q : Nat × List Nat) => q.1) x.comps l })
  | 3 => keep { x with packs := merge (fun (p : Nat × Nat) => p.1) x.packs (figPackets 8 b) }
  | 8 => keep { x with ids := merge (fun (i : Nat × Nat × Nat) => (i.1, i.2.1)) x.ids (figComponents k 16 b) }
  | 9 =>
    let o : Int := ((30 * bitsAt b 3 5 : Nat) : Int)
    keep { x with lto := some (if bitsAt b 2 1 = 1 then -o else o), ecc := bitsAt b 8 8 }
  | 10 =>
    let long := decide (bitsAt b 20 1 = 1)
    let utc : Int := (((bitsAt b 1 17 : Nat) : Int) - 40587) * 86400 + ((3600 * bitsAt b 21 5 + 60 * bitsAt b 26 6 + (if long then bitsAt b 32 6 else 0) : Nat) : Int)
    d.sdTime w utc (if long then bitsAt b 38 10 else 0) (x.lto.getD (-32768)) (if long then 2 else 0)
  | 13 => keep { x with apps := merge (fun (a : Nat × Nat × Nat) => a) x.apps (figUsers k 16 b) }
  | 17 => (figTypes 10 b).foldl (fun (y : Dev) p => y.dabReport w p.1 [(1, leBytes 1 p.2)]) d
  | 19 => ((figAlarms 8 b).filter (fun a => decide (a.1 = 0xFF))).foldl (fun (y : Dev) a =>
      y.fhPush w { cls := 2, ctx := w.ctx, sid := x.sidOf a.2.2, present := a.2.1, ended := !a.2.1, frame := frame, locs := Config.figLocations fig, subch := a.2.2 }) d
  | 6 | 21 => let r := Config.figLinks fig
              d.setSdCtx w.ctx { s with alts := (s.alts ++ r.1).eraseDups, links := (s.links ++ r.2).eraseDups }
  | _ => d

/-- A FIG of type 1: a label of the ensemble, of a service or of a component (Table 8.4). -/
def Dev.figOne (d : Dev) (w : SdFrom) (g : Nat) (b : List Byte) : Dev :=
  let put := fun (y : Dev) (code sid k : Nat) => y.sdText { w with sid := sid } code 0 (dabText (g / 16) ((slice b k 16).map (fun x => x.toNat))) []
  let lab := fun (k : Nat) => [(3, padTo 48 (dabText (g / 16) ((slice b k 16).map (fun x => x.toNat))))]
  match g % 8 with
  | 0 => put d 5 0 2
  | 1 => put (d.dabReport w (bitsAt b 0 16) (lab 2)) 6 (bitsAt b 0 16) 2
  | 5 => put (d.dabReport w (bitsAt b 0 32) (lab 4)) 6 (bitsAt b 0 32) 4
  | 4 => if bitsAt b 0 1 = 1 then put d 7 (bitsAt b 8 32) 5 else put d 7 (bitsAt b 8 16) 3
  | _ => d

/-- The fields by which two FIGs of one type and extension are told apart (R230): the flags of type 0, and the identifier that follows. -/
def figKey (b : List Byte) : Nat :=
  let ty := bitsAt b 0 3
  let g := bitsAt b 8 8
  if ty = 0 then (if g % 32 = 0 ∨ g % 32 = 9 ∨ g % 32 = 10 then g else g + 256 * bitsAt b 16 16) else g % 8 + 256 * bitsAt b 16 (if g % 8 = 5 then 32 else 16)

/-- A FIG received: its record, and what it means. FIGs of another ensemble or of the next configuration give records only. -/
def Dev.figTake (d : Dev) (w : SdFrom) (frame : Nat) (b : List Byte) : Dev :=
  let ty := bitsAt b 0 3
  let g := bitsAt b 8 8
  if b.length < 2 then d
  else
    let d1 := d.sdFig w ty (if ty = 0 then g % 32 else g % 8) (figKey b) b
    if ty = 0 then (if g.testBit 7 ∨ g.testBit 6 then d1 else d1.figZero w frame g b (b.drop 2))
    else if ty = 1 then d1.figOne w g (b.drop 2)
    else d1

/-! ### Items of audio, data and information entries (R230 to R234) -/

/-- Byte at which character `n` of some segments, each with its character set, begins. -/
def labelByte (l : List (Nat × List Nat)) (n : Nat) : Nat :=
  (((l.flatMap (fun s => s.2.map (fun ch => (s.1, ch)))).take n).flatMap (fun c => dabText c.1 [c.2])).length

/-- A dynamic label delivered when its last segment arrives, with the DL Plus tags known for it (R231); a tag beyond the text is dropped. -/
def Dev.labelOut (d : Dev) (w : SdFrom) (code : Nat) (x : LabelSt) : Dev :=
  match x.last with
  | none => d
  | some n =>
    if (List.range (n + 1)).all (fun i => Tab.has x.segs i) then
      let l := (List.range (n + 1)).map (fun i => Tab.get (0, []) x.segs i)
      let chars := (l.map (fun s => s.2.length)).sum
      let p := match x.plus with | some p => if p.link = x.toggle then some p else none | none => none
      let tags := ((p.map (fun q => q.tags)).getD []).filterMap (fun t =>
        if t.2.1 + t.2.2 ≤ chars then (let a := labelByte l t.2.1; some (t.1, a, labelByte l (t.2.1 + t.2.2) - a)) else none)
      d.sdText (w.ovl x.ovl) code ((if x.toggle then 1 else 0) + (match p with | some q => (if q.toggle then 2 else 0) + (if q.running then 4 else 0) | none => 0))
        (l.flatMap (fun s => dabText s.1 s.2)) tags
    else d

/-- One item of an entry, where its source may give it: a label from a DAB audio component, MOT and TPEG from DAB audio and packets and DRM data streams, the rest from
DRM FAC and SDC and NRSC-5 PIDS. -/
def Dev.sideItem (d : Dev) (w : SdFrom) (ety : Nat) (i : Config.SideItem) : Dev :=
  let s := d.sdCtx w.ctx
  let users := s.dab.usersOf w.sub
  let dabAudio := decide (ety = 3) || decide (ety = 4)
  let carrier := dabAudio || decide (ety = 5) || decide (ety = 0x12)
  let info := decide (ety = 0x10) || decide (ety = 0x11) || decide (ety = 0x20)
  let x := Tab.get ({} : LabelSt) s.labels w.sub
  let put := fun (y : LabelSt) => d.setSdCtx w.ctx { s with labels := Tab.set {} s.labels w.sub y }
  match i with
  | .label t first last seg cs chars =>
    if !dabAudio then d
    else
      let y : LabelSt := if first ∨ t ≠ x.toggle then { toggle := t, plus := x.plus } else x
      let z : LabelSt := { y with segs := Tab.set (0, []) y.segs seg (cs, chars), last := if last then some seg else y.last, ovl := y.ovl || w.flags.testBit 2 }
      if last then (put { z with segs := [], last := none, ovl := false }).labelOut w 8 z else put z
  | .plus l t r tags => if dabAudio then put { x with plus := some { link := l, toggle := t, running := r, tags := tags } } else d
  | .mot dir header tid idx last data =>
    if carrier then d.motSeg w (if dir then 4 else if users.any (fun u => decide (u = 2)) then 1 else if users.any (fun u => decide (u = 7)) then 2 else 3) tid header idx last data
    else d
  | .tpeg comp bad b => if carrier ∧ (ety = 0x12 ∨ users.any (fun u => decide (u = 4))) then d.sdTpeg w comp bad b else d
  | .text code ident t b =>
    if (code = 9 ∧ (ety = 0x10 ∨ ety = 0x11)) ∨ (code = 10 ∧ ety = 0x12) ∨ (code = 11 ∧ ety = 0x20) then
      let d1 := d.sdText { w with sid := ident } code (if t then 1 else 0) b []
      if code = 10 then d1 else d1.svcReport w.ctx w.std ident 0 w.tRx [(3, padTo 48 b)] []
    else d
  | .time utc ms off res => if ety = 0x11 then d.sdTime w utc (if res = 2 then ms else 0) off res else d
  | .svc ident pty audio data =>
    if info then d.svcReport w.ctx w.std ident 0 w.tRx [(1, leBytes 1 pty), (2, leBytes 1 ((if audio then 8 else 0) + (if data then 16 else 0)))] [] else d
  | .alarm _ => d
  | .alts l => if ety = 0x11 then d.setSdCtx w.ctx { s with alts := (s.alts ++ l).eraseDups } else d
  | .links l => if ety = 0x11 then d.setSdCtx w.ctx { s with links := (s.links ++ l).eraseDups } else d

/-- The stream of an alarm among some items. -/
def alarmIn (l : List Config.SideItem) : Option Nat := l.findSome? (fun i => match i with | .alarm k => some k | _ => none)

/-- The alarm that FAC and SDC signal (Table 8.10): each FAC is an indication, present where it or the last SDC announces an alarm. -/
def Dev.drmAlarm (d : Dev) (w : SdFrom) (ety : Nat) (l : List Config.SideItem) : Dev :=
  let s := d.sdCtx w.ctx
  if ety = 0x11 then d.setSdCtx w.ctx { s with alarm := alarmIn l }
  else if ety = 0x10 then
    let a := (alarmIn l).or s.alarm
    let sid := match a with | some k => (((d.ctx w.ctx).svcs.find? (fun e => decide (e.comp = k))).map (fun e => e.sid)).getD 0 | none => 0
    d.fhPush w { cls := 3, ctx := w.ctx, sid := sid, present := a.isSome, ended := a.isNone, subch := a.getD 255 }
  else d

/-! ### The side-data job (R224, R227, R246) -/

/-- Standard of a context's side data (Table 8.1). -/
def Dev.sdStd (d : Dev) (c : Nat) : Nat := match d.cxKind c with | 0 => 0 | 2 => 1 | 3 => 2 | 4 => 3 | _ => 0xFF

/-- An entry of a digital frame (Table 7.14) as the frame holds it: ETYPE, SOURCE, EFLAGS, COUNTER, SAMPLE_OFF, content. -/
structure SdEntry where
  ety : Nat
  src : Nat
  flags : Nat
  counter : Nat
  off : Int
  content : List Byte

/-- The first `n` entries of some bytes. -/
def readEntries : Nat → List Byte → List SdEntry
  | 0, _ => []
  | n + 1, b =>
    let len := leAt b 2 2
    { ety := leAt b 0 1, src := leAt b 1 1, flags := leAt b 4 1, counter := leAt b 6 2, off := toSigned 32 (leAt b 8 4), content := slice b 12 len } ::
      readEntries n (b.drop (12 + len))

/-- One digital entry: FIGs of a FIB that passes its CRC; items of the other types, information and packets only where they pass theirs. -/
def Dev.digEntry (d : Dev) (w : SdFrom) (e : SdEntry) : Dev :=
  let bad := e.flags.testBit 0
  if e.ety = 1 then
    if bad then d
    else (figsOf 30 (e.content.take 30)).foldl (fun (x : Dev) b => x.figTake w (e.counter / (dabTimes (d.nat (O.cxDMode w.ctx) - 1)).2.2.2) b) d
  else if bad ∧ e.ety ≠ 3 ∧ e.ety ≠ 4 then d
  else
    let s := d.sdCtx w.ctx
    let k := 256 * e.ety + e.src
    let r := Config.sideItems e.ety (Tab.get [] s.pads k) e.content
    (r.2.foldl (fun (x : Dev) i => x.sideItem w e.ety i) (d.setSdCtx w.ctx { s with pads := Tab.set [] s.pads k r.1 })).drmAlarm w e.ety r.2

/-- A frame of a context taken (R224): its RDS entries, or its digital entries. Frames of a skipped period and of HOLD carry no new entries. -/
def Dev.sdFrame (d : Dev) (c : Nat) (b : List Byte) : Dev :=
  let fl := leAt b 7 1
  let first := leAt b 24 8
  let w : SdFrom := { ctx := c, std := d.sdStd c, sub := 0xFF, sid := 0, tRx := 0, flags := if fl.testBit 3 then 1 else 0 }
  if leAt b 6 1 = 5 ∨ fl.testBit 0 then d
  else if d.cxKind c = 0 then
    if leAt b 32 1 = 0x12 then
      (List.range (leAt b 34 2)).foldl (fun (x : Dev) i =>
        let e := slice b (64 + 8 * i) 8
        x.rdsEntry { w with sub := leAt e 2 1, tRx := x.tapTime (x.cxRate c) (first + leAt e 6 2) } (leAt e 0 2) (leAt e 3 1) (leAt e 4 1) (leAt e 5 1)) d
    else d
  else if leAt b 32 1 = 0x13 then
    (readEntries (leAt b 34 2) (b.drop 64)).foldl (fun (x : Dev) e =>
      let sub := if e.ety = 1 ∨ e.ety = 0x10 ∨ e.ety = 0x11 then 0xFF else e.src
      let v := { w with sub := sub, sid := if d.cxKind c = 2 ∧ sub ≠ 0xFF then (x.sdCtx c).dab.sidOf sub else 0, tRx := x.tapTime (x.cxRate c) ((first : Int) + e.off).toNat,
                        flags := w.flags + (if e.flags.testBit 0 ∨ e.flags.testBit 1 then 2 else 0) + (if e.flags.testBit 3 then 4 else 0) }
      x.digEntry v e) d
  else d

/-- Frames of one context taken one after another while records find room. -/
def Dev.sdContext : Nat → Nat → Dev → Dev
  | 0, _, d => d
  | f + 1, c, d =>
    if !d.sd.full.isEmpty then d
    else
      match (d.ring (16 + c)).nextFor 4 with
      | none => d
      | some x => Dev.sdContext f c (((d.setRing (16 + c) ((d.ring (16 + c)).pass 4 x.endPos)).sdFrame c x.bytes).sdDrain)

/-- The open groups of a context that is neither LOCKED nor SHADOW end; one that is FREE is forgotten. -/
def Dev.sdLeave (d : Dev) (c : Nat) : Dev :=
  if d.cxSt c = 3 ∨ d.cxSt c = 4 then d
  else
    let x := (List.range 4).foldl (fun (y : Dev) k => y.groupCut { ctx := c, std := 0, sub := k, sid := 0, tRx := 0, flags := 0 } k) d
    if d.cxSt c = 0 then { x with sd := { x.sd with ctxs := x.sd.ctxs.filter (fun p => decide (p.1 ≠ c)) } } else x

/-- SIDE_DATA_JOB: Keeper job 0x0003 runs. Contexts are taken by number, so that of copies that complete in the same run the lower
context's is the first (R237). -/
def Dev.sideDataJob (d : Dev) : Dev :=
  let d0 := (d.sd.ctxs.map (fun p => p.1)).foldl (fun (x : Dev) c => x.sdLeave c) d
  ((List.range 64).drop 1).foldl (fun (x : Dev) c =>
    if x.cxSt c = 3 ∨ x.cxSt c = 4 then Dev.sdContext ((x.ring (16 + c)).recs.length + 1) c x else x) d0.svcTidy.sdDrain

/-! ### Rows -/

/-- MOT_TIMEOUT (R232). -/
def execMotTimeout (c sub tid : Nat) (s : State) : Host.Outcome State Fault Refusal := s.upd (fun d => d.byKeeper 1 (fun x => x.motTimeout c sub tid))
/-- SVC_AGE_OUT (R235). -/
def execSvcAgeOut (i : Nat) (s : State) : Host.Outcome State Fault Refusal := s.upd (fun d => d.byKeeper 1 (fun x => x.svcAge i))

end Sys2Proof.Machine
end

