-- ==== Sys2Proof/Machine/Fh.lean ====
section
/-! DEFINITION. The Foghorn path (chapter 8, R238 to R244): warning slots from the first indication to the end, the warning selector,
contexts armed for a warning, and the outputs that warnings claim. -/

namespace Sys2Proof.Machine

/-- A warning in slot `w`. -/
def Dev.warn (d : Dev) (w : Nat) : FhSlot := Tab.get {} d.sd.warns w
/-- The same replaced. -/
def Dev.setWarn (d : Dev) (w : Nat) (x : FhSlot) : Dev := { d with sd := { d.sd with warns := Tab.set {} d.sd.warns w x } }
/-- State of a slot (Table 8.12). -/
def Dev.warnSt (d : Dev) (w : Nat) : Nat := d.nat (O.sdWarnState w)

/-- Action of a class (Table 8.11). -/
def Dev.fhAction (d : Dev) (k : Nat) : Nat := d.nat (O.sdFhAction k)

/-- The matched LOCATION entry (R239): none where the filter turns the indication away, 0 where no entry is needed. -/
def Dev.fhLocation (d : Dev) (locs : List Nat) : Option Nat :=
  let l := ((List.range 8).map (fun i => d.nat (O.sdLocation i))).filter (fun v => decide (v ≠ 0))
  match l.find? (fun v => locs.any (fun x => decide (x = v))) with
  | some v => some v
  | none => if d.flag O.sdLocFilter ∧ !locs.isEmpty then none else some 0

/-- The warning record (Table 8.9), with context, T_RX and SFLAGS of the indication last heard (R225). -/
def Dev.warnRecord (d : Dev) (w : Nat) : Dev :=
  let x := d.warn w
  (d.sdEmit { rtype := 0x27, std := if x.cls < 2 then 0 else x.cls - 1, flags := x.flags, ctx := x.heard,
              sub := if x.cls < 2 then 0 else x.subch, sid := x.sid, tag := w, tRx := x.tRx,
              payload := leBytes 1 w ++ leBytes 1 x.cls ++ leBytes 1 (d.warnSt w) ++ leBytes 1 (d.nat (O.sdWarnEndCause w)) ++ leBytes 1 (d.nat (O.sdWarnPorts w)) ++
                leBytes 1 (d.nat (O.sdFhPriority x.cls)) ++ leBytes 1 x.subch ++ leBytes 1 x.srcs.length ++ leBytes 8 (d.nat (O.sdWarnTStart w)) ++
                leBytes 4 x.loc ++ zeroBytes 4 }).sdDrain

/-! ### Outputs (R243) -/

/-- Slot `w` claims output `o` (port, or 8 + stream). -/
def Dev.fhClaims (d : Dev) (w o : Nat) : Bool :=
  let k := (d.warn w).cls
  decide (d.warnSt w = 3) && (if o < 8 then (d.nat (O.sdFhPorts k)).testBit o else (d.nat (O.sdFhAvtp k)).testBit (o - 8))

/-- Slot `a` goes before slot `b`: priority, earlier start, lower slot. -/
def Dev.fhBefore (d : Dev) (a b : Nat) : Bool :=
  let p := fun (w : Nat) => d.nat (O.sdFhPriority (d.warn w).cls)
  let t := fun (w : Nat) => d.nat (O.sdWarnTStart w)
  if p a ≠ p b then decide (p b < p a) else if t a ≠ t b then decide (t a < t b) else decide (a < b)

/-- The warning that an output carries. -/
def Dev.fhWinner (d : Dev) (o : Nat) : Option Nat :=
  ((List.range 8).filter (fun w => d.fhClaims w o)).foldl (fun (b : Option Nat) w => match b with
    | none => some w
    | some g => if d.fhBefore w g then some w else b) none

/-- Every output passes to its claimant, or back to the routing table, by a crossfade of `ms`; WARN_PORTS shows what each slot
holds. -/
def Dev.fhOutputs (d : Dev) (ms : Nat) : Dev :=
  let d1 := (List.range 71).foldl (fun (x : Dev) o => x.holdSet o (x.fhWinner o) ms) d
  ((List.range 8).foldl (fun (x : Dev) w =>
    x.setN (O.sdWarnPorts w) (((List.range 8).filter (fun o => decide (x.fhWinner o = some w))).foldl (fun m o => m + 2 ^ o) 0 : Nat)) d1).routeResolve false

/-! ### The source (R242) -/

/-- A context is itself an audio source for a class: no FIC-only, SENTRY or MEAS context, none of the following engine. -/
def Dev.fhDirect (d : Dev) (c k : Nat) : Bool :=
  let ty := d.nat (O.cxType c)
  decide (d.nat (O.cxOwner c) ≠ 3) && (if k < 2 then decide (ty = 1) else if k = 2 then decide (ty = 5) else decide (ty = 3) || decide (ty = 4))

/-- The warning selector of context `c` set to a component, resolved in the service information held, and waiting for a decoder from now on (R211, R242): without a
free one, one is taken, or the wait is counted once. -/
def Dev.fhSelect (d : Dev) (c subch : Nat) : Dev :=
  let d1 := d.setSel c 4 { state := 1, target := subch }
  let d2 := if (d1.ctx c).info then d1.selResolve c 4 false (d1.ctx c).svcs else d1
  let d3 : Dev := { d2 with cx := { d2.cx with waits := d2.cx.waits.filter (fun p => decide (p ≠ (c, 4))) ++ [(c, 4)] } }
  if d3.freeDec.isSome then d3
  else
    let r := d3.decPreempt
    if r.2 then r.1 else r.1.inc O.sdFhNoDecoder

/-- A context of owner F of the audio type of the source signal, on the same RF, door and antenna list, with REQUEST = RUN. Which FREE context it takes is
not stated (log 25). -/
def Dev.fhArm (d : Dev) (c k : Nat) : Option (Nat × Dev) :=
  let l := ((List.range 64).drop 1).filter (fun n => decide (d.cxSt n = 0))
  let r := d.fresh
  match l[Config.pick r.1 l.length % l.length]? with
  | none => none
  | some n =>
    let ty := if k < 2 then 1 else if k = 2 then 5 else if d.nat (O.cxType c) = 4 then 4 else 3
    let d1 := (((((r.2.cxDefaults n).setN (O.cxRequest n) 1).setN (O.cxType n) ty).setN (O.cxRf n) (d.num (O.cxRf c))).setN (O.cxDoor n) (d.num (O.cxDoor c))).setN
      (O.cxAntCount n) (d.num (O.cxAntCount c))
    let d2 := (List.range 6).foldl (fun (x : Dev) i => x.setN (O.cxAntChain n i) (d.num (O.cxAntChain c i))) d1
    match d2.admitCtx [n] .F with
    | .ok x => some (n, x)
    | .error _ => none

/-- The source of an ACTIVE warning of action ROUTE is started (R242): the context itself, its warning selector, or a context of its
own. -/
def Dev.fhStart (d : Dev) (w : Nat) : Dev :=
  let x := d.warn w
  let c := d.nat (O.sdWarnContext w)
  let d0 := d.setWarn w { x with started := true }
  if d.fhDirect c x.cls then (if x.cls < 2 then d0 else d0.fhSelect c x.subch)
  else
    match d0.fhArm c x.cls with
    | none => d0.inc O.sdFhNoRoom
    | some (n, d1) =>
      let d2 := (d1.setWarn w { d1.warn w with own := some n }).setN (O.sdWarnContext w) n
      if x.cls < 2 then d2 else d2.fhSelect n x.subch

/-- A full watch image runs: R242 and R243 act (R244). -/
def Dev.fhActs (d : Dev) : Bool := d.wt.img.isSome && !d.inSentry && !d.wt.resume

/-- Warnings that confirmed in SENTRY start their source once the full watch image runs (R244). -/
def Dev.fhService (d : Dev) : Dev :=
  if d.fhActs then
    (List.range 8).foldl (fun (x : Dev) w =>
      if x.warnSt w = 2 ∧ x.fhAction (x.warn w).cls = 2 ∧ !(x.warn w).started then x.fhStart w else x) d
  else d

/-! ### Confirmation and end (Table 8.12) -/

/-- FH_CONFIRMED: the slot goes ACTIVE, its audio source being the context that confirmed. The answer says whether SENTRY is to be
left (R244). -/
def Dev.fhConfirmed (d : Dev) (w c : Nat) : Dev × Bool :=
  let k := (d.warn w).cls
  let d1 := ((((d.setN (O.sdWarnTStart w) d.now).setN (O.sdWarnContext w) c).setN (O.sdWarnState w) 2).inc O.sdFhCount).warnRecord w
  let d2 := (d1.raise 120 w).fhService
  if d2.inSentry ∧ d2.flag (O.sdFhWake k) then (d2.raise 122 w, true) else (d2, false)

/-- A warning ends (Table 8.12): its outputs pass on, the warning selector is released, its own context too. -/
def Dev.fhEnd (d : Dev) (w cause : Nat) : Dev :=
  let x := d.warn w
  let c := d.nat (O.sdWarnContext w)
  let routed := decide (d.warnSt w = 3)
  let d1 := (d.setN (O.sdWarnState w) 0).setN (O.sdWarnEndCause w) cause
  let d2 := if routed then d1.fhOutputs (d.nat (O.sdFhXfadeMs x.cls)) else d1
  let d3 := if 2 ≤ x.cls ∧ (d2.sel c 4).state ≠ 0 ∧ x.started then
      let y := if d2.decOf c 4 = none then d2.decDrop c 4 else { d2 with cx := { d2.cx with preempt := d2.cx.preempt ++ [(c, 4)] } }
      y.setSel c 4 { target := 0 }
    else d2
  let d4 := match x.own with | some n => d3.cxRelease n | none => d3
  ((d4.warnRecord w).setWarn w {}).raise 121 w

/-- A dismissed warning: ended, and ignored until an end indication (Table 8.12). -/
def Dev.fhDismiss (d : Dev) (w : Nat) : Dev :=
  if d.warnSt w = 2 ∨ d.warnSt w = 3 then
    let x := d.warn w
    let d1 := d.fhEnd w 2
    { d1 with sd := { d1.sd with quiet := d1.sd.quiet ++ [(x.cls, x.sid)] } }
  else d

/-- A write of 1 to WARN_DISMISS is refused for a class that is not dismissable (R241). -/
def Dev.fhDismissOk (d : Dev) (w : Nat) : Bool := decide (d.warnSt w = 0) || d.flag (O.sdFhDismissable (d.nat (O.sdWarnClass w)))

/-- A source context that still counts: LOCKED, SHADOW, HOLD, or the warning's own context before it first locks. -/
def Dev.fhAlive (d : Dev) (x : FhSlot) (c : Nat) : Bool :=
  let st := d.cxSt c
  (decide (3 ≤ st) && decide (st ≤ 5)) || (decide (x.own = some c) && decide (1 ≤ st) && decide (st ≤ 2))

/-- Warnings whose every source context has left LOCKED and SHADOW other than into HOLD end (Table 8.12). The transition out of SENTRY
keeps them (R244). -/
def Dev.fhSources (d : Dev) : Dev :=
  if d.wt.resume then d
  else
    (List.range 8).foldl (fun (x : Dev) w =>
      let e := x.warn w
      if (x.warnSt w = 2 ∨ x.warnSt w = 3) ∧ !((e.srcs ++ e.own.toList).any (fun c => x.fhAlive e c)) then x.fhEnd w 3 else x) d

/-! ### Indications (R238, R241) -/

/-- A context whose signal carries a class. -/
def Dev.fhFits (d : Dev) (c k : Nat) : Bool :=
  (decide (d.cxSt c = 3) || decide (d.cxSt c = 4)) && (if k < 2 then decide (d.cxKind c = 0) else decide (d.cxKind c = k))

/-- A count of consecutive indications raised. -/
def bump (t : List (Nat × Nat)) (c : Nat) : List (Nat × Nat) := Tab.set 0 t c (Tab.get 0 t c + 1)

/-- A slot hears an indication. -/
def FhSlot.hear (x : FhSlot) (d : Dev) (i : FhInd) : FhSlot := { x with last := d.mono, heard := i.ctx, tRx := i.tRx, flags := i.flags }

/-- A source added. -/
def FhSlot.source (x : FhSlot) (c : Nat) : FhSlot := if x.srcs.any (fun s => decide (s = c)) then x else { x with srcs := x.srcs ++ [c] }

/-- An indication that a CONFIRMING slot counts. A DAB_EWF slot whose 2 s have passed counts from this indication on (Table 8.10). -/
def Dev.fhCount (d : Dev) (w : Nat) (i : FhInd) : Dev × Bool :=
  let x0 := d.warn w
  let x := if x0.cls = 2 ∧ x0.first + 2000000000 < d.mono then { x0 with frames := [], first := d.mono } else x0
  let y := (({ x with seen := bump x.seen i.ctx, frames := if x.frames.any (fun f => decide (f = i.frame)) then x.frames else x.frames ++ [i.frame] } : FhSlot).hear d i).source i.ctx
  let d1 := d.setWarn w y
  let n := d.nat O.sdFhConfirm
  let got := if i.cls = 2 then y.frames.length else Tab.get 0 y.seen i.ctx
  if n ≤ got then d1.fhConfirmed w i.ctx else (d1, false)

/-- The first indication of a warning (Table 8.12): a slot, or FH_OVERFLOW. -/
def Dev.fhFirst (d : Dev) (i : FhInd) (loc : Nat) : Dev × Bool :=
  if d.fhAction i.cls = 0 then (d.inc O.sdFhCount, false)
  else
    match (List.range 8).find? (fun w => decide (d.warnSt w = 0)) with
    | none => (d.inc O.sdFhOverflow, false)
    | some w =>
      let d1 := (((((d.setN (O.sdWarnState w) 1).setN (O.sdWarnClass w) i.cls).setN (O.sdWarnSid w) i.sid).setN (O.sdWarnContext w) i.ctx).setN
        (O.sdWarnEndCause w) 0).setN (O.sdWarnTStart w) 0
      (d1.setWarn w { cls := i.cls, sid := i.sid, first := d.mono, last := d.mono, subch := if i.cls < 2 then 255 else i.subch, loc := loc }).fhCount w i

/-- An absent indication at the slot of its warning: one that the count needs frees a CONFIRMING slot; enough in succession that tell the end take the
context out of the sources, and with its last source the warning ends (Table 8.10). -/
def Dev.fhAbsent (d : Dev) (w : Nat) (i : FhInd) : Dev :=
  let x := d.warn w
  if d.warnSt w = 1 then
    if i.cls = 2 then d
    else
      let l := x.srcs.filter (fun c => decide (c ≠ i.ctx))
      if l.isEmpty then (d.setN (O.sdWarnState w) 0).setWarn w {} else d.setWarn w { x with srcs := l, seen := Tab.erase x.seen i.ctx }
  else
    let y := ({ x with clear := if i.ended then bump x.clear i.ctx else Tab.erase x.clear i.ctx } : FhSlot).hear d i
    if i.ended ∧ (i.cls = 2 ∨ d.nat O.sdFhConfirm ≤ Tab.get 0 y.clear i.ctx) then
      let l := y.srcs.filter (fun c => decide (c ≠ i.ctx))
      let d1 := d.setWarn w { y with srcs := l }
      if l.isEmpty then d1.fhEnd w 1 else d1
    else d.setWarn w y

/-- The slots whose warning an indication means (R241): of its class and SID. A DAB or DRM indication that is not present names no component and means every warning
of its class that has its context as a source. -/
def Dev.fhMeans (d : Dev) (i : FhInd) (w : Nat) : Bool :=
  let x := d.warn w
  decide (d.warnSt w ≠ 0) && decide (x.cls = i.cls) && (decide (x.sid = i.sid) || (decide (2 ≤ i.cls) && !i.present && x.srcs.any (fun c => decide (c = i.ctx))))

/-- An indication reaches K0 (R238), which advances the warning's slot. The answer says whether SENTRY is to be left. -/
def Dev.fhIndicate (d : Dev) (i : FhInd) : Dev × Bool :=
  if !d.serverUp ∨ !d.fhFits i.ctx i.cls then (d, false)
  else
    let slots := (List.range 8).filter (d.fhMeans i)
    if !i.present then
      let back := fun (p : Nat × Nat) => i.ended && decide (p.1 = i.cls) && (decide (p.2 = i.sid) || decide (2 ≤ i.cls))
      let d1 : Dev := { d with sd := { d.sd with quiet := d.sd.quiet.filter (fun p => !back p) } }
      (slots.foldl (fun (x : Dev) w => x.fhAbsent w i) d1, false)
    else if d.sd.quiet.any (fun p => decide (p = (i.cls, i.sid))) then (d, false)
    else
      match (if i.cls = 2 then d.fhLocation i.locs else some 0) with
      | none => (d, false)
      | some loc =>
        match slots.head? with
        | none => d.fhFirst i loc
        | some w =>
          if d.warnSt w = 1 then d.fhCount w i
          else (d.setWarn w ((({ d.warn w with clear := Tab.erase (d.warn w).clear i.ctx } : FhSlot).hear d i).source i.ctx), false)

/-- FH_INDICATION (R238): the oldest indication reaches K0 `us` after it was decoded, within 1 ms. -/
def Dev.fhReach (d : Dev) (us : Nat) : Dev × Bool :=
  match d.sd.inds with
  | [] => (d, false)
  | i :: t =>
    let d1 : Dev := { d with sd := { d.sd with inds := t } }
    let r := (d1.clockTo (i.at_ + 1000 * min us 1000)).fhIndicate i
    (r.1.sdDrain, r.2)

/-- In SENTRY the SENTRY context feeds K0 directly (R238, Table 1.7): the indications of its frames, and nothing else of them. -/
def Dev.sentryFeed (d : Dev) (c : Nat) : Dev :=
  if d.asleep ∧ d.nat (O.cxType c) = 11 ∧ (d.cxSt c = 3 ∨ d.cxSt c = 4) then
    let l := (d.ring (16 + c)).recs.filter (fun x => x.waits.any (fun w => decide (w = 4)))
    let y := l.foldl (fun (x : Dev) r => (x.setRing (16 + c) ((x.ring (16 + c)).pass 4 r.endPos)).sdFrame c r.bytes) d
    { d with rings := y.rings, sd := { d.sd with inds := y.sd.inds, ctxs := y.sd.ctxs } }
  else d

/-- Since when a class has heard nothing (Table 8.10): for RDS_ALARM since stream 0 of every source context has been unsynchronised, and none while one is
synchronised. -/
def Dev.fhSilent (d : Dev) (x : FhSlot) : Option Nat :=
  if x.cls ≠ 1 then some x.last
  else
    let l := x.srcs.map (fun c => (Tab.get ({} : RdsSync) (d.ctx c).rds 0))
    if l.any (fun s => s.sync) then none else some (l.foldl (fun (m : Nat) s => max m s.lostAt) x.last)

/-- FH_END_TIMEOUT (Table 8.10): nothing has been heard for the class's limit. -/
def Dev.fhTimeout (d : Dev) (w : Nat) : Dev :=
  if d.warnSt w = 2 ∨ d.warnSt w = 3 then
    let x := d.warn w
    match d.fhSilent x with
    | some t => (d.after t (if x.cls < 2 then 10000 else 5000)).fhEnd w 1
    | none => d
  else d

/-- FH_SOURCE_LOST (Table 8.12): every source context has stayed in HOLD for 5 s. -/
def Dev.fhLost (d : Dev) (w : Nat) : Dev :=
  let x := d.warn w
  let l := x.srcs.filter (fun c => d.fhAlive x c)
  if (d.warnSt w = 2 ∨ d.warnSt w = 3) ∧ !l.isEmpty ∧ l.all (fun c => decide (d.cxSt c = 5)) then
    (l.foldl (fun (y : Dev) c => y.after (d.ctx c).since 5000) d).fhEnd w 3
  else d

/-- The warning's source supplies audio. -/
def Dev.fhReady (d : Dev) (w : Nat) : Bool :=
  let x := d.warn w
  let c := d.nat (O.sdWarnContext w)
  x.started && (if x.cls < 2 then (x.own.isSome || d.fhDirect c x.cls) && (decide (d.cxSt c = 3) || decide (d.cxSt c = 4)) else decide ((d.sel c 4).state = 2))

/-- FH_SOURCE_READY (R243): the slot goes ROUTED and its outputs are pre-empted. -/
def Dev.fhRoute (d : Dev) (w : Nat) : Dev :=
  if d.warnSt w = 2 ∧ d.fhAction (d.warn w).cls = 2 ∧ d.fhReady w then
    (d.setN (O.sdWarnState w) 3).fhOutputs (d.nat (O.sdFhXfadeMs (d.warn w).cls))
  else d

/-- FH_CONFIRM_WINDOW_END (Table 8.10): a DAB_EWF warning not seen in n frames within 2 s. -/
def Dev.fhWindow (d : Dev) (w : Nat) : Dev :=
  if d.warnSt w = 1 ∧ (d.warn w).cls = 2 then (((d.after (d.warn w).first 2000).setN (O.sdWarnState w) 0).setWarn w {}) else d

/-! ### Rows -/

/-- CONTEXT_RUN_END (R128). -/
def execContextRunEnd (c : Nat) (r : RunReport) (s : State) : Host.Outcome State Fault Refusal := s.upd (fun d => (d.cxRunEnd c r).sentryFeed c)

/-- FH_END_TIMEOUT (R238). -/
def execFhEndTimeout (w : Nat) (s : State) : Host.Outcome State Fault Refusal := s.upd (fun d => d.fhTimeout w)
/-- FH_SOURCE_LOST (R241). -/
def execFhSourceLost (w : Nat) (s : State) : Host.Outcome State Fault Refusal := s.upd (fun d => d.fhLost w)
/-- FH_SOURCE_READY (R243). -/
def execFhSourceReady (w : Nat) (s : State) : Host.Outcome State Fault Refusal := s.upd (fun d => d.fhRoute w)
/-- FH_CONFIRM_WINDOW_END (R241). -/
def execFhConfirmWindowEnd (w : Nat) (s : State) : Host.Outcome State Fault Refusal := s.upd (fun d => d.fhWindow w)

end Sys2Proof.Machine
end

