-- ==== Sys2Proof/Machine/Ll.lean ====
section
/-! DEFINITION. The Light List and service following (chapter 9): the image, its checks and lookups, the position, candidates,
shadows, rules, switches and the delay lines' settings. -/

namespace Sys2Proof.Machine

/-- Event 124 with its cause (R277). -/
def Dev.llEvent (d : Dev) (f cause : Nat) : Dev := (d.setN O.llLlEventCause cause).raise 124 (256 * f + cause)

/-! ### The image (R249 to R259) -/

/-- An area as an image: where its body starts, its length and blocks. -/
def Dev.llHead (d : Dev) (a : Nat) : LlImg :=
  let h := memBytes d.flash (listArea a).1 128
  let n := leAt h 12 4
  { area := a, base := (listArea a).1 + 128 + 32 * n, len := leAt h 8 4, blocks := n, head := h,
    leaves := memBytes d.flash ((listArea a).1 + 128) (32 * min n 3072) }

/-- The root over `n` levels of pairing. -/
def treeUp : Nat → List (List Byte) → List (List Byte)
  | 0, l => l
  | f + 1, l => treeUp f (merkleLevel l)

/-- The directory of an image: COUNT, OFFSET, LENGTH of sections 1–5 in order of TYPE; none where R250 does not hold. -/
def Dev.llDirectory (d : Dev) (w : LlImg) : Option (List (Nat × Nat × Nat)) :=
  let e := (List.range 5).map (fun i => d.llBytes w (16 * i) 16)
  let find : Nat → Option (Nat × Nat × Nat) := fun t => match e.filter (fun b => decide (leAt b 0 1 = t)) with | [b] => some (leAt b 4 4, leAt b 8 4, leAt b 12 4) | _ => none
  let size : Nat → Nat := fun t => ([0, 48, 32, 4, 4096] : List Nat).getD t 0
  let l := ([1, 2, 3, 4, 5] : List Nat).map find
  if l.all (fun o => o.isSome) then
    let v := l.map (fun o => o.getD (0, 0, 0))
    let at_ : Nat → Nat × Nat × Nat := fun t => v.getD (t - 1) (0, 0, 0)
    if v.all (fun (x : Nat × Nat × Nat) => decide (x.2.1 % 16 = 0) && decide (x.2.1 + x.2.2 ≤ w.len)) &&
       ([1, 2, 3, 4] : List Nat).all (fun (t : Nat) => decide ((at_ t).2.2 = (at_ t).1 * size t)) &&
       decide ((at_ 3).1 = 64800) && decide ((at_ 4).2.1 % 4096 = 0) then some v else none
  else none

/-- Table 9.6: 0, or the result code of the first check that fails, with the image. -/
def Dev.llCheck (d : Dev) (a : Nat) : Nat × LlImg × Nat :=
  let ar := listArea a
  let w := d.llHead a
  let h := memBytes d.flash ar.1 128
  let n := w.blocks
  let small := decide (128 + 32 * n + w.len + 3040 ≤ 201326592)
  let sig := if small then d.verify 3 3 (memBytes d.flash ar.1 (min ar.2 (128 + 32 * n + w.len + 3040))) else 1
  if sig = 4 then (4, w, 4)
  else if sig ≠ 0 then (3, w, sig)
  else if !(decide (leAt h 0 4 = 0x54534C4C) && decide (leAt h 4 1 = 1) && decide (leAt h 5 1 = 5) && decide (65536 ≤ w.len) && decide (n = ceilDiv w.len 65536) &&
      decide (1 ≤ n) && decide (n ≤ 3072) && decide (leAt h 32 4 ≤ 1048576) && decide (leAt h 36 4 ≤ 262144) && decide (leAt h 44 4 ≤ 64800) && small) then (5, w, 0)
  else if (treeUp 12 ((List.range n).map (fun b => w.leaf b))).headD [] ≠ slice h 48 32 then (6, w, 0)
  else if !d.llBlockOk w 0 then (7, w, 0)
  else
    match d.llDirectory w with
    | none => (8, w, 0)
    | some v =>
      let c := v.getD 2 (0, 0, 0)
      let blocks := (List.range (ceilDiv (c.2.1 % 65536 + c.2.2) 65536)).map (fun i => c.2.1 / 65536 + i)
      if !blocks.all (fun b => d.llBlockOk w b) then (7, w, 0)
      else if (v.getD 0 (0, 0, 0)).1 ≠ leAt h 32 4 ∨ (v.getD 1 (0, 0, 0)).1 ≠ leAt h 36 4 ∨ (v.getD 3 (0, 0, 0)).1 ≠ leAt h 44 4 ∨ (v.getD 4 (0, 0, 0)).1 ≠ leAt h 40 4 then (8, w, 0)
      else (0, { w with dir := v, coarse := d.llBytes w c.2.1 c.2.2 }, 0)

/-- LL_ACTIVATE committed (R259): the checks of an area start. -/
def Dev.llActivate (d : Dev) (a : Nat) : Dev :=
  ((({ d with ll := { d.ll with checking := some a, tries := [] } }).setN O.llLlActResult 1).setN O.llLlState 1)

/-- A write of LL_ACTIVATE during checking is refused with STATE (R259). -/
def Dev.llBusy (d : Dev) : Bool := d.ll.checking.isSome

/-- LIGHT_LIST_SELECT at start-up (R259): area LL_BOOT_BANK first, then the other. -/
def Dev.llBoot (d : Dev) : Dev :=
  let a := d.nat O.llLlBootBank
  let d1 := d.llActivate a
  { d1 with ll := { d1.ll with tries := [3 - a] } }

/-- LL_CHECKS_DONE (R256, R259). -/
def Dev.llChecksDone (d : Dev) : Dev :=
  match d.ll.checking with
  | none => d
  | some a =>
    let r := d.llCheck a
    let d0 : Dev := { d with ll := { d.ll with checking := none } }
    let back := if d.ll.img.isSome then 2 else 0
    if r.1 = 0 then { d0 with ll := { d0.ll with next := some r.2.1, tries := [] } }.setN O.llLlState back
    else
      let d1 := (d0.setN O.llLlActResult r.1).setN O.llLlState back
      let d2 := (if r.1 = 3 ∨ r.1 = 4 then d1.rejectImage 3 r.2.2 a else d1).llEvent 0 7
      match d.ll.tries with
      | b :: t => let d3 := d2.llActivate b
                  { d3 with ll := { d3.ll with tries := t } }
      | [] => d2

/-- A block read into the cache (R257): each fetch is hashed; a mismatch leads to one more fetch, and a second mismatch marks the block
BAD. The answer says whether its bytes may be used. -/
def Dev.llFetch (d : Dev) (b : Nat) : Dev × Bool :=
  match d.ll.img with
  | none => (d, false)
  | some w =>
    if w.blocks ≤ b ∨ w.bad.any (fun x => decide (x = b)) then (d, false)
    else
      match w.cache.find? (fun x => decide (x.1 = b)) with
      | some e => ({ d with ll := { d.ll with img := some { w with cache := e :: w.cache.filter (fun x => decide (x.1 ≠ b)) } } }, true)
      | none =>
        if d.llBlockOk w b then
          (({ d with ll := { d.ll with img := some { w with cache := ((b, d.llBlock w b) :: w.cache).take w.size } } }).inc O.llLlCacheMiss, true)
        else
          let d1 := (({ d with ll := { d.ll with img := some { w with bad := w.bad ++ [b] } } }).count 32 O.llLlCacheMiss 2).inc O.llLlBlockFail
          ((d1.setN O.llLlBlocksBad (w.bad.length + 1 : Nat)).llEvent 0 5, false)

/-- `n` bytes of the body of the running image at offset `o`, all of them in one cached block. -/
def Dev.llCached (d : Dev) (o n : Nat) : List Byte :=
  match d.ll.img with
  | none => []
  | some w => slice (((w.cache.find? (fun x => decide (x.1 = o / 65536))).map (fun x => x.2)).getD []) (o % 65536) n

/-- A cell table of the running image (R254): its offset, with the two blocks it needed fetched. -/
def Dev.llCellTable (d : Dev) (cell : Int × Int) : Dev × Option Nat :=
  match d.ll.img with
  | none => (d, none)
  | some w =>
    let q := ((cell.1 / 32 + 90) * 360 + (cell.2 / 32 + 180)).toNat
    let i := (32 * (cell.1 % 32) + cell.2 % 32).toNat
    let sq := leAt w.coarse (4 * q) 4
    if sq = 0xFFFFFFFF then (d, none)
    else
      let r := d.llFetch ((sq + 4 * i) / 65536)
      if !r.2 then (r.1, none)
      else
        let t := leNat (r.1.llCached (sq + 4 * i) 4)
        if t = 0xFFFFFFFF then (r.1, none)
        else
          let r2 := r.1.llFetch (t / 65536)
          (r2.1, if r2.2 then some t else none)

/-- The candidates of a family in a cell table (R254, Table 9.5). -/
def Dev.llFamily (d : Dev) (t fam : Nat) : Option (List LlCand) :=
  let n := leNat (d.llCached t 2)
  match (List.range (min n 248)).find? (fun k => decide (leNat (d.llCached (t + 8 + 264 * k) 4) = fam)) with
  | none => none
  | some k =>
    let o := t + 8 + 264 * k
    let cnt := leNat (d.llCached (o + 4) 1)
    some ((List.range (min cnt 16)).map (fun j =>
      let b := d.llCached (o + 8 + 16 * j) 16
      { rf := leAt b 0 4, ty := leAt b 7 1, ident := leAt b 8 4, flags := leAt b 15 1 }))

/-! ### Records and services (R251, R252) -/

/-- A transmitter record as REC_DATA delivers it (Table 9.3). -/
structure LlRecord where
  rf : Nat
  lat : Int
  lon : Int
  ident : Nat
  svcFirst : Nat
  svcCount : Nat
  ty : Nat
  door : Nat
  erp : Int
  haat : Int
  tii : Nat
  ecc : Nat
  pol : Nat
  flags : Nat
  mode : Nat
  txId : Nat
  deriving DecidableEq, Repr

/-- A record read from its 48 bytes. -/
def llRecord (b : List Byte) : LlRecord :=
  { rf := leAt b 0 4, lat := toSigned 32 (leAt b 4 4), lon := toSigned 32 (leAt b 8 4), ident := leAt b 12 4, svcFirst := leAt b 16 4, svcCount := leAt b 20 2,
    ty := leAt b 22 1, door := leAt b 23 1, erp := toSigned 16 (leAt b 24 2), haat := toSigned 16 (leAt b 26 2), tii := leAt b 28 2, ecc := leAt b 30 1,
    pol := leAt b 31 1, flags := leAt b 32 2, mode := leAt b 34 1, txId := leAt b 36 4 }

/-- A service as SVC_DATA delivers it (Table 9.4). Services with one FAMILY carry one programme. -/
structure LlService where
  family : Nat
  sid : Nat
  std : Nat
  ecc : Nat
  comp : Nat
  flags : Nat
  label : List Byte
  deriving DecidableEq, Repr

/-- A service read from its 32 bytes. -/
def llService (b : List Byte) : LlService :=
  { family := leAt b 0 4, sid := leAt b 4 4, std := leAt b 8 1, ecc := leAt b 9 1, comp := leAt b 10 1, flags := leAt b 11 1, label := slice b 12 16 }

/-! ### Position (R262, R263) -/

/-- POS_LAT and POS_LON committed (R262). -/
def Dev.posWritten (d : Dev) : Dev :=
  let d1 := d.setN O.llPosT d.now
  let d2 := d1.setN O.llPosState (if d1.num O.llPosLat = -2147483648 then 0 else 1)
  { d2 with lens := { d2.lens with posWritten := true } }

/-- POSITION_STALE (R262). -/
def Dev.posStale (d : Dev) : Dev :=
  if d.nat O.llPosState = 1 then (d.timeTo (d.nat O.llPosT + 1000000 * d.nat O.llPosTimeoutMs)).setN O.llPosState 2 else d

/-- The cell of a position (R253). -/
def cellOf (lat lon : Int) : Int × Int :=
  (clampI (-2880) 2879 (lat * 32 / 10000000), (if lon = 1800000000 then -1800000000 else lon) * 32 / 10000000)

/-- How far a coordinate lies outside a cell's side, in 10^−7 degree. -/
def outside (v cell : Int) : Int := let lo := cell * 312500; if v < lo then lo - v else if lo + 312500 < v then v - (lo + 312500) else 0

/-- How far a longitude lies outside a cell's side, the shorter way round. -/
def outsideLon (v cell : Int) : Int := min (outside v cell) (min (outside (v + 3600000000) cell) (outside (v - 3600000000) cell))

/-- A position lies more than `m` metres outside a cell (R263). -/
def farOutside (lat lon : Int) (cell : Int × Int) (m : Nat) : Bool :=
  let x := (outsideLon lon cell.2) * cosTurn lat.natAbs 3600000000 / (fxOne : Int) * 111320
  let y := outside lat cell.1 * 111320
  decide ((m : Int) * 10000000 * ((m : Int) * 10000000) < x * x + y * y)

/-- The current cell kept or replaced (R263). -/
def Dev.cellNow (d : Dev) : Dev :=
  if !d.posFresh then d
  else
    let lat := d.num O.llPosLat
    let lon := d.num O.llPosLon
    let go := match d.ll.cell with | none => true | some c => farOutside lat lon c (d.nat O.llCellHystM)
    if go then
      let c := cellOf lat lon
      (({ d with ll := { d.ll with cell := some c } }).setN O.llCellLat c.1).setN O.llCellLon c.2
    else d

/-- The cell that the heading leads to in LOOKAHEAD_S has its blocks fetched (R263). -/
def Dev.prefetch (d : Dev) : Dev :=
  let v := d.nat O.llPosSpeed
  let h := d.nat O.llPosHeading
  let t := d.nat O.llLookaheadS
  if d.posFresh ∧ v ≠ 0xFFFF ∧ h ≠ 0xFFFF ∧ t ≠ 0 ∧ d.ll.img.isSome then
    let lat := d.num O.llPosLat
    let step : Int := ((v * t * 100000 : Nat) : Int)
    let dlat := step * cosTurn h 36000 / (fxOne : Int) / 111320
    let dlon := step * cosTurn ((h + 27000) % 36000) 36000 / 111320 / (max 1 (cosTurn lat.natAbs 3600000000))
    (d.llCellTable (cellOf (clampI (-900000000) 900000000 (lat + dlat)) ((d.num O.llPosLon + dlon + 1800000000) % 3600000000 - 1800000000))).1
  else d

/-! ### Rules (R270) -/

/-- Table 9.8. -/
def builtInRules : List LlRule :=
  let r := fun (a b fl : Nat) (l m t : Int) (w k : Nat) => ({ src := a, dst := b, flags := fl, leave := l, margin := m, least := t, dwell := w, blend := k } : LlRule)
  [r 0 0 1 2000 600 2000 300 100, r 0 2 11 2400 (-1000) 1400 1000 500, r 0 3 11 2400 (-1000) 1400 1000 500, r 2 0 11 1200 600 1800 200 500,
   r 3 0 11 1200 600 1800 200 500, r 2 2 11 1200 300 1400 500 200, r 3 3 11 1200 300 1400 500 200, r 2 3 11 1200 300 1400 500 200,
   r 3 2 11 1200 300 1400 500 200, r 1 1 1 1000 600 1200 500 100, r 1 3 11 1200 300 1200 500 500, r 3 1 11 1200 300 1200 500 500]

/-- The table in use, its RULES_SOURCE, and PLACE_SLOT. -/
def Dev.llRules (d : Dev) : List LlRule × Nat × Nat :=
  match d.wt.img with
  | none => (builtInRules, 2, 0xFFFF)
  | some w => match imageRules w.rules with
    | some l => (l, 1, leAt w.rules 4 2)
    | none => (builtInRules, 2, 0xFFFF)

/-- The rule for a pair of classes, when it is enabled. -/
def Dev.llRule (d : Dev) (a b : Nat) : Option LlRule :=
  (d.llRules.1.find? (fun r => decide (r.src = a) && decide (r.dst = b))).bind (fun r => if r.flags.testBit 0 then some r else none)

/-! ### Candidates (R264, R265) -/

/-- Class of a type: FM 0, AM 1, DAB 2, DRM 3; NRSC-5 has none (R265, R270). -/
def candClass (ty : Nat) : Option Nat :=
  match ty with
  | 1 => some 0 | 2 => some 1 | 5 => some 2 | 3 | 4 => some 3
  | _ => none

/-- Door of an RF frequency (Table 2.1). -/
def candDoor (rf : Nat) : Nat := if rf ≤ 30000000 then 0 else if rf ≤ 110000000 then 1 else 2

/-- Chains that can receive a candidate: those of FOLLOW_CHAINS, on door C only with the candidate's band (R265). -/
def Dev.candChains (d : Dev) (f : Nat) (c : LlCand) : List Nat :=
  d.chainList.filter (fun n => (d.nat (O.llFollowChains f)).testBit n &&
    (decide (candDoor c.rf ≠ 2) || decide (d.nat (O.cpDoorCBand n) = (if c.flags.testBit 1 then 1 else 0))))

/-- A candidate is receivable (R265). -/
def Dev.receivable (d : Dev) (f : Nat) (c : LlCand) : Bool :=
  (match candClass c.ty with | some k => (d.nat (O.llFollowClasses f)).testBit k | none => false) && !(d.candChains f c).isEmpty &&
  !(d.llSlot f).fails.any (fun p => decide (p.1 = c) && decide (d.mono < p.2 + 1000000000 * d.nat O.llFailBackoffS))

/-- The fallback candidates of a slot (R264): channels of FOLLOWING segments above the level, alternatives of the active source first,
strongest first in each group, each with an identity that the slot knows. -/
def Dev.fallback (d : Dev) (f : Nat) : List LlCand :=
  let s := d.llSlot f
  let heard : SdCtx := match s.active with | some a => d.sdCtx a.ctx | none => {}
  let keys := (d.ll.levels.filter (fun p => decide (d.num O.llFallbackMinLevel ≤ p.2) && decide (4 ≤ p.1 / 2 ^ 20))).map (fun p => (p.1 / 8, p.2))
  let chans := keys.foldl (fun (l : List (Nat × Int)) p => match l.find? (fun q => decide (q.1 = p.1)) with
    | some q => if q.2 < p.2 then l.map (fun r => if r.1 = p.1 then p else r) else l
    | none => l ++ [p]) []
  let ident := fun (ty : Nat) =>
    let own := if d.nat (O.llFollowId f) ≠ 0 ∧ d.nat (O.llFollowStd f) = (if ty = 1 then 0 else 1) then some (d.nat (O.llFollowId f)) else none
    own.or (((heard.links ++ s.ids).find? (fun p => decide (p.1 = ty))).map (fun p => p.2))
  let cand := fun (p : Nat × Int) =>
    let r := p.1 / 2 ^ 17
    let ty := if r ≤ 6 then 1 else 5
    (ident ty).map (fun i => ((p.2, { rf := rasterCentre r (p.1 % 2 ^ 17), ty := ty, ident := i, flags := if r = 8 then 2 else 0 }) : Int × LlCand))
  let put := fun (l : List (Int × LlCand)) (x : Int × LlCand) => (l.takeWhile (fun y => decide (x.1 ≤ y.1))) ++ [x] ++ (l.dropWhile (fun y => decide (x.1 ≤ y.1)))
  let all := ((chans.filterMap cand).foldl put []).map (fun p => p.2)
  let af := match s.active with
    | some a => if a.cand.ty = 1 then ((d.sd.svcs.filter (fun q => decide (q.2.std = 0) && decide (q.2.sid = a.cand.ident))).flatMap (fun q =>
        q.2.afs.map (fun v => 87500000 + 100000 * v))) else []
    | none => []
  let alt := fun (c : LlCand) => (heard.alts ++ af).any (fun v => decide (v = c.rf))
  (all.filter alt ++ all.filter (fun c => !alt c)).take 16

/-- The candidate list built (R264), with CAND_SOURCE, CAND_COUNT and the events of a change between the two sources. -/
def Dev.buildCands (d : Dev) (f : Nat) : Dev :=
  let use := d.posFresh && decide (d.nat O.llLlRecords ≠ 0) && d.ll.img.isSome && decide (d.nat (O.llFollowFamily f) ≠ 0)
  let look := match (if use then d.ll.cell else none) with
    | some c => d.llCellTable c
    | none => (d, none)
  let d1 := look.1
  let fam := match look.2 with
    | some t => d1.llFamily t (d1.nat (O.llFollowFamily f))
    | none => none
  let was := d1.nat (O.llCandSource f)
  let s := d1.llSlot f
  match fam with
  | some l =>
    let d2 := ((d1.setLl f { s with cands := l, ids := l.map (fun c => (c.ty, c.ident)) }).setN (O.llCandSource f) 1).setN (O.llCandCount f) l.length
    if was = 2 then d2.llEvent f 4 else d2
  | none =>
    let l := d1.fallback f
    let d2 := ((d1.setLl f { s with cands := l }).setN (O.llCandSource f) 2).setN (O.llCandCount f) l.length
    if was = 1 then d2.llEvent f 3 else d2

/-! ### Contexts of a slot (R266 to R269) -/

/-- ACTIVE_CONTEXT and SHADOW_CONTEXTS as the slot stands. -/
def Dev.llShow (d : Dev) (f : Nat) : Dev :=
  let s := d.llSlot f
  (d.setN (O.llActiveContext f) ((s.active.map (fun a => a.ctx)).getD 0 : Nat)).setN (O.llShadowContexts f)
    ((List.range 4).foldl (fun v j => v + 256 ^ j * ((s.others.getD j {}).ctx)) 0 : Nat)

/-- A context set up for a candidate and armed with owner 3 (R266): none where Table 4.2 refuses it. -/
def Dev.llArm (d : Dev) (f : Nat) (c : LlCand) (request : Nat) : Option (Nat × Dev) :=
  match (((List.range 64).drop 1).reverse).find? (fun n => decide (d.cxSt n = 0)) with
  | none => none
  | some n =>
    let ch := d.candChains f c
    let d1 := (((((((d.cxDefaults n).setN (O.cxType n) c.ty).setN (O.cxRf n) c.rf).setN (O.cxDoor n) (candDoor c.rf)).setN (O.cxAntCount n) ch.length).setN
      (O.cxCmbMode n) 0).setN (O.cxRequest n) request).setN (O.cxSlot n) d.llRules.2.2
    let d2 := (List.range ch.length).foldl (fun (x : Dev) i => x.setN (O.cxAntChain n i) (ch.getD i 0)) d1
    let d3 := if 3 ≤ c.ty then (d2.setN (O.cxSelId n 0) (c.ident % 2 ^ 24 : Nat)).setN (O.cxSelMode n 0) 2 else d2
    match d3.admitCtx [n] .F with
    | .ok x => some (n, (x.setN (O.cxOwner n) 3).cxCounts)
    | .error _ => none

/-- Whether a context carries its candidate's identity (R267): none while it is not known. -/
def Dev.llIdentity (d : Dev) (x : LlCtx) : Option Bool :=
  let st := d.cxSt x.ctx
  if st ≠ 3 ∧ st ≠ 4 then none
  else match candClass x.cand.ty with
    | some 0 => (match (d.ctx x.ctx).pis with
      | [a, b] => if a = b ∧ a ≠ 0 then some (decide (a = x.cand.ident)) else none
      | _ => none)
    | some 1 => some true
    | _ => (let s := (d.sel x.ctx 0).state
            if s = 2 ∨ s = 4 then some true else if s = 5 then some false else none)

/-- Following quality FQ, 0.01 dB (R268): none where no interval of the last 100 ms has a value. -/
def Dev.llFq (d : Dev) (c : Nat) : Option Int :=
  let l := ((d.ctx c).fq.filter (fun p => decide (d.mono < p.1 + 100000000))).map (fun p => p.2)
  if l.isEmpty then none else some (divRound l.sum l.length)

/-- A context leaves a slot: released, its candidate failing for FAIL_BACKOFF_S where `fail` says so. -/
def Dev.llDrop (d : Dev) (f : Nat) (x : LlCtx) (fail : Bool) : Dev :=
  let s := d.llSlot f
  let d1 := d.setLl f { s with others := s.others.filter (fun y => decide (y.ctx ≠ x.ctx)), fails := if fail then s.fails ++ [(x.cand, d.mono)] else s.fails }
  if d1.cxSt x.ctx = 0 ∨ d1.nat (O.cxOwner x.ctx) ≠ 3 then d1 else d1.cxRelease x.ctx

/-- Every context of a slot released and the slot emptied. -/
def Dev.llClear (d : Dev) (f st : Nat) : Dev :=
  let s := d.llSlot f
  let d1 := (s.others ++ s.active.toList).foldl (fun (x : Dev) y => x.llDrop f y false) d
  (((((d1.setLl f { fails := s.fails, ids := s.ids }).setN (O.llFollowState f) st).setN (O.llCandSource f) 0).setN (O.llCandCount f) 0).setN (O.llOutDelay f) 0).llShow f

/-- FOLLOW_ENABLE committed (R271): SEARCHING, or everything released. -/
def Dev.llEnable (d : Dev) (f : Nat) (on : Bool) : Dev :=
  if on then (if d.nat (O.llFollowState f) = 0 then (d.setLl f {}).setN (O.llFollowState f) 1 else d)
  else if d.nat (O.llFollowState f) = 0 then d else d.llClear f 0

/-- Contexts that are gone leave the slot, and those that carry another identity are released (R267). -/
def Dev.llReview (d : Dev) (f : Nat) : Dev :=
  let gone := fun (x : Dev) (y : LlCtx) => decide (x.nat (O.cxOwner y.ctx) ≠ 3) || decide (x.cxSt y.ctx = 0) || decide (x.cxSt y.ctx = 6)
  let s := d.llSlot f
  let d0 := d.setLl f { s with others := s.others.filter (fun y => !gone d y) }
  let busy := fun (c : Nat) => match s.target with | some t => decide (t.1 = c) | none => false
  (d0.llSlot f).others.foldl (fun (x : Dev) y =>
    match x.llIdentity y with
    | some false => if busy y.ctx then x else x.llDrop f y true
    | some true => (let t := x.llSlot f
                    x.setLl f { t with others := t.others.map (fun z => if z.ctx = y.ctx then { z with known := true } else z) })
    | none => x) d0

/-- Place of a candidate in the list; past its end where it is not listed. -/
def LlSlot.rank (s : LlSlot) (c : LlCand) : Nat := s.cands.findIdx (fun x => decide (x.rf = c.rf) && decide (x.ty = c.ty) && decide (x.ident = c.ident))

/-- Shadows in candidate order. -/
def LlSlot.ordered (s : LlSlot) : List LlCtx :=
  (List.range (s.cands.length + 1)).flatMap (fun i => s.others.filter (fun y => decide (s.rank y.cand = i)))

/-- Two candidates are the same: frequency, type and identity. -/
def LlCand.same (a b : LlCand) : Bool := decide (a.rf = b.rf) && decide (a.ty = b.ty) && decide (a.ident = b.ident)

/-- The receivable candidates other than the active one, in candidate order (R266). -/
def Dev.llOpen (d : Dev) (f : Nat) : List LlCand :=
  let s := d.llSlot f
  s.cands.filter (fun c => d.receivable f c && !(match s.active with | some a => a.cand.same c | none => false))

/-- How many contexts other than the active one a slot keeps: SHADOW_MAX, and in SEARCHING the one that searches (R266, R271). -/
def Dev.llRoom (d : Dev) (f : Nat) : Nat := if d.nat (O.llFollowState f) = 1 then max 1 (d.nat (O.llShadowMax f)) else d.nat (O.llShadowMax f)

/-- Shadows whose candidates have left the list are released (R266), and those beyond SHADOW_MAX, the last in candidate order first; the target
of a switch stays. -/
def Dev.llPrune (d : Dev) (f : Nat) : Dev :=
  let s := d.llSlot f
  let busy := fun (c : Nat) => match s.target with | some t => decide (t.1 = c) | none => false
  let d1 := s.others.foldl (fun (x : Dev) y => if s.cands.length ≤ s.rank y.cand ∧ !busy y.ctx then x.llDrop f y false else x) d
  ((d1.llSlot f).ordered.reverse.filter (fun y => !busy y.ctx)).foldl (fun (x : Dev) y =>
    if x.llRoom f < (x.llSlot f).others.length then x.llDrop f y false else x) d1

/-- At most one context created per slot and run (R266): in SEARCHING without one under way, the first receivable candidate with
REQUEST = RUN; otherwise a shadow for the first of the SHADOW_MAX receivable candidates that has none. -/
def Dev.llCreate (d : Dev) (f : Nat) : Dev :=
  let s := d.llSlot f
  let mine := fun (c : LlCand) => s.others.any (fun y => y.cand.same c)
  let want := if s.others.length < d.llRoom f then (d.llOpen f).take (d.llRoom f) else []
  let run := decide (d.nat (O.llFollowState f) = 1) && !s.others.any (fun y => decide (d.cxEff y.ctx (O.cxRequest y.ctx) = 1))
  match want.find? (fun c => !mine c) with
  | none => d
  | some c =>
    match d.llArm f c (if run then 1 else 2) with
    | none => d.inc (O.llNoRoom f)
    | some (n, x) =>
      let t := x.llSlot f
      x.setLl f { t with others := t.others ++ [{ ctx := n, cand := c, armed := x.mono }] }

/-- SHADOW_ID_TIMEOUT (R267). -/
def Dev.llIdTimeout (d : Dev) (f c : Nat) : Dev :=
  match (d.llSlot f).others.find? (fun y => decide (y.ctx = c) && !y.known) with
  | some y => ((d.after y.armed (d.nat O.llIdTimeoutMs)).llDrop f y true).llShow f
  | none => d

/-! ### Lags and switches (R272 to R275) -/

/-- The normalised correlation, in Q15, of some samples with as many of another list from index `k`, with the energies of both. -/
def corrAt (a s : List Int) (k : Nat) : Int × Nat × Nat :=
  let w := (s.drop k).take a.length
  let dot := fun (x y : List Int) => (List.zipWith (· * ·) x y).sum
  let ea := (dot a a).toNat
  let es := (dot w w).toNat
  (if ea = 0 ∨ es = 0 then 0 else clampI (-32768) 32767 (dot a w * 32768 / (isqrt (ea * es) : Int)), ea, es)

/-- The index in some range at which the correlation peaks, the first of equals (R273). -/
def corrPeak (a s : List Int) (lo n : Nat) : Nat :=
  ((List.range n).foldl (fun (b : Nat × Int) i => let v := (corrAt a s (lo + i)).1; if b.2 < v then (lo + i, v) else b) (lo, (corrAt a s lo).1)).1

/-- What the correlator finds between the mono sums of the active source over the window and of a shadow over the window and 192,032 samples to each side (R273):
lag, normalised peak, and both levels in 0.01 dBFS rms over the aligned window. -/
def corrFind (a s : List Int) : Int × Int × Int × Int :=
  let slow := fun (l : List Int) => (Config.stage .correlate [] [] l).2
  let k := 16 * corrPeak (slow a) (slow s) 2 24001
  let i := corrPeak a s (k - 32) 65
  let r := corrAt a s i
  let level := fun (e : Nat) => if e = 0 then -32768 else linDb (e * dbLin 0 / (a.length * 2 ^ 48))
  ((i : Int) - 192032, r.1, level r.2.1, level r.2.2)

/-- CORR_REFRESH (R273): the correlator has taken the active source and a shadow, left and right, over CORR_WINDOW_MS. A lag whose normalised peak reaches
CORR_MIN is accepted with the levels. -/
def Dev.corrRefresh (d : Dev) (f c : Nat) (al ar sl sr : List Int) : Dev :=
  let s := d.llSlot f
  match s.others.find? (fun y => decide (y.ctx = c)) with
  | some y =>
    let d1 := match y.corrAt with | some t => d.after t (1000 * d.nat O.llCorrRefreshS) | none => d
    let n := 48 * d1.nat O.llCorrWindowMs
    if s.active.isSome ∧ (d1.cxSt c = 3 ∨ d1.cxSt c = 4) ∧ al.length = n ∧ sl.length = n + 384064 then
      let r := corrFind (List.zipWith (· + ·) al ar) (List.zipWith (· + ·) sl sr)
      let lag := if d1.num O.llCorrMin ≤ r.2.1 then some (r.1, r.2.2.1, r.2.2.2, d1.mono) else y.lag
      d1.setLl f { s with others := s.others.map (fun z => if z.ctx = c then { z with lag := lag, corrAt := some d1.mono } else z) }
    else d1
  | none => d

/-- A lag not older than 2 · CORR_REFRESH_S (R269). -/
def Dev.llLag (d : Dev) (y : LlCtx) : Option (Int × Int × Int × Nat) :=
  y.lag.bind (fun l => if d.mono ≤ l.2.2.2 + 2000000000 * d.nat O.llCorrRefreshS then some l else none)

/-- Class of a context of a slot. -/
def LlCtx.cls (y : LlCtx) : Nat := (candClass y.cand.ty).getD 4

/-- A shadow in SHADOW, identified, delivering PCM (R269). -/
def Dev.llSound (d : Dev) (y : LlCtx) : Bool :=
  decide (d.cxSt y.ctx = 4) && y.known && (decide (y.cls < 2) || decide ((d.sel y.ctx 0).state = 2))

/-- The active line's delay and gain. -/
def LlSlot.line (s : LlSlot) : LlLine := if s.useB then s.lineB else s.lineA

/-- A shadow is eligible under a rule (R269, Table 9.10). `loss` disregards ALIGN (R272). -/
def Dev.eligible (d : Dev) (f : Nat) (y : LlCtx) (r : LlRule) (loss : Bool) : Bool :=
  d.llSound y && (loss || !r.flags.testBit 1 || (match d.llLag y with
    | none => false
    | some l => (let t := ((d.llSlot f).line.d : Int) - l.1
                 (decide (0 ≤ t) && decide (t ≤ 192000)) || r.flags.testBit 2)))

/-- Target delay, gain, lag used, and whether the switch is unaligned (Table 9.10). -/
def Dev.switchTo (d : Dev) (f : Nat) (y : LlCtx) (r : LlRule) (loss : Bool) : Nat × Int × Int × Bool :=
  let a := (d.llSlot f).line
  match (if r.flags.testBit 1 then (if loss then y.lag else d.llLag y) else none) with
  | none => (a.d, a.g, 0, false)
  | some l =>
    let t := (a.d : Int) - l.1
    let lim := d.num O.llGainLimit
    let g := if r.flags.testBit 3 then clampI (-lim) lim (a.g + l.2.1 - l.2.2.1) else a.g
    ((clampI 0 192000 t).toNat, g, l.1, decide (t < 0 ∨ 192000 < t))

/-- The other line made to record a context: a line that already does keeps its samples (R274). -/
def LlLine.point (l : LlLine) (c : Nat) : LlLine := if l.ctx = c then l else { ctx := c }

/-- The slot with its idle line changed. -/
def LlSlot.idle (s : LlSlot) (h : LlLine → LlLine) : LlSlot := if s.useB then { s with lineA := h s.lineA } else { s with lineB := h s.lineB }

/-- A switch starts (R274, R275): the target's line is set, and one transaction changes both REQUESTs. `wr` writes it. -/
def Dev.startSwitch (wr : Dev → List (Nat × Nat) → Dev) (d : Dev) (f : Nat) (y : LlCtx) (r : LlRule) (loss : Bool) : Dev :=
  let p := d.switchTo f y r loss
  let s := d.llSlot f
  let d1 := d.setLl f { (s.idle (fun l => { l.point y.ctx with d := p.1, g := p.2.1 })) with
    target := some (y.ctx, r.blend, p.2.2.1), fade := none, holdoff := d.mono + 1000000 * d.nat (O.llHoldoffMs f) }
  let d2 := if p.2.2.2 then (d1.inc (O.llUnaligned f)).llEvent f 8 else d1
  wr (d2.setN (O.llFollowState f) 3) ([(O.cxRequest y.ctx, 1)] ++ (match s.active with | some a => [(O.cxRequest a.ctx, 2)] | none => []))

/-- The best of some shadows by FQ, ties to the earlier. -/
def bestFq (l : List (LlCtx × LlRule × Int)) : Option (LlCtx × LlRule × Int) :=
  l.foldl (fun (b : Option (LlCtx × LlRule × Int)) x => match b with
    | none => some x
    | some g => if g.2.2 < x.2.2 then some x else b) none

/-- Eligible shadows on loss: rules with ENABLE set, everything else disregarded (R272). -/
def Dev.lossChoice (d : Dev) (f cls : Nat) : Option (LlCtx × LlRule × Int) :=
  bestFq ((d.llSlot f).ordered.filterMap (fun y => (d.llRule cls y.cls).bind (fun r =>
    if d.eligible f y r true then some (y, r, (d.llFq y.ctx).getD (-32768)) else none)))

/-- One run of R272 for a slot in ACTIVE with its active context in order: dwells advance, and a switch may be chosen. -/
def Dev.decide272 (wr : Dev → List (Nat × Nat) → Dev) (d : Dev) (f : Nat) (a : LlCtx) : Dev :=
  let s := d.llSlot f
  let fa := d.llFq a.ctx
  let good := fun (y : LlCtx) => (d.llRule a.cls y.cls).bind (fun r =>
    match fa, d.llFq y.ctx with
    | some qa, some qs => if d.eligible f y r false ∧ qa < r.leave ∧ r.least ≤ qs ∧ qa + r.margin ≤ qs then some (r, qs) else none
    | _, _ => none)
  let l := s.others.map (fun y => { y with since := if (good y).isSome then (if y.since.isNone then some d.mono else y.since) else none })
  let d1 := d.setLl f { s with others := l }
  let cand := (d1.llSlot f).ordered.filterMap (fun y => (good y).bind (fun p =>
    match y.since with
    | some t => if t + 1000000 * p.1.dwell ≤ d.mono ∧ s.holdoff ≤ d.mono then some (y, p.1, p.2) else none
    | none => none))
  match bestFq cand with
  | some x => d1.startSwitch wr f x.1 x.2.1 false
  | none => d1

/-- Entry to LOST: event 124 with cause 2; a context that is still there becomes a shadow (log 26), or is released where the slot has its four
(R29). -/
def Dev.goLost (wr : Dev → List (Nat × Nat) → Dev) (d : Dev) (f : Nat) : Dev :=
  let s := d.llSlot f
  let alive := s.active.filter (fun a => decide (d.nat (O.cxOwner a.ctx) = 3) && decide (d.cxSt a.ctx ≠ 0) && decide (d.cxSt a.ctx ≠ 6))
  let keep := decide (s.others.length < 4)
  let d1 := ((d.setLl f { s with active := none, others := if keep then s.others ++ alive.toList else s.others }).setN (O.llFollowState f) 4).llEvent f 2
  match alive with | some a => if keep then wr d1 [(O.cxRequest a.ctx, 2)] else d1.llDrop f a false | none => d1

/-- A slot in SEARCHING: the first context that has locked and is identified becomes active (Table 9.9). -/
def Dev.llSearch (wr : Dev → List (Nat × Nat) → Dev) (d : Dev) (f : Nat) : Dev :=
  let s := d.llSlot f
  match s.ordered.find? (fun y => y.known && (decide (d.cxSt y.ctx = 3) || decide (d.cxSt y.ctx = 4))) with
  | none => d
  | some y =>
    let dl := if y.cls < 2 then d.nat (O.llFollowDelay f) else 0
    let d1 := d.setLl f { s with active := some y, others := s.others.filter (fun z => decide (z.ctx ≠ y.ctx)), useB := false, fadeIn := none, fade := none,
                                 lineA := { ctx := y.ctx, d := dl }, lineB := {} }
    let d2 := ((d1.setN (O.llFollowState f) 2).setN (O.llOutDelay f) dl).setN (O.llOutGain f) 0
    if d2.cxEff y.ctx (O.cxRequest y.ctx) = 1 then d2 else wr d2 [(O.cxRequest y.ctx, 1)]

/-- A slot in BLENDING whose target has left SHADOW and LOCKED other than into HOLD reverses the crossfade (Table 9.9). -/
def Dev.llBlend (wr : Dev → List (Nat × Nat) → Dev) (d : Dev) (f : Nat) : Dev :=
  let s := d.llSlot f
  match s.target with
  | none => d
  | some t =>
    let st := d.cxSt t.1
    if d.nat (O.cxOwner t.1) = 3 ∧ 3 ≤ st ∧ st ≤ 5 then d
    else
      let d1 := (d.setLl f { s with target := none, fade := s.fade.map (fun h => { h with rev := some d.au.k }) }).setN (O.llFollowState f) 2
      match s.active with | some a => wr d1 [(O.cxRequest a.ctx, 1)] | none => d1

/-- A slot in ACTIVE decides; a lost active context is left at once (R272). -/
def Dev.llActive (wr : Dev → List (Nat × Nat) → Dev) (d : Dev) (f : Nat) : Dev :=
  let s := d.llSlot f
  match s.active with
  | none => d.goLost wr f
  | some a =>
    let st := d.cxSt a.ctx
    if d.nat (O.cxOwner a.ctx) = 3 ∧ (st = 3 ∨ st = 4) then d.decide272 wr f a
    else
      match d.lossChoice f a.cls with
      | some x => d.startSwitch wr f x.1 x.2.1 true
      | none => d.goLost wr f

/-- A slot in LOST switches once a shadow is eligible, the active delay unchanged. -/
def Dev.llLost (wr : Dev → List (Nat × Nat) → Dev) (d : Dev) (f : Nat) : Dev :=
  let s := d.llSlot f
  match s.ordered.find? (fun y => d.llSound y) with
  | none => d
  | some y =>
    let r : LlRule := { src := 0, dst := y.cls, flags := 1, leave := 0, margin := 0, least := 0, dwell := 0,
                        blend := ((d.llRule y.cls y.cls).map (fun r => r.blend)).getD 0 }
    d.startSwitch wr f y r true

/-- The idle line records the first eligible shadow in candidate order (R269, R274), under the rule from the active source's class, if there is one; none while a
crossfade uses it. -/
def Dev.llLines (d : Dev) (f : Nat) : Dev :=
  let s := d.llSlot f
  if d.nat (O.llFollowState f) = 2 ∧ s.fade.isNone then
    let free : LlRule := { src := 0, dst := 0, flags := 0, leave := 0, margin := 0, least := 0, dwell := 0, blend := 0 }
    let rule := fun (y : LlCtx) => ((s.active.map LlCtx.cls).bind (fun k => d.llRule k y.cls)).getD free
    match s.ordered.find? (fun y => d.eligible f y (rule y) false) with
    | some y => d.setLl f (s.idle (fun l => l.point y.ctx))
    | none => d
  else d

/-- One slot in a run of job 0x0001. -/
def Dev.followSlot (wr : Dev → List (Nat × Nat) → Dev) (d : Dev) (f : Nat) : Dev :=
  let off := d.ll.img.isSome && decide (d.nat O.llLlRecords = 0)
  let st := d.nat (O.llFollowState f)
  if st = 0 then d
  else if off then (if st = 5 then d else d.llClear f 5)
  else
    let d0 := if st = 5 then d.setN (O.llFollowState f) 1 else d
    let keep := (d0.llSlot f).keep && decide (st = 3)
    let d00 := if keep then d0 else (d0.setLl f { d0.llSlot f with keep := false }).buildCands f
    let d1 := (d00.llReview f).llPrune f
    let d2 := match d1.nat (O.llFollowState f) with
      | 1 => d1.llSearch wr f
      | 2 => d1.llActive wr f
      | 3 => d1.llBlend wr f
      | 4 => d1.llLost wr f
      | _ => d1
    ((d2.llCreate f).llLines f).llShow f

/-- A checked image takes effect at a run of job 0x0001 (R259). -/
def Dev.llTakes (d : Dev) : Dev :=
  match d.ll.next with
  | none => d
  | some w =>
    let h := w.head
    let blend := fun (x : Dev) (f : Nat) => if x.nat (O.llFollowState f) = 3 then x.setLl f { x.llSlot f with keep := true } else x
    let d1 : Dev := blend (blend { d with ll := { d.ll with next := none, img := some { w with size := d.nat O.llLlCacheBlocks } } } 0) 1
    (((((((((d1.setN O.llLlState 2).setN O.llLlActResult 2).setN O.llLlRunBank w.area).setN O.llLlImageId (leAt h 16 4)).setN O.llLlVersion (leAt h 20 4)).setRaw
      O.llLlRoot (slice h 48 32)).setN O.llLlRecords (leAt h 32 4)).setN O.llLlServices (leAt h 36 4)).setN O.llLlBlocksBad 0).llEvent 0 6

/-- FOLLOW_JOB: Keeper job 0x0001 runs. `wr` is a transaction of firmware on K2. -/
def Dev.followJob (wr : Dev → List (Nat × Nat) → Dev) (d : Dev) (us : Nat) : Dev :=
  let d1 := d.llTakes.cellNow.prefetch
  let d2 := d1.setN O.llRulesSource d1.llRules.2.1
  let d3 := d2.setN O.llLlLookupMaxUs (max (d2.nat O.llLlLookupMaxUs) us : Nat)
  [0, 1].foldl (fun (x : Dev) f => x.followSlot wr f) d3

/-- FOLLOW_XFADE_START (R275): at the first 1 ms boundary after the target runs LOCKED and its line holds its delay. -/
def Dev.xfadeStart (d : Dev) (f : Nat) : Dev :=
  let s := d.llSlot f
  let l := if s.useB then s.lineA else s.lineB
  match s.target with
  | some t =>
    if d.nat (O.llFollowState f) = 3 ∧ s.fade.isNone ∧ d.cxSt t.1 = 3 ∧ l.ctx = t.1 ∧ l.d ≤ l.held.length then
      let d1 := d.timeTo ((d.now + 999999) / 1000000 * 1000000)
      d1.setLl f { d1.llSlot f with fade := some { start := frameAfter d1.now, len := framesMs t.2.1 } }
    else d
  | none => d

/-- FOLLOW_XFADE_DONE (Table 9.9): the lines exchange their roles. -/
def Dev.xfadeDone (d : Dev) (f : Nat) : Dev :=
  let s := d.llSlot f
  match s.target, s.fade with
  | some t, some h =>
    if d.nat (O.llFollowState f) = 3 ∧ h.rev.isNone then
      let d1 := d.timeTo ((h.start + h.len) * 1000000000 / 48000)
      let l := if s.useB then s.lineA else s.lineB
      let new := s.others.find? (fun y => decide (y.ctx = t.1))
      let rest := s.others.filter (fun y => decide (y.ctx ≠ t.1)) ++ s.active.toList
      let d2 := d1.setLl f { s with active := new, others := rest.map (fun y => { y with lag := none, since := none }), useB := !s.useB, target := none, fade := none,
                                    fadeIn := some (h.start - 240) }
      ((((((((d2.setN (O.llFollowState f) 2).inc (O.llSwitchCount f)).setN (O.llOutDelay f) l.d).setN (O.llOutGain f) l.g).setN (O.llLastLag f) t.2.2).setN
        (O.llLastSwitch f) d2.now).llShow f).llEvent f 1)
    else d
  | _, _ => d

/-! ### Rows -/

/-- LL_CHECKS_DONE (R256). -/
def execLlChecksDone (s : State) : Host.Outcome State Fault Refusal := s.upd (fun d => d.byKeeper 0 Dev.llChecksDone)
/-- LL_BLOCK_FETCH (R257). -/
def execLlBlockFetch (b : Nat) (s : State) : Host.Outcome State Fault Refusal := s.upd (fun d => d.byKeeper 2 (fun x => (x.llFetch b).1))
/-- SHADOW_ID_TIMEOUT (R267). -/
def execShadowIdTimeout (f c : Nat) (s : State) : Host.Outcome State Fault Refusal := s.upd (fun d => d.byKeeper 2 (fun x => x.llIdTimeout f c))
/-- CORR_REFRESH (R273). -/
def execCorrRefresh (f c : Nat) (al ar sl sr : List Int) (s : State) : Host.Outcome State Fault Refusal := s.upd (fun d => d.corrRefresh f c al ar sl sr)
/-- FOLLOW_XFADE_START (R275). -/
def execFollowXfadeStart (f : Nat) (s : State) : Host.Outcome State Fault Refusal := s.upd (fun d => d.byKeeper 2 (fun x => x.xfadeStart f))
/-- FOLLOW_XFADE_DONE (R271). -/
def execFollowXfadeDone (f : Nat) (s : State) : Host.Outcome State Fault Refusal := s.upd (fun d => d.byKeeper 2 (fun x => x.xfadeDone f))
/-- POSITION_STALE (R262). -/
def execPositionStale (s : State) : Host.Outcome State Fault Refusal := s.upd (fun d => d.byKeeper 2 Dev.posStale)

end Sys2Proof.Machine
end

