-- ==== Sys2Proof/Machine/Power.lean ====
section
/-! DEFINITION. Power states, supplies, resets, watchdogs and temperature (chapter 21). -/

namespace Sys2Proof.Machine

/-! ### Reset (R566, R567) -/

/-- The wake configuration copied to the AO island (R554, R556). -/
def Dev.aoCopy (d : Dev) : Dev :=
  { d with pw := { d.pw with aoWake0 := d.nat O.pwWake0Mode, aoWake1 := d.nat O.pwWake1Mode, aoDebounce := d.nat O.pwWakeDebounceMs,
                             aoTimer := d.nat O.pwWakeTimerS, aoPfail := d.flag O.pwWake1Pfail, aoSupplyCtrl := d.flag O.pwSupplyCtrl,
                             aoThermRestart := d.flag O.pwThermRestart } }

/-- What outlives the loss of every island but AO: eNVM, flash, OTP with the K objects, the AO island, and elapsed time. -/
def Dev.aoOnly (d : Dev) (ph : Phase) : Dev :=
  { now := 0, mono := d.mono, free := d.free, objs := d.objs.filter (fun p => decide (Dict.cls p.1 = .K)), nvm := d.nvm, flash := d.flash,
    sec := { seed := d.sec.seed, ident := d.sec.ident, epoch := d.sec.epoch },
    pw := { phase := ph, cause := d.pw.cause, detail := d.pw.detail, prev5 := d.pw.step5, thermal := d.pw.thermal, reachedAt := d.mono,
            aoWake0 := d.pw.aoWake0, aoWake1 := d.pw.aoWake1, aoDebounce := d.pw.aoDebounce, aoTimer := d.pw.aoTimer, aoPfail := d.pw.aoPfail,
            aoSupplyCtrl := d.pw.aoSupplyCtrl, aoThermRestart := d.pw.aoThermRestart, supplyEn := d.pw.supplyEn, refclkLost := d.pw.refclkLost } }

/-- GPIO15 as an ordinary output: the level it drives, none where it is an input or released (R608, R609). -/
def Dev.gpio15Drive (d : Dev) : Option Bool :=
  let out := (d.nat O.syGpioOut).testBit 15
  if d.pw.restored ∧ d.pw.supplyEn.isNone ∧ (d.nat O.syGpioDir).testBit 15 ∧ !((d.nat O.syGpioOdrain).testBit 15 && out) then some out else none

/-- Every island but AO loses power (R556, R570): SUPPLY_EN goes low where the AO island's copy of SUPPLY_CTRL is 1, and GPIO15 keeps its level
where it is 0 (R561, R609). -/
def Dev.powerDown (d : Dev) : Dev :=
  let r := d.aoOnly .standby
  { r with pw := { r.pw with supplyEn := if r.pw.aoSupplyCtrl then some false else none, gpio15 := if r.pw.aoSupplyCtrl then none else d.gpio15Drive } }

/-- The device reset with a cause and detail; the boot after thermal shutdown has cause THERMAL whatever ends it (R570). The device
stays in reset until RESET_RELEASE. -/
def Dev.reset (d : Dev) (cause detail : Nat) : Dev :=
  let r := d.aoOnly .held
  let c := match d.pw.thermal with | some s => (7, s) | none => (cause, detail)
  let up := match d.pw.supplyEn with | some false => some true | x => x
  (({ r with pw := { r.pw with cause := c.1, detail := c.2, thermal := none, supplyEn := up } } : Dev).setN O.pwBootCount 1)

/-- RESET_CAUSE (R567). -/
def Dev.causeWord (d : Dev) : Nat := d.pw.cause + 256 * d.pw.detail + (if d.pw.prev5 then 65536 else 0)

/-! ### Event 2 (R574) -/

/-- A change of PW_STATE, with event 2. -/
def Dev.pwGo (d : Dev) (ph : Phase) : Dev :=
  let a := d.pw.phase.code
  let d1 := ({ d with pw := { d.pw with phase := ph } }).setN O.pwPwState ph.code
  let d2 := if ph = .run then d1.sweepAll else d1
  if a = ph.code then d2 else d2.raise 2 ph.code

/-- Every chain with CHAIN_ENABLE = 1 is in RUN. -/
def Dev.chainsUp (d : Dev) : Bool := d.chainList.all (fun n => !d.flag (O.cpChainEnable n) || decide (d.nat (O.cpChainState n) = 2))

/-- A return to RUN completes once every enabled chain is in RUN (Table 21.2, R555): event 2, and event 3 with the wake cause. -/
def Dev.pwSettled (d : Dev) : Dev :=
  if d.chainsUp then
    match d.pw.waking with
    | some c => (({ d with pw := { d.pw with waking := none } }).pwGo .run).raise 3 c
    | none => if d.pw.rising then ({ d with pw := { d.pw with rising := false } }).pwGo .run else d
  else d

/-- The chains that CHAIN_ENABLE switches off power down once the power-up calibration has ended and the configuration is restored
(Table 21.6). -/
def Dev.chainsTrim (d : Dev) : Dev :=
  if d.pw.restored then d.chainList.foldl (fun (x : Dev) n => if !x.flag (O.cpChainEnable n) ∧ 2 ≤ x.nat (O.cpChainState n) then x.chainOff n else x) d else d

/-! ### Requests (R552, R553) -/

/-- A SENTRY context that is not FREE. -/
def Dev.sentryReady (d : Dev) : Bool := d.sentryCtx.isSome

/-- Whether a write of PW_REQUEST is refused with STATE (R553). -/
def Dev.pwRefused (d : Dev) (v : Nat) : Bool :=
  match d.pw.phase with
  | .ready => decide (v = 1) || decide (v = 3)
  | .run => decide (v = 2) || (decide (v = 3) && !d.sentryReady)
  | .sentry => decide (v ≠ 5)
  | _ => true

/-- Lanes down and feeds low, in READY (Table 21.2). -/
def Dev.pwReady (d : Dev) : Dev :=
  let d1 := d.chainList.foldl (fun (x : Dev) n => x.chainOff n) d.laneGStop
  d1.feedsHold.pwGo .ready

/-- Feeds and lanes of chains that start with power-up calibration (R67, R306). -/
def Dev.lanesStart (d : Dev) (lanes : Nat) : Dev :=
  (d.chainList.foldl (fun (x : Dev) n => if lanes.testBit n then x.feedHold n else x) d).calStart lanes

/-- At a return to RUN, the feeds of chains whose lane does not start with power-up calibration are released (R67); CHAIN_ENABLE does not matter to them
(R68). -/
def Dev.feedsRelease (d : Dev) : Dev :=
  d.chainList.foldl (fun (x : Dev) n => if (x.chain n).calSince.isNone ∧ (x.chain n).feedHeld then x.feedRelease n else x) d

/-- Chain of ANT_CHAIN entry 0 of the SENTRY context. -/
def Dev.sentryChain (d : Dev) : Option Nat := d.sentryCtx.map (fun c => d.nat (O.cxAntChain c 0))

/-- SENTRY entry, steps 1 to 5 of R554. -/
def Dev.sentryEnter (d : Dev) : Dev :=
  let keep := d.sentryCtx
  let d1 := d.activeCtxs.foldl (fun (x : Dev) c => if some c = keep then x else x.cxRelease c) d
  let d2 := ([0, 1] : List Nat).foldl (fun (x : Dev) f => if x.nat (O.llFollowState f) = 0 then x else x.llClear f 0) d1
  let ch := d2.sentryChain
  let d3 := d2.audioTails.chainList.foldl (fun (x : Dev) n => if some n = ch then x else (x.chainOff n).feedHold n) d2.audioTails
  let d4 := (match d3.nat O.cpLanegStage, ch with
    | 0, _ => d3
    | _, some n => if d3.nat O.cpLanegChain = n then d3 else d3.laneGStop
    | _, none => d3.laneGStop)
  ((match ch with | some n => d4.sweepOnly n | none => d4).aoCopy).pwGo .sentryEntry

/-- PW_REQUEST committed (Table 21.2). -/
def Dev.pwRequest (d : Dev) (v : Nat) : Dev :=
  match v with
  | 1 => if d.wt.img.isSome then { d with wt := { d.wt with stopping := true } } else d.watchStop.pwReady
  | 2 =>
    let x := (d.lanesEpoch.lanesStart d.enabledLanes).feedsRelease.bootSelect
    ({ x with pw := { x.pw with rising := true } } : Dev).pwSettled
  | 3 => d.sentryEnter
  | 4 => ((d.activeCtxs.foldl (fun (x : Dev) c => x.cxRelease c) d).audioTails.feedsHold).pwGo .standbyEntry
  | 5 => { d with pw := { d.pw with pendReset := some (10, 0, d.mono + 10000000) } }
  | _ => d

/-! ### Wakes (R555, R557) -/

/-- The return to RUN from SENTRY (R555), steps 1 to 3. -/
def Dev.sentryWake (d : Dev) (c : Nat) : Dev :=
  let d1 := (({ d with pw := { d.pw with waking := some c }, wt := { d.wt with resume := true } } : Dev).setN O.pwWakeCause c).audioOn
  let lanes := d1.chainList.foldl (fun m n => if d1.flag (O.cpChainEnable n) && decide (d1.nat (O.cpChainState n) ≠ 2) then withBit m n true else m) 0
  ((List.range 4).foldl (fun (x : Dev) k => x.setN (O.pwKeeperFreq k) (x.num (O.pwKeeperFmax k))) (d1.lanesStart lanes).feedsRelease).pwSettled

/-- A wake source fires: STANDBY starts up again, SENTRY returns to RUN, and an entry latches it (R553). Two sources in one AO cycle
leave the lower code. -/
def Dev.wake (d : Dev) (c : Nat) : Dev :=
  match d.pw.phase with
  | .standby => (fun (x : Dev) => { x with pw := { x.pw with wakeEvent := some c } }) (d.reset 11 c)
  | .sentry => if d.pw.waking.isSome then d else d.sentryWake c
  | .standbyEntry | .sentryEntry =>
    { d with pw := { d.pw with latched := some (match d.pw.latched with | some e => min e c | none => c) } }
  | _ => d

/-- WAKE_PIN (R557). -/
def Dev.wakePin (d : Dev) (pin : Nat) : Dev :=
  if pin = 0 then (if d.pw.aoWake0 = 0 then d else d.wake 1)
  else if d.pw.aoWake1 = 0 ∨ d.pw.aoPfail then d
  else d.wake 2

/-- WAKE_TIMER (R557): timed by the 32 kHz RC to ±10 %. -/
def Dev.wakeTimer (d : Dev) : Dev :=
  if d.pw.aoTimer = 0 ∨ (d.pw.phase ≠ .standby ∧ d.pw.phase ≠ .sentry) ∨ (d.pw.thermal.isSome ∧ !d.pw.aoThermRestart) then d
  else (d.after d.pw.reachedAt (900 * d.pw.aoTimer)).wake 3

/-- Without Harbour no Sync arrives: a device that was DISCIPLINED goes to HOLDOVER (R528, Table 14.8). -/
def Dev.holdOver (d : Dev) : Dev := if d.nat O.tmTimeState = 2 then ((d.setN O.tmTimeState 3).raise 101 3).discShow else d

/-- The modem stops with Harbour (R18, R21): receivers, poll entries, hops, waits, acknowledgements and assignments under way end (log 102). What firmware
holds of the Buoys, and packets already received, stay. -/
def Dev.blStop (d : Dev) : Dev :=
  { d with bl := { d.bl with rx := [], todo := [], entry := none, cur := none, hop := none, settled := false, calWait := false, calHeld := false,
                             wait := none, acks := [], assigns := [] } }

/-- SENTRY_REACHED (R554, step 6): K1–K3, Harbour and audio stop; a latched wake acts at once. -/
def Dev.sentryReached (d : Dev) : Dev :=
  if d.pw.phase ≠ .sentryEntry then d
  else
    let d1 := (d.audioOff.setN (O.pwKeeperFreq 0) 200)
    let d2 := ([1, 2, 3] : List Nat).foldl (fun (x : Dev) k => x.setN (O.pwKeeperFreq k) 0) d1
    let d3 := ((({ d2 with pw := { d2.pw with reachedAt := d2.mono, latched := none } } : Dev).pwGo .sentry).holdOver).blStop
    match d.pw.latched with
    | some c => d3.wake c
    | none => d3

/-- No bank store of a configuration, a calibration or the LMS state is pending or runs (R556, step 2). -/
def Dev.storesIdle (d : Dev) : Bool := d.store.job.isNone && d.store.cfgDue.isNone && d.store.calDue.isNone && d.store.lmsDue.isNone

/-- STANDBY_REACHED (R556, steps 3 to 5), once no store is pending and no power-fail condition holds; a latched wake acts at once. -/
def Dev.standbyReached (d : Dev) : Dev :=
  if d.pw.phase ≠ .standbyEntry ∨ !d.storesIdle ∨ d.pfail then d
  else
    let d2 := d.checkpoint.logFlush.aoCopy.powerDown
    match d.pw.latched with
    | some c => d2.wake c
    | none => d2

/-- DEFERRED_RESET: the delay of a SOFTWARE, FW_UPDATE or RECOVERY reset ends. -/
def Dev.deferredReset (d : Dev) : Dev :=
  match d.pw.pendReset with
  | some (c, t, at_) => (d.clockTo at_).reset c t
  | none => d

/-! ### Supplies and clocks (R559 to R563) -/

/-- SUPPLY_WARNING (R559): the monitor reports a supply below its warning threshold. -/
def Dev.supplyWarning (d : Dev) (v mv : Nat) : Dev :=
  if !d.fabricOn ∨ supplyWarnMv v ≤ mv then d
  else
    let d1 := if d.pfail then d else d.inc O.pwPfailCount
    ((d1.setN O.pwSupplyWarn (withBit (d1.nat O.pwSupplyWarn) v true)).setN (O.pwSupplyMv v) mv).raise 4 v

/-- BROWN_OUT (R559): VDD_AO resets the AO island itself. -/
def Dev.brownOut (d : Dev) (v : Nat) : Dev :=
  if v = 5 then
    let r := ({ d with pw := {} } : Dev).reset 1 0
    { r with pw := { r.pw with cause := 1, detail := 0 } }
  else if d.pw.phase = .standby then d
  else (d.reset 3 v).setN O.pwBorCount 1

/-- PFAIL_ONSET (R560). -/
def Dev.pfailOnset (d : Dev) : Dev :=
  if d.fabricOn ∧ d.flag O.pwWake1Pfail ∧ !d.pw.wake1Low then
    let d1 := if d.pfail then d else d.inc O.pwPfailCount
    { d1 with pw := { d1.pw with wake1Low := true } }
  else d

/-- PFAIL_CLEAR (R560): every supply is back and WAKE1 is high. -/
def Dev.pfailClear (d : Dev) : Dev := ({ d with pw := { d.pw with wake1Low := false } }).setN O.pwSupplyWarn 0

/-- REFCLK_LOSS (R563); STANDBY runs without REFCLK. -/
def Dev.refclkLoss (d : Dev) : Dev :=
  if d.pw.phase = .standby ∨ d.pw.refclkLost then d
  else
    let r := d.reset 12 0
    { r with pw := { r.pw with refclkLost := true } }

/-! ### Watchdogs and halts (R568, R569) -/

/-- A Keeper's state. -/
def Dev.core (d : Dev) (k : Nat) : Core := Tab.get {} d.kp.cores k
/-- The same replaced. -/
def Dev.setCore (d : Dev) (k : Nat) (c : Core) : Dev := { d with kp := { d.kp with cores := Tab.set {} d.kp.cores k c } }

/-- A Keeper whose watchdog runs: register mode, clocked, not halted. -/
def Dev.wdtRuns (d : Dev) (k : Nat) : Bool :=
  let c := d.core k
  d.fabricOn && !c.stackMode && !c.dead && !c.dbg && (decide (k = 0) || !d.asleep)

/-- WATCHDOG_WARNING (R568): half of WDT_MS has passed since the watchdog's restart, which is no command (log 31). -/
def Dev.watchdogWarning (d : Dev) (k : Nat) : Dev :=
  if d.wdtRuns k then (d.clockTo (Tab.get 0 d.kp.wdtAt k + 500000 * d.nat O.pwWdtMs)).raise 7 k else d

/-- WATCHDOG_EXPIRY (R568). -/
def Dev.watchdogExpiry (d : Dev) (k : Nat) : Dev :=
  if d.wdtRuns k then ((d.clockTo (Tab.get 0 d.kp.wdtAt k + 1000000 * d.nat O.pwWdtMs)).reset 4 k).setN O.pwWdtCount 1 else d

/-- BOOT_WATCHDOG (R568). -/
def Dev.bootWatchdog (d : Dev) : Dev :=
  if d.pw.phase = .starting ∧ !d.pw.entered ∧ !d.pw.step5 ∧ !(d.core 0).dbg then (d.after d.pw.bootAt 2000).reset 4 255 else d

/-- KEEPER_HALT_RESET (R569). -/
def Dev.keeperHaltReset (d : Dev) (k : Nat) : Dev :=
  match d.pw.haltAt.find? (fun p => decide (p.1 = k)) with
  | some p => if d.nat O.pwHaltResetMs = 0 then d else (d.after p.2 (d.nat O.pwHaltResetMs)).reset 5 k
  | none => d

/-- A double fault of Keeper `k` (R472, R569): K0 resets the device at once; of K1–K3, event 1 and a reset later. -/
def Dev.doubleFault (d : Dev) (k cause : Nat) : Dev :=
  let d1 := ((d.setCore k { d.core k with dead := true }).setN (O.kpCoreState k) 2).setN (O.kpHaltCause k) cause
  if k = 0 then d1.reset 5 0
  else ({ d1 with pw := { d1.pw with haltAt := Tab.set 0 d1.pw.haltAt k d1.mono } }).raise 1 k

/-! ### Temperature (R570) -/

/-- Thermal shutdown: STANDBY without the steps of R556, latched with the sensor that reached 150 °C. The AO island holds the configuration of the
last entry to SENTRY or STANDBY (R573, R609). -/
def Dev.thermalShutdown (d : Dev) (sensor : Nat) : Dev :=
  let r := d.powerDown
  { r with pw := { r.pw with thermal := some sensor } }

/-- The sensor with the highest reading, the lowest of several. -/
def hottest (l : List Int) : Nat := (List.range 9).foldl (fun b s => if l.getD b 0 < l.getD s 0 then s else b) 0

/-- TEMP_SAMPLE (R570): the sensors on the 1 ms tick, in 0.01 °C. -/
def Dev.tempSample (d : Dev) (l : List Int) : Dev :=
  if !d.fabricOn then d
  else
    let d0 := d.tick 8600 1000000 0
    let s := hottest l
    let top := l.getD s 0
    let was := d0.dieTemp
    let d1 := (List.range 9).foldl (fun (x : Dev) i => x.setN (O.pwTemp i) (l.getD i 0)) d0
    let d2 := d1.setN O.pwTempMax (max (d1.num O.pwTempMax) top)
    let w := d2.num O.pwThermWarnC
    let d3 := if d2.pw.thArmed ∧ w ≤ top then ({ d2 with pw := { d2.pw with thArmed := false } }).raise 5 s
      else if top < w - 200 then { d2 with pw := { d2.pw with thArmed := true } } else d2
    let up := if top < 14000 then none else d3.wt.rankUpAt
    let dn := if 13500 ≤ top then none else if was < 13500 then d3.wt.rankDownAt else some d3.mono
    let d4 := ({ d3 with wt := { d3.wt with rankUpAt := up, rankDownAt := dn } }).calTemps
    if 15000 ≤ top then (d4.raise 6 s).thermalShutdown s else d4

/-- THERMAL_RESTART_CHECK (R570): sensor 8 read every 1 s. -/
def Dev.thermalCheck (d : Dev) (t8 : Int) : Dev :=
  if d.pw.phase = .standby ∧ d.pw.thermal.isSome ∧ d.pw.aoThermRestart then
    let d1 := d.after d.pw.reachedAt 1000
    let d2 : Dev := { d1 with pw := { d1.pw with reachedAt := d1.mono } }
    if t8 < 12000 then d2.wake 5 else d2
  else d

/-! ### Release (R571) -/

/-- The calibration bank that the boot ROM selects (R320). -/
def Dev.calBankPick (d : Dev) : Dev :=
  let a := d.nvm.calA
  let b := d.nvm.calB
  match pickBank a.valid a.seq b.valid b.seq with
  | none => d
  | some isA =>
    let k := if isA then a else b
    let d1 := k.vals.foldl (fun (x : Dev) p => x.put p.1 p.2) d
    let d2 : Dev := { d1 with cal := { d1.cal with refs := k.refs, fx := if d.part = 1 then k.fx else [], sel := k.seed, seed := k.seed } }
    ((d2.setN O.caFxCount d2.cal.fx.length).setN O.caCalBank (if isA then 1 else 2)).setN O.caCalSeq k.seq

/-- RESET_RELEASE (R571): every supply is good and RESET_N is high. Straps are latched, device time starts at 0, the boot ROM starts
on K0 and selects the calibration bank, and the lanes of every chain start with power-up calibration. -/
def Dev.release (d : Dev) (straps : Nat) : Dev :=
  if d.pw.phase ≠ .held ∨ d.pw.refclkLost then d
  else
    let d0 : Dev := { d with now := 0, pw := { d.pw with phase := .starting, bootAt := d.mono } }
    let d1 := ((d0.setN O.syStraps (straps % 16 : Nat)).setN O.pwResetCause d0.causeWord).setN O.pwWakeCause (match d0.pw.wakeEvent with | some c => c | none => 0 : Nat)
    let d2 := (d1.setN (O.pwKeeperFreq 0) 400).lanesEpoch.calBankPick
    let d3 := d2.calStart (d2.chainList.foldl (fun m n => withBit m n true) 64)
    let rec_ := if straps.testBit 3 ∧ (d3.pw.cause = 1 ∨ d3.pw.cause = 2) then 2 else if d3.pw.cause = 9 then 1 else 0
    { d3 with sec := { d3.sec with recovery := rec_ } }

/-! ### Rows -/

/-- RESET_RELEASE (R571). -/
def execResetRelease (straps : Nat) (s : State) : Host.Outcome State Fault Refusal := s.upd (fun d => d.release straps)
/-- RESET_PIN (R566). -/
def execResetPin (s : State) : Host.Outcome State Fault Refusal := s.upd (fun d => d.reset 2 0)
/-- SUPPLY_WARNING (R559). -/
def execSupplyWarning (v mv : Nat) (s : State) : Host.Outcome State Fault Refusal := s.upd (fun d => d.supplyWarning v mv)
/-- BROWN_OUT (R559). -/
def execBrownOut (v : Nat) (s : State) : Host.Outcome State Fault Refusal := s.upd (fun d => d.brownOut v)
/-- PFAIL_ONSET (R560). -/
def execPfailOnset (s : State) : Host.Outcome State Fault Refusal := s.upd Dev.pfailOnset
/-- PFAIL_CLEAR (R560). -/
def execPfailClear (s : State) : Host.Outcome State Fault Refusal := s.upd Dev.pfailClear
/-- REFCLK_LOSS (R563). -/
def execRefclkLoss (s : State) : Host.Outcome State Fault Refusal := s.upd Dev.refclkLoss
/-- REFCLK_RETURN (R563). -/
def execRefclkReturn (s : State) : Host.Outcome State Fault Refusal := s.upd (fun d => { d with pw := { d.pw with refclkLost := false } })
/-- WATCHDOG_WARNING (R568). -/
def execWatchdogWarning (k : Nat) (s : State) : Host.Outcome State Fault Refusal := s.upd (fun d => d.watchdogWarning k)
/-- WATCHDOG_EXPIRY (R568). -/
def execWatchdogExpiry (k : Nat) (s : State) : Host.Outcome State Fault Refusal := s.upd (fun d => d.watchdogExpiry k)
/-- BOOT_WATCHDOG (R568). -/
def execBootWatchdog (s : State) : Host.Outcome State Fault Refusal := s.upd Dev.bootWatchdog
/-- KEEPER_HALT_RESET (R569). -/
def execKeeperHaltReset (k : Nat) (s : State) : Host.Outcome State Fault Refusal := s.upd (fun d => d.keeperHaltReset k)
/-- SENTRY_REACHED (R554). -/
def execSentryReached (s : State) : Host.Outcome State Fault Refusal := s.upd Dev.sentryReached
/-- STANDBY_REACHED (R556). -/
def execStandbyReached (s : State) : Host.Outcome State Fault Refusal := s.upd Dev.standbyReached
/-- DEFERRED_RESET (R552). -/
def execDeferredReset (s : State) : Host.Outcome State Fault Refusal := s.upd Dev.deferredReset
/-- WAKE_PIN (R557). -/
def execWakePin (pin : Nat) (s : State) : Host.Outcome State Fault Refusal := s.upd (fun d => d.wakePin pin)
/-- WAKE_TIMER (R557). -/
def execWakeTimer (s : State) : Host.Outcome State Fault Refusal := s.upd Dev.wakeTimer
/-- TEMP_SAMPLE (R570). -/
def execTempSample (temps : List Int) (s : State) : Host.Outcome State Fault Refusal := s.upd (fun d => d.tempSample temps)
/-- THERMAL_RESTART_CHECK (R570). -/
def execThermalRestartCheck (t8 : Int) (s : State) : Host.Outcome State Fault Refusal := s.upd (fun d => d.thermalCheck t8)
/-- DEBUG_RESET (R567): at level CONTROL. -/
def execDebugReset (s : State) : Host.Outcome State Fault Refusal := s.upd (fun d => if d.nat O.scDebugState = 2 then d.reset 13 0 else d)
/-- POWERUP_CAL_DONE (R306): the calibration ends, chains that are not enabled power down, and a return to RUN may complete. -/
def execPowerupCalDone (r : CalReport) (s : State) : Host.Outcome State Fault Refusal := s.upd (fun d => (d.powerupCalDone r).chainsTrim.pwSettled)
/-- FH_INDICATION (R238): a warning that confirms in SENTRY wakes the device, one that confirms during its entry is latched (R244,
R553). -/
def execFhIndication (us : Nat) (s : State) : Host.Outcome State Fault Refusal :=
  s.upd (fun d => if (d.fhReach us).2 then (d.fhReach us).1.wake 4 else (d.fhReach us).1)

end Sys2Proof.Machine
end

