-- ==== Sys2Proof/Machine/Buoy.lean ====
section
/-! DEFINITION. The Buoy link (chapter 15): packets, the modem and its synthesiser, exchanges and polls, detection races, loading maps,
Buoy slots and Buoy firmware. -/

namespace Sys2Proof.Machine

/-! ### Packets (R420 to R424) -/

/-- Bits of a number, most significant first. -/
def bitsOf : Nat → Nat → List Bool
  | 0, _ => []
  | n + 1, v => v.testBit n :: bitsOf n v

/-- One bit of CRC-8 with polynomial 0x07 (Table 15.2). -/
def crc8Bit (c : Nat) (b : Bool) : Nat :=
  let top := c.testBit 7
  let c2 := (c * 2) % 256
  if top != b then c2 ^^^ 0x07 else c2

/-- HCRC of a GFSK packet, over LEN, TYPE and CTRL as one 24-bit number. -/
def gfskHcrc (w : Nat) : Nat := (bitsOf 24 w).foldl crc8Bit 0

/-- HCRC of an OFDM header, over bits 51:16 as one 36-bit number. -/
def ofdmHcrc (w : Nat) : Nat := (bitsOf 36 w).foldl crc16Bit 0xFFFF

/-- Bit time of a rate code, ns (Table 15.1). -/
def gfskBit (rate : Nat) : Nat :=
  match rate with
  | 0 => 4000
  | 1 | 3 => 2000
  | 2 | 4 => 1000
  | _ => 500

/-- Duration of a GFSK packet, ns (R421). -/
def gfskTime (rate len : Nat) : Nat := (128 + 8 * len) * gfskBit rate

/-- The bytes of a GFSK packet (Table 15.2). -/
def gfskBytes (rate ty ctrl : Nat) (body : List Byte) : List Byte :=
  let w := 65536 * body.length + 256 * ty + ctrl
  let two := decide (rate < 3)
  let head := beBytes 4 (256 * w + gfskHcrc w)
  (beBytes 4 (if two then 0xAAAAAAAA else 0x88888888)) ++ beBytes 4 (if two then 0x93D42B7E else 0x5E21C7A9) ++ head ++ body ++
    beBytes 4 (crc32 (head ++ body))

/-- A GFSK header from its 32 bits, when its HCRC passes (R422). -/
def gfskHeader (w : Nat) : Option BlHdr :=
  if gfskHcrc (w / 256) = w % 256 then
    some { len := field w 31 24, ty := field w 23 16, seq := field w 15 12, ackReq := w.testBit 11, bcast := w.testBit 10, slot := field w 9 8, word := w }
  else none

/-- An OFDM header from its 52 bits, when its HCRC passes (Table 15.4). -/
def ofdmHeader (w : Nat) : Option BlHdr :=
  if ofdmHcrc (w / 65536) = w % 65536 then
    some { len := field w 51 41, ty := field w 40 33, slot := field w 32 31, ackReq := w.testBit 30, seq := field w 29 26, mapId := field w 25 22, word := w }
  else none

/-- Duration of an OFDM uplink, ns (R423). -/
def ofdmTime (b len : Nat) : Nat := (150 + 50 * ceilDiv (8 * len + 32) b) * 1000

/-- Data subcarriers in ascending order, as k + 32 (Table 15.3). -/
def dataCarriers : List Nat := (List.range 57).filterMap (fun j => if j = 7 ∨ j = 21 ∨ j = 28 ∨ j = 35 ∨ j = 49 then none else some (j + 4))

/-- Centre of a channel, Hz (R418). -/
def blCentre (n : Nat) : Nat := (331 + 2 * n) * 1000000

/-- Symbol rate of a rate code (Table 15.1). -/
def gfskSymbols (rate : Nat) : Nat := 250000 * 2 ^ (rate % 3)

/-- Deviations of 4-GFSK symbols, one for each pair of bits, in Hz (Table 15.1). -/
def gfsk4Devs (rs : Int) : List Bool → List Int
  | a :: b :: t => (if a then (if b then rs / 8 else 3 * rs / 8) else (if b then -(rs / 8) else -(3 * rs / 8))) :: gfsk4Devs rs t
  | _ => []

/-- Deviation of each symbol of a packet, in Hz (Table 15.1, R421). -/
def BlSent.devs (x : BlSent) : List Int :=
  let rs : Int := gfskSymbols x.rate
  let bits := x.bytes.flatMap (fun b => bitsOf 8 b.toNat)
  if x.rate < 3 then bits.map (fun b => if b then rs / 4 else -(rs / 4)) else gfsk4Devs rs bits

/-- Bits of one axis of a point: `w` bits Gray-coded, the level of lowest value first, on a point whose bits are `b`; the mean power of the levels, three times over, is
the sum of the squares of their numbers less 2 (R424, log 80). -/
def axisBits (w b : Nat) (x : Int) : List Bool :=
  let n : Int := (2 ^ w : Nat)
  let p : Int := (4 ^ ((b + 1) / 2) + 4 ^ (b / 2) : Nat) - 2
  let k := ((List.range (2 ^ w - 1)).filter (fun (j : Nat) =>
    let t : Int := 2 * (j : Int) + 2 - n
    decide (3 * (t * t.natAbs) * 4096 * 4096 < x * x.natAbs * p))).length
  bitsOf w (k ^^^ k / 2)

/-- Bits of a point that carries `b`: the first half, rounded up, chooses I and the rest Q. -/
def pointBits (b : Nat) (x : Int × Int) : List Bool := axisBits ((b + 1) / 2) b x.1 ++ axisBits (b / 2) b x.2

/-- Bytes of bits, most significant first. -/
def packBits : Nat → List Bool → List Byte
  | 0, _ => []
  | n + 1, l => BitVec.ofNat 8 ((l.take 8).foldl (fun a b => 2 * a + (if b then 1 else 0)) 0) :: packBits n (l.drop 8)

/-- Payload and CRC of an OFDM uplink of LEN bytes under a map (R424); none where the symbols are not those that Table 15.3 gives. -/
def ofdmRead (map : List Nat) (len : Nat) (l : List (List (Int × Int))) : Option (List Byte × Nat) :=
  if l.length = ceilDiv (8 * len + 32) map.sum ∧ map.sum ≠ 0 then
    let bits := l.flatMap (fun s => (List.zip map s).flatMap (fun p => pointBits p.1 p.2))
    some (packBits len bits, beNat (packBits 4 (bits.drop (8 * len))))
  else none

/-! ### Receive queue and records (R434, R440) -/

/-- A Buoy record (Table 15.9). -/
def BlPkt.record (p : BlPkt) (seq : Nat) : List Byte :=
  leBytes 1 0x40 ++ leBytes 1 1 ++ leBytes 2 p.body.length ++ leBytes 1 p.chain ++ leBytes 1 p.slot ++ leBytes 1 p.ty ++
  leBytes 1 ((if p.ofdm then 1 else 0) + (if p.dup then 2 else 0)) ++ leBytes 4 seq ++ leBytes 1 p.channel ++ leBytes 3 0 ++ leBytes 8 p.t ++
  leBytes 8 p.uid ++ p.body

/-- A stored packet delivered on every selected stream, with its event. -/
def Dev.blDeliver (d : Dev) (p : BlPkt) : Dev :=
  let d1 := ((List.range 8).filter (fun s => (d.nat O.blBlStreams).testBit s && d.flag (O.lnStreamEnable s))).foldl (fun (x : Dev) s =>
    x.streamDeliver s (fun q _ _ => p.record q)) d
  if p.ty = 0x10 then d1.raise 119 (4 * p.chain + p.slot)
  else if p.ty = 0x0E ∧ leAt p.body 2 1 = 1 then d1.raise 118 (4 * p.chain + p.slot)
  else d1

/-- The receive queue delivered in order. -/
def Dev.blDrain (d : Dev) : Dev :=
  let q := d.bl.rxq
  q.foldl (fun (x : Dev) p => x.blDeliver p) { d with bl := { d.bl with rxq := [] } }

/-- Bytes of a packet in the receive queue: header, payload and CRC. -/
def BlPkt.size (p : BlPkt) : Nat := (if p.ofdm then 7 else 4) + p.body.length + 4

/-- A loss counted; event 115 at the first after a packet without one (Table 15.13). -/
def Dev.blLoss (d : Dev) (o n : Nat) : Dev :=
  let d1 := ({ d with bl := { d.bl with losing := true } } : Dev).inc o
  if d.bl.losing then d1 else d1.raise 115 n

/-! ### Buoy firmware (R439) -/

/-- Update messages in a queue. -/
def fwQueued (q : List BlMsg) : Nat := (q.filter (fun m => decide (m.ty = 0x0B) || decide (m.ty = 0x0C))).length

/-- The next messages of an update queued, at most DL_PER_POLL of them in the queue; `fuel` bounds them. -/
def Dev.blFwFill : Nat → Dev → Dev
  | 0, d => d
  | n + 1, d =>
    match d.bl.fw with
    | none => d
    | some f =>
      let b := d.buoy f.target
      if f.ended ∨ 8 ≤ b.queue.length ∨ d.nat O.blDlPerPoll ≤ fwQueued b.queue then d
      else if f.off < f.len then
        let k := min 248 (f.len - f.off)
        let m : BlMsg := { ty := 0x0B, body := leBytes 4 f.off ++ memBytes d.flash (f.src + f.off) k }
        Dev.blFwFill n (({ d with bl := { d.bl with fw := some { f with off := f.off + k } } } : Dev).setBuoy f.target { b with queue := b.queue ++ [m] })
      else
        let m : BlMsg := { ty := 0x0C, body := leBytes 4 f.len ++ sha256 (memBytes d.flash f.src f.len) }
        ({ d with bl := { d.bl with fw := some { f with ended := true } } } : Dev).setBuoy f.target { b with queue := b.queue ++ [m] }

/-- FW_CMD (R439): the update of FW_TARGET starts. -/
def Dev.blFwStart (d : Dev) : Dev :=
  let d1 := ({ d with bl := { d.bl with fw := some { target := d.nat O.blFwTarget, src := d.nat O.blFwSrc, len := d.nat O.blFwLen } } } : Dev)
  Dev.blFwFill 16 ((d1.setN O.blFwState 1).setN O.blFwSent 0)

/-! ### Transmission (R431, R436 to R438) -/

/-- Level at the pin of a table index (R437). -/
def Dev.blLevel (d : Dev) (i : Nat) : Int := d.num (O.blTxPowerTable i)

/-- A packet starts at the pin at mono time `t`; the port's receiver listens no more (R419, log 79). -/
def Dev.blEmit (d : Dev) (chain channel rate : Nat) (level : Int) (t ty ctrl : Nat) (body : List Byte) : Dev :=
  let b := gfskBytes rate ty ctrl body
  ({ d with bl := { d.bl with txChain := chain, txEnd := t + gfskTime rate body.length, rx := Tab.set {} d.bl.rx chain {},
                              sent := d.bl.sent ++ [{ chain := chain, channel := channel, rate := rate, level := level, at_ := t, bytes := b }] } } : Dev).inc
    (O.blPktTx chain)

/-- CTRL of a message (Table 15.2). -/
def ctrlByte (seq : Nat) (ack bcast : Bool) (slot : Nat) : Nat :=
  16 * seq + (if ack then 8 else 0) + (if bcast then 4 else 0) + slot

/-- A message given its SEQ: the one it has, or the next of its Buoy or, broadcast, of its chain (R422). -/
def Dev.blSeq (d : Dev) (tx : BlTx) : Nat × Dev :=
  match tx.msg.seq with
  | some q => (q, d)
  | none =>
    if tx.bcast then
      let q := Tab.get 0 d.bl.bcastSeq tx.chain
      (q, { d with bl := { d.bl with bcastSeq := Tab.set 0 d.bl.bcastSeq tx.chain ((q + 1) % 16) } })
    else
      let i := 4 * tx.chain + tx.slot
      let b := d.buoy i
      let q := b.txSeq
      let m := { tx.msg with seq := some q }
      let b1 := { b with txSeq := (q + 1) % 16 }
      (q, d.setBuoy i (match tx.use with
        | .down => { b1 with queue := (match b1.queue with | _ :: t => m :: t | [] => []) }
        | .map => { b1 with due := some m }
        | _ => b1))

/-- The poll entry under way ends; `miss`: unanswered (Table 15.7). -/
def Dev.blEntryEnd (d : Dev) (miss : Bool) : Dev :=
  match d.bl.entry with
  | none => { d with bl := { d.bl with cur := none, wait := none, calWait := false, calHeld := false } }
  | some e =>
    let d1 : Dev := { d with bl := { d.bl with entry := none, cur := none, wait := none, calWait := false, calHeld := false } }
    let i := 4 * e.poll.chain + e.poll.buoy
    if miss ∧ e.poll.kind ≠ 2 ∧ d1.nat (O.blBuoyState i) = 2 then
      let m : Nat := d1.nat (O.blMisses i) + 1
      let d2 := d1.setN (O.blMisses i) m
      if d2.nat O.blMissLimit ≤ m then (d2.buoyGo i 4).raise 113 i else d2
    else d1

/-- The waiting transmission goes out at mono time `t`; a chain whose LINK_ENABLE is 0 does not transmit (R438). -/
def Dev.blGo (d : Dev) (t : Nat) : Dev :=
  match d.bl.cur with
  | none => d
  | some tx =>
    if !d.flag (O.blLinkEnable tx.chain) then d.blEntryEnd false
    else
      let ackReq := decide (tx.use ≠ .discover)
      let s := ({ d with bl := { d.bl with cur := none } } : Dev).blSeq tx
      let d1 := s.2.blEmit tx.chain tx.channel tx.rate tx.level t tx.msg.ty (ctrlByte s.1 ackReq tx.bcast (if tx.bcast then 0 else tx.slot)) tx.msg.body
      let stop := d1.bl.txEnd
      if tx.use = .discover then
        let tw := gfskTime tx.rate 10 + gfskTime tx.rate 0 + 48000
        { d1 with bl := { d1.bl with lastEnd := stop, entry := d1.bl.entry.map (fun e => { e with closed := true, windows := some (stop + 24000 + 4 * tw) }) } }
      else
        let e2 := d1.bl.entry.map (fun e => if tx.use = .close then { e with closed := true }
          else if (tx.use = .down ∨ tx.use = .map) ∧ tx.tries = 0 then { e with left := e.left - 1 } else e)
        { d1 with bl := { d1.bl with entry := e2, wait := some { tx := { tx with msg := { tx.msg with seq := some s.1 } },
                                                                 deadline := stop + 24000 + 64 * gfskBit tx.rate + 2000 } } }

/-- The waiting transmission goes on as R436 lets it: pending ACKs and a calibration in progress come first, then the hop, at which every receiver leaves what it
was receiving on the old channel (R419, log 79). -/
def Dev.blStart (d : Dev) : Dev :=
  match d.bl.cur with
  | none => d
  | some tx =>
    if !d.bl.acks.isEmpty ∨ d.bl.hop.isSome then d
    else if d.cal.linkDue ≠ 0 ∧ !d.bl.calHeld then { d with bl := { d.bl with calWait := true } }
    else if d.nat O.blChannelNow ≠ tx.channel ∨ !d.bl.settled then
      ({ d with bl := { d.bl with hop := some d.mono, settled := false, rx := [] } } : Dev).setN O.blChannelNow tx.channel
    else d.blGo (max d.mono (d.bl.lastEnd + 24000))

/-- A transmission put forward. -/
def Dev.blSend (d : Dev) (tx : BlTx) : Dev := ({ d with bl := { d.bl with cur := some tx } } : Dev).blStart

/-- What the exchange sends next (R430): an ASSIGN that waits, else what the poll entry under way calls for; an entry whose closing
message has been answered ends. -/
def Dev.blNext (d : Dev) : Dev :=
  if d.bl.cur.isSome then d.blStart
  else if d.bl.wait.isSome ∨ !d.bl.acks.isEmpty then d
  else
    match d.bl.assigns with
    | tx :: _ => d.blSend tx
    | [] =>
      match d.bl.entry with
      | none => d
      | some e =>
        let p := e.poll
        let i := 4 * p.chain + p.buoy
        let b := d.buoy i
        let st := d.nat (O.blBuoyState i)
        let mk := fun (u : BlUse) (m : BlMsg) => ({ use := u, chain := p.chain, channel := p.channel, slot := p.buoy, msg := m, rate := d.nat (O.blDlRate i),
                                                     level := d.blLevel (d.nat (O.blTxPowerIdx i)) } : BlTx)
        if p.kind = 2 then
          if e.closed then d
          else d.blSend { use := .discover, chain := p.chain, channel := p.channel, bcast := true, msg := { ty := 0x04, body := leBytes 1 4 },
                          rate := d.nat (O.blDiscRate p.chain), level := d.blLevel (d.nat (O.blDiscPower p.chain)) }
        else if e.closed then (if e.answered then d.blEntryEnd false else d)
        else
          let may := decide (0 < e.left) && (decide (st = 1) || decide (st = 2)) && decide (d.nat (O.cpFeedState p.chain) = 2)
          match (if may then b.due else none), (if may then b.queue.head? else none) with
          | some m, _ => d.blSend (mk .map m)
          | none, some m => d.blSend (mk .down m)
          | none, none => d.blSend (mk .close { ty := if p.kind = 0 then 0x01 else 0x02, body := [] })

/-! ### Loading maps (R426, R427) -/

/-- Least SNR of b bits, in 0.01 dB (Table 15.6). -/
def loadThreshold (b : Nat) : Int :=
  match b with
  | 0 => -32768
  | 1 => 1000
  | 2 => 1300
  | 3 => 1700
  | 4 => 2000
  | 5 => 2300
  | _ => 2600

/-- The largest b whose threshold an SNR reaches. -/
def loadBits (snr : Int) : Nat := (List.range 7).foldl (fun m b => if loadThreshold b ≤ snr then b else m) 0

/-- S(k) − N(k) of a Buoy on a channel over the data subcarriers; none until both have been measured. -/
def Dev.blSnr (d : Dev) (i c : Nat) : Option (List Int) :=
  let b := d.buoy i
  if b.sig.isEmpty ∨ Tab.get 0 d.bl.noise (512 * (i / 4) + 64 * c + 4) = 0 then none
  else some (dataCarriers.map (fun j => b.sig.getD j (-32768) - d.blNoise (i / 4) c j))

/-- SNR_MIN: the lowest SNR over the loaded subcarriers of the map in force. -/
def Dev.blSnrMin (d : Dev) (i c : Nat) : Dev :=
  match d.blSnr i c with
  | none => d
  | some l =>
    let used := (List.zip (d.buoy i).map l).filterMap (fun p => if p.1 = 0 then none else some p.2)
    match used with
    | [] => d
    | x :: t => d.setN (O.blSnrMin i) (satS 16 (t.foldl min x))

/-- The bytes of a map: b of the data subcarriers, two per byte, low nibble first (Table 15.5). -/
def mapBytes : List Nat → List Byte
  | a :: b :: t => leBytes 1 (a + 16 * b) ++ mapBytes t
  | [a] => leBytes 1 a
  | [] => []

/-- Job 0x0007 for one Buoy (R427): its map computed, and a MAP made due where R427 calls for one; a MAP that has been sent and waits for its ACK stays. -/
def Dev.blMap (d : Dev) (i : Nat) (force : Bool) : Dev :=
  let b := d.buoy i
  match b.chan with
  | none => d
  | some c =>
    match d.blSnr i c with
    | none => d
    | some l =>
      let m := l.map (fun x => loadBits (x - d.num O.blLoadMargin))
      let s := d.nat O.blMapRefreshS
      let differs := decide (m ≠ b.map) && decide (s ≠ 0) && decide (b.mapAt + s * 1000000000 ≤ d.mono)
      let worse := (List.zip b.map l).any (fun p => decide (p.1 ≠ 0) && decide (p.2 < loadThreshold p.1))
      let moved : Bool := (match b.mapCh with | some x => decide (x ≠ c) | none => false)
      let d1 := d.blSnrMin i c
      let sent : Bool := (match b.due with | some x => x.seq.isSome | none => false)
      if (force ∨ differs ∨ worse ∨ moved) ∧ 52 ≤ m.sum ∧ !sent then
        let id := (d1.nat (O.blMapId i) + 1) % 16
        d1.setBuoy i { b with due := some { ty := 0x07, body := leBytes 1 id ++ leBytes 1 c ++ mapBytes m }, first := false }
      else d1

/-- Job 0x0007: every Buoy's map. -/
def Dev.blMgmtJob (d : Dev) : Dev :=
  (List.range (4 * d.chains)).foldl (fun (x : Dev) i => if x.nat (O.blBuoyState i) = 2 then x.blMap i (x.buoy i).first else x) d

/-- BL_NOISE_MEASURE: an idle receiver's 64 powers smoothed into N on the current channel (R426). -/
def Dev.blNoiseIn (d : Dev) (n : Nat) (p : List Int) : Dev :=
  let rx := Tab.get {} d.bl.rx n
  let d0 := d.clockTo (Tab.get 0 d.bl.noiseAt n + 40000)
  if n < d.chains ∧ d.linksUp ∧ d.flag (O.blLinkEnable n) ∧ rx.cur.isNone ∧ rx.saved.isEmpty ∧ d0.bl.txEnd ≤ d0.mono ∧ d0.bl.settled then
    let base := 512 * n + 64 * d0.nat O.blChannelNow
    let tau := d0.nat O.blNoiseTauMs * 25
    let z := (List.zip (List.range 64) p).foldl (fun (t : List (Nat × Nat)) q =>
      let old := Tab.get 0 t (base + q.1)
      let x := dbLin q.2
      Tab.set 0 t (base + q.1) (if old = 0 then x else (smooth (old : Int) (x : Int) tau).toNat)) d0.bl.noise
    { d0 with bl := { d0.bl with noise := z, noiseAt := Tab.set 0 d0.bl.noiseAt n d0.mono } }
  else d

/-! ### Polls (R430) -/

/-- Poll entries of slot `s` of the plan in force that are due in the present period (R145). -/
def Dev.duePolls (d : Dev) (s : Nat) : List PollEnt :=
  match d.wt.img, d.planSlots[s]? with
  | some w, some e =>
    if e.kind = 4 then w.polls.filter (fun p => decide (p.group = e.job) && decide (d.nat O.wtPeriodIndex % p.every = p.phase)) else []
  | _, _ => []

/-- A BUOY_POLL slot's run starts: its due entries are to be run. -/
def Dev.blSlotStart (d : Dev) (s : Nat) : Dev :=
  { d with bl := { d.bl with todo := d.bl.todo ++ (d.duePolls s).map (fun p => (s, p)) } }

/-- Entries counted in POLLS_SKIPPED. -/
def Dev.blSkip (d : Dev) (k : Nat) : Dev := if k = 0 then d else d.count 32 O.blPollsSkipped k

/-- A DISCOVER whose windows are over ends its entry; a deferred entry of another kind goes on. -/
def Dev.blWindows (d : Dev) : Dev :=
  match d.bl.entry with
  | some e => (match e.windows with
    | some t => if d.bl.wait.isNone ∧ d.bl.assigns.isEmpty ∧ d.bl.acks.isEmpty then (d.clockTo t).blEntryEnd false else d
    | none => d)
  | none => d

/-- A BUOY_POLL slot's run ends: entries not started count in POLLS_SKIPPED. An entry under way keeps the run from ending; the
answer says so. -/
def Dev.blSlotEnd (d : Dev) (s : Nat) : Dev × Bool :=
  let d1 := d.blWindows
  let busy : Bool := match d1.bl.entry with | some e => decide (e.wslot = s) | none => false
  if busy then (d1, true)
  else
    let left := d1.bl.todo.filter (fun p => decide (p.1 = s))
    (({ d1 with bl := { d1.bl with todo := d1.bl.todo.filter (fun p => decide (p.1 ≠ s)) } } : Dev).blSkip left.length, false)

/-- BUOY_POLL_ENTRY: the next due entry of slot `s`'s run starts. -/
def Dev.blPollEntry (d : Dev) (s : Nat) : Dev :=
  let d0 := d.blWindows
  match d0.bl.entry, d0.bl.todo.find? (fun p => decide (p.1 = s)), d0.wt.kept.find? (fun q => decide (q.1 = s)) with
  | none, some (_, p), some (_, .running t) =>
    if d0.now < t + (d0.planSlots.getD s {}).est * 1000 then
      let i := 4 * p.chain + p.buoy
      let st := d0.nat (O.blBuoyState i)
      let d1 : Dev := { d0 with bl := { d0.bl with todo := d0.bl.todo.erase (s, p) } }
      if d1.chains ≤ p.chain ∨ !d1.flag (O.blLinkEnable p.chain) ∨ (p.kind ≠ 2 ∧ (st = 0 ∨ st = 3)) then d1.blSkip 1
      else
        let d2 := if p.kind = 2 then d1 else
          let b := d1.buoy i
          let x := d1.setBuoy i { b with chan := some p.channel }
          if p.kind = 1 ∧ st = 2 ∧ b.first then x.blMap i true else x
        ({ d2 with bl := { d2.bl with entry := some { wslot := s, poll := p, left := d2.nat O.blDlPerPoll } } } : Dev).blNext
    else d0
  | _, _, _ => d0

/-! ### The synthesiser (R322, R436) -/

/-- BL_SYNTH_LOCK: lock `ns` after the hop started; a band search's result is stored, and the transmission begins 5 µs later. -/
def Dev.blLock (d : Dev) (ns : Nat) : Dev :=
  match d.bl.hop with
  | none => d
  | some t =>
    let d0 := d.clockTo (t + ns)
    let c := d0.nat O.blChannelNow
    let d1 := if (d0.nat O.caLinkCalValid).testBit c then d0 else d0.linkStored c
    ({ d1 with bl := { d1.bl with hop := none, settled := true } } : Dev).blGo (d1.mono + 5000)

/-- How long a hop takes before the synthesiser settles on its channel: nothing with a valid calibration, else a band search of at most 300 µs (R322; how long it
takes is not stated, log 79). -/
def Dev.blSearch (d : Dev) (c t : Nat) : Nat := if (d.nat O.caLinkCalValid).testBit c then 0 else min 300000 (Config.bandSearch c t)

/-- BL_SYNTH_LOCK_TIMEOUT, 200 µs after the synthesiser settled on the channel: the transmission aborts, its message stays queued, and the entry is abandoned. -/
def Dev.blLockTimeout (d : Dev) : Dev :=
  match d.bl.hop with
  | none => d
  | some t =>
    let c := d.nat O.blChannelNow
    let d0 := d.clockTo (t + d.blSearch c t + 200000)
    let chain := match d0.bl.cur with | some tx => tx.chain | none => 0
    let d1 := ({ d0 with bl := { d0.bl with hop := none } } : Dev).setN O.caLinkCalValid (withBit (d0.nat O.caLinkCalValid) c false)
    (((d1.inc O.blTxAborts).raise 114 (256 * chain + c)).blEntryEnd false)

/-- LINK_CHANNEL_CAL_DONE (R322): a channel of a recalibration is stored; a transmission that waited for it goes on, and further
channels wait for the end of its exchange (R436). -/
def Dev.blCalDone (d : Dev) (c : Nat) : Dev :=
  if d.bl.calHeld then d
  else
    let d1 := d.linkChannelDone c
    if d.cal.linkDue.testBit c ∧ d.bl.calWait then ({ d1 with bl := { d1.bl with calWait := false, calHeld := true } } : Dev).blStart else d1

/-! ### Reception (R432 to R435) -/

/-- A receiver replaced. -/
def Dev.blSetRx (d : Dev) (n : Nat) (r : BlRx) : Dev := { d with bl := { d.bl with rx := Tab.set {} d.bl.rx n r } }

/-- Saved detections whose start is still among the last 2 ms of samples (R432). -/
def Dev.blKept (d : Dev) (l : List BlDet) : List BlDet := l.filter (fun x => decide (d.mono ≤ x.start + 2000000))

/-- BL_DETECTION: a packet that started `dt` after now is detected, at the end of its sync word or OFDM preamble (R432, Table 15.8). An OFDM uplink, whose
preamble ends after the deadline of R431, counts as detected by its start (log 79). -/
def Dev.blDetect (d : Dev) (n kind dt : Nat) (strength : Int) : Dev :=
  let start := d.mono + dt
  let d0 := d.clockTo (start + (if kind = 6 then 100000 else 64 * gfskBit kind))
  if !(decide (n < d.chains) && d.linksUp && d.flag (O.blLinkEnable n)) ∨ (d0.mono < d0.bl.txEnd ∧ d0.bl.txChain = n) then d0
  else
    let r := Tab.get {} d0.bl.rx n
    let det : BlDet := { kind := kind, start := start, strength := strength }
    let heard := { d0.bl with wait := d0.bl.wait.map (fun w =>
      let known := if kind = 6 then start + 64 * gfskBit w.tx.rate else d0.mono
      if w.tx.chain = n ∧ known ≤ w.deadline then { w with heard := true } else w) }
    let d1 : Dev := { d0 with bl := heard }
    match r.cur, r.hdr with
    | none, _ => d1.blSetRx n { r with cur := some det, hdr := none }
    | some c, none =>
      let s := d1.blKept r.saved ++ [c]
      (d1.blSetRx n { cur := some det, hdr := none, saved := s.drop (s.length - 2) }).inc O.blPreempted
    | some c, some _ =>
      let k := d1.num O.blCaptureDb
      if k ≠ 0 ∧ c.strength + k ≤ strength then (d1.blSetRx n { cur := some det }).blLoss O.blCaptureLost n
      else d1.blSetRx n { r with saved := d1.blKept r.saved }

/-- The Buoy that an exchange on chain `n` waits for has not answered validly: the message stays queued and the entry is abandoned. -/
def Dev.blFailed (d : Dev) (n : Nat) : Dev :=
  match d.bl.wait with
  | none => d
  | some w =>
    if w.tx.chain ≠ n ∨ !w.heard then d
    else if w.tx.use = .assign then
      let i := 4 * n + w.tx.slot
      let x : Dev := { d with bl := { d.bl with wait := none, assigns := d.bl.assigns.drop 1 } }
      (if x.nat (O.blBuoyState i) = 1 then x.buoyGo i (if (x.buoy i).fromLost then 4 else 0) else x).blNext
    else d.blEntryEnd true

/-- The map with which an OFDM uplink of a Buoy is decoded: the one in force or the one before it, by MAP_ID (R427). -/
def Dev.blMapOf (d : Dev) (i mapId : Nat) : Option (List Nat) :=
  let b := d.buoy i
  if !b.map.isEmpty ∧ d.nat (O.blMapId i) = mapId then some b.map
  else match b.prev with
    | some (x, m) => if x = mapId then some m else none
    | none => none

/-- BL_HEADER_END: the header of the packet being received, as its bits. -/
def Dev.blHeader (d : Dev) (n w : Nat) : Dev :=
  let r := Tab.get {} d.bl.rx n
  match r.cur, r.hdr with
  | some c, none =>
    let d0 := d.clockTo (c.start + (if c.kind = 6 then 150000 else 96 * gfskBit c.kind))
    let h := if c.kind = 6 then (match ofdmHeader w with
        | some x => if (d0.blMapOf (4 * n + x.slot) x.mapId).isSome then some x else none
        | none => none)
      else gfskHeader w
    match h with
    | some x => d0.blSetRx n { r with hdr := some x }
    | none =>
      let d1 := d0.inc O.blHdrFail
      match (d1.blKept r.saved).reverse with
      | x :: t => d1.blSetRx n { cur := some x, hdr := none, saved := t.reverse }
      | [] => (d1.blSetRx n {}).blFailed n
  | _, _ => d

/-- A map acknowledged: it comes into force (R427), with event 116. -/
def Dev.blMapAcked (d : Dev) (i : Nat) (m : BlMsg) : Dev :=
  let b := d.buoy i
  let bits := (m.body.drop 2).flatMap (fun x => [x.toNat % 16, x.toNat / 16])
  let d1 := d.setBuoy i { b with due := none, map := bits, mapCh := some (leAt m.body 1 1), mapAt := d.mono,
                                 prev := if b.map.isEmpty then b.prev else some (d.nat (O.blMapId i), b.map) }
  (((d1.setN (O.blMapId i) (leAt m.body 0 1 : Nat)).setN (O.blMapBits i) (bits.sum : Nat)).setRaw (O.blMapData i) (m.body.drop 2)).raise 116 i

/-- A downlink acknowledged (R431, R439). -/
def Dev.blDownAcked (d : Dev) (i : Nat) (m : BlMsg) : Dev :=
  let b := d.buoy i
  let d1 := (d.setBuoy i { b with queue := b.queue.drop 1 }).inc (O.blDlSent i)
  match d1.bl.fw with
  | none => d1
  | some f =>
    if f.target ≠ i then d1
    else if m.ty = 0x0C then d1.blFwEnd 2
    else Dev.blFwFill 16 (if m.ty = 0x0B then d1.setN O.blFwSent (d1.nat O.blFwSent + (m.body.length - 4) : Nat) else d1)

/-- The exchange under way is answered by a packet of type `ty` from slot `k` of chain `n`. -/
def Dev.blAnswer (d : Dev) (n k ty : Nat) : Dev :=
  match d.bl.wait with
  | none => d
  | some w =>
    let i := 4 * n + k
    if w.tx.chain ≠ n ∨ w.tx.slot ≠ k then d
    else if ty ≠ 0 ∧ w.tx.msg.ty ≠ 0x02 then d
    else
      let d0 : Dev := { d with bl := { d.bl with wait := none } }
      let d1 := match w.tx.use with
        | .down => d0.blDownAcked i w.tx.msg
        | .map => (d0.blMapAcked i w.tx.msg).inc (O.blDlSent i)
        | .close => { d0 with bl := { d0.bl with entry := d0.bl.entry.map (fun e => { e with answered := true }) } }
        | .assign =>
          let x : Dev := { d0 with bl := { d0.bl with assigns := d0.bl.assigns.drop 1 } }
          if x.nat (O.blBuoyState i) = 1 then
            ((x.setBuoy i { x.buoy i with first := true, mapAt := x.mono }).buoyGo i 2).raise 112 i
          else x
        | .discover => d0
      if d1.nat (O.blBuoyState i) = 2 then d1.setN (O.blMisses i) 0 else d1

/-- An ANNOUNCE: a slot for the Buoy (Table 15.7), and its ASSIGN queued behind the ACK. -/
def Dev.blAnnounce (d : Dev) (n uid hwfw : Nat) : Dev :=
  let mine := (List.range 4).find? (fun k => decide (d.nat (O.blUid (4 * n + k)) = uid))
  let give := fun (x : Dev) (k : Nat) (lost : Bool) =>
    let i := 4 * n + k
    let tx : BlTx := { use := .assign, chain := n, channel := x.nat O.blChannelNow, slot := k, bcast := true, msg := { ty := 0x06, body := leBytes 8 uid ++ leBytes 1 k },
                       rate := x.nat (O.blDiscRate n), level := x.blLevel (x.nat (O.blDiscPower n)) }
    let y := (((x.setBuoy i { x.buoy i with fromLost := lost }).setN (O.blUid i) uid).setN (O.blHwFw i) hwfw).buoyGo i 1
    ({ y with bl := { y.bl with assigns := y.bl.assigns ++ [tx] } } : Dev)
  match mine with
  | some k =>
    let st := d.nat (O.blBuoyState (4 * n + k))
    if st = 0 ∨ st = 4 then give d k true else d
  | none =>
    match (List.range 4).find? (fun k => decide (d.nat (O.blBuoyState (4 * n + k)) = 0)) with
    | some k =>
      -- another Buoy: nothing is known of it, and it holds no map
      let i := 4 * n + k
      give (((d.setBuoy i { queue := (d.buoy i).queue }).setN (O.blMapBits i) 0).setRaw (O.blMapData i) []) k false
    | none => d.inc O.blDiscFull

/-- What an accepted packet says of its Buoy's signal (R426, Table 15.12). -/
def Dev.blQuality (d : Dev) (i : Nat) (det : BlDet) (eye : Nat) (powers : List Int) : Dev :=
  let b := d.buoy i
  let d1 := d.setN (O.blRxLevel i) det.strength
  if det.kind = 6 then
    let x := d1.setBuoy i { b with sig := powers, sigOfdm := true }
    (match b.chan with | some c => x.blSnrMin i c | none => x)
  else
    let x := d1.setN (O.blEyeWidth i) eye
    if b.sigOfdm then x else x.setBuoy i { b with sig := List.replicate 64 (det.strength - 1748) }

/-- A packet placed in the receive queue, or discarded for want of room (R434); answers whether it was placed. -/
def Dev.blStore (d : Dev) (p : BlPkt) : Dev × Bool :=
  if (d.bl.rxq.map BlPkt.size).sum + p.size ≤ 65536 then ({ d with bl := { d.bl with rxq := d.bl.rxq ++ [p], losing := false } }, true)
  else (d.blLoss O.blRxqLost p.chain, false)

/-- An ACK made due 24 µs after the end of a stored packet (R435). -/
def Dev.blAckDue (d : Dev) (n : Nat) (slot : Option Nat) (req : Bool) : Dev :=
  if !req then d
  else
    let a : BlAck := match slot with
      | some k => { chain := n, slot := some k, at_ := d.bl.lastEnd + 24000, rate := d.nat (O.blDlRate (4 * n + k)), level := d.blLevel (d.nat (O.blTxPowerIdx (4 * n + k))) }
      | none => { chain := n, slot := none, at_ := d.bl.lastEnd + 24000, rate := d.nat (O.blDiscRate n), level := d.blLevel (d.nat (O.blDiscPower n)) }
    { d with bl := { d.bl with acks := d.bl.acks ++ [a] } }

/-- An accepted packet (R422, R434, R440). -/
def Dev.blAccept (d : Dev) (n : Nat) (det : BlDet) (h : BlHdr) (body : List Byte) (eye : Nat) (powers : List Int) : Dev :=
  let d0 := d.inc (O.blPktRx n)
  let ofdm := decide (det.kind = 6)
  let ch := d0.nat O.blChannelNow
  let i := 4 * n + h.slot
  if h.ty = 0x05 then
    if ofdm ∨ body.length ≠ 10 then d0
    else
      let p : BlPkt := { chain := n, slot := 0xFF, ty := 5, body := body, ofdm := false, dup := false, channel := ch, t := d0.now, uid := leAt body 0 8 }
      let s := d0.blStore p
      if s.2 then (s.1.blAckDue n none h.ackReq).blAnnounce n (leAt body 0 8) (256 * leAt body 8 1 + leAt body 9 1) else s.1
  else if d0.nat (O.blBuoyState i) = 0 then d0
  else if h.ty = 0 then ((d0.blQuality i det eye powers).blAnswer n h.slot 0)
  else if h.ty = 0x0A ∨ (h.ty = 0x0E ∧ ofdm) ∨ h.ty = 0x10 then
    let d1 := d0.blQuality i det eye powers
    let b := d1.buoy i
    if b.rxSeq = some h.seq then
      ((((d1.setBuoy i { b with dup := true }).inc (O.blUlRx i)).setN (O.blLastRx i) d1.now).blAckDue n (some h.slot) h.ackReq).blAnswer n h.slot h.ty
    else
      let p : BlPkt := { chain := n, slot := h.slot, ty := h.ty, body := body, ofdm := ofdm, dup := b.dup, channel := ch, t := d1.now, uid := d1.nat (O.blUid i) }
      let s := d1.blStore p
      if s.2 then
        ((((s.1.setBuoy i { b with dup := false, rxSeq := some h.seq }).inc (O.blUlRx i)).setN (O.blLastRx i) d1.now).blAckDue n (some h.slot) h.ackReq).blAnswer n h.slot h.ty
      else s.1
  else d0

/-- Duration of the packet being received, ns. -/
def Dev.blDuration (d : Dev) (n : Nat) (det : BlDet) (h : BlHdr) : Nat :=
  if det.kind = 6 then ofdmTime (((d.blMapOf (4 * n + h.slot) h.mapId).getD []).sum) h.len else gfskTime det.kind h.len

/-- The receive queue is delivered and the exchange goes on once no ACK is pending. -/
def Dev.blResume (d : Dev) : Dev := if d.bl.acks.isEmpty then d.blDrain.blNext else d

/-- BL_PACKET_END: payload and CRC of the packet being received (of an OFDM uplink, as its points spell them). A packet whose CRC passes is accepted. -/
def Dev.blPacket (d : Dev) (n : Nat) (data : BlData) (crc eye : Nat) (powers : List Int) : Dev :=
  let r := Tab.get {} d.bl.rx n
  match r.cur, r.hdr with
  | some det, some h =>
    let d0 := d.clockTo (det.start + d.blDuration n det h)
    let d1 := ({ d0 with bl := { d0.bl with lastEnd := d0.mono } } : Dev).blSetRx n {}
    let got := match data with
      | .bytes b => if det.kind ≠ 6 ∧ crc = crc32 (beBytes 4 h.word ++ b) then some b else none
      | .points l => match (if det.kind = 6 then ofdmRead ((d0.blMapOf (4 * n + h.slot) h.mapId).getD []) h.len l else none) with
        | some r => if r.2 = crc32 r.1 then some r.1 else none
        | none => none
    match got with
    | some b => if b.length = h.len then (d1.blAccept n det h b eye powers).blResume else d1.blFailed n
    | none => d1.blFailed n
  | _, _ => d

/-- BL_ACK_SEND: the ACK due on chain `n` is sent, or omitted while the transmitter drives another port (R435). -/
def Dev.blAckSend (d : Dev) (n : Nat) : Dev :=
  match d.bl.acks.find? (fun a => decide (a.chain = n)) with
  | none => d
  | some a =>
    let d0 := d.clockTo a.at_
    let d1 : Dev := { d0 with bl := { d0.bl with acks := d0.bl.acks.filter (fun x => decide (x ≠ a)) } }
    let d2 := if a.at_ < d1.bl.txEnd ∧ d1.bl.txChain ≠ n then d1.inc O.blAckOmitted
      else if d1.flag (O.blLinkEnable n) then
        let r := d1.fresh
        let x := r.2.blEmit n (r.2.nat O.blChannelNow) a.rate a.level a.at_ 0 (ctrlByte (Config.ackSeq r.1 % 16) false false (a.slot.getD 0)) []
        { x with bl := { x.bl with lastEnd := x.bl.txEnd } }
      else d1
    d2.blResume

/-- BL_ACK_TIMEOUT (R431): a missing ACK or answer. -/
def Dev.blAckTimeout (d : Dev) : Dev :=
  match d.bl.wait with
  | none => d
  | some w =>
    if w.heard then d
    else
      let i := 4 * w.tx.chain + w.tx.slot
      let d0 := d.clockTo w.deadline
      let d1 : Dev := { d0 with bl := { d0.bl with wait := none } }
      if w.tx.use = .close then d1.blEntryEnd true
      else
        let d2 := d1.inc (O.blDlNoack i)
        if w.tx.tries < d2.nat O.blDlRetries then d2.blSend { w.tx with tries := w.tx.tries + 1 }
        else if w.tx.use = .assign then
          let x : Dev := { d2 with bl := { d2.bl with assigns := d2.bl.assigns.drop 1 } }
          (if x.nat (O.blBuoyState i) = 1 then x.buoyGo i (if (x.buoy i).fromLost then 4 else 0) else x).blNext
        else (if w.tx.msg.ty = 0x0C then d2.blFwEnd 3 else d2).blEntryEnd true

/-! ### Commands from the dictionary and the feed -/

/-- BUOY_FEED_SETTLE: the feed has been ON for 200 ms (Table 15.7). -/
def Dev.blFeedSettle (d : Dev) (n : Nat) : Dev :=
  if d.nat (O.cpFeedState n) = 2 ∧ (List.range 4).any (fun k => decide (d.nat (O.blBuoyState (4 * n + k)) = 3)) then
    (List.range 4).foldl (fun (x : Dev) k => if x.nat (O.blBuoyState (4 * n + k)) = 3 then x.buoyGo (4 * n + k) 4 else x) (d.after (d.chain n).feedSince 200)
  else d

/-- LINK_ENABLE committed: 0 empties the chain's slots and their queues, and its receiver and its part of an exchange stop. -/
def Dev.blLinkSet (d : Dev) (n : Nat) : Dev :=
  if d.flag (O.blLinkEnable n) then d
  else
    let d1 := (List.range 4).foldl (fun (x : Dev) k =>
      let i := 4 * n + k
      let y := x.buoyGo i 0
      y.setBuoy i { y.buoy i with queue := [], due := none }) (d.blSetRx n {})
    let d2 : Dev := { d1 with bl := { d1.bl with acks := d1.bl.acks.filter (fun a => decide (a.chain ≠ n)), assigns := d1.bl.assigns.filter (fun t => decide (t.chain ≠ n)) } }
    let mine : Bool := (match d2.bl.entry with | some e => decide (e.poll.chain = n) | none => false)
    if mine then d2.blEntryEnd false else d2

/-- DL_MSG written: refused with eight messages queued (R442). -/
def Dev.blQueueOk (d : Dev) (i : Nat) : Bool := decide ((d.buoy i).queue.length < 8)

/-- One downlink queued: TYPE in the first byte, the payload after it. -/
def Dev.blQueue (d : Dev) (i : Nat) (m : List Byte) : Dev :=
  match m with
  | [] => d
  | t :: p => let b := d.buoy i; d.setBuoy i { b with queue := b.queue ++ [{ ty := t.toNat, body := p }] }

/-! ### Rows -/

/-- BUOY_POLL_ENTRY (R430). -/
def execBuoyPollEntry (slot : Nat) (s : State) : Host.Outcome State Fault Refusal := s.upd (fun d => d.inHarbour (fun x => x.byKeeper 3 (fun y => y.blPollEntry slot)))
/-- BL_ACK_TIMEOUT (R431). -/
def execBlAckTimeout (s : State) : Host.Outcome State Fault Refusal := s.upd (fun d => d.inHarbour Dev.blAckTimeout)
/-- BL_DETECTION (R432). -/
def execBlDetection (n kind dt : Nat) (strength : Int) (s : State) : Host.Outcome State Fault Refusal := s.upd (fun d => d.inHarbour (fun x => x.blDetect n kind dt strength))
/-- BL_HEADER_END (R433). -/
def execBlHeaderEnd (n w : Nat) (s : State) : Host.Outcome State Fault Refusal := s.upd (fun d => d.inHarbour (fun x => x.blHeader n w))
/-- BL_PACKET_END (R434). -/
def execBlPacketEnd (n : Nat) (body : BlData) (crc eye : Nat) (powers : List Int) (s : State) : Host.Outcome State Fault Refusal :=
  s.upd (fun d => d.inHarbour (fun x => x.blPacket n body crc eye powers))
/-- BL_ACK_SEND (R435). -/
def execBlAckSend (n : Nat) (s : State) : Host.Outcome State Fault Refusal := s.upd (fun d => d.inHarbour (fun x => x.blAckSend n))
/-- BL_SYNTH_LOCK (R436). -/
def execBlSynthLock (ns : Nat) (s : State) : Host.Outcome State Fault Refusal := s.upd (fun d => d.inHarbour (fun x => x.blLock ns))
/-- BL_SYNTH_LOCK_TIMEOUT (R436). -/
def execBlSynthLockTimeout (s : State) : Host.Outcome State Fault Refusal := s.upd (fun d => d.inHarbour Dev.blLockTimeout)
/-- BL_NOISE_MEASURE (R426). -/
def execBlNoiseMeasure (n : Nat) (powers : List Int) (s : State) : Host.Outcome State Fault Refusal := s.upd (fun d => d.inHarbour (fun x => x.blNoiseIn n powers))
/-- BUOY_FEED_SETTLE (R428). -/
def execBuoyFeedSettle (n : Nat) (s : State) : Host.Outcome State Fault Refusal := s.upd (fun d => d.inHarbour (fun x => x.blFeedSettle n))
/-- LINK_CHANNEL_CAL_DONE (R322). -/
def execLinkChannelCalDone (c : Nat) (s : State) : Host.Outcome State Fault Refusal := s.upd (fun d => d.inHarbour (fun x => x.blCalDone c))

end Sys2Proof.Machine
end

