-- ==== Sys2Proof/Machine/Link.lean ====
section
/-! DEFINITION. Host links (chapter 14): segments and reassembly, the SPI target, link state, the checks on session messages and the end
of sessions, and device time. -/

namespace Sys2Proof.Machine

/-! ### Discards (R400) -/

/-- RX_DROPPED of a transport (PORT code of Table 14.4). -/
def rxDropped (port : Nat) : Nat :=
  match port with
  | 1 => O.ntT1RxDropped
  | 2 => O.ntT1sRxDropped
  | 3 => O.ntCanRxDropped
  | 4 => O.ntSpiRxDropped
  | _ => O.twRxDropped (port - 5)

/-- A discard counted, with event 98 at most once per second on a transport. -/
def Dev.rxDrop (d : Dev) (port : Nat) : Dev :=
  let d1 := d.inc (rxDropped port)
  let due := match d1.host.dropEvent.find? (fun p => decide (p.1 = port)) with
    | some p => decide (p.2 + 1000000000 ≤ d1.mono)
    | none => true
  if due then ({ d1 with host := { d1.host with dropEvent := Tab.insert port d1.mono (Tab.erase d1.host.dropEvent port) } } : Dev).raise 98 port else d1

/-- Receive queue of a transport, in bytes (Table 14.4). -/
def rxQueue (port : Nat) : Nat :=
  match port with
  | 1 => 65536
  | 2 => 32768
  | 3 | 4 => 16384
  | _ => 8192

/-- Bytes in a transport's receive queue. -/
def Dev.rxUsed (d : Dev) (port : Nat) : Nat := ((d.host.rx.filter (fun m => decide (m.port = port))).map (fun m => m.bytes.length)).sum

/-! ### Sessions (R404, R405) -/

/-- A subscription ended: it reads its ring no more. -/
def Dev.subEnd (d : Dev) (s : Sub) : Dev :=
  let d1 := match subRing s.kind s.index with
    | some n => d.setRing n ((d.ring n).quit (256 + s.id))
    | none => d
  { d1 with host := { d1.host with subs := d1.host.subs.filter (fun x => decide (x.id ≠ s.id)) } }

/-- A session's slot freed with its subscriptions; an open one leaves a SESSION_CLOSE record with its cause (Table 20.7). -/
def Dev.sessionEnd (d : Dev) (s : Session) (cause : Nat) : Dev :=
  let d1 := (d.host.subs.filter (fun x => decide (x.session = s.num))).foldl (fun (x : Dev) u => x.subEnd u) d
  let d2 : Dev := { d1 with host := { d1.host with sessions := d1.host.sessions.filter (fun x => decide (x.num ≠ s.num)) } }
  let d3 := ((d2.setN (O.ntSessRole s.slot) 0).setN (O.ntSessPort s.slot) 0).setN (O.ntSessSource s.slot) 0
  if s.open_ then d3.record 0x42 s.num cause else d3

/-- Every session of a transport whose link is lost ends. -/
def Dev.sessionsLost (d : Dev) (port : Nat) : Dev :=
  (d.host.sessions.filter (fun s => decide (s.port = port))).foldl (fun (x : Dev) s => x.sessionEnd s 3) d

/-- SESSION_IDLE (R405). -/
def Dev.sessionIdle (d : Dev) (n : Nat) : Dev :=
  match d.sessionByNum n with
  | some s => if s.open_ then (d.clockTo (s.tLast + d.nat O.ntSessIdleS * 1000000000)).sessionEnd s 2 else d
  | none => d

/-- AUTH_PROVE_TIMEOUT (R403): the number is freed. -/
def Dev.proveTimeout (d : Dev) (n : Nat) : Dev :=
  match d.sessionByNum n with
  | some s => if s.open_ then d else (d.clockTo (s.tLast + 5000000000)).sessionEnd s 0
  | none => d

/-- AUTH_LOCKOUT_END (R405). -/
def Dev.lockoutEnd (d : Dev) (port req : Nat) : Dev :=
  match d.host.fails.find? (fun f => decide (f.port = port) && decide (f.req = req)) with
  | some f =>
    match f.lockedUntil with
    | some t =>
      let d1 := d.clockTo t
      { d1 with host := { d1.host with fails := d1.host.fails.filter (fun x => decide (x ≠ f)) } }
    | none => d
  | none => d

/-- How R404 judges a message: outside a session, of a session that is open and passed, of none that is open, or discarded. -/
inductive SessCheck where
  | outside
  | passed (s : Session)
  | unknown
  | discard (slot : Nat)
  deriving DecidableEq, Repr

/-- R404 for a message: its session open and bound to its transport and requester, its MAC right, its SEQ greater. -/
def Dev.sessCheck (d : Dev) (m : TMsg) : SessCheck :=
  if m.session = 0 ∧ !m.mflags.testBit 1 then .outside
  else
    match d.sessionByNum m.session with
    | none => .unknown
    | some s =>
      if !s.open_ then .unknown
      else if s.port = m.port ∧ s.req = m.src ∧ s.rxSeq < m.seq ∧ m.mflags.testBit 1 ∧
        m.mac = hmac s.sk (headerBytes m.opcode m.mflags m.session m.tag m.body.length m.seq ++ m.body) then .passed s
      else .discard s.slot

/-- The discard of R404: AUTH_FAIL and event 97. -/
def Dev.authDiscard (d : Dev) (slot : Nat) : Dev := (d.inc O.ntAuthFail).raise 97 slot

/-- A message of a session accepted: its SEQ and its time kept. -/
def Dev.sessTake (d : Dev) (s : Session) (m : TMsg) : Dev := d.setSession { s with rxSeq := m.seq, tLast := d.mono }

/-- An ERROR reply with a code of Table 14.3 (R399), in session `s` or outside one (0). -/
def Dev.errorReply (d : Dev) (m : TMsg) (s code : Nat) : Dev :=
  let c := d.compose m.port m.src m.opcode 5 s m.tag (leBytes 1 code ++ leBytes 3 0)
  let h := c.2.hand c.1
  if h.2 then h.1.raise 99 0 else h.1

/-! ### Reassembly (R395, R400) -/

/-- A message from its bytes. -/
def tmsgOf (port src source : Nat) (b : List Byte) : TMsg :=
  let n := leAt b 8 4
  { port := port, src := src, source := source, opcode := leAt b 2 1, mflags := leAt b 3 1, session := leAt b 4 2, tag := leAt b 6 2, seq := leAt b 12 4,
    body := slice b 16 n, mac := if (leAt b 3 1).testBit 1 then slice b (16 + n) 32 else [] }

/-- Bytes a message has by its header. -/
def headerLength (b : List Byte) : Nat := 16 + leAt b 8 4 + (if (leAt b 3 1).testBit 1 then 32 else 0)

/-- A complete message: on CAN FD without the padding of its last frame (R402); MAGIC, VERSION and LENGTH checked (R395), then the limit
of the transport (R399), then room in the receive queue. -/
def Dev.messageIn (d : Dev) (port src source : Nat) (b0 : List Byte) : Dev :=
  let n := headerLength b0
  let b := if port = 3 then b0.take n else b0
  if b.length < 16 ∨ leAt b 0 1 ≠ 0xD7 ∨ leAt b 1 1 ≠ 1 ∨ 65536 < leAt b 8 4 ∨ b.length ≠ n then d.inc (rxDropped port)
  else if largestMsg port < b.length then
    let m := tmsgOf port src source b
    match d.sessCheck m with
    | .outside => d.errorReply m 0 0x85
    | .unknown => d.errorReply m 0 0x83
    | .discard s => d.authDiscard s
    | .passed s => (d.sessTake s m).errorReply m s.num 0x85
  else if rxQueue port < d.rxUsed port + b.length then d.rxDrop port
  else { d with host := { d.host with rx := d.host.rx ++ [{ port := port, src := src, source := source, bytes := b }] } }

/-- The partial message of a source. -/
def Dev.partialOf (d : Dev) (port src : Nat) : Option Partial_ := d.host.partials.find? (fun p => decide (p.port = port) && decide (p.src = src))

/-- A source's partial message forgotten. -/
def Dev.partialDrop (d : Dev) (port src : Nat) : Dev :=
  { d with host := { d.host with partials := d.host.partials.filter (fun p => !(decide (p.port = port) && decide (p.src = src))) } }

/-- REASSEMBLY_TIMEOUT: 100 ms after SEG 0. -/
def Dev.reassemblyTimeout (d : Dev) (port src : Nat) : Dev :=
  match d.partialOf port src with
  | some p => ((d.clockTo (p.t0 + 100000000)).partialDrop port src).rxDrop port
  | none => d

/-- One segment of a transport (R400). A segment that does not continue its source's message is ignored. -/
def Dev.segmentIn (d : Dev) (port src source : Nat) (seg : List Byte) : Dev :=
  if seg.length < 4 ∨ segPayload port + 4 < seg.length then d
  else
    let no := leAt seg 0 2
    let k := leAt seg 2 1
    let last := (leAt seg 3 1).testBit 0
    let pay := seg.drop 4
    let d0 := match d.partialOf port src with
      | some p => if p.t0 + 100000000 ≤ d.mono ∨ k = 0 then (d.partialDrop port src).rxDrop port else d
      | none => d
    if k = 0 then
      if last then d0.messageIn port src source pay
      else { d0 with host := { d0.host with partials := d0.host.partials ++ [{ port := port, src := src, msgno := no, next := 1, t0 := d0.mono, source := source, bytes := pay }] } }
    else
      match d0.partialOf port src with
      | some p =>
        if p.msgno ≠ no ∨ p.next ≠ k ∨ 254 < k then d0
        else
          let d1 := d0.partialDrop port src
          if last then d1.messageIn port src p.source (p.bytes ++ pay)
          else { d1 with host := { d1.host with partials := d1.host.partials ++ [{ p with next := k + 1, bytes := p.bytes ++ pay }] } }
      | none => d0

/-- A transport's link is up, and it is enabled (Table 14.9). -/
def Dev.portUp (d : Dev) (port : Nat) : Bool :=
  d.linksUp && (match port with
    | 1 => decide (d.nat O.ntT1Link = 1)
    | 2 => decide (d.nat O.ntT1sStatus ≠ 0)
    | 3 => decide (d.nat O.ntCanState = 1) || decide (d.nat O.ntCanState = 2)
    | 4 => d.flag O.ntSpiEnable
    | _ => false)

/-! ### SPI target (Table 14.6) -/

/-- SPI_PUT: one segment; a PUT cut short is discarded. -/
def Dev.spiPut (d : Dev) (seg : List Byte) (cut : Bool) : Dev :=
  if !d.portUp 4 ∨ cut then d else d.segmentIn 4 0 0 seg

/-- SPI_GET: the oldest waiting segment, length first; one cut short is offered again. -/
def Dev.spiGet (d : Dev) (cut : Bool) : Dev :=
  if !d.portUp 4 then d
  else
    match d.host.spi with
    | [] => { d with host := { d.host with spiAnswer := leBytes 2 0 } }
    | s :: t => { d with host := { d.host with spiAnswer := leBytes 2 s.length ++ s, spi := if cut then s :: t else t } }

/-- SPI_STATUS: bit 0 segment waiting, bit 1 room for a 4 KiB segment, [31:16] bytes waiting. -/
def Dev.spiStatus (d : Dev) : Dev :=
  if !d.portUp 4 then d
  else
    let w := (if d.host.spi.isEmpty then 0 else 1) + (if d.rxUsed 4 + 4096 ≤ rxQueue 4 then 2 else 0) + 65536 * satU 16 (d.host.spi.map (·.length)).sum
    { d with host := { d.host with spiAnswer := leBytes 4 w } }

/-! ### Link state (R401, R417) -/

/-- 10BASE-T1S uses PLCA as coordinator. -/
def Dev.plcaCoordinator (d : Dev) : Bool := d.flag O.ntPlcaEnable && decide (d.nat O.ntPlcaNodeId = 0)

/-- LINK_CHANGE: link 1 1000BASE-T1, 2 10BASE-T1S (0 down, 1 up), 3 the CAN_STATE. A disabled port stays down. -/
def Dev.linkChange (d : Dev) (link v : Nat) : Dev :=
  let o := if link = 1 then O.ntT1Link else if link = 2 then O.ntT1sStatus else O.ntCanState
  let en := d.flag (if link = 1 then O.ntT1Enable else if link = 2 then O.ntT1sEnable else O.ntCanEnable)
  let was := d.nat o
  let new := if v = 0 then 0 else if link = 2 then (if was ≠ 0 then was else if d.plcaCoordinator then 2 else 1) else if link = 1 then 1 else v
  if !d.linksUp ∨ (!en ∧ new ≠ 0) ∨ was = new then d
  else
    let d1 := (d.setN o new).setN O.ntNtEventCause link
    let d2 := if new = 0 ∨ (link = 3 ∧ new = 3) then d1.sessionsLost link else d1
    let d3 : Dev := if link = 2 then { d2 with host := { d2.host with beacon := none } } else d2
    d3.raise 96 link

/-- The PLCA objects written while the link is up: a coordinator uses PLCA, a follower starts in CSMA/CD. -/
def Dev.plcaSet (d : Dev) : Dev :=
  if d.nat O.ntT1sStatus = 0 then d
  else ({ d with host := { d.host with beacon := none } } : Dev).setN O.ntT1sStatus (if d.plcaCoordinator then 2 else 1)

/-- The settings of the transports as their objects stand take effect (R411): a transport that is disabled goes down, and its sessions end. -/
def Dev.linkTake (d : Dev) : Dev :=
  let d1 : Dev := { d with host := { d.host with link := { udp := d.nat O.ntUdpPort, t1Ip := d.nat O.ntT1Ipv4, t1sIp := d.nat O.ntT1sIpv4,
                                                           canBase := d.nat O.ntCanBase, canNode := d.nat O.ntCanNode } } }
  let d2 := if d1.flag O.ntT1Enable then d1 else d1.linkChange 1 0
  let d3 := if d2.flag O.ntT1sEnable then d2 else d2.linkChange 2 0
  let d4 := if d3.flag O.ntCanEnable then d3 else d3.linkChange 3 0
  if d4.flag O.ntSpiEnable then d4 else d4.sessionsLost 4

/-- PLCA_BEACON heard by a follower. -/
def Dev.plcaBeacon (d : Dev) : Dev :=
  if d.portUp 2 ∧ d.flag O.ntPlcaEnable ∧ d.nat O.ntPlcaNodeId ≠ 0 then
    ({ d with host := { d.host with beacon := some d.mono } } : Dev).setN O.ntT1sStatus 2
  else d

/-- PLCA_BEACON_TIMEOUT: 4 ms without a BEACON. -/
def Dev.plcaTimeout (d : Dev) : Dev :=
  match d.host.beacon with
  | some t =>
    let d1 := d.after t 4
    ({ d1 with host := { d1.host with beacon := none } } : Dev).setN O.ntT1sStatus (if d1.nat O.ntT1sStatus = 0 then 0 else 1)
  | none => d

/-- PLCA_BEACON_SEND by the coordinator. -/
def Dev.plcaSend (d : Dev) : Dev :=
  if d.portUp 2 ∧ d.plcaCoordinator then { d with host := { d.host with beaconsSent := d.host.beaconsSent + 1 } } else d

/-! ### Device time (R412 to R414) -/

/-- A change of TIME_STATE, with event 101. -/
def Dev.tmGo (d : Dev) (st : Nat) : Dev :=
  if d.nat O.tmTimeState = st then d else ((d.setN O.tmTimeState st).raise 101 st).discShow

/-- Device time set to `t` in one change (R414): open reporting intervals end (R92), the Watch resynchronises (R157), and the audio ports have new
time bases (R344). -/
def Dev.timeStep (d : Dev) (t : Nat) : Dev :=
  let delta : Int := (t : Int) - (d.now : Int)
  let d0 := d.sweepCut.measCutAll
  let d1 : Dev := ({ d0 with now := t, wt := { d0.wt with resync := true, stepTo := t } } : Dev).sweepOpen
  (((d1.audioStep).setN O.tmLastStep delta).inc O.tmStepCount).raise 102 (toUnsigned 32 (satS 32 delta))

/-- The offset beyond STEP_NS steps the time; otherwise the rate is adjusted, within SLEW_PPM of nominal. -/
def Dev.tmDiscipline (d : Dev) (gtime : Nat) (rate : Int) : Dev :=
  let off : Int := (gtime : Int) - (d.now : Int)
  if d.nat O.tmStepNs < off.natAbs then d.timeStep gtime
  else let m : Int := (1000 * d.nat O.tmSlewPpm : Nat); d.setN O.tmTimeRate (clampI (-m) m rate)

/-- PTP_SYNC: a Sync with Follow_Up from grandmaster `gm` that gives the gPTP time and the rate measured (Table 14.8). -/
def Dev.ptpSync (d : Dev) (gm gtime : Nat) (rate : Int) : Dev :=
  if !d.portUp 1 ∨ !d.flag O.tmPtpEnable then d
  else
    let st := d.nat O.tmTimeState
    let d1 := d.setN O.tmTimeOffset ((gtime : Int) - (d.now : Int))
    let d2 := d1.setN O.tmGmId gm
    let first : Dev := { d2 with tm := { d2.tm with offsets := 1, gm := gm } }
    if st = 1 then
      if d.tm.gm ≠ gm ∨ d.tm.offsets = 0 then first
      else (({ d2 with tm := { d2.tm with offsets := 2 } } : Dev).tmDiscipline gtime rate).tmGo 2
    else if st = 2 ∧ d.tm.gm = gm then d2.tmDiscipline gtime rate
    else first.tmGo 1

/-- PTP_ANNOUNCE: the grandmaster's identity; a change discards the offsets measured. -/
def Dev.ptpAnnounce (d : Dev) (gm : Nat) : Dev :=
  if !d.portUp 1 ∨ !d.flag O.tmPtpEnable then d
  else
    let st := d.nat O.tmTimeState
    let d1 := d.setN O.tmGmId gm
    if (st = 1 ∨ st = 2) ∧ d.tm.gm ≠ gm then ({ d1 with tm := { d1.tm with offsets := 0, gm := gm } } : Dev).tmGo 1 else d1

/-- PTP_SYNC_TIMEOUT: no Sync for 3 Sync intervals, or an Announce timeout. -/
def Dev.ptpTimeout (d : Dev) : Dev :=
  match d.nat O.tmTimeState with
  | 1 => ({ d with tm := { d.tm with offsets := 0 } } : Dev).tmGo 0
  | 2 => d.tmGo 3
  | _ => d

/-- PTP_ENABLE committed. -/
def Dev.ptpSet (d : Dev) : Dev := if d.flag O.tmPtpEnable then d else ({ d with tm := { d.tm with offsets := 0 } } : Dev).tmGo 0

/-- TIME_SET is refused while the time is DISCIPLINED or ACQUIRING (R414). -/
def Dev.timeSetRefused (d : Dev) : Bool := decide (d.nat O.tmTimeState = 1) || decide (d.nat O.tmTimeState = 2)

/-- PEER_DELAY_REQUEST answered (R413). -/
def Dev.peerDelay (d : Dev) : Dev := if d.portUp 1 then { d with host := { d.host with peerDelay := d.host.peerDelay + 1 } } else d

/-! ### Rows -/

/-- SEGMENT_RX (R400), on the two Ethernet ports and CAN FD. -/
def execSegmentRx (port src source : Nat) (seg : List Byte) (s : State) : Host.Outcome State Fault Refusal :=
  s.upd (fun d => if 1 ≤ port ∧ port ≤ 3 ∧ d.portUp port ∧ d.linkAccepts port src source then d.segmentIn port src source seg else d)
/-- REASSEMBLY_TIMEOUT (R400). -/
def execReassemblyTimeout (port src : Nat) (s : State) : Host.Outcome State Fault Refusal := s.upd (fun d => d.reassemblyTimeout port src)
/-- AUTH_PROVE_TIMEOUT (R403). -/
def execAuthProveTimeout (session : Nat) (s : State) : Host.Outcome State Fault Refusal := s.upd (fun d => d.proveTimeout session)
/-- SESSION_IDLE (R405). -/
def execSessionIdle (session : Nat) (s : State) : Host.Outcome State Fault Refusal := s.upd (fun d => d.sessionIdle session)
/-- AUTH_LOCKOUT_END (R405). -/
def execAuthLockoutEnd (port src : Nat) (s : State) : Host.Outcome State Fault Refusal := s.upd (fun d => d.lockoutEnd port src)
/-- LINK_CHANGE (R417). -/
def execLinkChange (link v : Nat) (s : State) : Host.Outcome State Fault Refusal := s.upd (fun d => d.linkChange link v)
/-- PLCA_BEACON (R401). -/
def execPlcaBeacon (s : State) : Host.Outcome State Fault Refusal := s.upd Dev.plcaBeacon
/-- PLCA_BEACON_TIMEOUT (R401). -/
def execPlcaBeaconTimeout (s : State) : Host.Outcome State Fault Refusal := s.upd Dev.plcaTimeout
/-- PLCA_BEACON_SEND (R401). -/
def execPlcaBeaconSend (s : State) : Host.Outcome State Fault Refusal := s.upd Dev.plcaSend
/-- SPI_PUT (R402). -/
def execSpiPut (seg : List Byte) (cut : Bool) (s : State) : Host.Outcome State Fault Refusal := s.upd (fun d => d.spiPut seg cut)
/-- SPI_GET (R402). -/
def execSpiGet (cut : Bool) (s : State) : Host.Outcome State Fault Refusal := s.upd (fun d => d.spiGet cut)
/-- SPI_STATUS (R402). -/
def execSpiStatus (s : State) : Host.Outcome State Fault Refusal := s.upd Dev.spiStatus
/-- PTP_SYNC (R412). -/
def execPtpSync (gm gtime : Nat) (rate : Int) (s : State) : Host.Outcome State Fault Refusal := s.upd (fun d => d.ptpSync gm gtime rate)
/-- PTP_ANNOUNCE (R412). -/
def execPtpAnnounce (gm : Nat) (s : State) : Host.Outcome State Fault Refusal := s.upd (fun d => d.ptpAnnounce gm)
/-- PTP_SYNC_TIMEOUT (R412). -/
def execPtpSyncTimeout (s : State) : Host.Outcome State Fault Refusal := s.upd Dev.ptpTimeout
/-- PEER_DELAY_REQUEST (R413). -/
def execPeerDelayRequest (s : State) : Host.Outcome State Fault Refusal := s.upd Dev.peerDelay

end Sys2Proof.Machine
end

