-- ==== Sys2Proof/Machine/Tw.lean ====
section
/-! DEFINITION. The two-wire bus ports (chapter 16): roles, controller transfers and arbitration, in-band requests, stuck-bus recovery and
the Tender window. -/

namespace Sys2Proof.Machine

/-- A port beside its objects. -/
def Dev.twp (d : Dev) (p : Nat) : TwPort := Tab.get {} d.tw p

/-- A port's record set. -/
def Dev.setTw (d : Dev) (p : Nat) (w : TwPort) : Dev := { d with tw := Tab.set {} d.tw p w }

/-- PORT_STATE set. -/
def Dev.twGo (d : Dev) (p st : Nat) : Dev := d.setN (O.twPortState p) st

/-- tBUF of a speed, ns (Table 16.1). -/
def twBuf (speed : Nat) : Nat := if speed = 0 then 4700 else if speed = 1 then 1300 else 500

/-- Nominal SCL low and high of the device as controller, START hold, repeated-START setup and STOP setup of a speed, ns (Table 16.1). -/
def twTimes (speed : Nat) : Nat × Nat × Nat × Nat × Nat :=
  if speed = 0 then (5000, 5000, 4000, 4700, 4000) else if speed = 1 then (1300, 1200, 600, 600, 600) else (500, 500, 260, 260, 260)

/-- A bit on the bus, ns. -/
def twBit (speed : Nat) : Nat := (twTimes speed).1 + (twTimes speed).2.1

/-- How long a controller takes to put something on the bus that no target stretches, ns (Tables 16.1 and 16.4). -/
def TwTok.time (speed : Nat) (k : TwTok) : Nat :=
  let t := twTimes speed
  match k with
  | .start => t.2.2.1
  | .again => t.1 + t.2.2.2.1 + t.2.2.1
  | .byte _ _ => 9 * twBit speed
  | .pulse => twBit speed
  | .stop => t.1 + t.2.2.2.2

/-- The bytes that address a target: 7-bit, or the two-byte form of 10-bit addresses (R449). -/
def twAddrBytes (a : Nat) (read : Bool) : List Nat :=
  let r := if read then 1 else 0
  if a < 0x8000 then [2 * a + r] else [0xF0 + 2 * (a / 256 % 4) + r, a % 256]

/-- Bytes on the bus, the first `n` of them acknowledged. -/
def twBytes (l : List Nat) (n : Nat) : List TwTok := l.zipIdx.map (fun p => .byte p.1 (decide (p.2 < n)))

/-- What a transfer puts on the bus (R449); the device acknowledges every byte it reads but the last: `addr` and `addr2` say which addresses were acknowledged, `k` how many written bytes, `data` the bytes read. -/
def TwXfer.tokens (x : TwXfer) (addr addr2 : Bool) (k : Nat) (data : List Byte) : List TwTok :=
  let n := x.write.length
  let out := twBytes ((x.write.take (k + 1)).map (·.toNat)) k
  let back := twBytes ((padTo x.read data).map (·.toNat)) (x.read - 1)
  let first := twAddrBytes x.addr (if n = 0 then (if x.read = 0 then decide (x.quick = 1) else true) else false)
  .start :: twBytes first (if addr then first.length else first.length - 1) ++ (if !addr then [] else
    if n = 0 then back
    else out ++ (if n ≤ k ∧ 0 < x.read then .again :: twBytes ((twAddrBytes x.addr true).take 1) (if addr2 then 1 else 0) ++ (if addr2 then back else []) else [])) ++ [.stop]

/-- What a controller has put on the bus. -/
def Dev.twWire (d : Dev) (p : Nat) (l : List TwTok) : Dev := d.setTw p { d.twp p with wire := (d.twp p).wire ++ l }

/-- A role that runs transfers. -/
def twController (role : Nat) : Bool := decide (role = 2) || decide (role = 3)

/-- A role that answers as target. -/
def twTarget (role : Nat) : Bool := decide (role = 1) || decide (role = 3)

/-- The port is clocked: the server runs and Harbour is not stopped. -/
def Dev.twOn (d : Dev) : Bool := d.linksUp

/-- A STOP ends what ran on the bus: the bus is free tBUF later. -/
def Dev.twStop (d : Dev) (p : Nat) : Dev :=
  let w := d.twp p
  (d.setTw p { w with free := false, freeAt := d.mono + twBuf w.speed }).twGo p (if w.role = 0 then 0 else 1)

/-- A transfer ends in DONE with a result (R450): X_T_DONE and event 104 + 4p. -/
def Dev.twEnd (d : Dev) (p result : Nat) : Dev :=
  let d1 := d.setTw p { d.twp p with xfer := none }
  ((((d1.setN (O.twXState p) 3).setN (O.twXResult p) result).setN (O.twXTDone p) d1.now)).raise (104 + 4 * p) result

/-- The queued transfer, or the one to be retried, starts on the free bus (R449, R451). -/
def Dev.twStart (d : Dev) (p : Nat) : Dev :=
  let w := d.twp p
  match w.xfer with
  | some x =>
    if w.free ∧ twController w.role ∧ !x.active then
      (((d.setTw p { w with free := false, xfer := some { x with started := true, active := true, at_ := d.mono } }).setN (O.twXState p) 2).setN (O.twXAcked p) 0).twGo p 3
    else d
  | none => d

/-- ROLE and SPEED take effect at a bus-free instant (R444), unless a started transfer has still to end; a queued transfer whose port is no
controller any more ends ABORTED. -/
def Dev.twRoles (d : Dev) (p : Nat) : Dev :=
  let w := d.twp p
  let going : Bool := match w.xfer with | some x => x.started | none => false
  if going then d
  else
    let r := d.nat (O.twRole p)
    let d1 := (d.setTw p { w with role := r, speed := d.nat (O.twSpeed p), ibr := w.ibr && twTarget r }).twGo p (if r = 0 then 0 else 1)
    if w.xfer.isSome ∧ !twController r then d1.twEnd p 6 else d1

/-- The bus becomes free (R445): a request that lost a census is repeated (R453), roles take effect, and a waiting transfer starts. -/
def Dev.twFree (d : Dev) (p : Nat) : Dev :=
  let w := d.twp p
  let w1 := if w.ibrAgain ∧ w.ibr then { w with ibrAt := d.mono, pulses := w.pulses + 1 } else w
  ((d.setTw p { w1 with free := true, sclLow := none, ibrAgain := false }).twRoles p).twStart p

/-- The port goes to STUCK with a cause (R448, R454): event 106 + 4p, and a queued transfer ends BUS_STUCK. -/
def Dev.twStuck (d : Dev) (p cause : Nat) : Dev :=
  let w := d.twp p
  let d1 := ((d.setTw p { w with free := false, sclLow := none }).twGo p 6).setN (O.twFaultCause p) cause
  let d2 := (if cause = 1 then d1.inc (O.twStuckCount p) else d1).raise (106 + 4 * p) cause
  if w.xfer.isSome then d2.twEnd p 5 else d2

/-- The check of SDA with up to nine clock pulses at the current speed (R454). RECOVERING lasts as long as the pulses, within the command (log 83). -/
def Dev.twRecover (d0 : Dev) (p : Nat) : Dev :=
  let w := d0.twp p
  let d := d0.clockTo (d0.mono + min 9 w.sdaHold * twBit w.speed)
  if w.sdaHold = 0 then (if d.nat (O.twPortState p) = 6 then (d.setTw p { w with freeAt := d.mono + 100000 }).twGo p 1 else d)
  else if w.sdaHold ≤ 9 then
    ((d.setTw p { w with sdaHold := 0, free := false, freeAt := d.mono + twBuf w.speed }).twWire p (List.replicate w.sdaHold .pulse ++ [.stop])).twGo p 1
  else (d.twWire p (List.replicate 9 .pulse)).twStuck p 1

/-- TW_BUS_FREE. A port in STUCK, one whose own transfer runs, and a bus that is free already are unchanged.
After a stretch that timed out, the controller checks SDA first (R454), and sends the STOP that waited for SCL (R448). -/
def Dev.twBusFree (d : Dev) (p : Nat) : Dev :=
  let w := d.twp p
  let running : Bool := match w.xfer with | some x => x.active | none => false
  if !d.twOn ∨ w.free ∨ running ∨ d.nat (O.twPortState p) = 6 then d
  else
    let d0 := d.clockTo w.freeAt
    if w.sclLow.isSome then
      if w.sdaHold ≠ 0 then (d0.setTw p { w with sclLow := none }).twRecover p else (d0.twWire p [.stop]).twFree p
    else d0.twFree p

/-- ROLE or SPEED committed (R444): a write of ROLE makes a STUCK port check its bus, as does one that enables a controller; on a free bus
it takes effect at once. -/
def Dev.twRoleSet (d : Dev) (p : Nat) (isRole : Bool) : Dev :=
  let w := d.twp p
  let d1 := if isRole ∧ (d.nat (O.twPortState p) = 6 ∨ (twController (d.nat (O.twRole p)) ∧ !twController w.role)) then d.twRecover p else d
  let d2 := if w.role = 0 ∧ !w.free then d1.setTw p { d1.twp p with freeAt := d1.mono + 100000 } else d1
  if (d2.twp p).free ∧ d2.nat (O.twPortState p) ≠ 6 then (d2.twRoles p).twStart p else d2

/-- RECOVER written as 1, by a controller (R454). -/
def Dev.twRecoverCmd (d : Dev) (p : Nat) : Dev := if twController (d.twp p).role then d.twRecover p else d

/-- Why a write of 1 to X_GO is refused (R449). -/
def Dev.twGoRefuse (d : Dev) (p : Nat) : Option RC :=
  let w := d.twp p
  if d.nat (O.twXState p) = 1 ∨ d.nat (O.twXState p) = 2 ∨ !twController w.role ∨ d.nat (O.twPortState p) = 6 then some .state
  else if w.role = 3 ∧ d.nat (O.twXAddr p) = d.nat (O.twTgtAddr p) then some .invalidValue
  else none

/-- X_GO committed: the transfer queued with the present values; on a free bus it starts. -/
def Dev.twQueue (d : Dev) (p : Nat) : Dev :=
  let w := d.twp p
  let x : TwXfer := { addr := d.nat (O.twXAddr p), write := d.raw (O.twXWrite p), read := d.nat (O.twXReadLen p), quick := d.nat (O.twXQuickDir p) }
  ((d.setTw p { w with xfer := some x }).setN (O.twXState p) 1).twStart p

/-- The transfer that runs on the bus. -/
def TwPort.running (w : TwPort) : Option TwXfer :=
  match w.xfer with
  | some x => if x.active then some x else none
  | none => none

/-- TW_XFER_DONE, no earlier than an unstretched transfer takes: which addresses and how many bytes the target acknowledged, and the bytes read (Table 16.2). -/
def Dev.twDone (d : Dev) (p : Nat) (addr addr2 : Bool) (acked : Nat) (data : List Byte) : Dev :=
  match (d.twp p).running with
  | none => d
  | some x =>
    let n := x.write.length
    let k := min acked n
    let l := x.tokens addr addr2 k data
    let d1 := ((d.clockTo (x.at_ + (l.map (TwTok.time (d.twp p).speed)).sum)).twWire p l).twStop p
    if !addr then (d1.setN (O.twXAcked p) 0).twEnd p 1
    else if k < n then (d1.setN (O.twXAcked p) k).twEnd p 2
    else if 0 < n ∧ 0 < x.read ∧ !addr2 then (d1.setN (O.twXAcked p) k).twEnd p 1
    else
      let d2 := d1.setN (O.twXAcked p) k
      (if 0 < x.read then d2.setRaw (O.twXRead p) (padTo x.read data) else d2).twEnd p 0

/-- The written data bytes acknowledged when byte `n` of a transfer is on the bus. -/
def TwXfer.ackedAt (x : TwXfer) (n : Nat) : Nat := min x.write.length (n - (twAddrBytes x.addr false).length)

/-- TW_ARB_LOST: at a byte and bit index (bit index 0xFF: a foreign START or STOP); `own`: the winner's first address byte carries the
device's TGT_ADDR (R451, R452). -/
def Dev.twLost (d : Dev) (p byte bit : Nat) (own : Bool) : Dev :=
  let w := d.twp p
  match w.running with
  | none => d
  | some x =>
    let a := 256 * byte + bit
    let st := if w.role = 3 ∧ own ∧ byte = 0 then 4 else 2
    let z := twTimes w.speed
    let d0 := d.clockTo (x.at_ + z.2.2.1 + z.1 + (9 * byte + (7 - bit)) * twBit w.speed)
    let d1 := ((((d0.setN (O.twArbLast p) a).setN (O.twXAcked p) (x.ackedAt byte)).inc (O.twArbLostCount p)).raise (105 + 4 * p) a).twGo p st
    let d2 := d1.setTw p { d1.twp p with free := false, freeAt := d1.mono, xfer := some { x with active := false, retries := x.retries + 1 } }
    if d2.nat (O.twArbRetries p) ≤ x.retries then d2.twEnd p 3 else d2

/-- TW_STRETCH_TIMEOUT (R448). -/
def Dev.twStretch (d : Dev) (p acked : Nat) : Dev :=
  match (d.twp p).running with
  | none => d
  | some x =>
    let d1 := d.setTw p { d.twp p with sclLow := some d.mono, free := false, freeAt := d.mono }
    (d1.setN (O.twXAcked p) (min acked x.write.length : Nat)).twEnd p 4

/-- TW_SCL_STUCK (R448): SCL low for a further 4 · CTL_STRETCH_MS. -/
def Dev.twSclStuck (d : Dev) (p : Nat) : Dev :=
  match (d.twp p).sclLow with
  | none => d
  | some t => (d.after t (4 * d.nat (O.twCtlStretchMs p))).twStuck p 2

/-- TW_TARGET_TIMEOUT (R455); `put`: it cut a PUT short (R457). -/
def Dev.twTimeout (d : Dev) (p : Nat) (put : Bool) : Dev :=
  let w := d.twp p
  if !d.twOn ∨ !twTarget w.role ∨ d.nat (O.twTgtTimeoutMs p) = 0 ∨ w.running.isSome ∨ d.nat (O.twPortState p) = 6 then d
  else
    let d0 := d.twStop p
    let d1 := ((d0.setTw p { d0.twp p with freeAt := d0.mono + 100000 }).inc (O.twTgtTimeouts p)).setN (O.twFaultCause p) 3
    (if put then d1.inc (O.twRxDropped p) else d1).raise (106 + 4 * p) 3

/-- TW_BUS_START_SEEN (R445). -/
def Dev.twStartSeen (d : Dev) (p : Nat) : Dev :=
  let w := d.twp p
  if !d.twOn ∨ d.nat (O.twPortState p) ≠ 1 then d else (d.setTw p { w with free := false, freeAt := d.mono }).twGo p 2

/-! ### In-band requests (R453) -/

/-- TW_IBR_DETECTED: the census is read; `ack`: a requester acknowledged 0x03. -/
def Dev.twCensus (d : Dev) (p : Nat) (ack : Bool) (census : Nat) : Dev :=
  let w := d.twp p
  if !d.twOn ∨ !twController w.role ∨ !d.flag (O.twCensusEnable p) ∨ !w.free then d
  else
    let d1 := (d.twWire p ([.start, .byte 0x07 ack] ++ (if ack then [.byte census false] else []) ++ [.stop])).twStop p
    if !ack ∨ census = 0xFF then d1.inc (O.twIbrSpurious p)
    else (d1.setN (O.twIbrLast p) (census / 2 : Nat)).raise (107 + 4 * p) (census / 2)

/-- TW_IBR_REPEAT: every 10 ms until a GET or a census takes the request. -/
def Dev.twRepeat (d : Dev) (p : Nat) : Dev :=
  let w := d.twp p
  if !w.ibr ∨ !d.flag (O.twIbrEnable p) ∨ !twTarget w.role then d
  else
    let d1 := d.after w.ibrAt 10
    d1.setTw p { d1.twp p with ibrAt := d1.mono, pulses := w.pulses + 1 }

/-- TW_CENSUS_RESPONSE: the device sends its address against the lowest of the others; it wins with the lowest, and otherwise asks again once the bus is free. -/
def Dev.twRespond (d : Dev) (p lowest : Nat) : Dev :=
  let w := d.twp p
  if !w.ibr then d else if d.nat (O.twTgtAddr p) ≤ lowest then d.setTw p { w with ibr := false } else d.setTw p { w with ibrAgain := true }

/-! ### The Tender window (R456, R457) -/

/-- The device answers controller `ctrl` at TGT_ADDR: as target, with the window enabled, and with no transfer of its own running. A CTRL_ID
out of range is not acknowledged (R456). -/
def Dev.twWindow (d : Dev) (p ctrl : Nat) : Bool :=
  let w := d.twp p
  decide (8 ≤ ctrl) && decide (ctrl ≤ 119) && d.twOn && twTarget w.role && d.flag (O.twWindowEnable p) && w.running.isNone && decide (d.nat (O.twPortState p) ≠ 6)

/-- The oldest segment waiting for a controller. -/
def TwPort.nextOut (w : TwPort) (ctrl : Nat) : Option (List Byte) := (w.out.find? (fun x => decide (x.1 = ctrl))).map (·.2)

/-- Segments without the oldest one for a controller. -/
def dropFirst (ctrl : Nat) : List (Nat × List Byte) → List (Nat × List Byte)
  | [] => []
  | x :: t => if x.1 = ctrl then t else x :: dropFirst ctrl t

/-- TW_WINDOW_STATUS (Table 16.3). -/
def Dev.twStatus (d : Dev) (p ctrl : Nat) : Dev :=
  if !d.twWindow p ctrl then d
  else
    let w := d.twp p
    let n := ((w.nextOut ctrl).map (·.length)).getD 0
    let flags := (if (w.nextOut ctrl).isSome then 1 else 0) + (if d.rxUsed (5 + p) + 252 ≤ rxQueue (5 + p) then 2 else 0)
    (d.setTw p { w with answer := leBytes 1 flags ++ leBytes 1 0 ++ leBytes 2 n }).twStop p

/-- TW_WINDOW_PUT: one segment of 4–252 bytes; one cut short is discarded and counted. -/
def Dev.twPut (d : Dev) (p ctrl : Nat) (seg : List Byte) (cut : Bool) : Dev :=
  if !d.twWindow p ctrl ∨ seg.length < 4 ∨ 252 < seg.length then d
  else if cut then (d.inc (O.twRxDropped p)).twStop p
  else (d.segmentIn (5 + p) ctrl ctrl seg).twStop p

/-- TW_WINDOW_GET: the oldest segment for the controller; one cut short is offered again. A GET takes the in-band request. -/
def Dev.twGet (d : Dev) (p ctrl : Nat) (cut : Bool) : Dev :=
  if !d.twWindow p ctrl then d
  else
    let w := d.twp p
    let w1 := match w.nextOut ctrl with
      | some b => { w with answer := leBytes 1 b.length ++ b, out := if cut then w.out else dropFirst ctrl w.out, ibr := false }
      | none => { w with answer := leBytes 1 0, ibr := false }
    (d.setTw p w1).twStop p

/-- The pull resistors of the two-wire balls are never enabled (R603). -/
def Dev.twPull (_ : Dev) (_ : Nat) : Bool := false

/-! ### Rows -/

/-- TW_BUS_FREE (R445). -/
def execTwBusFree (p : Nat) (s : State) : Host.Outcome State Fault Refusal := s.upd (fun d => d.inHarbour (fun x => x.twBusFree p))
/-- TW_XFER_DONE (R450). -/
def execTwXferDone (p : Nat) (addr addr2 : Bool) (acked : Nat) (data : List Byte) (s : State) : Host.Outcome State Fault Refusal :=
  s.upd (fun d => d.inHarbour (fun x => x.twDone p addr addr2 acked data))
/-- TW_ARB_LOST (R451). -/
def execTwArbLost (p byte bit : Nat) (own : Bool) (s : State) : Host.Outcome State Fault Refusal := s.upd (fun d => d.inHarbour (fun x => x.twLost p byte bit own))
/-- TW_STRETCH_TIMEOUT (R448). -/
def execTwStretchTimeout (p : TwStall) (s : State) : Host.Outcome State Fault Refusal := s.upd (fun d => d.inHarbour (fun x => x.twStretch p.port p.acked))
/-- TW_SCL_STUCK (R448). -/
def execTwSclStuck (p : Nat) (s : State) : Host.Outcome State Fault Refusal := s.upd (fun d => d.inHarbour (fun x => x.twSclStuck p))
/-- TW_TARGET_TIMEOUT (R455). -/
def execTwTargetTimeout (p : Nat) (put : Bool) (s : State) : Host.Outcome State Fault Refusal := s.upd (fun d => d.inHarbour (fun x => x.twTimeout p put))
/-- TW_IBR_DETECTED (R453). -/
def execTwIbrDetected (p : Nat) (ack : Bool) (census : Nat) (s : State) : Host.Outcome State Fault Refusal := s.upd (fun d => d.inHarbour (fun x => x.twCensus p ack census))
/-- TW_IBR_REPEAT (R453). -/
def execTwIbrRepeat (p : Nat) (s : State) : Host.Outcome State Fault Refusal := s.upd (fun d => d.inHarbour (fun x => x.twRepeat p))
/-- TW_WINDOW_STATUS (R456). -/
def execTwWindowStatus (p ctrl : Nat) (s : State) : Host.Outcome State Fault Refusal := s.upd (fun d => d.inHarbour (fun x => x.twStatus p ctrl))
/-- TW_WINDOW_PUT (R457). -/
def execTwWindowPut (p ctrl : Nat) (seg : List Byte) (cut : Bool) (s : State) : Host.Outcome State Fault Refusal := s.upd (fun d => d.inHarbour (fun x => x.twPut p ctrl seg cut))
/-- TW_WINDOW_GET (R457). -/
def execTwWindowGet (p ctrl : Nat) (cut : Bool) (s : State) : Host.Outcome State Fault Refusal := s.upd (fun d => d.inHarbour (fun x => x.twGet p ctrl cut))
/-- TW_BUS_START_SEEN (R445). -/
def execTwBusStartSeen (p : Nat) (s : State) : Host.Outcome State Fault Refusal := s.upd (fun d => d.inHarbour (fun x => x.twStartSeen p))
/-- TW_CENSUS_RESPONSE (R453). -/
def execTwCensusResponse (p lowest : Nat) (s : State) : Host.Outcome State Fault Refusal := s.upd (fun d => d.inHarbour (fun x => x.twRespond p lowest))

end Sys2Proof.Machine
end

