-- ==== Sys2Proof/Machine/Ev.lean ====
section
/-! DEFINITION. Acknowledging events, host-pin pulses and coalescing windows (chapter 19); raising an event is in Ops. -/

namespace Sys2Proof.Machine

/-- The EvState with a pin's pulse begun or ended (R525). -/
def Dev.evPulse (d : Dev) (pin : Nat) (on : Bool) : Dev :=
  { d with ev := if pin = 0 then { d.ev with reassert0 := on } else { d.ev with reassert1 := on } }

/-- An acknowledge of event `e` (Table 19.2): a pin that the event drove and that stays asserted is released for 1.0–1.5 µs (R525); one that
it leaves without a reason is released, and has no pulse to end. -/
def Dev.evAck (d : Dev) (e : Nat) : Dev :=
  if !d.latched e then d
  else
    let l := d.nat (O.evEvLatched (e / 64))
    let d1 := (d.setN (O.evEvLatched (e / 64)) (withBit l (e % 64) false)).setN (O.evEvPendCount e) 0
    if d.masked e then d1
    else (List.range 2).foldl (fun (x : Dev) i =>
      if (d.nat (O.evEvHost e)).testBit i then x.evPulse i (d1.pinWanted i) else x) d1

/-- EV_ACK element `k` written with `v` (R522). -/
def Dev.evAckWord (d : Dev) (k v : Nat) : Dev := (List.range 64).foldl (fun (x : Dev) b => if v.testBit b then x.evAck (64 * k + b) else x) d

/-- HOSTIRQ_REASSERT: the pulse ends. -/
def Dev.evReassert (d : Dev) (pin : Nat) : Dev := d.evPulse pin false

/-- EVENT_WINDOW_END: the frame of a subscription's window that ends first is queued (R527). -/
def Dev.evWindowEnd (d : Dev) (sub e : Nat) : Dev :=
  match d.subById sub with
  | none => d
  | some s =>
    match s.windows.find? (fun w => decide (w.ev = e)) with
    | none => d
    | some w =>
      if s.windows.all (fun x => w.before x) then
        let r := (d.timeTo w.tEnd).windowFrame s w
        Dev.route 200 r.1.now r.2 r.1
      else d

/-- EVENT_OCCURRENCE (R519): an occurrence of event `e` reaches the router, with its stamp and argument. -/
def execEventOccurrence (e stamp arg : Nat) (s : State) : Host.Outcome State Fault Refusal := s.upd (fun d => Dev.route 200 stamp [(e, arg)] d)
/-- HOSTIRQ_REASSERT (R525). -/
def execHostirqReassert (pin : Nat) (s : State) : Host.Outcome State Fault Refusal := s.upd (fun d => d.evReassert pin)
/-- EVENT_WINDOW_END (R527). -/
def execEventWindowEnd (sub e : Nat) (s : State) : Host.Outcome State Fault Refusal := s.upd (fun d => d.inHarbour (fun x => x.evWindowEnd sub e))

end Sys2Proof.Machine
end

