-- ==== Sys2Proof/Machine/Prog.lean ====
section
/-! DEFINITION. Customer service programs (R481 to R485): loading and its checks, the pools, capabilities, and how a run ends. -/

namespace Sys2Proof.Machine

/-! ### The image (Tables 17.14 and 17.15) -/

/-- First byte past the flash that Table 20.4 leaves to service programs, and its first byte. -/
def progFlash : Nat × Nat := (0x01300000, 0x02000000)

/-- The image at a flash address with its signature block; empty where it does not lie whole in that flash. -/
def Dev.progImage (d : Dev) (src : Nat) : List Byte :=
  let h := memBytes d.flash src 64
  let n := (imageExtent 4 h).1 + 3040
  if progFlash.1 ≤ src ∧ src + n ≤ progFlash.2 then memBytes d.flash src n else []

/-- A capability entry (Table 17.15). -/
def readCap (b : List Byte) : CapEnt := { kind := leAt b 0 1, flags := leAt b 1 1, first := leAt b 4 4, last := leAt b 8 4 }

/-- The capability entries of an image. -/
def progCaps (b : List Byte) : List CapEnt := (List.range (leAt b 5 1)).map (fun i => readCap (slice b (64 + 12 * i) 12))

/-- Header fields in their ranges (Table 17.14), and code to execute in place at a multiple of 64 (R484). -/
def progFormOk (b : List Byte) (src : Nat) : Bool :=
  let caps := leAt b 5 1
  decide (leAt b 0 4 = 0x4752504B) && decide (leAt b 4 1 = 1) && decide (1 ≤ caps) && decide (caps ≤ 32) && decide (leAt b 6 1 ≤ 1) &&
  decide (leAt b 7 1 = 0) && decide (leAt b 16 4 % 4 = 0) && decide (256 ≤ leAt b 28 4) && decide (leAt b 32 4 % 4 = 0) &&
  decide (leAt b 32 4 < leAt b 16 4) && (slice b 36 28).all (fun x => decide (x = 0)) &&
  (decide (leAt b 6 1 = 0) || decide ((src + 64 + 12 * caps) % 64 = 0))

/-- A capability entry in its ranges. -/
def CapEnt.ok (c : CapEnt) : Bool :=
  decide (c.flags ≤ 3) &&
  (match c.kind with
   | 1 => decide (c.first ≤ c.last)
   | 2 => decide (c.first ≤ c.last) && decide (c.last < 0x8000)
   | 3 => (let k := field c.first 7 0
           let f := field c.first 15 8
           decide (1 ≤ k) && decide (k ≤ 3) && decide (c.first < 65536) && decide (f ≤ c.last) && decide (c.last ≤ (if k = 3 then 63 else 7)) &&
           (decide (k ≠ 3) || decide (1 ≤ f)))
   | 4 => decide (c.first < 256) && decide (c.last = 0)
   | 5 => decide (1 ≤ c.first) && decide (c.first ≤ 50000) && decide (c.last = 0)
   | _ => false)

/-- Entries of one kind. -/
def capsOf (k : Nat) (l : List CapEnt) : List CapEnt := l.filter (fun c => decide (c.kind = k))

/-- The rings that RING entries name, one for each region they become (log 56). -/
def capRings (l : List CapEnt) : List Nat := (capsOf 4 l).flatMap (fun c => (List.range 8).filter (fun r => c.first.testBit r))

/-- The rings of a program. -/
def Prog.rings (p : Prog) : List Nat := capRings p.caps

/-- The capabilities of an image accepted at load (R482). -/
def progCapsOk (b : List Byte) : Bool :=
  let l := progCaps b
  l.all CapEnt.ok && (List.range l.length).all (fun i => decide (leAt b (64 + 12 * i + 2) 2 = 0)) && decide ((capsOf 5 l).length = 1) &&
  decide ((capsOf 2 l).length ≤ 4) && decide (3 + (capRings l).length ≤ 16)

/-! ### The pools (R484) -/

/-- The lowest place of `n` bytes in a pool beside the regions in use. -/
def firstFit (base size n : Nat) (used : List (Nat × Nat)) : Option Nat :=
  (sortNat (base :: used.map (fun u => u.1 + u.2))).find? (fun a =>
    decide (a + n ≤ base + size) && used.all (fun u => decide (u.2 = 0) || decide (a + n ≤ u.1) || decide (u.1 + u.2 ≤ a)))

/-- Code regions in use in the code pool. -/
def Dev.codeUsed (d : Dev) : List (Nat × Nat) := (d.kp.progs.filter (fun p => !p.2.inFlash)).map (fun p => (p.2.codeAt, p.2.codeLen))

/-- Data regions in use. -/
def Dev.dataUsed (d : Dev) : List (Nat × Nat) := d.kp.progs.map (fun p => (p.2.dataAt, p.2.dataLen))

/-- CODE_POOL_FREE and DATA_POOL_FREE. -/
def Dev.poolsShow (d : Dev) : Dev :=
  (d.setN O.kpCodePoolFree ((65536 - (d.codeUsed.map (·.2)).sum : Nat) : Int)).setN O.kpDataPoolFree ((131072 - (d.dataUsed.map (·.2)).sum : Nat) : Int)

/-- Bytes stored in a core's local memory. -/
def Dev.lmemStore (d : Dev) (k a : Nat) (b : List Byte) : Dev :=
  ({ d with kp := { d.kp with lmem := memStore d.kp.lmem (k * 2 ^ 32 + a) b } } : Dev).resvBreak [k] a b.length

/-! ### Loading (Table 17.16) -/

/-- PROG_STATE set. -/
def Dev.progGo (d : Dev) (i st : Nat) : Dev := d.setN (O.kpProgState i) st

/-- PROG_ENABLE has become 1 in ABSENT: LOADING. -/
def Dev.progStart (d : Dev) (i : Nat) : Dev :=
  ({ d with kp := { d.kp with loading := d.kp.loading.filter (fun x => decide (x ≠ i)) ++ [i] } } : Dev).progGo i 1

/-- A program's pools freed: ABSENT. -/
def Dev.progFree (d : Dev) (i : Nat) : Dev :=
  (({ d with kp := { d.kp with progs := d.kp.progs.filter (fun p => decide (p.1 ≠ i)), loading := d.kp.loading.filter (fun x => decide (x ≠ i)),
                               leaving := d.kp.leaving.filter (fun x => decide (x ≠ i)) } } : Dev).progGo i 0).poolsShow

/-- The program of a slot is running. -/
def Dev.progRuns (d : Dev) (i : Nat) : Bool := match d.kp.running with | some (j, _) => decide (j = i) | none => false

/-- PROG_ENABLE committed with a new value (Table 17.16): a running run finishes first. -/
def Dev.progEnabled (d : Dev) (i : Nat) : Dev :=
  if d.flag (O.kpProgEnable i) then
    if d.nat (O.kpProgState i) = 0 then d.progStart i else d
  else if d.nat (O.kpProgState i) = 0 then d
  else if d.progRuns i then { d with kp := { d.kp with leaving := d.kp.leaving.filter (fun x => decide (x ≠ i)) ++ [i] } }
  else d.progFree i

/-- A program refused at load, with its PROG_RESULT. -/
def Dev.progReject (d : Dev) (i r : Nat) : Dev := (d.setN (O.kpProgResult i) r).progGo i 4

/-- A checked program placed: code and data copied, BSS zeroed (Table 17.16, R484). -/
def Dev.progPlace (d : Dev) (i src : Nat) (b : List Byte) (codeAt dataAt dataLen : Nat) : Dev :=
  let n := 64 + 12 * leAt b 5 1
  let code := leAt b 16 4
  let flash := decide (leAt b 6 1 = 1)
  let p : Prog := { codeAt := if flash then 0x80000000 + src + n else codeAt, codeLen := code, inFlash := flash, dataAt := dataAt, dataLen := dataLen,
                    entry := leAt b 32 4, caps := progCaps b }
  let d1 := if flash then d else d.lmemStore 3 codeAt (slice b n code)
  let d2 := d1.lmemStore 3 dataAt (slice b (n + code) (leAt b 20 4) ++ zeroBytes (leAt b 24 4))
  let d3 : Dev := { d2 with kp := { d2.kp with progs := Tab.insert i p (d2.kp.progs.filter (fun q => decide (q.1 ≠ i))) } }
  ((((d3.setN (O.kpProgResult i) 0).setN (O.kpProgId i) (leAt b 8 4 : Nat)).setN (O.kpProgVersion i) (leAt b 12 4 : Nat)).progGo i 2).poolsShow

/-- PROG_LOAD_DONE: signature, anti-rollback version, header, capabilities and space, in this order. -/
def Dev.progLoaded (d : Dev) (i : Nat) : Dev :=
  if d.nat (O.kpProgState i) ≠ 1 then d
  else
    let d0 : Dev := { d with kp := { d.kp with loading := d.kp.loading.filter (fun x => decide (x ≠ i)) } }
    let src := d0.nat (O.kpProgSrc i)
    let b := d0.progImage src
    match (if b.isEmpty then 1 else d0.verify 4 (16 + i) b) with
    | 0 =>
      if !progFormOk b src then d0.progReject i 3
      else if !progCapsOk b then d0.progReject i 5
      else
        let n := (leAt b 20 4 + leAt b 24 4 + leAt b 28 4 + 63) / 64 * 64
        match (if leAt b 6 1 = 1 then some 0 else firstFit 0x10000 65536 (leAt b 16 4) d0.codeUsed), firstFit 0x10020000 131072 n d0.dataUsed with
        | some c, some a => d0.progPlace i src b c a n
        | _, _ => d0.progReject i 4
    | c => (d0.progReject i (if c = 4 then 2 else 1)).rejectImage 4 c 0

/-! ### Capabilities (R482) -/

/-- The program slot that a service program's origin names (Table 13.9). -/
def progOf (source : Nat) : Nat := field source 15 8

/-- A dictionary item of a service program is covered by an OID entry with the flag (0 R, 1 W). -/
def Dev.capOid (d : Dev) (i o flag : Nat) : Bool :=
  (Tab.get ({} : Prog) d.kp.progs i).caps.any (fun c => decide (c.kind = 1) && decide (c.first ≤ o) && decide (o ≤ c.last) && c.flags.testBit flag)

/-- Whether a STREAM entry of program `i` names descriptor `n` (R482, R518), with a flag. -/
def Dev.capStream (d : Dev) (i n flag : Nat) : Bool :=
  (Tab.get ({} : Prog) d.kp.progs i).caps.any (fun c => decide (c.kind = 3) && c.flags.testBit flag &&
    (let k := field c.first 7 0
     let f := field c.first 15 8
     let base := if k = 1 then 0 else if k = 2 then 8 else 16
     decide (base + f ≤ n) && decide (n ≤ base + c.last)))

/-! ### The end of a run (R483) -/

/-- A program FAULTED, with its cause. -/
def Dev.progFault (d : Dev) (i cause : Nat) : Dev := ((d.inc (O.kpProgFaults i)).setN (O.kpProgLastCause i) cause).progGo i 3

/-- The run under way ends: a program disabled meanwhile is freed, and loaded again where PROG_ENABLE is 1. -/
def Dev.runEnd (d : Dev) (i : Nat) : Dev :=
  let d1 : Dev := { d with kp := { d.kp with running := none } }
  if d1.kp.leaving.any (fun x => decide (x = i)) then
    let d2 := d1.progFree i
    if d2.flag (O.kpProgEnable i) then d2.progStart i else d2
  else d1

/-- Consecutive aborts of a program set. -/
def Dev.setAborts (d : Dev) (i n : Nat) : Dev :=
  { d with kp := { d.kp with progs := d.kp.progs.map (fun p => if p.1 = i then (i, { p.2 with aborts := n }) else p) } }

/-- The program that runs ends its run by TRAP 0, or faults with a cause. -/
def Dev.progEnds (d : Dev) (fault : Option Nat) : Dev :=
  match d.kp.running with
  | none => d
  | some (i, _, _) =>
    let d1 := d.setAborts i 0
    (match fault with
     | none => d1
     | some c => d1.progFault i c).runEnd i

/-- MAX_RUN_US of a program: its RUN entry. -/
def Prog.maxRun (p : Prog) : Nat := match capsOf 5 p.caps with | c :: _ => c.first | [] => 0

/-- The run is aborted at MAX_RUN_US, counted, and the third abort in succession faults the program. -/
def Dev.progAbort (d : Dev) : Dev :=
  match d.kp.running with
  | none => d
  | some (i, _, t0) =>
    let p := Tab.get ({} : Prog) d.kp.progs i
    let d1 := ((d.clockTo (t0 + 1000 * p.maxRun)).inc (O.kpProgAborts i)).setAborts i (p.aborts + 1)
    (if 3 ≤ p.aborts + 1 then d1.progFault i 0x10 else d1).runEnd i

/-- PROG_LOAD_DONE (R485). -/
def execProgLoadDone (prog : Nat) (s : State) : Host.Outcome State Fault Refusal := s.upd (fun d => d.progLoaded prog)

end Sys2Proof.Machine
end

