-- ==== Sys2Proof/Machine/Hooks.lean ====
section
/-! DEFINITION. What a committed write does beyond its value: the reaction of each unit to an object (R368), and the state and cross-object
checks of steps 7 and 8 (Table 13.4). -/

namespace Sys2Proof.Machine

/-! ### Values kept -/

/-- A key that no role reads (R549). -/
def neverRead (o : Nat) : Bool := decide (O.area o = 2) && (decide (O.item o = 0x10) || decide (O.item o = 0x11) || decide (o = O.scDebugKey))

/-- A command object: no role of H, N and S reads it, and it is no key. It holds nothing and reads 0. -/
def isCommand (o : Nat) : Bool :=
  match Dict.find o with
  | some r => [r.rH, r.rN, r.rS].all (fun x => decide (x = .none) || decide (x = .w)) && !neverRead o
  | none => false

/-- A bit mask of which a write of 1 clears a bit (Tables 4.9 and 10.10). -/
def clearsOnes (o : Nat) : Bool :=
  (decide (O.area o = 8) && decide (O.item o = 1)) || (decide (O.area o = 12) && decide (O.item o = 1))

/-- A written value put in its place. -/
def Dev.store_ (d : Dev) (o : Nat) (v : Val) : Dev :=
  if isCommand o ∨ o = O.caFxEntry then d
  else if clearsOnes o then d.setN o (clearBits (d.nat o) v.int.toNat : Nat)
  else d.put o v

/-! ### Step 7: state conditions -/

/-- The lane island takes chains up: start-up, RUN, and a return to RUN under way. -/
def Dev.lanesOn (d : Dev) : Bool := decide (d.pw.phase = .starting) || decide (d.pw.phase = .run) || d.pw.rising || d.pw.waking.isSome

/-- The code with which a write of `v` to object `o` is refused in the present state (step 7). -/
def Dev.stateRefuse (d : Dev) (o : Nat) (v : Val) : Option RC :=
  let n := v.int.toNat
  let bad : Bool :=
    match O.area o with
    | 1 => decide (o = O.pwPwRequest) && d.pwRefused n
    | 2 =>
      (decide (o = O.scFwActivate) && d.sec.checking.isSome) || (decide (o = O.scRollbackAdv) && d.rollbackRefused n) ||
      (decide (O.item o = 0x10) && (d.nat O.scKeyState).testBit (keyBit false (O.elem o))) ||
      (decide (O.item o = 0x11) && (d.nat O.scKeyState).testBit (keyBit true (O.elem o))) ||
      (decide (o = O.scDebugKey) && !(d.raw O.scDebugKey).isEmpty) ||
      ((decide (o = O.scCustRoot 0) || decide (o = O.scCustRoot 1)) && (d.nat O.scRootState).testBit (2 * (O.elem o - 1))) ||
      (decide (o = O.scAttestGen) && decide (n = 1) && decide (d.nat O.scAttestState ≠ 0))
    | 7 => ((decide (o = O.caFxEntry) || decide (o = O.caFxCount)) && d.fxRefused o n) || decide (o = O.caRefCmd) && decide (n = 1) && decide (1 ≤ d.nat O.caRefState) && decide (d.nat O.caRefState ≤ 3)
    | 8 => !d.cxStateOk o
    | 9 => decide (o = O.wtActivate) && d.wt.checking.isSome
    | 10 =>
      (decide (o = O.llLlActivate) && d.llBusy) ||
      (decide (0x11 ≤ O.item o) && decide (O.item o ≤ 0x13) && d.flag (O.llFollowEnable (O.elem o)))
    | 15 => decide (o = O.blFwCmd) && decide (n = 1) && (decide (d.nat (O.blBuoyState (d.nat O.blFwTarget)) ≠ 2) || decide (d.nat O.blFwState = 1))
    | 16 => (List.range 2).any (fun p => decide (o = O.twXGo p) && decide (n = 1) && decide (d.twGoRefuse p = some .state))
    | 18 => decide (o = O.tmTimeSet) && d.timeSetRefused
    | _ => false
  if bad then some .state
  else if o = O.scAttestNonce then d.nonceRefused
  else none

/-! ### Step 8: cross-object constraints -/

/-- The selector and frame settings of a context fit its type (R123, R202, R208). -/
def Dev.cxTypeOk (d : Dev) (c : Nat) : Bool :=
  let ty := d.nat (O.cxType c)
  (decide (ty = 0) || cmbOk ty (d.nat (O.cxCmbMode c))) &&
  (decide (ty ≠ 6) || ((List.range 4).all (fun i => decide (d.nat (O.cxSelMode c i) = 0)) && decide (d.nat (O.cxSubchFrames c) = 0) &&
    decide (d.nat (O.cxPktFrames c) = 0))) &&
  (!(decide (ty = 7) || decide (ty = 8)) || (List.range 4).all (fun i => decide (d.nat (O.cxSelMode c i) < 2)))

/-- A context object as the transaction leaves it: pairs of R180, the type's limits, and RF of a context that is not FREE (R119). -/
def Dev.cxCross (d : Dev) (c o : Nat) : Bool :=
  let lt := fun (a b : Nat) => decide (d.num a < d.num b)
  (if o = O.cxBlendLo c ∨ o = O.cxBlendHi c then lt (O.cxBlendLo c) (O.cxBlendHi c)
   else if o = O.cxHicutLo c ∨ o = O.cxHicutHi c then lt (O.cxHicutLo c) (O.cxHicutHi c)
   else if o = O.cxMuteLo c ∨ o = O.cxMuteHi c then lt (O.cxMuteLo c) (O.cxMuteHi c)
   else if o = O.cxRf c then
     decide (d.cxSt c = 0) || (d.cxChains c).all (fun n => d.tapOk n (d.nat (O.cxDoor c)) (d.nat (O.cxRf c)) (d.cxRate c))
   else d.cxTypeOk c)

/-- DOMAIN of a block is one that its quantity allows (R283). -/
def Dev.domainOk (d : Dev) (o : Nat) : Bool :=
  let i := O.item o
  let q := O.elem o % 8
  if d.nat o = 0 then true
  else if i < 0x200 then
    let c := i - 0x100
    if q = 5 then false else if q = 3 then decide (d.cxSt c ≠ 0) && decide (d.cxKind c = 0) else true
  else decide (0x300 ≤ i)

/-- The first AF_POINTS frequencies of a door band ascend (R318). -/
def Dev.afOk (d : Dev) (j : Nat) : Bool := (List.range (d.nat (O.caAfPoints j) - 1)).all (fun i => decide (d.nat (O.caAfFreq j i) < d.nat (O.caAfFreq j (i + 1))))

/-- Whether object `o` breaks a constraint with the values the transaction leaves (`d`), and the code; `wrote` says which objects it
writes, and `v` what it writes to this one. Contexts that the transaction creates are not FREE in `d`. -/
def Dev.crossRefuse (d : Dev) (wrote : Nat → Bool) (v : Int) (o : Nat) : Option RC :=
  let i := O.item o
  let e := O.elem o
  let bad := fun (b : Bool) => if b then some RC.invalidValue else none
  match O.area o with
  | 0 => if o = O.syDefaultsCmd then bad (!wrote O.syDefaultsAreas) else none
  | 5 =>
    if 0x100 ≤ i ∧ i < 0x1C0 then
      let n := (i - 0x100) / 0x20
      let k := (i - 0x100) % 0x20
      if 1 ≤ k ∧ k ≤ 3 then
        bad ((decide (d.nat (O.cpManLna n (k - 1)) < 2) && decide (11 < d.nat (O.cpManAtten n (k - 1)))) ||
             decide (d.nat (O.cpGredMax n (k - 1)) < d.nat (O.cpGredMin n (k - 1))))
      else if k = 6 then
        bad (!(decide (d.nat (O.cpIOpen n) < d.nat (O.cpILimit n)) && decide (d.nat (O.cpILimit n) ≤ d.nat (O.cpITrip n)) &&
               decide (10 * d.nat (O.cpITrip n) ≤ 12 * d.nat (O.cpSnsGain n))))
      else none
    else none
  | 6 => if i = 0x500 ∨ i = 0x502 then bad (decide (d.nat (O.lnIqFormat e) = 1) && decide (4096 < d.nat (O.lnIqSamples e))) else none
  | 7 =>
    if o = O.caRefCmd ∧ v = 1 then (match d.refRefuse with | some .invalidValue => some .invalidValue | _ => none)
    else if 0x400 ≤ i ∧ i < 0x418 then bad (!d.afOk (i - 0x400))
    else none
  | 8 => (match cxOf o with | some c => bad (!d.cxCross c o) | none => none)
  | 10 =>
    if i = 1 ∧ e ≤ 1 then bad (!(wrote O.llPosLat && wrote O.llPosLon))
    else if i = 0x10 then bad (d.flag o && decide (d.nat (O.llFollowFamily e) = 0) && decide (d.nat (O.llFollowId e) = 0))
    else none
  | 12 =>
    if 0x100 ≤ i ∧ i < 0x400 ∧ e / 8 = 4 then bad (!d.domainOk o)
    else if 0x401 ≤ i ∧ i ≤ 0x403 then
      bad (decide (d.num (O.mfThrUpper e) ≤ d.num (O.mfThrLower e)) || decide (d.num (O.mfThrUpper e) - d.num (O.mfThrLower e) < d.num (O.mfThrHyst e)))
    else none
  | 13 =>
    if 0x300 ≤ i ∧ i ≤ 0x303 then bad (decide (65536 < d.ringSize e))
    else if (i = 0x200 ∨ i = 0x204) ∧ 256 < d.avtpChannels ∧ d.flag (O.auAvtpEnable e) then some .resource
    else none
  | 15 =>
    if o = O.blFwCmd ∧ v = 1 then bad (decide (d.nat O.blFwLen = 0))
    else if 0x100 ≤ i ∧ (i - 0x100) % 0x10 = 1 ∧ e = 0 then (if d.blQueueOk ((i - 0x100) / 0x10) then none else some .resource)
    else none
  | 16 => bad ((List.range 2).any (fun p => decide (o = O.twXGo p) && decide (v = 1) && decide (d.twGoRefuse p = some .invalidValue)))
  | _ => none

/-! ### What each unit does -/

/-- A write of `k` to a command object. -/
def Dev.onOnly (d : Dev) (v k : Nat) (f : Dev → Dev) : Dev := if v = k then f d else d

/-- A capture object (chapter 2). -/
def Dev.hookCp (d : Dev) (i e v : Nat) (changed : Bool) : Dev :=
  if i = 0x10 ∧ e = 1 then d.onOnly v 1 Dev.lsynCalCmd
  else if 0x100 ≤ i ∧ i < 0x1C0 then
    let n := (i - 0x100) / 0x20
    let k := (i - 0x100) % 0x20
    if k = 0 ∧ e = 0 then (if changed then (d.chainEnabled n d.lanesOn).lsynTrim.pwSettled else d)
    else if k = 0 ∧ e = 3 then (if changed then (d.bandSwitch n).lsynTrim else d)
    else if 1 ≤ k ∧ k ≤ 3 ∧ e = 0 then d.lsynTrim.muteShow n
    else if k = 6 ∧ e = 0 then d.feedEnabled n
    else if k = 6 ∧ e = 0xA then d.onOnly v 1 (fun x => x.feedReset n)
    else d
  else d

/-- A security object (chapter 20). -/
def Dev.hookSc (d : Dev) (i e v : Nat) (org : Origin) : Dev :=
  if i = 0 ∧ e = 3 then (if v = 0 then d else d.fwActivate v)
  else if i = 0 ∧ e = 5 then d.onOnly v 1 Dev.recoverCmd
  else if i = 1 ∧ (e = 1 ∨ e = 2) then d.rootProgram (e - 1) org
  else if i = 1 ∧ e = 4 then d.rootRevoke v org
  else if i = 3 then d.rollbackAdv v
  else if i = 0x10 then d.keyProgram false e org
  else if i = 0x11 then d.keyProgram true e org
  else if i = 0x12 ∧ e = 1 then d.keyRevoke v org
  else if i = 0x20 ∧ e = 1 then d.debugKeyProgram org
  else if i = 0x20 ∧ e = 2 then d.onOnly v 1 (fun x => x.setN O.scDebugState 4)
  else if i = 0x30 ∧ e = 1 then d.onOnly v 1 Dev.attestGen
  else if i = 0x30 ∧ e = 3 then d.attestNonce
  else d

/-- An audio object (chapter 12). -/
def Dev.hookAu (d : Dev) (i e v : Nat) (org : Origin) : Dev :=
  if i = 0 ∧ e = 0 then d.groupGo v
  else if 0x10 ≤ i ∧ i ≤ 0x13 then d.routeWritten e
  else if 0x100 ≤ i ∧ i < 0x200 then
    let p := (i - 0x100) / 0x20
    let x := (i - 0x100) % 0x20
    if e = 0 then d.sideEnable p x (decide (v ≠ 0))
    else if e = 8 then d.setSide p x { d.side p x with masks := (d.side p x).masks ++ [(v, org)] }
    else d
  else if 0x200 ≤ i ∧ i ≤ 0x207 then d.avtpSet
  else if i = 0x303 then d.ringFramesSet e
  else d

/-- A measurement-filter object but the settings of R291, which act once per channel (chapter 10). -/
def Dev.hookMf (d : Dev) (i e : Nat) : Dev :=
  if i = 0x10 ∧ e = 0 then d.mfRead
  else if 0x100 ≤ i ∧ i < 0x400 ∧ e / 8 = 2 then (d.mfChansOf i (e % 8)).foldl (fun (x : Dev) ch => x.mfOutMs ch) d
  else if i = 0x400 then d.thrUnknown e
  else if 0x401 ≤ i ∧ i ≤ 0x404 then d.thrRestart e
  else d

/-- Measurement stream `s` switched on or off (R101). -/
def Dev.streamSet (d : Dev) (s : Nat) : Dev :=
  let m := Tab.get {} d.lens.streams s
  let m2 := if !d.flag (O.lnStreamEnable s) then { m with on := false } else if m.on then m else { m with on := true, enabledAt := d.mono, lost := 0, losing := false }
  { d with lens := { d.lens with streams := Tab.set {} d.lens.streams s m2 } }

/-- A two-wire object (chapter 16). -/
def Dev.hookTw (d : Dev) (i e v : Nat) : Dev :=
  let p := (i - 0x100) / 0x10
  let k := (i - 0x100) % 0x10
  if k = 0 ∧ e = 0 then d.twRoleSet p true
  else if k = 0 ∧ e = 1 then d.twRoleSet p false
  else if k = 0 ∧ e = 0xA then d.onOnly v 1 (fun x => x.twRecoverCmd p)
  else if k = 1 ∧ e = 4 then d.onOnly v 1 (fun x => x.twQueue p)
  else d

/-- A Buoy-link object (chapter 15). -/
def Dev.hookBl (d : Dev) (i e : Nat) (v : Val) : Dev :=
  if i = 2 ∧ e = 3 then d.onOnly v.int.toNat 1 Dev.blFwStart
  else if i = 0x10 then d.blLinkSet e
  else if 0x100 ≤ i ∧ (i - 0x100) % 0x10 = 1 ∧ e = 0 then d.blQueue ((i - 0x100) / 0x10) v.raw
  else d

/-- A power object (chapter 21): SUPPLY_EN follows SUPPLY_CTRL (R561), and no Keeper runs above KEEPER_FMAX (R565). -/
def Dev.hookPw (d : Dev) (i e : Nat) : Dev :=
  if i = 1 ∧ e = 5 then { d with pw := { d.pw with supplyEn := if d.flag O.pwSupplyCtrl then some true else none } }
  else if i = 7 then d.setN (O.pwKeeperFreq e) (min (d.nat (O.pwKeeperFreq e)) (d.nat (O.pwKeeperFmax e)) : Nat)
  else d

/-- The reaction of an object's unit to a committed write of `v`; `old` is the value before. -/
def Dev.hook (d : Dev) (o : Nat) (old v : Val) (org : Origin) : Dev :=
  let i := O.item o
  let e := O.elem o
  let n := v.int.toNat
  match O.area o with
  | 1 => d.hookPw i e
  | 2 => d.hookSc i e n org
  | 4 => if i = 1 then d.evAckWord e n else d
  | 5 => d.hookCp i e n (decide (old ≠ v))
  | 6 => if i = 0x300 then d.streamSet e else d
  | 7 =>
    if o = O.caRefCmd then d.onOnly n 1 Dev.refStart
    else if i = 0x20 ∧ e = 1 then d.onOnly n 1 Dev.linkCal
    else if 0x100 ≤ i ∧ i < 0x170 ∧ e = 0 then d.onOnly n 1 (fun x => x.laneCalCmd ((i - 0x100) / 0x10))
    else if 0x400 ≤ i ∧ i < 0x418 ∧ old ≠ v then d.calStoreDue 3
    else if o = O.caFxEntry then d.fxWrite v.raw
    else if o = O.caFxCount then d.fxResize n
    else d
  | 8 => d.cxWritten o old
  | 9 =>
    if i = 1 ∧ e = 0 then (if n = 0 then d else d.activate n)
    else if i = 1 ∧ e = 8 then d.onOnly n 1 Dev.stormExitSet
    else d
  | 10 =>
    if i = 0 ∧ e = 1 then (if n = 0 then d else d.llActivate n)
    else if i = 0x10 then d.llEnable e (decide (n ≠ 0))
    else d
  | 11 =>
    if i = 1 ∧ e = 3 then d.onOnly n 1 Dev.svcDump
    else if i = 0x26 then d.onOnly n 1 (fun x => x.fhDismiss e)
    else if 0x11 ≤ i ∧ i ≤ 0x13 ∧ old ≠ v then d.fhOutputs (d.nat (O.sdFhXfadeMs e))
    else d
  | 12 => d.hookMf i e
  | 13 => d.hookAu i e n org
  | 15 => d.hookBl i e v
  | 16 => d.hookTw i e n
  | 17 => if i = 0x10 ∧ old ≠ v then d.progEnabled e else d
  | 18 =>
    if o = O.tmPtpEnable then d.ptpSet
    else if o = O.tmTimeSet then d.timeStep n
    else d
  | _ => d

/-- Reactions that a transaction has once, whichever of the objects it writes: SLOT_MASK (R149), the position (R262), and the filter
settings of each channel (R291). `w` lists objects and values written. -/
def Dev.hookGroups (d : Dev) (w : List (Nat × Val)) (org : Origin) : Dev :=
  let masks := w.filterMap (fun p => if O.area p.1 = 9 ∧ O.item p.1 = 2 then some (O.elem p.1, p.2.int.toNat) else none)
  let d1 := if masks.isEmpty then d else d.maskWrite masks org
  let d2 := if w.any (fun p => decide (p.1 = O.llPosLat)) then d1.posWritten else d1
  let chans := (w.flatMap (fun p =>
    let i := O.item p.1
    let k := O.elem p.1 / 8
    if O.area p.1 = 12 ∧ 0x100 ≤ i ∧ i < 0x400 ∧ (k = 0 ∨ k = 1 ∨ k = 4) then d2.mfChansOf i (O.elem p.1 % 8) else [])).eraseDups
  chans.foldl (fun (x : Dev) ch => x.mfSettings ch) d2

/-- Contexts promoted and demoted by one transaction (R127). -/
def Dev.hookPair (d : Dev) (w : List (Nat × Val)) : Dev :=
  d.cxPair (w.filterMap (fun p => match cxOf p.1 with | some c => if p.1 = O.cxRequest c then some c else none | none => none))

/-- What takes effect once the reply has left: the settings of the transports (R411) and a power request (R552). -/
def Dev.hookAfter (d : Dev) (w : List (Nat × Val)) : Dev :=
  let d1 := if w.any (fun p => decide (p.1 = O.ntPlcaEnable) || decide (p.1 = O.ntPlcaNodeId)) then d.plcaSet else d
  let d2 := if w.any (fun p => decide (O.area p.1 = 14)) then d1.linkTake else d1
  match w.find? (fun p => decide (p.1 = O.pwPwRequest)) with
  | some p => if p.2.int = 0 then d2 else d2.pwRequest p.2.int.toNat
  | none => d2

/-- Both, for a transaction whose reply leaves at once. -/
def Dev.hookLast (d : Dev) (w : List (Nat × Val)) : Dev := (d.hookPair w).hookAfter w

end Sys2Proof.Machine
end

