-- ==== Sys2Proof/Machine/Txn.lean ====
section
/-! DEFINITION. Transactions (R360 to R373): items, the nine check steps of Table 13.4, the commit, the log entries and the reply. -/

namespace Sys2Proof.Machine

/-- An item of a transaction (R397). -/
structure TItem where
  oid : Nat
  flags : Nat
  val : List Byte
  deriving DecidableEq, Repr

/-- A transaction: its origin, opcode (1 READ, 2 WRITE, 3 MULTI), items, and the largest reply body it may have (R366). -/
structure Txn where
  org : Origin
  opcode : Nat
  items : List TItem
  limit : Nat
  deriving DecidableEq, Repr

/-- What a transaction leaves: the device, the reply bodies without and with a failed store, the stores a DURABLE reply waits for, the
objects written, and the log SEQ of each. -/
structure TxnOut where
  dev : Dev
  body : List Byte
  failed : List Byte
  waits : List StoreKind := []
  writes : List (Nat × Val) := []
  seqs : List (Nat × Nat) := []
  deriving DecidableEq, Repr

/-! ### Items (R366, R397) -/

/-- The items of a body; none where they do not fill it exactly (R397). `fuel` bounds their number. -/
def parseItems : Nat → List Byte → Option (List TItem)
  | _, [] => some []
  | 0, _ :: _ => none
  | f + 1, b :: t =>
    let l := b :: t
    let n := leAt l 6 2
    if l.length < 8 + n then none
    else (parseItems f (l.drop (8 + n))).map (fun r => { oid := leAt l 0 4, flags := leAt l 4 1, val := slice l 8 n } :: r)

/-- Item flags of Table 13.3. -/
def TItem.write (i : TItem) : Bool := i.flags.testBit 0
/-- USER_DEFAULT. -/
def TItem.user (i : TItem) : Bool := i.flags.testBit 1
/-- CLEAR_USER_DEFAULT. -/
def TItem.clear (i : TItem) : Bool := i.flags.testBit 2
/-- RESTORE. -/
def TItem.restore (i : TItem) : Bool := i.flags.testBit 3
/-- DURABLE. -/
def TItem.durable (i : TItem) : Bool := i.flags.testBit 7
/-- The item targets the user default. -/
def TItem.onUser (i : TItem) : Bool := i.user || i.clear
/-- The item writes the value of its object. -/
def TItem.onValue (i : TItem) : Bool := i.write && !i.onUser
/-- The item carries value bytes. -/
def TItem.carries (i : TItem) : Bool := i.write && !i.clear && !i.restore

/-- Flags that Table 13.3 allows, and value bytes only where they belong. -/
def TItem.formOk (i : TItem) : Bool :=
  decide (field i.flags 6 4 = 0) && decide (field i.flags 3 1 ≠ 3) && decide (field i.flags 3 1 < 5) &&
  (decide (field i.flags 3 1 = 0) || i.write) && (i.carries || i.val.isEmpty)

/-- The value an item's bytes spell. -/
def TItem.value (i : TItem) : Val := (Dict.ty i.oid).decode i.val

/-! ### Steps 1 to 6 -/

/-- The lowest item index at which a check fails, and its code. -/
def firstBad (f : Nat → TItem → Option RC) : Nat → List TItem → Option (Nat × RC)
  | _, [] => none
  | n, i :: t =>
    match f n i with
    | some c => some (n, c)
    | none => firstBad f (n + 1) t

/-- Bytes of a reply body in which every read succeeds (R398). -/
def Dev.replySize (d : Dev) (l : List TItem) : Nat :=
  8 + (l.map (fun i => 8 + (if i.write ∨ (Dict.row d.part i.oid).isNone then 0 else (d.readBytes i.oid).length))).sum

/-- Step 1: item count, request value bytes, reply size. -/
def Dev.step1 (d : Dev) (t : Txn) : Bool :=
  t.items.isEmpty || decide (64 < t.items.length) || decide (4096 < (t.items.map (fun i => i.val.length)).sum) ||
  decide (t.limit < d.replySize t.items)

/-- Step 2: item flags and value bytes, agreement with the opcode, no OID twice. -/
def Txn.step2 (t : Txn) (n : Nat) (i : TItem) : Option RC :=
  if !i.formOk ∨ (t.items.take n).any (fun x => decide (x.oid = i.oid)) ∨ (t.opcode = 1 ∧ i.write) ∨ (t.opcode = 2 ∧ (!i.write ∨ n = 1)) then
    some .invalidValue
  else none

/-- A role may read a row (R12, Table 13.1). -/
def Row.mayRead (r : Row) (role : Role) : Bool :=
  let rd := fun (x : Rt) => decide (x = .r) || decide (x = .rw)
  match role with
  | .H => rd r.rH
  | .N => rd r.rN
  | .S => rd r.rS
  | .F | .D | .M => true

/-- A role may write a row (R361). -/
def Row.mayWrite (r : Row) (role : Role) : Bool :=
  let wr := fun (x : Rt) => decide (x = .w) || decide (x = .rw)
  match role with
  | .H => wr r.rH
  | .N => wr r.rN
  | .S => wr r.rS
  | .F => (match r.cls with | .K => wr r.rH || wr r.rN || wr r.rS | _ => true)
  | .D => false
  | .M => (match r.cls with | .P | .C | .S => true | .V | .K => r.mw)

/-- Step 4: rights for the operation (R361, R362, R366, R373, R115, R241, R482). -/
def Dev.step4 (d : Dev) (t : Txn) (i : TItem) : Option RC :=
  match Dict.row d.part i.oid with
  | none => none
  | some r =>
    let role := t.org.role
    let cap := decide (role = .S) && !d.capOid (progOf t.org.source) i.oid (if i.write then 1 else 0)
    let bad :=
      if i.write then
        !r.mayWrite role || (i.onUser && decide (r.cls ≠ .P)) ||
        (decide (i.oid = O.syCfgLock) && !(decide (role = .N) || decide (role = .M))) ||
        (d.flag O.syCfgLock && decide (role = .H) && (decide (r.cls = .P) || decide (r.cls = .C) || decide (i.oid = O.syDefaultsCmd))) ||
        !d.cxOwnerOk i.oid role ||
        ((List.range 8).any (fun w => decide (i.oid = O.sdWarnDismiss w) && decide (i.value.int = 1) && !d.fhDismissOk w))
      else !r.mayRead role || neverRead i.oid
    if bad || cap then some .rights else none

/-- Step 5: length (R364). -/
def Dev.step5 (d : Dev) (i : TItem) : Option RC :=
  match Dict.row d.part i.oid with
  | some r => if i.carries ∧ !r.lenOk i.val.length then some .length else none
  | none => none

/-- Step 6: value in range, defined, well-formed. -/
def Dev.step6 (d : Dev) (i : TItem) : Option RC :=
  match Dict.row d.part i.oid with
  | some r => if i.carries ∧ !r.valueOk d.part i.value then some .invalidValue else none
  | none => none

/-- The first failure of steps 1 to 6: step, item index, code (R367). -/
def Dev.checkForm (d : Dev) (t : Txn) : Option (Nat × Nat × RC) :=
  if d.step1 t then some (1, 0, .tooLarge)
  else match firstBad t.step2 0 t.items with
    | some r => some (2, r)
    | none => match firstBad (fun _ i => if (Dict.row d.part i.oid).isNone then some .absent else none) 0 t.items with
      | some r => some (3, r)
      | none => match firstBad (fun _ i => d.step4 t i) 0 t.items with
        | some r => some (4, r)
        | none => match firstBad (fun _ i => d.step5 i) 0 t.items with
          | some r => some (5, r)
          | none => (firstBad (fun _ i => d.step6 i) 0 t.items).map (fun r => (6, r))

/-! ### The values a transaction leaves -/

/-- The default of an object: that of SLOT_MASK is INIT_MASK of the running image (Table 5.12). -/
def Dev.dflt (d : Dev) (o : Nat) : Val :=
  match d.wt.img with
  | some w => if (List.range 4).any (fun i => decide (o = O.wtSlotMask i)) then .num (leAt w.initMask (8 * O.elem o) 8 : Nat) else Dict.dflt o
  | none => Dict.dflt o

/-- The value that RESTORE gives: the user default, else the factory default. -/
def Dev.restored (d : Dev) (o : Nat) : Val := match d.udef.find? (fun p => decide (p.1 = o)) with | some p => p.2 | none => d.dflt o

/-- A user default set or removed. -/
def Dev.setUser (d : Dev) (o : Nat) (v : Option Val) : Dev :=
  let l := Tab.erase d.udef o
  { d with udef := match v with | some x => Tab.insert o x l | none => l }

/-- The objects that DEFAULTS_CMD may change: P objects of the areas that are not Local and hold another value than their default, or a user
default (R371). -/
def Dev.defaultsOids (d : Dev) (areas : Nat) : List Nat :=
  sortNat ((d.objs.map (·.1) ++ d.udef.map (·.1)).eraseDups.filter (fun o =>
    areas.testBit (O.area o) && (match Dict.find o with | some r => decide (r.cls = .P) && !r.loc | none => false)))

/-- One object under DEFAULTS_CMD. -/
def Dev.defaultOne (d : Dev) (cmd o : Nat) : Dev := if cmd = 1 then d.put o (d.restored o) else (d.put o (Dict.dflt o)).setUser o none

/-- DEFAULTS_CMD with the areas of its transaction, if it is written: command, areas, item index. -/
def Txn.defaults (t : Txn) : Option (Nat × Nat × Nat) :=
  match t.items.findIdx? (fun i => i.carries && decide (i.oid = O.syDefaultsCmd)) with
  | some k =>
    (match t.items.find? (fun i => i.carries && decide (i.oid = O.syDefaultsAreas)) with
     | some a => some (leNat ((t.items.getD k { oid := 0, flags := 0, val := [] }).val), leNat a.val, k)
     | none => none)
  | none => none

/-- Every S object of some areas set to 0 (R372). -/
def Dev.statsZero (d : Dev) (areas : Nat) : Dev :=
  ((d.objs.map (·.1)).filter (fun o => decide (Dict.cls o = .S) && areas.testBit (O.area o))).foldl (fun (x : Dev) o => x.setN o 0) d

/-- One write item put in its place. -/
def Dev.itemPut (d : Dev) (i : TItem) : Dev :=
  if !i.write then d
  else if i.user then d.setUser i.oid (some i.value)
  else if i.clear then d.setUser i.oid none
  else if i.restore then (if isCommand i.oid then d else d.put i.oid (d.restored i.oid))
  else d.store_ i.oid i.value

/-- The device with the values a transaction leaves: commands of R371 and R372 first, the other writes after them. -/
def Dev.txnValues (d : Dev) (t : Txn) : Dev :=
  let d1 := match t.defaults with
    | some (cmd, areas, _) => (d.defaultsOids areas).foldl (fun (x : Dev) o => x.defaultOne cmd o) d
    | none => d
  let d2 := match t.items.find? (fun i => i.carries && decide (i.oid = O.syStatsClear)) with
    | some i => d1.statsZero (leNat i.val)
    | none => d1
  t.items.foldl (fun (x : Dev) i => x.itemPut i) d2

/-- Contexts that a transaction takes out of FREE: REQUEST RUN or SHADOW written, in ascending number. -/
def Dev.txnNew (d : Dev) (t : Txn) : List Nat :=
  sortNat (t.items.filterMap (fun i =>
    match cxOf i.oid with
    | some c => if i.onValue ∧ i.carries ∧ i.oid = O.cxRequest c ∧ d.cxSt c = 0 ∧ i.value.int ≠ (0 : Int) then some c else none
    | none => none))

/-! ### Steps 7 to 9 -/

/-- A refusal: step, item index, code, the check of Table 4.2 (6: owner, R115), and whether R78 or R82 refused it. -/
structure Refused where
  step : Nat
  idx : Nat
  code : RC
  check : Nat := 0
  taps : Bool := false
  deriving DecidableEq, Repr

/-- Whether a context that is to be created passes check 1 but for a tap that R78 refuses. -/
def Dev.tapsBad (d : Dev) (c : Nat) : Bool :=
  d.formOk (d.nat (O.cxType c)) (d.cxRate c) (d.cxChains c) && !(d.cxChains c).all (fun n => d.tapOk n (d.nat (O.cxDoor c)) (d.nat (O.cxRf c)) (d.cxRate c))

/-- The writing or restoring of an object's value by a transaction. -/
def Txn.wrote (t : Txn) (o : Nat) : Bool := t.items.any (fun i => i.onValue && decide (i.oid = o))

/-- The objects of DEFAULTS_CMD whose value no item writes. -/
def Dev.defaultsMoved (d : Dev) (t : Txn) : List Nat :=
  match t.defaults with
  | some (_, areas, _) => (d.defaultsOids areas).filter (fun o => !t.wrote o)
  | none => []

/-- Step 8 over the items: the lowest index with a broken constraint in the values left (`x`). DEFAULTS_CMD answers for what it changed. -/
def Dev.step8 (d x : Dev) (t : Txn) : Option (Nat × RC) :=
  firstBad (fun _ i =>
    if !i.onValue then none
    else match x.crossRefuse t.wrote i.value.int i.oid with
      | some c => some c
      | none => if i.oid = O.syDefaultsCmd then (d.defaultsMoved t).findSome? (fun o => x.crossRefuse t.wrote (x.num o) o) else none) 0 t.items

/-- Steps 7 to 9: the refusal, or the device with the values in place and the new contexts admitted. -/
def Dev.checkLate (d : Dev) (t : Txn) : Except Refused Dev :=
  let value := fun (i : TItem) => if i.restore then (if isCommand i.oid then Val.num 0 else d.restored i.oid) else i.value
  match firstBad (fun _ i => if i.onValue then d.stateRefuse i.oid (value i) else none) 0 t.items with
  | some (k, c) => .error { step := 7, idx := k, code := c }
  | none =>
    let x := d.txnValues t
    let new := d.txnNew t
    let adm := x.admitCtx new t.org.role
    let y := match adm with | .ok z => z | .error _ => x
    let at_ := fun (l : List Nat) => t.items.findIdx (fun i => l.any (fun c => decide (i.oid = O.cxRequest c)))
    let tap := fun (n : Nat) (l : List Nat) => decide (n = 4) ||
      (decide (n = 1) && (match cxOf (t.items.getD (at_ l) { oid := 0, flags := 0, val := [] }).oid with | some c => x.tapsBad c | none => false))
    let rfAt := fun (k : Nat) => match cxOf (t.items.getD k { oid := 0, flags := 0, val := [] }).oid with
      | some cx => decide ((t.items.getD k { oid := 0, flags := 0, val := [] }).oid = O.cxRf cx)
      | none => false
    match d.step8 y t, adm with
    | some (k, c), .ok _ =>
      .error { step := 8, idx := k, code := c, taps := rfAt k }
    | some (k, c), .error (c2, n, l) =>
      if k < at_ l then .error { step := 8, idx := k, code := c, taps := rfAt k }
      else .error { step := 8, idx := at_ l, code := c2, check := n, taps := tap n l }
    | none, .error (c2, n, l) => .error { step := 8, idx := at_ l, code := c2, check := n, taps := tap n l }
    | none, .ok z =>
      let p := t.items.findIdx? (fun i => i.write && (decide (Dict.cls i.oid = .P) || decide (i.oid = O.syDefaultsCmd)))
      match p with
      | some k => if NvmUse.cfgA.room < z.cfgLength then .error { step := 9, idx := k, code := .resource } else .ok z
      | none => .ok z

/-- All nine steps. -/
def Dev.txnCheck (d : Dev) (t : Txn) : Except Refused Dev :=
  match d.checkForm t with
  | some (s, k, c) =>
    let i := t.items.getD k { oid := 0, flags := 0, val := [] }
    .error { step := s, idx := k, code := c, check := if s = 4 ∧ i.write ∧ !d.cxOwnerOk i.oid t.org.role then 6 else 0 }
  | none => d.checkLate t

/-! ### Log entries (R380 to R383) -/

/-- Objects whose writes are not logged (R380). -/
def notLogged (o : Nat) : Bool := decide (o = O.lgLogReadSeq) || decide (o = O.lgLogReadSrc)

/-- A write of a V object counted for its summary (R383). -/
def Dev.minuteAdd (d : Dev) (o : Nat) (ok : Bool) (b : List Byte) (org : Origin) : Dev :=
  let v := logVal b
  let old := d.log.minute.find? (fun m => decide (m.oid = o))
  let a := (old.map (·.accepted)).getD 0
  let r := (old.map (·.refused)).getD 0
  let m : MinuteRec := { oid := o, accepted := if ok then a + 1 else a, refused := if ok then r else r + 1, last := v.1, lastLen := v.2.1, lastDigest := v.2.2,
                         org := org }
  { d with log := { d.log with minute := d.log.minute.filter (fun x => decide (x.oid ≠ o)) ++ [m] } }

/-- The entry of one write (Tables 13.9 and 13.10): `vf` USER_DEFAULT, RESTORE and NO_OLD; answers its SEQ. -/
def Dev.logWrite (d : Dev) (org : Origin) (txn idx items o : Nat) (res : RC) (vf : Nat) (old new : List Byte) : Nat × Dev :=
  if notLogged o then (0, d)
  else
    let cls := Dict.cls o
    let a := logVal old
    let b := logVal new
    let d1 := if cls = .V ∧ (Dict.find o).isSome then d.minuteAdd o (decide (res = .ok)) new org else d
    d1.logPut { kind := 1, result := res.code, t := d.now, oid := o, role := org.role.code, port := org.port, session := org.session, source := org.source,
                txn := txn, item := idx % 256, items := items % 256, vflags := vf + (if a.2.2 then 1 else 0) + (if b.2.2 then 2 else 0), old := a.1, new := b.1,
                oldLen := a.2.1, newLen := b.2.1 }
      (decide (cls = .P) || decide (cls = .C) || decide (cls = .K) ||
        (decide (res = .rights) && (decide (org.role = .N) || decide (org.role = .M) || decide (org.role = .D))))

/-- Bytes of an object's value as held, or of its user default. -/
def Dev.oldBytes (d : Dev) (i : TItem) : List Byte :=
  if (Dict.row d.part i.oid).isNone then []
  else if i.onUser then (match d.udef.find? (fun p => decide (p.1 = i.oid)) with | some p => (Dict.ty i.oid).encode p.2 | none => [])
  else d.readBytes i.oid

/-- VFLAGS bits 2 and 3 of an item. -/
def TItem.vflags (i : TItem) : Nat := (if i.onUser then 4 else 0) + (if i.restore then 8 else 0)

/-! ### The reply (R398) -/

/-- A reply body: `res` gives each item's result, `vals` the values of reads. -/
def replyBody (txn fail : Nat) (res : RC) (l : List (Nat × RC × List Byte)) : List Byte :=
  leBytes 4 txn ++ leBytes 1 fail ++ leBytes 1 res.code ++ leBytes 2 0 ++
  l.flatMap (fun p => leBytes 4 p.1 ++ leBytes 1 p.2.1.code ++ leBytes 1 0 ++ leBytes 2 p.2.2.length ++ p.2.2)

/-! ### Refusal and commit -/

/-- Items of a list with their indices. -/
def indexed : Nat → List TItem → List (Nat × TItem)
  | _, [] => []
  | n, i :: t => (n, i) :: indexed (n + 1) t

/-- A refused transaction (R367): its counts, one entry per write item, and the reply. -/
def Dev.txnRefuse (d : Dev) (t : Txn) (txn : Nat) (r : Refused) : TxnOut :=
  let d1 := (d.inc O.syTxnRefused).setN O.syTxnLastCode r.code.code
  let d2 := if r.check = 0 then d1 else (if r.check = 6 then d1 else d1.inc O.cxRefusals).setN O.cxLastRefusal r.check
  let d3 := if r.taps then d2.inc O.lnTapRefusals else d2
  let res := fun (k : Nat) => if k = r.idx then r.code else RC.notApplied
  let l := indexed 0 t.items
  let d4 := l.foldl (fun (x : Dev) p =>
    if p.2.write then
      (x.logWrite t.org txn p.1 t.items.length p.2.oid (res p.1) (p.2.vflags + (if r.step < 3 then 16 else 0)) (if r.step < 3 then [] else d.oldBytes p.2) p.2.val).2
    else x) d3
  let b := replyBody txn r.idx r.code (l.map (fun p => (p.2.oid, res p.1, [])))
  { dev := if r.code = .state ∧ t.items.any (fun i => i.onValue && decide (i.oid = O.scRollbackAdv) && decide (i.value.int = 1)) then d4.recoveryRejected else d4, body := b, failed := b }

/-- The objects that a committed DEFAULTS_CMD changed and no item writes: with value or user default other than before. -/
def Dev.defaultsChanged (d z : Dev) (t : Txn) : List Nat :=
  match t.defaults with
  | some (_, areas, _) => (d.defaultsOids areas).filter (fun o =>
      !t.items.any (fun i => i.write && decide (i.oid = o)) && (decide (d.get o ≠ z.get o) || decide (d.udef.find? (fun p => decide (p.1 = o)) ≠ z.udef.find? (fun p => decide (p.1 = o)))))
  | none => []

/-- The entries of an accepted transaction, in item order; those of DEFAULTS_CMD's changes follow its own (R371). Answers the SEQ of each
object. -/
def Dev.txnLog (d z : Dev) (t : Txn) (txn : Nat) : Dev × List (Nat × Nat) :=
  (indexed 0 t.items).foldl (fun (a : Dev × List (Nat × Nat)) p =>
    if !p.2.write then a
    else
      let new := if p.2.restore then (Dict.ty p.2.oid).encode (z.get p.2.oid) else p.2.val
      let cmd := decide (p.2.oid = O.syDefaultsCmd)
      let r := a.1.logWrite t.org txn p.1 t.items.length p.2.oid .ok (p.2.vflags + (if cmd && !p.2.restore then 8 else 0)) (d.oldBytes p.2) new
      let a1 := (r.2, a.2 ++ [(p.2.oid, r.1)])
      if cmd then
        (d.defaultsChanged z t).foldl (fun (b : Dev × List (Nat × Nat)) o =>
          let q := b.1.logWrite t.org txn p.1 t.items.length o .ok 8 ((Dict.ty o).encode (d.get o)) ((Dict.ty o).encode (z.get o))
          (q.2, b.2 ++ [(o, q.1)])) a1
      else a1) (z, [])

/-- A P value or user default changed (R376), a C value (R319); a commit of FX_ENTRY is one of the factory entries. -/
def Dev.changed (d z : Dev) (c : Cls) (l : List Nat) : Bool :=
  l.any (fun o => decide (Dict.cls o = c) && (decide (o = O.caFxEntry) || decide (d.get o ≠ z.get o) ||
    decide (d.udef.find? (fun p => decide (p.1 = o)) ≠ z.udef.find? (fun p => decide (p.1 = o)))))

/-- CFG_DIRTY and the store that it asks for (R376). -/
def Dev.cfgChanged (d : Dev) : Dev :=
  let due := d.mono + 1000000 * d.nat O.lgStoreDelayMs
  ({ d with store := { d.store with cfgDue := some (d.store.cfgDue.getD due), cfgCover := d.log.next - 1 } } : Dev).setB O.lgCfgDirty true

/-- The reactions of the units to the objects written. Contexts that the transaction has created take its values at once. -/
def Dev.txnHooks (d z : Dev) (w : List (Nat × Val)) (new : List Nat) (org : Origin) : Dev :=
  (w.foldl (fun (x : Dev) p =>
    let skip := match cxOf p.1 with | some c => new.any (fun y => decide (y = c)) | none => false
    if skip then x else x.hook p.1 (d.get p.1) p.2 org) z).hookGroups w org

/-- An accepted transaction: `z` holds its values (R368). -/
def Dev.txnCommit (d z : Dev) (t : Txn) (txn : Nat) : TxnOut :=
  let extra := d.defaultsChanged z t
  let oids := (t.items.filter (·.write)).map (·.oid) ++ extra
  let w := (t.items.filter (fun i => i.onValue && !(i.restore && isCommand i.oid))).map (fun i => (i.oid, if i.restore then z.get i.oid else i.value)) ++
    ((d.defaultsMoved t).filter (fun o => decide (d.get o ≠ z.get o))).map (fun o => (o, z.get o))
  let lg := d.txnLog z t txn
  let dirtyP := d.changed z .P oids
  let dirtyC := d.changed z .C oids
  let d1 := if dirtyP then lg.1.cfgChanged else lg.1
  let vals := t.items.map (fun i => (i.oid, RC.ok, if i.write then [] else d1.readBytes i.oid))
  let marks := oids.any (fun o => daymarked o && (d.changed z .P [o] || d.changed z .C [o]))
  let d2 := if dirtyP ∨ dirtyC then d1.daymarksChanged marks else d1
  let d3 := d.txnHooks d2 w (d.txnNew t) t.org
  { dev := d3, body := replyBody txn 0xFF .ok vals, failed := replyBody txn 0xFF .storeFailed (vals.map (fun p => (p.1, RC.storeFailed, []))),
    waits := if t.items.any (·.durable) then (if dirtyP then [.cfg] else []) ++ (if dirtyC then [.cal] else []) else [], writes := w, seqs := lg.2 }

/-- A transaction executed by the dictionary server (R366 to R369). -/
def Dev.txnRun (d : Dev) (t : Txn) : TxnOut :=
  let n := (d.log.txn + 1) % 2 ^ 32
  let d1 := ({ d with log := { d.log with txn := n } } : Dev).inc O.syTxnCount
  match d1.txnCheck t with
  | .ok z => d1.txnCommit z t n
  | .error r => d1.txnRefuse t n r

/-- The SEQ that a notification of an object carries after a commit. -/
def seqOf (l : List (Nat × Nat)) (o : Nat) : Nat := match l.find? (fun p => decide (p.1 = o)) with | some p => p.2 | none => 0

/-- A transaction with its reply (R369, R377): sent at once, or kept until the stores it waits for have ended; then the notifications of what it
changed (R407) and the reactions that follow the reply. -/
def Dev.txnReply (d : Dev) (t : Txn) (port dest opcode session tag : Nat) : Dev :=
  let r := d.txnRun t
  if r.waits.isEmpty then ((r.dev.reply port dest opcode session tag r.body).settle.notify (seqOf r.seqs)).hookLast r.writes
  else
    let w : Durable := { port := port, dest := dest, opcode := opcode, session := session, tag := tag, body := r.body, failed := r.failed, waits := r.waits,
                         writes := r.writes }
    (({ r.dev with host := { r.dev.host with durable := r.dev.host.durable ++ [w] } } : Dev).settle.notify (seqOf r.seqs)).hookPair r.writes

/-- A transaction without a reply: a write of firmware, or a write that reaches the dictionary as a command of its own. -/
def Dev.txnQuiet (d : Dev) (t : Txn) : Dev :=
  let r := d.txnRun t
  (r.dev.settle.notify (seqOf r.seqs)).hookLast r.writes

/-- A WRITE item. -/
def writeItem (o : Nat) (b : List Byte) : TItem := { oid := o, flags := 1, val := b }

/-- A write item of a number. -/
def writeNum (o : Nat) (v : Int) : TItem := writeItem o ((Dict.ty o).encode (.num v))

/-- A transaction of some writes by an origin, when the dictionary server runs. -/
def Dev.writes (d : Dev) (org : Origin) (l : List TItem) : Dev :=
  if d.serverUp then d.txnQuiet { org := org, opcode := 3, items := l, limit := 65536 } else d

/-- A write of firmware on core `k` (role F). -/
def Dev.fwWrites (k : Nat) (d : Dev) (l : List (Nat × Nat)) : Dev :=
  d.writes { firmware with source := 0xFF00 + k } (l.map (fun p => writeNum p.1 p.2))

/-- What waited for DURABLE replies that have now left. -/
def Dev.afterReplies (d : Dev) : Dev := ({ d with host := { d.host with left := [] } } : Dev).hookAfter d.host.left

/-- CFG_STORE_DONE (R376). -/
def execCfgStoreDone (ok : Bool) (s : State) : Host.Outcome State Fault Refusal := s.upd (fun d => (d.cfgStoreDone ok).afterReplies)
/-- CAL_STORE_DONE (R320). -/
def execCalStoreDone (ok : Bool) (s : State) : Host.Outcome State Fault Refusal := s.upd (fun d => (d.calStoreDone ok).afterReplies)

end Sys2Proof.Machine
end

