-- ==== Sys2Proof/Machine/Tender.lean ====
section
/-! DEFINITION. The Tender protocol (chapter 14): what the dictionary server does with each message, subscriptions and their notifications,
reading the log, heartbeats (R391) and the summaries of each minute (R383). -/

namespace Sys2Proof.Machine

/-! ### Taking a message -/

/-- The transport of a message is up. The two-wire windows are up while their port is a target. -/
def Dev.tenderUp (d : Dev) (port : Nat) : Bool :=
  if port = 5 ∨ port = 6 then
    let w := Tab.get {} d.tw (port - 5)
    d.linksUp && (decide (w.role = 1) || decide (w.role = 3))
  else d.portUp port

/-- The message leaves its transport's receive queue, where it is the one that waits longest. -/
def Dev.tenderTake (d : Dev) (m : TMsg) : Dev :=
  match d.host.rx.find? (fun x => decide (x.port = m.port)) with
  | some x =>
    if tmsgOf x.port x.src x.source x.bytes = m then { d with host := { d.host with rx := d.host.rx.erase x } } else d
  | none => d

/-- Bytes of a message (R395). -/
def tmsgSize (m : TMsg) : Nat := 16 + m.body.length + (if m.mflags.testBit 1 then 32 else 0)

/-- The origin of a transaction in a message (R362): role H outside a session, else the session's role. -/
def tmsgOrigin (m : TMsg) (s : Option Session) : Origin :=
  { role := match s with | some x => x.role | none => .H, port := m.port, session := match s with | some x => x.num | none => 0, source := m.source }

/-- The session number that a reply carries. -/
def sessNum (s : Option Session) : Nat := match s with | some x => x.num | none => 0

/-- A message with an opcode that `ok` takes, executed by `f` in its session: checked by R404 before its body, and against the limit of its
transport (R399). -/
def Dev.tender (d : Dev) (m : TMsg) (ok : Nat → Bool) (f : Dev → Option Session → Dev) : Dev :=
  if !ok m.opcode ∨ !d.tenderUp m.port then d
  else
    let d0 := d.tenderTake m
    let run := fun (x : Dev) (s : Option Session) => if largestMsg m.port < tmsgSize m then x.errorReply m (sessNum s) 0x85 else f x s
    match d0.sessCheck m with
    | .outside => run d0 none
    | .unknown => d0.errorReply m 0 0x83
    | .discard k => d0.authDiscard k
    | .passed s => run (d0.sessTake s m) (some s)

/-- A reply to a message in its session. -/
def Dev.answer (d : Dev) (m : TMsg) (s : Option Session) (body : List Byte) : Dev := d.reply m.port m.src m.opcode (sessNum s) m.tag body

/-! ### Transactions -/

/-- The largest reply body of a message: that of the largest message of its transport (R366). -/
def tmsgReplyLimit (m : TMsg) (s : Option Session) : Nat := min 65536 (largestMsg m.port - 16 - (if s.isSome then 32 else 0))

/-- READ, WRITE and MULTI: items that do not fill the body exactly get BAD_BODY (R397). -/
def Dev.tenderTxn (d : Dev) (m : TMsg) (s : Option Session) : Dev :=
  match parseItems m.body.length m.body with
  | none => d.errorReply m (sessNum s) 0x86
  | some l => d.txnReply { org := tmsgOrigin m s, opcode := m.opcode, items := l, limit := tmsgReplyLimit m s } m.port m.src m.opcode (sessNum s) m.tag

/-! ### Subscriptions (R406) -/

/-- The result of a SUBSCRIBE body for a role. -/
def Dev.subCheck (d : Dev) (role : Role) (b : List Byte) : RC :=
  let kind := leAt b 0 1
  let index := leAt b 1 1
  let inRange := match kind with
    | 1 | 2 => decide (index ≤ 7)
    | 3 => decide (1 ≤ index) && decide (index ≤ 63)
    | _ => decide (kind ≤ 5) && decide (index = 0)
  if !inRange then .invalidValue
  else if kind = 0 then
    match Dict.row d.part (leAt b 4 4) with
    | none => .absent
    | some r => if r.mayRead role && !neverRead (leAt b 4 4) then .ok else .rights
  else .ok

/-- The reply of SUBSCRIBE and UNSUBSCRIBE. -/
def subReply (id : Nat) (r : RC) : List Byte := leBytes 1 id ++ leBytes 1 r.code ++ leBytes 2 0

/-- A SUB_ID not in use; which one is free (log 29). -/
def Dev.subNew (d : Dev) : Nat × Dev :=
  let l := (List.range 256).filter (fun i => (d.subById i).isNone)
  let r := d.fresh
  (l.getD (Config.pick r.1 l.length % l.length) 0, r.2)

/-- SUBSCRIBE. A refusal carries a SUB_ID that the spec does not give (log 29). A KIND 0 subscription gets its first CHANGE at once (R407). -/
def Dev.subscribe (d : Dev) (m : TMsg) (s : Option Session) : Dev :=
  let b := m.body
  if b.length ≠ 24 then d.errorReply m (sessNum s) 0x86
  else
    let org := tmsgOrigin m s
    let rc := d.subCheck org.role b
    if rc ≠ .ok then
      let r := d.fresh
      r.2.answer m s (subReply (Config.refusedSub r.1) rc)
    else if 64 ≤ d.host.subs.length then d.errorReply m (sessNum s) 0x84
    else
      let n := d.subNew
      let u : Sub := { id := n.1, kind := leAt b 0 1, index := leAt b 1 1, minMs := leAt b 2 2, oid := leAt b 4 4, evmask := leAt b 8 16, port := m.port,
                       req := m.src, session := org.session, role := org.role, lastT := n.2.mono }
      let d1 : Dev := { n.2 with host := { n.2.host with subs := n.2.host.subs ++ [u] } }
      let d2 := d1.answer m s (subReply n.1 .ok)
      if u.kind = 0 then d2.notifyOne u (d2.readBytes u.oid) 0 else d2

/-- UNSUBSCRIBE. -/
def Dev.unsubscribe (d : Dev) (m : TMsg) (s : Option Session) : Dev :=
  if m.body.length ≠ 4 then d.errorReply m (sessNum s) 0x86
  else
    let id := leAt m.body 0 1
    match d.subById id with
    | some u =>
      if u.port = m.port ∧ u.req = m.src ∧ u.session = sessNum s then (d.subEnd u).answer m s (subReply id .ok)
      else d.answer m s (subReply id .invalidValue)
    | none => d.answer m s (subReply id .invalidValue)

/-! ### The log and the Daymarks (R398) -/

/-- LOG_READ. -/
def Dev.logRead (d : Dev) (m : TMsg) (s : Option Session) : Dev :=
  let b := m.body
  let n := leAt b 1 1
  if b.length ≠ 12 ∨ 1 < leAt b 0 1 ∨ n = 0 ∨ 16 < n then d.errorReply m (sessNum s) 0x86
  else
    let l := (d.logFrom (leAt b 0 1) (leAt b 4 8)).take n
    d.answer m s (leBytes 1 l.length ++ leBytes 3 0 ++ l.flatMap LogEntry.encode)

/-- DAYMARK. -/
def Dev.daymarkRead (d : Dev) (m : TMsg) (s : Option Session) : Dev :=
  if m.body.length ≠ 4 ∨ 1 < leAt m.body 0 1 then d.errorReply m (sessNum s) 0x86
  else
    d.answer m s (d.daymark .P ++ d.daymark .C ++ leBytes 1 (d.nat O.lgDmState) ++ leBytes 1 (d.nat O.lgCfgDirty) ++ leBytes 2 0 ++
      (if leAt m.body 0 1 = 1 then (List.range 19).flatMap (d.leaf .P) else []))

/-! ### Opening and closing a session (R403 to R405) -/

/-- A session number not in use; which one is free (log 29). -/
def Dev.sessNew (d : Dev) : Nat × Dev :=
  let r := d.fresh
  let c := Config.pick r.1 65535
  ((((List.range 9).map (fun i => (c + i) % 65535 + 1)).find? (fun n => (d.sessionByNum n).isNone)).getD 1, r.2)

/-- A session slot not in use. -/
def Dev.slotNew (d : Dev) : Nat := ((List.range 8).find? (fun k => !d.host.sessions.any (fun s => decide (s.slot = k)))).getD 0

/-- The requester is locked out (R405). -/
def Dev.lockedOut (d : Dev) (m : TMsg) : Bool :=
  d.host.fails.any (fun f => decide (f.port = m.port) && decide (f.req = m.src) && (match f.lockedUntil with | some t => decide (d.mono < t) | none => false))

/-- AUTH_HELLO. -/
def Dev.authHello (d : Dev) (m : TMsg) (s : Option Session) : Dev :=
  let b := m.body
  let role := leAt b 0 1
  if b.length ≠ 20 ∨ (role ≠ 1 ∧ role ≠ 5) ∨ 3 < leAt b 1 1 then d.errorReply m (sessNum s) 0x86
  else if d.lockedOut m ∨ 8 ≤ d.host.sessions.length then d.errorReply m (sessNum s) 0x84
  else
    let n := d.sessNew
    let r := n.2.fresh
    let nonce := padTo 16 (Config.random 16 r.1)
    let x : Session := { num := n.1, slot := d.slotNew, open_ := false, role := if role = 1 then .N else .M, port := m.port, req := m.src, source := m.source,
                         keySlot := leAt b 1 1, hostNonce := slice b 4 16, devNonce := nonce, tLast := r.2.mono }
    let d1 : Dev := { r.2 with host := { r.2.host with sessions := r.2.host.sessions ++ [x] } }
    d1.answer m s (leBytes 2 n.1 ++ leBytes 2 0 ++ nonce ++ leBytes 8 (d1.nat O.syDeviceId))

/-- ASCII "TNDR-" and a letter (R403). -/
def tenderLabel (c : Nat) : List Byte := [0x54, 0x4E, 0x44, 0x52, 0x2D] ++ leBytes 1 c

/-- What a proof of a session covers: the label's letter is H for the host's proof and D for the device's. -/
def Dev.proofMsg (d : Dev) (s : Session) (c : Nat) : List Byte :=
  tenderLabel c ++ leBytes 1 s.role.code ++ leBytes 2 s.num ++ s.hostNonce ++ s.devNonce ++ leBytes 8 (d.nat O.syDeviceId)

/-- A failed proof counted for its requester; the fifth within 60 s locks it out for 60 s (R405). -/
def Dev.proofFailed (d : Dev) (m : TMsg) : Dev :=
  let mine := fun (f : AuthFail) => decide (f.port = m.port) && decide (f.req = m.src)
  let old := (d.host.fails.find? mine).getD { port := m.port, req := m.src, times := [], lockedUntil := none }
  let times := old.times.filter (fun t => decide (d.mono < t + 60000000000)) ++ [d.mono]
  let new : AuthFail := { old with times := times, lockedUntil := if 5 ≤ times.length then some (d.mono + 60000000000) else old.lockedUntil }
  { d with host := { d.host with fails := d.host.fails.filter (fun f => !mine f) ++ [new] } }

/-- The failure of a proof: its record, AUTH_FAIL, event 97 and the AUTH_FAILED reply. -/
def Dev.proofRefused (d : Dev) (m : TMsg) (old slot : Nat) : Dev :=
  ((((d.record 0x41 old 0).inc O.ntAuthFail).raise 97 slot).proofFailed m).errorReply m 0 0x82

/-- ROLE and key slot as the session records hold them (Table 20.7). -/
def Session.recordOld (s : Session) : Nat := s.role.code + 256 * s.keySlot

/-- The reply to AUTH_PROVE: the session number and no MAC (R403). -/
def Dev.proveReply (d : Dev) (m : TMsg) (body : List Byte) : Dev :=
  let h := d.hand { port := m.port, dest := m.src, opcode := m.opcode, mflags := 1, session := m.session, tag := m.tag, body := body }
  if h.2 then h.1.raise 99 0 else h.1

/-- AUTH_PROVE for a session that waits for its proof. -/
def Dev.provePending (d : Dev) (m : TMsg) (x : Session) : Dev :=
  let fail := (d.sessionEnd x 0).proofRefused m x.recordOld x.slot
  match d.sessionKey (decide (x.role = .M)) x.keySlot with
  | none => fail
  | some k =>
    if x.tLast + 5000000000 < d.mono ∨ m.body ≠ hmac k (d.proofMsg x 0x48) then fail
    else
      let y : Session := { x with open_ := true, tLast := d.mono,
                                  sk := hmac k (tenderLabel 0x53 ++ leBytes 2 x.num ++ x.hostNonce ++ x.devNonce) }
      let d1 := d.setSession y
      let d2 := ((d1.setN (O.ntSessRole x.slot) x.role.code).setN (O.ntSessPort x.slot) x.port).setN (O.ntSessSource x.slot) x.source
      (d2.record 0x40 x.recordOld x.num).proveReply m (hmac k (d.proofMsg x 0x44))

/-- AUTH_PROVE. It carries its session number outside R404; one that names no session of its requester that waits for a proof fails. -/
def Dev.authProve (d : Dev) (m : TMsg) : Dev :=
  if m.opcode ≠ 0x31 ∨ !d.tenderUp m.port then d
  else
    let d0 := d.tenderTake m
    let bad := d0.proofRefused m 0 0xFF
    match d0.sessionByNum m.session with
    | some x =>
      if x.open_ ∨ m.mflags.testBit 1 then
        match d0.sessCheck m with
        | .discard k => d0.authDiscard k
        | .passed s => (d0.sessTake s m).errorReply m s.num 0x86
        | _ => d0.errorReply m 0 0x83
      else if x.port ≠ m.port ∨ x.req ≠ m.src then bad
      else if m.body.length ≠ 32 then d0.errorReply m 0 0x86
      else d0.provePending m x
    | none => if m.mflags.testBit 1 then d0.errorReply m 0 0x83 else bad

/-- CLOSE. -/
def Dev.closeSession (d : Dev) (m : TMsg) (s : Option Session) : Dev :=
  match s with
  | none => d.errorReply m 0 0x83
  | some x => if m.body.isEmpty then ((d.answer m s []).sessionEnd x 1) else d.errorReply m x.num 0x86

/-- PING. -/
def Dev.ping (d : Dev) (m : TMsg) (s : Option Session) : Dev := if 64 < m.body.length then d.errorReply m (sessNum s) 0x86 else d.answer m s m.body

/-- Opcodes that only the device sends (Table 14.2). -/
def deviceOpcode (o : Nat) : Bool := decide (o = 0x12) || decide (o = 0x13) || decide (o = 0x14) || decide (o = 0x22)

/-- Opcodes of Table 14.2. -/
def knownOpcode (o : Nat) : Bool :=
  deviceOpcode o || [0x01, 0x02, 0x03, 0x10, 0x11, 0x20, 0x21, 0x30, 0x31, 0x32, 0x3F].any (fun x => decide (x = o))

/-- DEVICE_OPCODE_RECEIVED: discarded, after the checks of R404 on a session message. -/
def Dev.deviceOp (d : Dev) (m : TMsg) : Dev :=
  if !deviceOpcode m.opcode ∨ !d.tenderUp m.port then d
  else
    let d0 := d.tenderTake m
    match d0.sessCheck m with
    | .discard k => d0.authDiscard k
    | .passed s => d0.sessTake s m
    | _ => d0

/-- CHANGE_INTERVAL_END (R407): MIN_MS has passed since the last notification; a value that still differs is sent when the command completes. -/
def Dev.changeInterval (d : Dev) (id : Nat) : Dev :=
  match d.subById id with
  | some s => if s.kind = 0 then d.after s.lastT s.minMs else d
  | none => d

/-! ### Heartbeats (R391) -/

/-- The body of a heartbeat (Table 13.12), with HB_SEQ as it stands. -/
def Dev.heartbeatBody (d : Dev) : List Byte :=
  let b := fun (x : Bool) (i : Nat) => if x then 2 ^ i else 0
  let set := fun (o : Nat) => (d.raw o).any (fun y => decide (y ≠ 0))
  let dm := d.nat O.lgDmState
  let flags := b (dm.testBit 0) 0 + b (dm.testBit 1) 1 + b (d.flag O.lgCfgDirty) 2 + b (decide (d.nat O.tmTimeState = 2)) 3 + b (set O.lgExpectCfg) 4 +
    b (set O.lgExpectCal) 5 + b (d.flag O.syCfgLock) 6
  leBytes 1 0x30 ++ leBytes 1 1 ++ leBytes 2 flags ++ leBytes 4 (d.nat O.lgHbSeq) ++ leBytes 8 (d.nat O.syDeviceId) ++ leBytes 8 d.now ++
    leBytes 8 (d.log.next - 1) ++ leBytes 4 (d.nat O.lgCfgSeq) ++ leBytes 4 (d.nat O.caCalSeq) ++ leBytes 4 (d.nat O.syFwVersion) ++ leBytes 4 0 ++
    d.daymark .P ++ d.daymark .C

/-- The addressees of a broadcast heartbeat (R401, R402, R409): a port and its destination: ff02::1, on a port with IPv4 also the limited broadcast address, both
at UDP_PORT, and the CAN broadcast node. -/
def Dev.hbTargets (d : Dev) : List (Nat × Nat) :=
  let l := d.host.link
  let eth : Nat → List (Nat × Nat) := fun p =>
    if d.portUp p then (p, nodeOf (0xFF02 * 2 ^ 112 + 1) l.udp) :: (if l.ip p ≠ 0 then [(p, nodeOf (2 ^ 32 - 1) l.udp)] else []) else []
  eth 1 ++ eth 2 ++ (if d.portUp 3 then [(3, 0xFF)] else [])

/-- A heartbeat published now. -/
def Dev.heartbeat (d : Dev) : Dev :=
  let d1 := d.setN O.lgHbSeq ((d.nat O.lgHbSeq + 1) % 2 ^ 32 : Nat)
  let body := d1.heartbeatBody
  let d2 := d1.hbTargets.foldl (fun (x : Dev) p => (x.hand { port := p.1, dest := p.2, opcode := 0x22, mflags := 0, body := body }).1) d1
  ((d2.host.subs.filter (fun s => decide (s.kind = 4))).map (·.id)).foldl (fun (x : Dev) i =>
    let r := x.offer i 0x22 body
    Dev.route 200 r.1.now r.2 r.1) d2

/-- HEARTBEAT: at each whole second plus HB_PHASE_MS. -/
def Dev.heartbeatTick (d : Dev) : Dev :=
  if d.linksUp ∧ d.flag O.lgHbEnable then (d.tick 8601 1000000000 (1000000 * d.nat O.lgHbPhaseMs)).heartbeat else d

/-- HEARTBEAT_ON_CHANGE: one heartbeat covers every change before it. -/
def Dev.heartbeatChange (d : Dev) : Dev :=
  if d.linksUp ∧ d.flag O.lgHbEnable ∧ d.flag O.lgHbOnChange ∧ d.host.hbWanted.isSome then
    ({ d with host := { d.host with hbWanted := none } } : Dev).heartbeat
  else d

/-! ### Summaries (R383) -/

/-- One summary entry, for object `o` (0: the objects summed together). -/
def Dev.summaryPut (d : Dev) (o acc ref : Nat) (m : MinuteRec) : Dev :=
  (d.logPut { kind := 2, result := 0, t := d.now, oid := o, role := m.org.role.code, port := m.org.port, session := m.org.session, source := m.org.source,
              vflags := if m.lastDigest then 2 else 0, old := acc % 2 ^ 32 + 2 ^ 32 * (ref % 2 ^ 32), new := m.last, oldLen := 8, newLen := m.lastLen } true).2

/-- Before another in the order of summaries: the higher total, ties to the lower OID. -/
def MinuteRec.before (a b : MinuteRec) : Bool :=
  decide (b.accepted + b.refused < a.accepted + a.refused) ||
  (decide (a.accepted + a.refused = b.accepted + b.refused) && decide (a.oid ≤ b.oid))

/-- A summary put in its place. -/
def minuteInsert (m : MinuteRec) : List MinuteRec → List MinuteRec
  | [] => [m]
  | x :: t => if m.before x then m :: x :: t else x :: minuteInsert m t

/-- LOG_SUMMARY: at each whole minute of device time. -/
def Dev.logSummary (d : Dev) : Dev :=
  if !d.serverUp then d
  else
    let d0 := d.tick 8602 60000000000 0
    let l := d0.log.minute
    let d1 : Dev := { d0 with log := { d0.log with minute := [] } }
    let n := d1.nat O.lgSummaryMax
    if n = 0 then d1
    else
      let s := l.foldl (fun a m => minuteInsert m a) []
      let rest := s.drop n
      let d2 := (s.take n).foldl (fun (x : Dev) m => x.summaryPut m.oid m.accepted m.refused m) d1
      match (l.filter (fun m => rest.any (fun x => decide (x.oid = m.oid)))).getLast? with
      | none => d2
      | some m => (d2.summaryPut 0 (rest.map (·.accepted)).sum (rest.map (·.refused)).sum m).count 32 O.lgSummaryDropped rest.length

/-! ### Rows -/

/-- READ (R396). -/
def execRead (m : TMsg) (s : State) : Host.Outcome State Fault Refusal := s.upd (fun d => d.tender m (fun o => decide (o = 0x01)) (fun x u => x.tenderTxn m u))
/-- WRITE (R396). -/
def execWrite (m : TMsg) (s : State) : Host.Outcome State Fault Refusal := s.upd (fun d => d.tender m (fun o => decide (o = 0x02)) (fun x u => x.tenderTxn m u))
/-- MULTI (R367). -/
def execMulti (m : TMsg) (s : State) : Host.Outcome State Fault Refusal := s.upd (fun d => d.tender m (fun o => decide (o = 0x03)) (fun x u => x.tenderTxn m u))
/-- SUBSCRIBE (R406). -/
def execSubscribe (m : TMsg) (s : State) : Host.Outcome State Fault Refusal := s.upd (fun d => d.tender m (fun o => decide (o = 0x10)) (fun x u => x.subscribe m u))
/-- UNSUBSCRIBE (R406). -/
def execUnsubscribe (m : TMsg) (s : State) : Host.Outcome State Fault Refusal := s.upd (fun d => d.tender m (fun o => decide (o = 0x11)) (fun x u => x.unsubscribe m u))
/-- LOG_READ (R398). -/
def execLogRead (m : TMsg) (s : State) : Host.Outcome State Fault Refusal := s.upd (fun d => d.tender m (fun o => decide (o = 0x20)) (fun x u => x.logRead m u))
/-- DAYMARK (R398). -/
def execDaymark (m : TMsg) (s : State) : Host.Outcome State Fault Refusal := s.upd (fun d => d.tender m (fun o => decide (o = 0x21)) (fun x u => x.daymarkRead m u))
/-- AUTH_HELLO (R403). -/
def execAuthHello (m : TMsg) (s : State) : Host.Outcome State Fault Refusal := s.upd (fun d => d.tender m (fun o => decide (o = 0x30)) (fun x u => x.authHello m u))
/-- AUTH_PROVE (R403). -/
def execAuthProve (m : TMsg) (s : State) : Host.Outcome State Fault Refusal := s.upd (fun d => d.authProve m)
/-- CLOSE (R405). -/
def execClose (m : TMsg) (s : State) : Host.Outcome State Fault Refusal := s.upd (fun d => d.tender m (fun o => decide (o = 0x32)) (fun x u => x.closeSession m u))
/-- PING (R396). -/
def execPing (m : TMsg) (s : State) : Host.Outcome State Fault Refusal := s.upd (fun d => d.tender m (fun o => decide (o = 0x3F)) (fun x u => x.ping m u))
/-- UNKNOWN_OPCODE (R399). -/
def execUnknownOpcode (m : TMsg) (s : State) : Host.Outcome State Fault Refusal :=
  s.upd (fun d => d.tender m (fun o => !knownOpcode o) (fun x u => x.errorReply m (sessNum u) 0x81))
/-- DEVICE_OPCODE_RECEIVED (R396). -/
def execDeviceOpcodeReceived (m : TMsg) (s : State) : Host.Outcome State Fault Refusal := s.upd (fun d => d.deviceOp m)
/-- CHANGE_INTERVAL_END (R407). -/
def execChangeIntervalEnd (sub : Nat) (s : State) : Host.Outcome State Fault Refusal := s.upd (fun d => d.changeInterval sub)
/-- HEARTBEAT (R391). -/
def execHeartbeat (s : State) : Host.Outcome State Fault Refusal := s.upd Dev.heartbeatTick
/-- HEARTBEAT_ON_CHANGE (R391). -/
def execHeartbeatOnChange (s : State) : Host.Outcome State Fault Refusal := s.upd Dev.heartbeatChange
/-- LOG_SUMMARY (R383). -/
def execLogSummary (s : State) : Host.Outcome State Fault Refusal := s.upd Dev.logSummary

end Sys2Proof.Machine
end

