-- ==== Sys2Proof/Machine/Writes.lean ====
section
/-! DEFINITION. Writes that are commands of their own: each is a transaction of the object it names (R366 to R369), with the checks, the log
entry and the reaction that any write of that object has. EARLY_TRACK_UPDATE and SD_STREAM_STALL are writes of firmware. -/

namespace Sys2Proof.Machine

/-- What holds SDA of two-wire port `p` low: 0 nothing, `n` an addressed device for `n` pulses, 10 for good (R454). -/
def Dev.twLine (d : Dev) (p sda : Nat) : Dev := d.setTw p { d.twp p with sdaHold := sda }

/-- The context that feeds the first entry of the routing table, with the device time since which a follow slot has had it: itself, or the active
context of a follow slot (R264). -/
def Dev.feeder (d : Dev) : Option (Nat × Nat) :=
  let src := (d.route_ 0).cfg.src
  let f := srcB0 src
  if srcKind src = 1 then some (srcB0 src, 0)
  else if srcKind src = 3 ∧ d.srcLive src then
    ((d.llSlot f).active).map (fun a => (a.ctx, max (d.nat (O.llLastSwitch f)) (((d.llSlot f).fadeIn.getD 0) * 1000000000 / 48000)))
  else none

/-- EARLY_TRACK_UPDATE: context `c`, FM or AM on door H or V, has fed the first entry of the routing table for 10 s; one P commit, at most
once per 60 s. The 10 s count from ROUTE_T_APPLIED of that entry, the context's lock, or the switch that made it active, the latest (log 30). -/
def Dev.earlyTrack (d : Dev) (c : Nat) : Dev :=
  match d.feeder with
  | none => d
  | some p =>
    if d.serverUp ∧ d.flag O.wtEarlyTrack ∧ p.1 = c ∧ d.cxLive c ∧ (d.nat (O.cxType c) = 1 ∨ d.nat (O.cxType c) = 2) ∧ d.nat (O.cxDoor c) < 2 then
      let d1 := d.timeTo (max (max (d.nat (O.auRouteTApplied 0)) (d.nat (O.cxTLock c))) p.2 + 10000000000)
      let d2 := match d1.wt.earlyWriteAt with | some t => d1.after t 60000 | none => d1
      let mask := ((d2.cxChains c).eraseDups.map (fun n => 2 ^ n)).sum
      ({ d2 with wt := { d2.wt with earlyWriteAt := some d2.mono } } : Dev).fwWrites 0
        [(O.wtEarlyType, d2.nat (O.cxType c)), (O.wtEarlyRf, d2.nat (O.cxRf c)), (O.wtEarlyDoor, d2.nat (O.cxDoor c)), (O.wtEarlyChains, mask)]
    else d

/-- SD_STREAM_STALL: stream `i` has lacked room for 1 s and is disabled. -/
def Dev.sdStall (d : Dev) (i : Nat) : Dev :=
  match d.sd.full.find? (fun p => decide (p.1 = i)) with
  | some p =>
    if d.serverUp then
      ((((d.after p.2 1000).fwWrites 1 [(O.sdSdStreamEnable i, 0)]).inc (O.sdSdStreamStalls i)).raise 123 i).sdDrain
    else d
  | none => d

/-- PW_REQUEST_READY (R552). -/
def execPwRequestReady (org : Origin) (s : State) : Host.Outcome State Fault Refusal := s.upd (fun d => d.writes org [writeNum O.pwPwRequest 1])
/-- PW_REQUEST_RUN (R552). -/
def execPwRequestRun (org : Origin) (s : State) : Host.Outcome State Fault Refusal := s.upd (fun d => d.writes org [writeNum O.pwPwRequest 2])
/-- PW_REQUEST_SENTRY (R552). -/
def execPwRequestSentry (org : Origin) (s : State) : Host.Outcome State Fault Refusal := s.upd (fun d => d.writes org [writeNum O.pwPwRequest 3])
/-- PW_REQUEST_STANDBY (R552). -/
def execPwRequestStandby (org : Origin) (s : State) : Host.Outcome State Fault Refusal := s.upd (fun d => d.writes org [writeNum O.pwPwRequest 4])
/-- PW_REQUEST_RESET (R552). -/
def execPwRequestReset (org : Origin) (s : State) : Host.Outcome State Fault Refusal := s.upd (fun d => d.writes org [writeNum O.pwPwRequest 5])
/-- ACTIVATE (R146). -/
def execActivate (org : Origin) (v : Nat) (s : State) : Host.Outcome State Fault Refusal := s.upd (fun d => d.writes org [writeNum O.wtActivate v])
/-- SLOT_MASK (R149). -/
def execSlotMask (org : Origin) (elem : Nat) (v : Nat) (s : State) : Host.Outcome State Fault Refusal := s.upd (fun d => d.writes org [writeNum (O.wtSlotMask elem) v])
/-- STORM_EXIT (R156). -/
def execStormExit (org : Origin) (v : Nat) (s : State) : Host.Outcome State Fault Refusal := s.upd (fun d => d.writes org [writeNum O.wtStormExit v])
/-- REQUEST (R117). -/
def execRequest (org : Origin) (c : Nat) (v : Nat) (s : State) : Host.Outcome State Fault Refusal := s.upd (fun d => d.writes org [writeNum (O.cxRequest c) v])
/-- LSYN_CAL_CMD (R41). -/
def execLsynCalCmd (org : Origin) (v : Nat) (s : State) : Host.Outcome State Fault Refusal := s.upd (fun d => d.writes org [writeNum O.cpLsynCalCmd v])
/-- DOOR_C_BAND (R43). -/
def execDoorCBand (org : Origin) (chain : Nat) (v : Nat) (s : State) : Host.Outcome State Fault Refusal := s.upd (fun d => d.writes org [writeNum (O.cpDoorCBand chain) v])
/-- CHAIN_ENABLE (R69). -/
def execChainEnable (org : Origin) (chain : Nat) (v : Nat) (s : State) : Host.Outcome State Fault Refusal := s.upd (fun d => d.writes org [writeNum (O.cpChainEnable chain) v])
/-- FEED_ENABLE (R66). -/
def execFeedEnable (org : Origin) (chain : Nat) (v : Nat) (s : State) : Host.Outcome State Fault Refusal := s.upd (fun d => d.writes org [writeNum (O.cpFeedEnable chain) v])
/-- FEED_RESET (R66). -/
def execFeedReset (org : Origin) (chain : Nat) (v : Nat) (s : State) : Host.Outcome State Fault Refusal := s.upd (fun d => d.writes org [writeNum (O.cpFeedReset chain) v])
/-- SVC_DUMP (R235). -/
def execSvcDump (org : Origin) (s : State) : Host.Outcome State Fault Refusal := s.upd (fun d => d.writes org [writeNum O.sdSvcDump 1])
/-- WARN_DISMISS (R241). -/
def execWarnDismiss (org : Origin) (w : Nat) (s : State) : Host.Outcome State Fault Refusal := s.upd (fun d => d.writes org [writeNum (O.sdWarnDismiss w) 1])
/-- LL_ACTIVATE (R259). -/
def execLlActivate (org : Origin) (v : Nat) (s : State) : Host.Outcome State Fault Refusal := s.upd (fun d => d.writes org [writeNum O.llLlActivate v])
/-- POSITION_WRITE (R262). -/
def execPositionWrite (org : Origin) (lat lon : Int) (s : State) : Host.Outcome State Fault Refusal := s.upd (fun d => d.writes org [writeNum O.llPosLat lat, writeNum O.llPosLon lon])
/-- FOLLOW_ENABLE (R271). -/
def execFollowEnable (org : Origin) (f : Nat) (v : Nat) (s : State) : Host.Outcome State Fault Refusal := s.upd (fun d => d.writes org [writeNum (O.llFollowEnable f) v])
/-- FILTER_SETTINGS_WRITE (R291). -/
def execFilterSettingsWrite (org : Origin) (oid : Nat) (v : Nat) (s : State) : Host.Outcome State Fault Refusal := s.upd (fun d => d.writes org [writeNum oid v])
/-- OUT_MS (R293). -/
def execOutMs (org : Origin) (oid : Nat) (v : Nat) (s : State) : Host.Outcome State Fault Refusal := s.upd (fun d => d.writes org [writeNum oid v])
/-- THR_CHANNEL (R297). -/
def execThrChannel (org : Origin) (elem : Nat) (v : Nat) (s : State) : Host.Outcome State Fault Refusal := s.upd (fun d => d.writes org [writeNum (O.mfThrChannel elem) v])
/-- LANE_CAL_CMD (R308). -/
def execLaneCalCmd (org : Origin) (lane : Nat) (v : Nat) (s : State) : Host.Outcome State Fault Refusal := s.upd (fun d => d.writes org [writeNum (O.caLaneCalCmd lane) v])
/-- REF_CMD (R315). -/
def execRefCmd (org : Origin) (v : Nat) (s : State) : Host.Outcome State Fault Refusal := s.upd (fun d => d.writes org [writeNum O.caRefCmd v])
/-- LINK_CAL_CMD (R322). -/
def execLinkCalCmd (org : Origin) (v : Nat) (s : State) : Host.Outcome State Fault Refusal := s.upd (fun d => d.writes org [writeNum O.caLinkCalCmd v])
/-- OBJECT_WRITE (R368). -/
def execObjectWrite (org : Origin) (oid : Nat) (value : List Byte) (s : State) : Host.Outcome State Fault Refusal := s.upd (fun d => d.writes org [writeItem oid value])
/-- DEFAULTS_RESTORE (R371). -/
def execDefaultsRestore (org : Origin) (areas : Nat) (s : State) : Host.Outcome State Fault Refusal := s.upd (fun d => d.writes org [writeNum O.syDefaultsCmd 1, writeNum O.syDefaultsAreas areas])
/-- DEFAULTS_FACTORY (R371). -/
def execDefaultsFactory (org : Origin) (areas : Nat) (s : State) : Host.Outcome State Fault Refusal := s.upd (fun d => d.writes org [writeNum O.syDefaultsCmd 2, writeNum O.syDefaultsAreas areas])
/-- STATS_CLEAR (R372). -/
def execStatsClear (org : Origin) (areas : Nat) (s : State) : Host.Outcome State Fault Refusal := s.upd (fun d => d.writes org [writeNum O.syStatsClear areas])
/-- PTP_ENABLE (R412). -/
def execPtpEnable (org : Origin) (v : Nat) (s : State) : Host.Outcome State Fault Refusal := s.upd (fun d => d.writes org [writeNum O.tmPtpEnable v])
/-- TIME_SET (R414). -/
def execTimeSet (org : Origin) (v : Nat) (s : State) : Host.Outcome State Fault Refusal := s.upd (fun d => d.writes org [writeNum O.tmTimeSet v])
/-- DL_MSG (R442). -/
def execDlMsg (org : Origin) (b : Nat) (msg : List Byte) (s : State) : Host.Outcome State Fault Refusal := s.upd (fun d => d.writes org [writeItem (O.blDlMsg b) msg])
/-- FW_CMD (R439). -/
def execFwCmd (org : Origin) (v : Nat) (s : State) : Host.Outcome State Fault Refusal := s.upd (fun d => d.writes org [writeNum O.blFwCmd v])
/-- LINK_ENABLE (R428). -/
def execLinkEnable (org : Origin) (chain : Nat) (v : Nat) (s : State) : Host.Outcome State Fault Refusal := s.upd (fun d => d.writes org [writeNum (O.blLinkEnable chain) v])
/-- ROLE (R444). -/
def execRole (org : Origin) (p : Nat) (what : Nat) (v : Nat) (sda : Nat) (s : State) : Host.Outcome State Fault Refusal := s.upd (fun d => (d.twLine p sda).writes org [writeNum (if what = 0 then O.twRole p else O.twSpeed p) v])
/-- X_GO (R449). -/
def execXGo (org : Origin) (p : Nat) (v : Nat) (s : State) : Host.Outcome State Fault Refusal := s.upd (fun d => d.writes org [writeNum (O.twXGo p) v])
/-- RECOVER (R454). -/
def execRecover (org : Origin) (p : Nat) (v : Nat) (sda : Nat) (s : State) : Host.Outcome State Fault Refusal := s.upd (fun d => (d.twLine p sda).writes org [writeNum (O.twRecover p) v])
/-- SIDE_ENABLE (R337). -/
def execSideEnable (org : Origin) (port : Nat) (side : Nat) (v : Nat) (s : State) : Host.Outcome State Fault Refusal := s.upd (fun d => d.writes org [writeNum (O.auEnable port side) v])
/-- GROUP_GO (R339). -/
def execGroupGo (org : Origin) (v : Nat) (s : State) : Host.Outcome State Fault Refusal := s.upd (fun d => d.writes org [writeNum O.auGroupGo v])
/-- ROUTE_WRITE (R348). -/
def execRouteWrite (org : Origin) (oid : Nat) (value : List Byte) (s : State) : Host.Outcome State Fault Refusal := s.upd (fun d => d.writes org [writeItem oid value])
/-- AUDIO_SLOT_MASK (R343). -/
def execAudioSlotMask (org : Origin) (port : Nat) (side : Nat) (v : Nat) (s : State) : Host.Outcome State Fault Refusal := s.upd (fun d => d.writes org [writeNum (O.auSlotMask port side) v])
/-- RING_FRAMES (R350). -/
def execRingFrames (org : Origin) (ring : Nat) (v : Nat) (s : State) : Host.Outcome State Fault Refusal := s.upd (fun d => d.writes org [writeNum (O.auRingFrames ring) v])
/-- RING_INDEX_WRITE (R350). -/
def execRingIndexWrite (org : Origin) (oid : Nat) (v : Nat) (s : State) : Host.Outcome State Fault Refusal := s.upd (fun d => d.writes org [writeNum oid v])
/-- AVTP_ENABLE (R353). -/
def execAvtpEnable (org : Origin) (stream : Nat) (v : Nat) (s : State) : Host.Outcome State Fault Refusal := s.upd (fun d => d.writes org [writeNum (O.auAvtpEnable stream) v])
/-- MCLK_SEL (R355). -/
def execMclkSel (org : Origin) (n : Nat) (v : Nat) (s : State) : Host.Outcome State Fault Refusal := s.upd (fun d => d.writes org [writeNum (if n = 0 then O.auMclk0Sel else O.auMclk1Sel) v])
/-- EV_ACK (R522). -/
def execEvAck (org : Origin) (elem : Nat) (v : Nat) (s : State) : Host.Outcome State Fault Refusal := s.upd (fun d => d.writes org [writeNum (O.evEvAck elem) v])
/-- EV_MASK (R524). -/
def execEvMask (org : Origin) (elem : Nat) (v : Nat) (s : State) : Host.Outcome State Fault Refusal := s.upd (fun d => d.writes org [writeNum (O.evEvMask elem) v])
/-- FW_ACTIVATE (R540). -/
def execFwActivate (org : Origin) (v : Nat) (s : State) : Host.Outcome State Fault Refusal := s.upd (fun d => d.writes org [writeNum O.scFwActivate v])
/-- RECOVER_CMD (R541). -/
def execRecoverCmd (org : Origin) (v : Nat) (s : State) : Host.Outcome State Fault Refusal := s.upd (fun d => d.writes org [writeNum O.scRecoverCmd v])
/-- ROLLBACK_ADV (R536). -/
def execRollbackAdv (org : Origin) (v : Nat) (s : State) : Host.Outcome State Fault Refusal := s.upd (fun d => d.writes org [writeNum O.scRollbackAdv v])
/-- KEY_WRITE (R542). -/
def execKeyWrite (org : Origin) (oid : Nat) (key : List Byte) (s : State) : Host.Outcome State Fault Refusal := s.upd (fun d => d.writes org [writeItem oid key])
/-- KEY_REVOKE (R542). -/
def execKeyRevoke (org : Origin) (v : Nat) (s : State) : Host.Outcome State Fault Refusal := s.upd (fun d => d.writes org [writeNum O.scKeyRevoke v])
/-- CUST_ROOT (R534). -/
def execCustRoot (org : Origin) (elem : Nat) (hash : List Byte) (s : State) : Host.Outcome State Fault Refusal := s.upd (fun d => d.writes org [writeItem (O.scCustRoot elem) hash])
/-- ROOT_REVOKE (R534). -/
def execRootRevoke (org : Origin) (v : Nat) (s : State) : Host.Outcome State Fault Refusal := s.upd (fun d => d.writes org [writeNum O.scRootRevoke v])
/-- DEBUG_DISABLE (R544). -/
def execDebugDisable (org : Origin) (v : Nat) (s : State) : Host.Outcome State Fault Refusal := s.upd (fun d => d.writes org [writeNum O.scDebugDisable v])
/-- ATTEST_GEN (R545). -/
def execAttestGen (org : Origin) (v : Nat) (s : State) : Host.Outcome State Fault Refusal := s.upd (fun d => d.writes org [writeNum O.scAttestGen v])
/-- ATTEST_NONCE (R547). -/
def execAttestNonce (org : Origin) (nonce : List Byte) (s : State) : Host.Outcome State Fault Refusal := s.upd (fun d => d.writes org [writeItem O.scAttestNonce nonce])
/-- PROG_ENABLE (R485). -/
def execProgEnable (org : Origin) (prog : Nat) (v : Nat) (s : State) : Host.Outcome State Fault Refusal := s.upd (fun d => d.writes org [writeNum (O.kpProgEnable prog) v])
/-- EARLY_TRACK_UPDATE (R160). -/
def execEarlyTrackUpdate (c : Nat) (s : State) : Host.Outcome State Fault Refusal := s.upd (fun d => d.earlyTrack c)
/-- SD_STREAM_STALL (R246). -/
def execSdStreamStall (i : Nat) (s : State) : Host.Outcome State Fault Refusal := s.upd (fun d => d.sdStall i)

end Sys2Proof.Machine
end

