-- ==== Sys2Proof/Machine/Bus.lean ====
section
/-! DEFINITION. What a Keeper core reaches: its memory map (R464), the stream window (R518), the dictionary port (R517), memory protection
(R477, R482) and the bit space (R465, R514). -/

namespace Sys2Proof.Machine

/-- An exception condition: vector, slot of the raising syllable (7 none) and detail (Table 17.10). -/
structure Exc where
  vec : Nat
  slot : Nat
  detail : Nat := 0
  deriving DecidableEq, Repr

/-! ### Regions (Table 17.4) -/

/-- Regions of the Keeper memory map. -/
inductive Region where
  | imem | dmem | sram | stream | port | xip | rom | none
  deriving DecidableEq, Repr

/-- The region of an address. -/
def regionOf (a : Nat) : Region :=
  if a < 0x20000 then .imem
  else if 0x10000000 ≤ a ∧ a < 0x10040000 then .dmem
  else if 0x20000000 ≤ a ∧ a < 0x20400000 then .sram
  else if 0x40000000 ≤ a ∧ a < 0x50000000 then .stream
  else if 0x60000000 ≤ a ∧ a < 0x60008000 then .port
  else if 0x80000000 ≤ a ∧ a < 0xA0000000 then .xip
  else if 0xF0000000 ≤ a ∧ a < 0xF0010000 then .rom
  else .none

/-! ### The stream window (R518) -/

/-- SIZE of the ring of descriptor `n`. -/
def Dev.windowSize (d : Dev) (n : Nat) : Nat :=
  if n < 8 then 4096 * 2 ^ (Config.streamRing n % 9) else if n < 16 then 65536 else d.cxRingSize (n - 16)

/-- Descriptors that exist: 16 is reserved. -/
def descOk (n : Nat) : Bool := decide (n < 80) && decide (n ≠ 16)

/-- The descriptor and the byte of its ring that a window address names, through either mapping. -/
def Dev.ringByteAt (d : Dev) (a : Nat) : Option (Nat × Nat) :=
  let o := a - 0x40100000
  let n := o / 0x200000
  let i := o % 0x200000
  if 0x40100000 ≤ a ∧ descOk n ∧ i < 2 * d.windowSize n then some (n, i % d.windowSize n) else none

/-- The descriptor whose table entry holds a window address. -/
def descAt (a : Nat) : Option Nat := if 0x40000000 ≤ a ∧ a < 0x40000000 + 32 * 80 then some ((a - 0x40000000) / 32) else none

/-- A word of descriptor `n` as core `k` reads it. -/
def Dev.descWord (d : Dev) (k n w : Nat) : Nat :=
  if !descOk n then 0
  else match w with
    | 0 => (d.ring n).head % 2 ^ 32
    | 1 => Tab.get 0 (d.ring n).tails k % 2 ^ 32
    | 2 => d.windowSize n
    | 3 => 0x100000 + 0x200000 * n
    | _ => 0

/-- The byte a held record has at ring position `p`: its length word, then the record; none in its padding or where no record is held. -/
def Ring.byteAt (r : Ring) (p : Nat) : Option Byte :=
  match r.recs.find? (fun x => decide (p < x.endPos) && decide (x.endPos ≤ p + ringBytes x.bytes.length)) with
  | some x => (leBytes 4 x.bytes.length ++ x.bytes)[p + ringBytes x.bytes.length - x.endPos]?
  | none => none

/-- A byte of the stream window. -/
def Dev.windowByte (d : Dev) (k f a : Nat) : Byte :=
  match descAt a with
  | some n => BitVec.ofNat 8 (d.descWord k n (a % 32 / 4) / 256 ^ (a % 4))
  | none =>
    match d.ringByteAt a with
    | some (n, i) =>
      let r := d.ring n
      let z := d.windowSize n
      let back := (r.head + z - 1 - i) % z
      if back < r.head then (r.byteAt (r.head - 1 - back)).getD (Config.busByte f a) else Config.busByte f a
    | none => Config.busByte f a

/-! ### The dictionary port (Table 18.12) -/

/-- Key of a core's port bank: F for privileged code, S for U mode. -/
def bankKey (k : Nat) (u : Bool) : Nat := 2 * k + (if u then 1 else 0)

/-- Port offsets that a load may name, and those that a store may name. -/
def portReads (o : Nat) : Bool := (decide (0x2000 ≤ o) && decide (o < 0x4000)) || decide (0x7F00 ≤ o ∧ o ≤ 0x7F0C)
/-- The same for stores. -/
def portWrites (o : Nat) : Bool := decide (o < 0x2000) || decide (o = 0x7F00) || decide (o = 0x7F04) || decide (o = 0x7F0C)

/-- A word of a port bank. -/
def Dev.portWord (d : Dev) (key f o : Nat) : Nat :=
  let p := Tab.get {} d.ports key
  if o < 0x4000 then leNat ((List.range 4).map (fun i => if p.busy then Config.busByte f (o + i) else p.rsp.getD (o - 0x2000 + i) 0))
  else if o = 0x7F00 then p.reqLen
  else if o = 0x7F04 then (if p.busy then 1 else 0) + (if p.done then 2 else 0) + (if p.overrun then 4 else 0)
  else if o = 0x7F08 then p.rsp.length
  else p.doneBit

/-- A port bank replaced. -/
def Dev.setPort (d : Dev) (key : Nat) (p : DictPort) : Dev := { d with ports := Tab.set {} d.ports key p }

/-- Origin of a port's transactions (R362, Table 13.9): firmware of the core, or the service program that runs on K3. -/
def Dev.portOrigin (d : Dev) (key : Nat) : Origin :=
  let k := key / 2
  if key % 2 = 0 then { firmware with source := 0xFF00 + k }
  else
    let prog := match d.kp.running with | some (i, _) => if k = 3 then i else 0xFF | none => 0xFF
    { role := .S, port := 0, session := 0, source := k + 256 * prog }

/-- The request of a busy port executed (R517): a body that is no transaction gets the bytes of the BAD_BODY error (R397, R399). -/
def Dev.portRun (d : Dev) (key : Nat) : Dev :=
  let p := Tab.get {} d.ports key
  let n := p.reqLen
  let org := d.portOrigin key
  if n = 0 ∨ 8192 < n then d.txnReply { org := org, opcode := 3, items := [], limit := 8192 } 0 key 3 0 0
  else
    match parseItems n (memBytes p.req 0 n) with
    | some l => d.txnReply { org := org, opcode := 3, items := l, limit := 8192 } 0 key 3 0 0
    | none => d.reply 0 key 3 0 0 (leBytes 4 0x86)

/-- Number of the next request that waits at a port. -/
def Dev.portNo (d : Dev) : Nat := (d.ports.map (fun q => q.2.no + 1)).foldl max 0

/-- A store to a port: GO submits the request, which waits until the dictionary server runs. -/
def Dev.portStore (d : Dev) (key o v : Nat) : Dev :=
  let p := Tab.get {} d.ports key
  if o < 0x2000 then d.setPort key { p with req := memStore p.req o (leBytes 4 v) }
  else if o = 0x7F00 then d.setPort key { p with reqLen := v }
  else if o = 0x7F0C then d.setPort key { p with doneBit := v }
  else if v % 2 = 0 then d
  else if p.busy then d.setPort key { p with overrun := true }
  else
    let d1 := d.setPort key { p with busy := true, done := false, overrun := false, since := d.mono, no := d.portNo }
    if d1.serverUp then d1.portRun key else d1

/-! ### Checks of an access -/

/-- The MPU region that decides an address in U mode (R477): the highest-numbered enabled one that contains it; `bit` 0 R, 1 W, 2 X. -/
def Core.mpuAllows (c : Core) (a bit : Nat) : Bool :=
  let hit := fun (r : Nat) =>
    let m : Word × Word := Tab.get (0, 0) c.mpu r
    m.2.getLsbD 3 && decide (m.1.toNat / 64 ≤ a / 64) && decide (a / 64 ≤ m.2.toNat / 64)
  match ((List.range 16).reverse.find? hit) with
  | some r => (Tab.get ((0 : Word), (0 : Word)) c.mpu r).2.getLsbD bit
  | none => false

/-- The program that runs in U mode on core `k`. -/
def Dev.userProg (d : Dev) (k : Nat) : Option Nat := if k = 3 then d.kp.running.map (·.1) else none

/-- The descriptor that a window address belongs to: by its table entry or its ring. -/
def Dev.windowDesc (d : Dev) (a : Nat) : Option Nat := match descAt a with | some n => some n | none => (d.ringByteAt a).map (·.1)

/-- Detail of a load's fault, 0 for none (R464, R477, R482). -/
def Dev.loadDetail (d : Dev) (k : Nat) (u : Bool) (a size : Nat) : Nat :=
  let base := match regionOf a with
    | .imem => if size = 4 then 0 else 3
    | .port => if size ≠ 4 then 3 else if portReads (a - 0x60000000) then 0 else 1
    | .dmem | .sram | .stream | .xip => 0
    | .rom | .none => 1
  if base ≠ 0 ∨ !u then base
  else if regionOf a = .stream then
    match d.userProg k, d.windowDesc a with
    | some i, some n => if d.capStream i n 0 then 0 else 2
    | _, _ => 2
  else if (d.core k).mpuAllows a 0 then 0 else 2

/-- Detail of a store's fault, 0 for none. -/
def Dev.storeDetail (d : Dev) (k : Nat) (u : Bool) (a size : Nat) : Nat :=
  let tail := match descAt a with | some n => descOk n && decide (a % 32 = 4) && decide (size = 4) | none => false
  if regionOf a = .stream then
    if !u then (if tail then 0 else 1)
    else match d.userProg k, descAt a with
      | some i, some n => if tail && d.capStream i n 1 then 0 else 2
      | _, _ => 2
  else
    let base := match regionOf a with
      | .imem => if size = 4 then 0 else 3
      | .port => if size ≠ 4 then 3 else if portWrites (a - 0x60000000) then 0 else 1
      | .dmem | .sram => 0
      | _ => 1
    if base ≠ 0 ∨ !u then base
    else if (d.core k).mpuAllows a 1 then 0 else 2

/-- Detail of a fetch's fault, 0 for none. -/
def Dev.fetchDetail (d : Dev) (k : Nat) (u : Bool) (a : Nat) : Nat :=
  match regionOf a with
  | .imem | .xip => if u ∧ !(d.core k).mpuAllows a 2 then 2 else 0
  | _ => 1

/-- Exceptions of a load of `size` bytes at `a` by the L slot. -/
def Dev.loadExc (d : Dev) (k : Nat) (u : Bool) (a size : Nat) : List Exc :=
  let x := d.loadDetail k u a size
  (if x = 0 then [] else [{ vec := 4, slot := 3, detail := x }]) ++ (if a % size = 0 then [] else [({ vec := 6, slot := 3 } : Exc)])

/-- Exceptions of a store. -/
def Dev.storeExc (d : Dev) (k : Nat) (u : Bool) (a size : Nat) : List Exc :=
  let x := d.storeDetail k u a size
  (if x = 0 then [] else [{ vec := 5, slot := 3, detail := x }]) ++ (if a % size = 0 then [] else [({ vec := 6, slot := 3 } : Exc)])

/-! ### Reads and writes -/

/-- The bytes at an address, which an access has been found to reach; `f` is the step's free number. -/
def Dev.busBytes (d : Dev) (k : Nat) (u : Bool) (f a n : Nat) : List Byte :=
  match regionOf a with
  | .imem | .dmem => memBytes d.kp.lmem (k * 2 ^ 32 + a) n
  | .sram => memBytes d.kp.sram (a - 0x20000000) n
  | .stream => (List.range n).map (fun i => d.windowByte k f (a + i))
  | .port => leBytes n (d.portWord (bankKey k u) f (a - 0x60000000))
  | .xip => memBytes d.flash (a - 0x80000000) n
  | .rom => (List.range n).map (fun i => Config.romByte (a - 0xF0000000 + i))
  | .none => zeroBytes n

/-- The number at an address. -/
def Dev.busRead (d : Dev) (k : Nat) (u : Bool) (f a n : Nat) : Nat := leNat (d.busBytes k u f a n)

/-- Bytes stored at an address that a store has been found to reach. -/
def Dev.busWrite (d : Dev) (k : Nat) (u : Bool) (a : Nat) (b : List Byte) : Dev :=
  match regionOf a with
  | .imem | .dmem => d.lmemStore k a b
  | .sram => d.sramStore (a - 0x20000000) b
  | .stream => (match descAt a with | some n => d.tailStore n k (leNat b) | none => d)
  | .port => d.portStore (bankKey k u) (a - 0x60000000) (leNat b)
  | _ => d

/-! ### The bit space (Table 17.5) -/

/-- A bit address that exists. -/
def bitExists (b : Nat) : Bool :=
  decide (b < 0x400) || (decide (0x1000 ≤ b) && decide (b < 0x1080)) || (decide (0x2000 ≤ b) && decide (b < 0x2400)) || (decide (0x4000 ≤ b) && decide (b < 0x8000))

/-- A bit window that covers an address with a right: bit 16 R, 17 W (R477). -/
def Core.winAllows (c : Core) (b right : Nat) : Bool :=
  (List.range 4).any (fun w =>
    let x : Word × Word := Tab.get (0, 0) c.win w
    x.2.getLsbD right && decide (x.1.toNat % 32768 ≤ b) && decide (b ≤ x.2.toNat % 32768))

/-- The fault of a bit access by a slot: a reserved address, or one outside the windows in U mode. -/
def Dev.bitExc (d : Dev) (k : Nat) (u : Bool) (slot b : Nat) (rd wr : Bool) : List Exc :=
  let c := d.core k
  if !bitExists b then [{ vec := 7, slot := slot, detail := 1 }]
  else if u ∧ ((rd ∧ !c.winAllows b 16) ∨ (wr ∧ !c.winAllows b 17)) then [{ vec := 7, slot := slot, detail := 3 }]
  else []

/-- A bit read: core-local flag, event latch, context status, or semaphore. -/
def Dev.bitRead (d : Dev) (k b : Nat) : Bool :=
  if b < 0x400 then Tab.get false d.lflags (1024 * k + b)
  else if b < 0x1080 then d.latched (b - 0x1000)
  else if b < 0x2400 then (d.cxStatus ((b - 0x2000) / 16)).testBit (b % 16)
  else Tab.get false d.kp.sems b

/-- A bit written. Of the event mirror a write of 0 acknowledges, where the syllable may (`ack`; R522); context status takes no write. -/
def Dev.bitWrite (d : Dev) (k b : Nat) (v ack : Bool) : Dev :=
  if b < 0x400 then { d with lflags := Tab.set false d.lflags (1024 * k + b) v }
  else if b < 0x1080 then (if !v && ack then d.evAck (b - 0x1000) else d)
  else if b < 0x2400 then d
  else { d with kp := { d.kp with sems := Tab.set false d.kp.sems b v } }

end Sys2Proof.Machine
end

