-- ==== Sys2Proof/Machine/Syll.lean ====
section
/-! DEFINITION. Syllables and bundles (R467 to R470, R494): their fields, the conditions of Table 17.8, and the arithmetic of the X, Y and M
slots (R495 to R504). -/

namespace Sys2Proof.Machine

/-! ### Fields -/

/-- A syllable of a unit slot (Table 17.7): with I set, `imm` is the signed immediate or the value with EXT (R468), `low` IMM13 as it
stands; without, SRCB and FUNC. -/
structure Syl where
  slot : Nat := 7
  op : Nat := 0
  dst : Nat := 0
  srca : Nat := 0
  isImm : Bool := false
  srcb : Nat := 0
  func : Nat := 0
  imm : Word := 0
  low : Nat := 0
  ext : Bool := false
  deriving DecidableEq, Repr

/-- Slot field of a syllable word. -/
def slotOf (w : Nat) : Nat := field w 30 28
/-- An Immediate-layout syllable of a unit slot. -/
def isImmWord (w : Nat) : Bool := decide (slotOf w < 5) && w.testBit 13
/-- The word at an index. -/
def wordAt (ws : List Nat) (i : Nat) : Nat := ws.getD i 0

/-- A unit syllable from its word and the one after it. -/
def sylOf (w next : Nat) : Syl :=
  let e := isImmWord w && decide (slotOf next = 5)
  { slot := slotOf w, op := field w 27 22, dst := field w 21 18, srca := field w 17 14, isImm := w.testBit 13, srcb := field w 12 9, func := field w 8 0,
    imm := if e then BitVec.ofNat 32 (field next 27 9 * 8192 + field w 12 0) else BitVec.ofInt 32 (toSigned 13 (field w 12 0)), low := field w 12 0, ext := e }

/-- The unit syllables of a bundle. -/
def sylsOf (ws : List Nat) : List Syl :=
  (List.range ws.length).filterMap (fun i =>
    let w := wordAt ws i
    if slotOf w < 5 then some (sylOf w (if i + 1 < ws.length then wordAt ws (i + 1) else 0)) else none)

/-- The syllable of a slot in a bundle. -/
def sylIn (ws : List Nat) (slot : Nat) : Option Syl := (sylsOf ws).find? (fun s => decide (s.slot = slot))

/-- The PFX of a bundle. -/
def pfxOf (ws : List Nat) : Option Nat := match ws with | w :: _ => if slotOf w = 6 then some w else none | [] => none
/-- REP. -/
def pfxRep (w : Nat) : Bool := w.testBit 27
/-- PRED. -/
def pfxPred (w : Nat) : Bool := w.testBit 26

/-! ### Which syllables are defined (condition 4) -/

/-- Control-space numbers of Table 17.12. -/
def crListed (n : Nat) : Bool :=
  decide (n ≤ 0x11) || decide (0x20 ≤ n ∧ n ≤ 0x23) || decide (n = 0x30 ∨ n = 0x31) || decide (0x40 ≤ n ∧ n ≤ 0x67)

/-- An X syllable (Table 18.3). -/
def xOk (s : Syl) : Bool :=
  let reg := !s.isImm
  let f0 := s.isImm || decide (s.func = 0)
  match s.op with
  | 0x00 => f0 && decide (s.srca = 0)
  | 0x01 | 0x03 | 0x05 | 0x06 | 0x0A | 0x0B | 0x0C | 0x0D | 0x13 | 0x14 => f0
  | 0x02 | 0x04 | 0x15 | 0x16 => reg && f0
  | 0x07 | 0x08 | 0x18 | 0x1C | 0x1D => reg && f0 && decide (s.srcb = 0)
  | 0x09 => f0 && decide (s.dst = 0)
  | 0x0E | 0x0F | 0x10 | 0x11 | 0x12 => if s.isImm then !s.ext && decide (s.low ≤ 31) else f0
  | 0x17 => reg && decide (s.func ≤ 3) && decide (s.srcb = 0)
  | 0x19 | 0x1A | 0x1B => reg && f0 && decide (s.dst % 2 = 0)
  | _ => false

/-- A Y syllable (Table 18.6). -/
def yOk (s : Syl) : Bool :=
  let f0 := s.isImm || decide (s.func = 0)
  match s.op with
  | 0x00 => f0 && decide (s.srca = 0)
  | 0x01 | 0x02 | 0x04 => f0
  | 0x03 => !s.isImm && decide (s.func ≤ 3)
  | 0x05 => s.isImm && decide (s.srca = 0)
  | _ => false

/-- An M syllable (Table 18.7). -/
def mOk (s : Syl) : Bool :=
  let reg := !s.isImm && decide (s.func = 0)
  let cnt := if s.isImm then !s.ext && decide (s.low ≤ 71) else decide (s.func = 0)
  match s.op with
  | 0x00 | 0x01 | 0x02 | 0x03 | 0x04 | 0x05 | 0x06 => reg && decide (s.dst < 4)
  | 0x07 => reg && decide (s.dst < 4) && decide (s.srca = 0) && decide (s.srcb = 0)
  | 0x08 => !s.isImm && decide (s.func ≤ 40) && decide (s.dst < 4) && decide (s.srcb = 0)
  | 0x09 | 0x0A => reg && decide (s.dst < 4) && decide (s.srca < 4) && decide (s.srcb < 4)
  | 0x0B | 0x0C | 0x0D => cnt && decide (s.dst < 4) && decide (s.srca < 4)
  | 0x0E | 0x0F | 0x10 => cnt && decide (s.srca < 4)
  | _ => false

/-- A string syllable of the L slot. -/
def Syl.isString (s : Syl) : Bool := decide (s.slot = 3) && decide (0x20 ≤ s.op) && decide (s.op ≤ 0x23)

/-- An L syllable (Table 18.8). -/
def lOk (s : Syl) : Bool :=
  match s.op with
  | 0x00 | 0x01 | 0x02 | 0x03 | 0x04 | 0x05 | 0x08 | 0x09 | 0x0A | 0x0B => s.isImm || decide (s.func < 16)
  | 0x10 => s.isImm
  | 0x11 => !s.isImm && decide (s.func = 0)
  | 0x20 | 0x22 => !s.isImm && decide (s.func < 8) && decide (s.func % 4 ≠ 3)
  | 0x21 => !s.isImm && decide (s.func < 8) && decide (s.func % 4 ≠ 3) && decide (s.srca = 0)
  | 0x23 => !s.isImm && decide (s.func < 8) && decide (s.func % 4 ≠ 3) && decide (s.dst = 0)
  | _ => false

/-- A C syllable (Table 18.10). -/
def cOk (s : Syl) : Bool :=
  match s.op with
  | 0x00 => s.isImm && decide (s.dst = 0) && decide (s.srca = 0)
  | 0x01 => s.isImm && decide (s.dst < 15) && decide (s.srca = 0)
  | 0x02 => s.isImm
  | 0x03 | 0x06 | 0x07 => s.isImm && decide (s.dst = 0)
  | 0x04 => !s.isImm && decide (s.srcb = 0) && decide (s.func = 0)
  | 0x05 => s.isImm && !s.ext && decide (1 ≤ s.low) && decide (1 ≤ s.dst) && decide (s.dst ≤ 8)
  | 0x08 | 0x09 | 0x0A | 0x0B | 0x0C | 0x0D | 0x0E =>
    (if s.isImm then !s.ext && decide (s.dst < 4) else decide (s.dst = 0) && decide (s.func = 0)) && (decide (s.op = 0x0E) || decide (s.srca = 0))
  | 0x10 => s.isImm && !s.ext && decide (s.low ≤ 9)
  | 0x11 => s.isImm && !s.ext && decide (1 ≤ s.low) && decide (s.low ≤ 9)
  | 0x12 | 0x13 => s.isImm && !s.ext && crListed s.low
  | 0x14 => s.isImm && !s.ext
  | 0x15 | 0x16 => s.isImm && decide (s.imm = 0)
  | 0x17 => s.isImm && (decide (s.imm = 0) || decide (s.imm = 1))
  | 0x18 => s.isImm
  | _ => false

/-- A unit syllable is defined. -/
def Syl.ok (s : Syl) : Bool :=
  match s.slot with
  | 0 => xOk s
  | 1 => yOk s
  | 2 => mOk s
  | 3 => lOk s
  | 4 => cOk s
  | _ => false

/-! ### What a syllable writes (condition 8) -/

/-- Codes of what is written: D0–15 at 0, A0–15 at 16, ACC at 32, special registers at 40, and the flags Z, N, C, V, DZ at 60. -/
def Syl.writes (s : Syl) : List Nat :=
  let zn := [60, 61]
  let zncv := [60, 61, 62, 63]
  match s.slot with
  | 0 =>
    (match s.op with
     | 0x00 | 0x1C => [s.dst]
     | 0x1D => [16 + s.dst]
     | 0x09 => zncv
     | 0x0A | 0x0B | 0x0C | 0x0D | 0x13 | 0x14 | 0x15 | 0x16 | 0x17 | 0x18 => s.dst :: zn
     | 0x19 | 0x1A | 0x1B => [s.dst, s.dst + 1, 64] ++ zncv
     | _ => s.dst :: zncv)
  | 1 => [16 + s.dst]
  | 2 =>
    (match s.op with
     | 0x0B | 0x0C | 0x0D => (32 + s.dst) :: zncv
     | 0x0E | 0x0F | 0x10 => [s.dst, 60, 61, 63]
     | _ => [32 + s.dst])
  | 3 =>
    let post := if !s.isImm && s.func.testBit 3 then [16 + s.srca] else []
    (match s.op with
     | 0x05 => (16 + s.dst) :: post
     | 0x08 | 0x09 | 0x0A | 0x0B => post
     | 0x10 | 0x11 => [s.dst]
     | 0x20 => [16 + s.dst, 16 + s.srca]
     | 0x21 => [16 + s.dst]
     | 0x22 => [16 + s.dst, 16 + s.srca] ++ zncv
     | 0x23 => (16 + s.srca) :: zncv
     | _ => s.dst :: post)
  | 4 =>
    (match s.op with
     | 0x02 | 0x04 => [30]
     | 0x05 => [42, 43, 44]
     | 0x0B | 0x0C | 0x0D => [62]
     | 0x10 | 0x12 => [s.dst]
     | 0x11 => if s.low = 1 then [41, 60, 61, 62, 63, 64] else [40 + s.low]
     | _ => [])
  | _ => []

/-- Some value stands in a list twice. -/
def hasDup : List Nat → Bool
  | [] => false
  | x :: t => t.any (fun y => decide (y = x)) || hasDup t

/-! ### The conditions of Table 17.8 -/

/-- Unit slots that a syllable occupies: MFSR, MTSR, MFCR and MTCR also occupy X (R511). -/
def slotsUsed (w : Nat) : List Nat :=
  if slotOf w < 5 then slotOf w :: (if slotOf w = 4 ∧ 0x10 ≤ field w 27 22 ∧ field w 27 22 ≤ 0x13 then [0] else [])
  else if slotOf w = 6 then [6] else []

/-- The EXT at index `i` does not follow its own Immediate-layout syllable. -/
def extLost (ws : List Nat) (i : Nat) : Bool := decide (i = 0) || !isImmWord (wordAt ws (i - 1))

/-- Indices of the EXT syllables. -/
def extsOf (ws : List Nat) : List Nat := (List.range ws.length).filter (fun i => decide (slotOf (wordAt ws i) = 5))

/-- The lowest condition of Table 17.8 that a bundle with its stop bit meets, 0 for none. -/
def bundleFault (ws : List Nat) : Nat :=
  let e := extsOf ws
  let p := (List.range ws.length).filter (fun i => decide (slotOf (wordAt ws i) = 6))
  let pf := p.map (wordAt ws)
  let rep : Bool := match pfxOf ws with | some w => pfxRep w | none => false
  if ws.any (fun w => decide (slotOf w = 7)) then 2
  else if hasDup (ws.flatMap slotsUsed) ∨ (2 ≤ e.length ∧ e.any (extLost ws)) then 3
  else if (sylsOf ws).any (fun s => !s.ok) ∨ pf.any (fun w => decide (field w 24 15 ≠ 0) || (!pfxPred w && decide (field w 14 0 ≠ 0))) then 4
  else if p.any (fun i => decide (i ≠ 0)) ∨ pf.any (fun w => !pfxRep w && !pfxPred w) then 5
  else if e.any (fun i => extLost ws i || decide (field (wordAt ws i) 8 0 ≠ 0)) then 6
  else if rep ∧ !(decide (ws.length = 2) && (sylsOf ws).all Syl.isString) then 7
  else if hasDup ((sylsOf ws).flatMap Syl.writes) then 8
  else 0

/-! ### Registers of a core -/

/-- D register. -/
def Core.dr (c : Core) (i : Nat) : Word := Tab.get 0 c.d i
/-- A register. -/
def Core.ar (c : Core) (i : Nat) : Word := Tab.get 0 c.a i
/-- ACC register. -/
def Core.accr (c : Core) (i : Nat) : BitVec 72 := Tab.get 0 c.acc i
/-- D register set. -/
def Core.setD (c : Core) (i : Nat) (v : Word) : Core := { c with d := Tab.set 0 c.d i v }
/-- A register set. -/
def Core.setA (c : Core) (i : Nat) (v : Word) : Core := { c with a := Tab.set 0 c.a i v }
/-- ACC register set. -/
def Core.setAcc (c : Core) (i : Nat) (v : BitVec 72) : Core := { c with acc := Tab.set 0 c.acc i v }
/-- A PSW bit (Table 17.3). -/
def Core.bit (c : Core) (i : Nat) : Bool := c.psw.getLsbD i
/-- PSW flags of a mask set to a value. -/
def Core.setFlags (c : Core) (mask v : Nat) : Core := { c with psw := (c.psw &&& ~~~(BitVec.ofNat 32 mask)) ||| BitVec.ofNat 32 v }
/-- SAT set where a syllable states it; it never falls so. -/
def Core.setSat (c : Core) (b : Bool) : Core := if b then { c with psw := c.psw ||| 0x20 } else c

/-! ### X slot -/

/-- What an arithmetic syllable gives: its value, the flags it writes and their values (bits 0 Z, 1 N, 2 C, 3 V, 4 DZ), and SAT. -/
structure AluOut where
  val : Word
  mask : Nat := 0
  flags : Nat := 0
  sat : Bool := false
  deriving DecidableEq, Repr

/-- A bit as a number. -/
def bn (b : Bool) (i : Nat) : Nat := if b then 2 ^ i else 0

/-- Z and N of a value. -/
def znOf (v : Word) : Nat := bn (decide (v = 0)) 0 + bn v.msb 1

/-- A sum or difference as its exact signed value, with its carry or borrow; saturated where asked (R497). -/
def addOut (r : Int) (carry saturate : Bool) : AluOut :=
  let v := decide (r < -2147483648) || decide (2147483647 < r)
  let x : Word := if v && saturate then (if r < 0 then 0x80000000 else 0x7FFFFFFF) else BitVec.ofInt 32 r
  { val := x, mask := 15, flags := znOf x + bn carry 2 + bn v 3, sat := v && saturate }

/-- Da + Db + carry. -/
def aluAdd (a b : Word) (cin saturate : Bool) : AluOut :=
  addOut (a.toInt + b.toInt + (bn cin 0 : Nat)) (decide (2 ^ 32 ≤ a.toNat + b.toNat + bn cin 0)) saturate

/-- Da − Db − borrow; C is the borrow (R495). -/
def aluSub (a b : Word) (bin saturate : Bool) : AluOut :=
  addOut (a.toInt - b.toInt - (bn bin 0 : Nat)) (decide (a.toNat < b.toNat + bn bin 0)) saturate

/-- A result with Z and N alone. -/
def aluZn (v : Word) : AluOut := { val := v, mask := 3, flags := znOf v }

/-- A left shift of a `w`-bit value by `n`, with C (Table 18.4). -/
def shlOut (w v n : Nat) : Nat × Bool := if n = 0 then (v, false) else if n ≤ w then (v * 2 ^ n % 2 ^ w, v.testBit (w - n)) else (0, false)
/-- A right shift with zero fill. -/
def shrOut (w v n : Nat) : Nat × Bool := if n = 0 then (v, false) else if n ≤ w then (v / 2 ^ n, v.testBit (n - 1)) else (0, false)
/-- A right shift with sign fill. -/
def sarOut (w v n : Nat) : Nat × Bool :=
  let neg := v.testBit (w - 1)
  let all := if neg then 2 ^ w - 1 else 0
  if n = 0 then (v, false)
  else if n < w then (v / 2 ^ n + (if neg then 2 ^ w - 2 ^ (w - n) else 0), v.testBit (n - 1))
  else (all, neg)

/-- A shift's result of class ZNC0. -/
def shiftOut (p : Nat × Bool) : AluOut :=
  let v : Word := BitVec.ofNat 32 p.1
  { val := v, mask := 15, flags := znOf v + bn p.2 2 }

/-- Rotates (R499). -/
def aluRol (a : Word) (n : Nat) : AluOut := let v := a.rotateLeft (n % 32); shiftOut (v.toNat, decide (n % 32 ≠ 0) && v.getLsbD 0)
/-- To the right. -/
def aluRor (a : Word) (n : Nat) : AluOut := let v := a.rotateRight (n % 32); shiftOut (v.toNat, decide (n % 32 ≠ 0) && v.msb)

/-- Leading zeros (0–32). -/
def clzOf (a : Word) : Nat := match (List.range 32).find? (fun i => a.getLsbD (31 - i)) with | some i => i | none => 32

/-- A quotient, its remainder and flags (R500, Table 18.5). -/
structure DivOut where
  q : Word
  r : Word
  v : Bool := false
  dz : Bool := false
  sat : Bool := false
  deriving DecidableEq, Repr

/-- DIV and DIVS. -/
def divSigned (a b : Word) (saturate : Bool) : DivOut :=
  if b = 0 then { q := if a = 0 then 0 else if a.msb then 0x80000000 else 0x7FFFFFFF, r := a, dz := true }
  else if a = 0x80000000 ∧ b = 0xFFFFFFFF then { q := if saturate then 0x7FFFFFFF else 0x80000000, r := 0, v := true, sat := saturate }
  else { q := BitVec.ofInt 32 (a.toInt.tdiv b.toInt), r := BitVec.ofInt 32 (a.toInt.tmod b.toInt) }

/-- DIVU. -/
def divUnsigned (a b : Word) : DivOut :=
  if b = 0 then { q := if a = 0 then 0 else 0xFFFFFFFF, r := a, dz := true }
  else { q := BitVec.ofNat 32 (a.toNat / b.toNat), r := BitVec.ofNat 32 (a.toNat % b.toNat) }

/-- The divide of a syllable; none for the other X syllables. -/
def divOf (c : Core) (s : Syl) : Option DivOut :=
  let a := c.dr s.srca
  let b := c.dr s.srcb
  match s.op with
  | 0x19 => some (divSigned a b false)
  | 0x1A => some (divUnsigned a b)
  | 0x1B => some (divSigned a b true)
  | _ => none

/-- The value and flags of an X syllable that is no divide and no move (Table 18.3). -/
def xAlu (c : Core) (s : Syl) : AluOut :=
  let a := c.dr s.srca
  let b := if s.isImm then s.imm else c.dr s.srcb
  let n := if s.isImm then s.low else (c.dr s.srcb).toNat % 256
  match s.op with
  | 0x01 => aluAdd a b false false
  | 0x02 => aluAdd a b (c.bit 2) false
  | 0x03 | 0x09 => aluSub a b false false
  | 0x04 => aluSub a b (c.bit 2) false
  | 0x05 => aluAdd a b false true
  | 0x06 => aluSub a b false true
  | 0x07 => aluSub 0 a false false
  | 0x08 => aluSub 0 a false true
  | 0x0A => aluZn (a &&& b)
  | 0x0B => aluZn (a ||| b)
  | 0x0C => aluZn (a ^^^ b)
  | 0x0D => aluZn (a &&& ~~~b)
  | 0x0E => shiftOut (shlOut 32 a.toNat n)
  | 0x0F => shiftOut (shrOut 32 a.toNat n)
  | 0x10 => shiftOut (sarOut 32 a.toNat n)
  | 0x11 => aluRol a n
  | 0x12 => aluRor a n
  | 0x13 => aluZn (if b.toInt < a.toInt then b else a)
  | 0x14 => aluZn (if a.toInt < b.toInt then b else a)
  | 0x15 => aluZn (if b.toNat < a.toNat then b else a)
  | 0x16 => aluZn (if a.toNat < b.toNat then b else a)
  | 0x17 => aluZn (match s.func with
      | 0 => BitVec.ofInt 32 (toSigned 8 a.toNat)
      | 1 => BitVec.ofNat 32 (a.toNat % 256)
      | 2 => BitVec.ofInt 32 (toSigned 16 a.toNat)
      | _ => BitVec.ofNat 32 (a.toNat % 65536))
  | 0x18 => aluZn (BitVec.ofNat 32 (clzOf a))
  | _ => { val := b }

/-- An X syllable: `c` as the bundle found it, `x` as the bundle leaves it so far. -/
def xRun (c : Core) (s : Syl) (x : Core) : Core :=
  match divOf c s with
  | some r =>
    (((x.setD s.dst r.q).setD (s.dst + 1) r.r).setFlags 31 (znOf r.q + bn r.v 3 + bn r.dz 4)).setSat r.sat
  | none =>
    if s.op = 0x1C then x.setD s.dst (c.ar s.srca)
    else if s.op = 0x1D then x.setA s.dst (c.dr s.srca)
    else
      let o := xAlu c s
      let y := (x.setFlags o.mask o.flags).setSat o.sat
      if s.op = 0x09 then y else y.setD s.dst o.val

/-! ### Y slot -/

/-- The value of a Y syllable (Table 18.6). -/
def yVal (c : Core) (s : Syl) : Word :=
  let a := c.ar s.srca
  let b := if s.isImm then s.imm else c.ar s.srcb
  match s.op with
  | 0x01 => a + b
  | 0x02 => a - b
  | 0x03 => a + (c.ar s.srcb <<< s.func)
  | 0x04 => a &&& b
  | 0x05 => c.pc + s.imm
  | _ => b

/-- A Y syllable. -/
def yRun (c : Core) (s : Syl) (x : Core) : Core := x.setA s.dst (yVal c s)

/-! ### M slot -/

/-- An exact value in 72 bits, and whether it wrapped (R503). -/
def acc72 (v : Int) : BitVec 72 × Bool :=
  let w := BitVec.ofInt 72 v
  (w, decide (w.toInt ≠ v))

/-- EXTR and its rounding forms (R503): `mode` 0 floor, 1 half up, 2 half to even. -/
def extrVal (v : Int) (s mode : Nat) : Int :=
  if mode = 0 then v / ((2 ^ s : Nat) : Int)
  else if 72 ≤ s then 0
  else if s = 0 then v
  else
    let t := v + ((2 ^ (s - 1) : Nat) : Int)
    let q := t / ((2 ^ s : Nat) : Int)
    if mode = 2 ∧ t % ((2 ^ s : Nat) : Int) = 0 ∧ q % 2 = 1 then q - 1 else q

/-- An accumulator shift of class ZNC0 (R504). -/
def accShift (x : Core) (dst : Nat) (p : Nat × Bool) : Core :=
  let v : BitVec 72 := BitVec.ofNat 72 p.1
  (x.setAcc dst v).setFlags 15 (bn (decide (v = 0)) 0 + bn v.msb 1 + bn p.2 2)

/-- An accumulator result, with SAT where it wrapped. -/
def accPut (x : Core) (dst : Nat) (v : Int) : Core := (x.setAcc dst (acc72 v).1).setSat (acc72 v).2

/-- An M syllable (Table 18.7). -/
def mRun (c : Core) (s : Syl) (x : Core) : Core :=
  let a := c.dr s.srca
  let b := c.dr s.srcb
  let sp := a.toInt * b.toInt
  let up : Int := (a.toNat * b.toNat : Nat)
  let acc := (c.accr s.dst).toInt
  let n := if s.isImm then s.low else b.toNat % 256
  let src := c.accr s.srca
  match s.op with
  | 0x00 => accPut x s.dst sp
  | 0x01 => accPut x s.dst up
  | 0x02 => accPut x s.dst (acc + sp)
  | 0x03 => accPut x s.dst (acc + up)
  | 0x04 => accPut x s.dst (acc - sp)
  | 0x05 => accPut x s.dst (2 * sp)
  | 0x06 => accPut x s.dst (acc + 2 * sp)
  | 0x07 => x.setAcc s.dst 0
  | 0x08 => accPut x s.dst (a.toInt * ((2 ^ s.func : Nat) : Int))
  | 0x09 => accPut x s.dst (src.toInt + (c.accr s.srcb).toInt)
  | 0x0A => accPut x s.dst (src.toInt - (c.accr s.srcb).toInt)
  | 0x0B => accShift x s.dst (shlOut 72 src.toNat n)
  | 0x0C => accShift x s.dst (shrOut 72 src.toNat n)
  | 0x0D => accShift x s.dst (sarOut 72 src.toNat n)
  | _ =>
    let q := extrVal src.toInt n (s.op - 0x0E)
    let r := satS 32 q
    let v : Word := BitVec.ofInt 32 r
    let ov := decide (r ≠ q)
    ((x.setD s.dst v).setFlags 11 (znOf v + bn ov 3)).setSat ov

end Sys2Proof.Machine
end

