-- ==== Sys2Proof/Machine/Lantern.lean ====
section
/-! DEFINITION. Register mode: the L and C slots, bundles (R471), exceptions and interrupts (R472 to R475), REP (R509), and the debug port's
hold on a Keeper (R543). -/

namespace Sys2Proof.Machine

/-! ### Exceptions and interrupts -/

/-- ECAUSE (Table 17.10). -/
def ecauseOf (vec slot detail : Nat) (rep : Bool) : Word := BitVec.ofNat 32 (detail * 65536 + bn rep 11 + slot * 256 + vec)

/-- Level of a vector (Table 17.12): VLEVELk [4j+2:4j] for vector 8k + j. -/
def Core.level (c : Core) (v : Nat) : Nat := field (Tab.get (0 : Word) c.vlevel (v / 8)).toNat (4 * (v % 8) + 2) (4 * (v % 8))

/-- IPL. -/
def Core.ipl (c : Core) : Nat := field c.psw.toNat 12 10

/-- A double fault, or the registers of R472 and the handler's address; `lvl` is the level of an interrupt, none for a synchronous exception. -/
def Dev.takeExc (d : Dev) (k vec slot detail : Nat) (rep : Bool) (epc : Word) (lvl : Option Nat) : Dev :=
  let c := d.core k
  let cause := ecauseOf vec slot detail rep
  if c.stackMode then d
  else if lvl.isNone ∧ c.bit 7 then d.doubleFault k cause.toNat
  else
    let keep := c.psw &&& (match lvl with | some _ => 0xFFFFC1FF | none => 0xFFFFDDFF)
    let psw := keep ||| 0x80 ||| (match lvl with | some l => BitVec.ofNat 32 (l * 1024) | none => 0)
    let va := (c.vbase.toNat + 4 * vec) % 2 ^ 32
    let target := d.busRead k false d.free va 4
    let d1 := d.fresh.2.setCore k { c with epc := epc, epsw := c.psw, ecause := cause, psw := psw, resv := none, waiting := false, inRep := false,
                                            pc := BitVec.ofNat 32 target }
    if d.loadDetail k false va 4 ≠ 0 ∨ target % 4 ≠ 0 then d1.doubleFault k (ecauseOf 3 7 1 false).toNat else d1

/-- A synchronous exception; in U mode on K3 it ends the run of the service program (R483): TRAP 0 normally, any other faults it. -/
def Dev.syncExc (d : Dev) (k : Nat) (e : Exc) (rep : Bool) (epc : Word) : Dev :=
  let user := (d.core k).bit 13
  let d1 := d.takeExc k e.vec e.slot e.detail rep epc none
  if user ∧ k = 3 then d1.progEnds (if e.vec = 9 ∧ e.detail = 0 then none else some (ecauseOf e.vec e.slot e.detail rep).toNat) else d1

/-- The condition with the lowest vector; of equal vectors the first of the list. -/
def lowestExc (l : List Exc) : Option Exc := l.foldl (fun (b : Option Exc) e => match b with | some x => if e.vec < x.vec then some e else b | none => some e) none

/-- Vectors whose interrupt is pending on core `k` (Table 17.9). -/
def Dev.pendingVecs (d : Dev) (k : Nat) : List Nat :=
  let c := d.core k
  (if c.timerOn then [16] else []) ++ (if c.bell then [17] else []) ++ (if c.soft then [18] else []) ++
  ((List.range 96).filter (fun l => d.linePending k l)).map (fun l => 32 + l)

/-- The interrupt that is taken first: above IPL, the highest level, and of that level the lowest vector (R473). -/
def Dev.nextVec (d : Dev) (k : Nat) : Option Nat :=
  let c := d.core k
  (d.pendingVecs k).foldl (fun (b : Option Nat) v =>
    if c.level v ≤ c.ipl then b
    else match b with | some x => if c.level x < c.level v then some v else b | none => some v) none

/-- A Keeper in register mode that is clocked and not halted. -/
def Dev.coreOn (d : Dev) (k : Nat) : Bool := d.wdtRuns k

/-- An interrupt that the core takes at this boundary: IE is 1 and its level is above IPL (R473). -/
def Dev.intDue (d : Dev) (k : Nat) : Bool := (d.core k).bit 9 && (d.nextVec k).isSome

/-- INTERRUPT_ENTRY (R473, R474). -/
def Dev.interrupt (d : Dev) (k : Nat) : Dev :=
  let c := d.core k
  if d.coreOn k ∧ c.bit 9 then
    match d.nextVec k with
    | some v => d.takeExc k v 7 0 c.inRep c.pc (some (c.level v))
    | none => d
  else d

/-- WAIT_WAKE (R516). -/
def Dev.waitWake (d : Dev) (k : Nat) : Dev :=
  if d.coreOn k ∧ (d.core k).waiting ∧ (d.nextVec k).isSome then d.setCore k { d.core k with waiting := false } else d

/-- TIMER_COMPARE (R476). -/
def Dev.timerCompare (d : Dev) (k : Nat) : Dev :=
  let c := d.core k
  if d.coreOn k ∧ c.timer ≠ 0 then (d.timeTo c.timer).setCore k { c with timerOn := true } else d

/-! ### L slot (R505 to R508) -/

/-- The address of a load or store, and what post-modify leaves in A[SRCA]. -/
def lAddr (c : Core) (s : Syl) : Nat × Option Word :=
  let a := c.ar s.srca
  if s.isImm then ((a + s.imm).toNat, none)
  else
    let i := (if s.func.testBit 2 then c.ar s.srcb else c.dr s.srcb) <<< (s.func % 4)
    if s.func.testBit 3 then (a.toNat, some (a + i)) else ((a + i).toNat, none)

/-- Bytes of an access. -/
def lSize (s : Syl) : Nat := match s.op with | 0x00 | 0x01 | 0x08 => 1 | 0x02 | 0x03 | 0x09 => 2 | _ => 4

/-- LR.W and SC.W reach local data memory and shared SRAM alone (R507). -/
def lrReach (a : Nat) : Bool := decide (regionOf a = .dmem) || decide (regionOf a = .sram)

/-- The word that a store syllable stores. -/
def lData (c : Core) (s : Syl) : Word := if s.op = 0x0B then c.ar s.dst else if s.op = 0x11 then c.dr s.srcb else c.dr s.dst

/-- A U-mode store to DONE_BIT names a flag inside a bit window with W (Table 18.12). -/
def doneBitExc (c : Core) (u : Bool) (a : Nat) (v : Word) : List Exc :=
  if u ∧ a = 0x60007F0C ∧ v ≠ 0xFFFFFFFF ∧ !(decide (v.toNat < 0x400) && c.winAllows v.toNat 17) then [{ vec := 7, slot := 3, detail := 3 }] else []

/-- Element size and step of a string syllable. -/
def strSize (s : Syl) : Nat := 2 ^ (s.func % 4)
/-- A string pointer moved on. -/
def strStep (s : Syl) (p : Word) : Word := if s.func.testBit 2 then p - BitVec.ofNat 32 (strSize s) else p + BitVec.ofNat 32 (strSize s)

/-- Exceptions of an L syllable, of a string syllable those of one element. -/
def Dev.lExc (d : Dev) (k : Nat) (c : Core) (u : Bool) (s : Syl) : List Exc :=
  let a := (lAddr c s).1
  let src := (c.ar s.srca).toNat
  let dst := (c.ar s.dst).toNat
  let z := strSize s
  match s.op with
  | 0x00 | 0x01 | 0x02 | 0x03 | 0x04 | 0x05 => d.loadExc k u a (lSize s)
  | 0x10 => if lrReach a then d.loadExc k u a 4 else { vec := 4, slot := 3, detail := 1 } :: (if a % 4 = 0 then [] else [{ vec := 6, slot := 3 }])
  | 0x11 => if lrReach src then d.storeExc k u src 4 else { vec := 5, slot := 3, detail := 1 } :: (if src % 4 = 0 then [] else [{ vec := 6, slot := 3 }])
  | 0x20 => d.loadExc k u src z ++ d.storeExc k u dst z
  | 0x21 => d.storeExc k u dst z ++ doneBitExc c u dst (c.dr s.srcb)
  | 0x22 => d.loadExc k u src z ++ d.loadExc k u dst z
  | 0x23 => d.loadExc k u src z
  | _ => d.storeExc k u a (lSize s) ++ doneBitExc c u a (lData c s)

/-- The value a load gives its register. -/
def loadVal (op n : Nat) : Word :=
  match op with
  | 0x00 => BitVec.ofInt 32 (toSigned 8 n)
  | 0x02 => BitVec.ofInt 32 (toSigned 16 n)
  | _ => BitVec.ofNat 32 n

/-- SC.W stores: the reservation is held on its granule. -/
def scHolds (c : Core) (s : Syl) : Bool := decide (c.resv = some ((c.ar s.srca).toNat / 32))

/-- Registers after an L syllable; `c` is the core as the bundle found it. -/
def Dev.lRun (d : Dev) (k : Nat) (c : Core) (u : Bool) (f : Nat) (s : Syl) (x : Core) : Core :=
  let p := lAddr c s
  let post := fun (y : Core) => match p.2 with | some w => y.setA s.srca w | none => y
  let src := (c.ar s.srca).toNat
  let dst := (c.ar s.dst).toNat
  let z := strSize s
  let cmp := fun (y : Core) (a b : Nat) => let o := aluSub (BitVec.ofNat 32 a) (BitVec.ofNat 32 b) false false; y.setFlags o.mask o.flags
  match s.op with
  | 0x00 | 0x01 | 0x02 | 0x03 | 0x04 => (post x).setD s.dst (loadVal s.op (d.busRead k u f p.1 (lSize s)))
  | 0x05 => (post x).setA s.dst (BitVec.ofNat 32 (d.busRead k u f p.1 4))
  | 0x10 => { x.setD s.dst (BitVec.ofNat 32 (d.busRead k u f p.1 4)) with resv := some (p.1 / 32) }
  | 0x11 => { x.setD s.dst (if scHolds c s then 0 else 1) with resv := none }
  | 0x20 => (x.setA s.dst (strStep s (c.ar s.dst))).setA s.srca (strStep s (c.ar s.srca))
  | 0x21 => x.setA s.dst (strStep s (c.ar s.dst))
  | 0x22 => cmp ((x.setA s.dst (strStep s (c.ar s.dst))).setA s.srca (strStep s (c.ar s.srca))) (d.busRead k u f src z) (d.busRead k u f dst z)
  | 0x23 => cmp (x.setA s.srca (strStep s (c.ar s.srca))) (d.busRead k u f src z) ((c.dr s.srcb).toNat % 256 ^ z)
  | _ => post x

/-- What an L syllable stores: address and bytes, as the bundle found its registers and memory. -/
def Dev.lStore (d : Dev) (k : Nat) (c : Core) (u : Bool) (f : Nat) (s : Syl) : Option (Nat × List Byte) :=
  let z := strSize s
  match s.op with
  | 0x08 | 0x09 | 0x0A | 0x0B => some ((lAddr c s).1, leBytes (lSize s) (lData c s).toNat)
  | 0x11 => if scHolds c s then some ((c.ar s.srca).toNat, leBytes 4 (c.dr s.srcb).toNat) else none
  | 0x20 => some ((c.ar s.dst).toNat, d.busBytes k u f (c.ar s.srca).toNat z)
  | 0x21 => some ((c.ar s.dst).toNat, leBytes z (c.dr s.srcb).toNat)
  | _ => none

/-! ### C slot (R510 to R516) -/

/-- The bit a bit syllable names (R514). -/
def bitAddr (c : Core) (s : Syl) : Nat := if s.isImm then s.dst % 4 * 8192 + s.low else (c.dr s.srcb).toNat % 32768

/-- Bit syllables: whether they read and whether they write. -/
def bitUse (op : Nat) : Option (Bool × Bool) :=
  match op with
  | 0x08 | 0x09 | 0x0E => some (false, true)
  | 0x0A | 0x0C | 0x0D => some (true, true)
  | 0x0B => some (true, false)
  | _ => none

/-- A privileged syllable (R462, R510). -/
def cPrivileged (s : Syl) : Bool :=
  match s.op with
  | 0x12 | 0x13 | 0x16 | 0x18 => true
  | 0x10 | 0x11 => decide (6 ≤ s.low)
  | _ => false

/-- Exceptions of a C syllable before execution. -/
def Dev.cExc (d : Dev) (k : Nat) (c : Core) (u : Bool) (s : Syl) : List Exc :=
  let target := if s.op = 0x03 then (c.ar s.srca + s.imm).toNat else (c.ar s.srca).toNat
  (if u ∧ cPrivileged s then [{ vec := 2, slot := 4 }] else []) ++
  (if (s.op = 0x03 ∨ s.op = 0x04) ∧ target % 4 ≠ 0 then [({ vec := 6, slot := 4 } : Exc)] else []) ++
  (match bitUse s.op with | some (rd, wr) => d.bitExc k u 4 (bitAddr c s) rd wr | none => []) ++
  (if s.op = 0x15 then [({ vec := 10, slot := 4 } : Exc)] else [])

/-- Branch conditions (Table 18.11). -/
def condHolds (c : Core) (n : Nat) : Bool :=
  let z := c.bit 0
  let neg := c.bit 1
  let cy := c.bit 2
  let v := c.bit 3
  match n with
  | 0 => z | 1 => !z | 2 => cy | 3 => !cy | 4 => neg | 5 => !neg | 6 => v | 7 => !v
  | 8 => !cy && !z | 9 => cy || z | 10 => decide (neg = v) | 11 => decide (neg ≠ v)
  | 12 => !z && decide (neg = v) | 13 => z || decide (neg ≠ v) | 14 => c.bit 4 | _ => false

/-- The address a taken branch goes to; LOOP with count 0 passes its body, ERET returns. -/
def cBranch (c : Core) (s : Syl) : Option Word :=
  let rel := c.pc + 4 * s.imm
  match s.op with
  | 0x00 | 0x02 => some rel
  | 0x01 => if condHolds c s.dst then some rel else none
  | 0x03 => some (c.ar s.srca + s.imm)
  | 0x04 => some (c.ar s.srca)
  | 0x05 => if c.dr s.srca = 0 then some (c.pc + BitVec.ofNat 32 (4 * s.low + 4 * s.dst)) else none
  | 0x06 => if c.dr s.srca = 0 then some rel else none
  | 0x07 => if c.dr s.srca = 0 then none else some rel
  | 0x16 => some c.epc
  | _ => none

/-- A special register (R511). -/
def srRead (c : Core) (n : Nat) : Word :=
  match n with
  | 0 => c.pc | 1 => c.psw | 2 => c.lc | 3 => c.ls | 4 => c.le | 5 => c.sc | 6 => c.epc | 7 => c.epsw | 8 => c.ecause | _ => c.vbase

/-- A special register written; PSW keeps its zero bits, and in U mode changes [5:0] and [8] alone (R463). -/
def srWrite (x : Core) (u : Bool) (n : Nat) (v : Word) : Core :=
  match n with
  | 1 => { x with psw := if u then (x.psw &&& 0xFFFFFEC0) ||| (v &&& 0x13F) else v &&& 0x3FBF }
  | 2 => { x with lc := v }
  | 3 => { x with ls := v }
  | 4 => { x with le := v }
  | 5 => { x with sc := v }
  | 6 => { x with epc := v }
  | 7 => { x with epsw := v }
  | 8 => { x with ecause := v }
  | 9 => { x with vbase := v &&& 0xFFFFFE00 }
  | _ => x

/-- A control register (Table 17.12); `f` is the step's free number. -/
def Dev.crRead (d : Dev) (k : Nat) (c : Core) (f n : Nat) : Word :=
  let rec_ := decide (d.nat O.scBootArea = 3)
  if n ≤ 0x0F then Tab.get 0 c.vlevel n
  else if n = 0x10 then (if c.soft then 1 else 0)
  else if n = 0x11 then (if c.bell then 1 else 0)
  else if n = 0x20 then BitVec.ofNat 32 c.timer
  else if n = 0x21 then BitVec.ofNat 32 (c.timer / 2 ^ 32)
  else if n = 0x22 then BitVec.ofNat 32 (Config.cycles k f)
  else if n = 0x23 then c.cyclesHi
  else if n = 0x30 then (if rec_ then BitVec.ofNat 32 c.ctrSel else 0)
  else if n = 0x31 then (if rec_ ∧ c.ctrRaise then 1 else 0)
  else if n < 0x60 then
    let m : Word × Word := Tab.get (0, 0) c.mpu ((n - 0x40) / 2)
    if n % 2 = 0 then m.1 else m.2
  else
    let m : Word × Word := Tab.get (0, 0) c.win ((n - 0x60) / 2)
    if n % 2 = 0 then m.1 else m.2

/-- A control register of core `k` written: its own registers, doorbells of other cores, and the counters of the recovery script (R536). -/
def Dev.crWrite (d : Dev) (k n : Nat) (v : Word) : Dev :=
  let c := d.core k
  let put := fun (x : Core) => d.setCore k x
  let pair := fun (l : List (Nat × Word × Word)) (i : Nat) (w : Word) =>
    let m : Word × Word := Tab.get (0, 0) l i
    Tab.set (0, 0) l i (if n % 2 = 0 then (w, m.2) else (m.1, w))
  if n ≤ 0x0F then put { c with vlevel := Tab.set 0 c.vlevel n (v &&& 0x77777777) }
  else if n = 0x10 then put { c with soft := v.getLsbD 0 }
  else if n = 0x11 then
    let d1 := if v.getLsbD 8 then put { c with bell := false } else d
    (List.range 4).foldl (fun (x : Dev) j => if v.getLsbD j then x.setCore j { x.core j with bell := true } else x) d1
  else if n = 0x20 then put { c with timer := c.timer / 2 ^ 32 * 2 ^ 32 + v.toNat, timerOn := false }
  else if n = 0x21 then put { c with timer := c.timer % 2 ^ 32 + v.toNat * 2 ^ 32, timerOn := false }
  else if n = 0x22 ∨ n = 0x23 then d
  else if n = 0x30 ∨ n = 0x31 then
    if d.nat O.scBootArea ≠ 3 then d
    else if n = 0x30 then put { c with ctrSel := v.toNat % 32 }
    else if !counterExists c.ctrSel then put { c with ctrRaise := false }
    else
      let old := d.nat (O.scRollback c.ctrSel)
      (d.raiseCounter c.ctrSel v.toNat).setCore k { c with ctrRaise := decide (old ≤ v.toNat) }
  else if n < 0x60 then put { c with mpu := pair c.mpu ((n - 0x40) / 2) (v &&& (if n % 2 = 0 then 0xFFFFFFC0 else 0xFFFFFFCF)) }
  else put { c with win := pair c.win ((n - 0x60) / 2) (v &&& (if n % 2 = 0 then 0x7FFF else 0x37FFF)) }

/-- Registers after a C syllable; `next` is the address of the next bundle. -/
def Dev.cRun (d : Dev) (k : Nat) (c : Core) (u : Bool) (f : Nat) (next : Word) (s : Syl) (x : Core) : Core :=
  match s.op with
  | 0x02 | 0x04 => x.setA 14 next
  | 0x05 => { x with lc := c.dr s.srca, ls := next, le := c.pc + BitVec.ofNat 32 (4 * s.low) }
  | 0x0B | 0x0C | 0x0D => x.setFlags 4 (bn (d.bitRead k (bitAddr c s)) 2)
  | 0x10 => x.setD s.dst (srRead c s.low)
  | 0x11 => srWrite x u s.low (c.dr s.srca)
  | 0x12 =>
    let y := x.setD s.dst (d.crRead k c f s.low)
    if s.low = 0x22 then { y with cyclesHi := BitVec.ofNat 32 (Config.cycles k f / 2 ^ 32) } else y
  | 0x18 => { x with waiting := true }
  | _ => x

/-- What a C syllable does beyond its core's registers: bits, and control space. -/
def Dev.cDo (d : Dev) (k : Nat) (c : Core) (old : Dev) (s : Syl) : Dev :=
  let b := bitAddr c s
  match s.op with
  | 0x08 | 0x0C => d.bitWrite k b true true
  | 0x09 | 0x0D => d.bitWrite k b false true
  | 0x0A => d.bitWrite k b (!old.bitRead k b) false
  | 0x0E => d.bitWrite k b ((c.dr s.srca).getLsbD 0) true
  | 0x13 => d.crWrite k s.low (c.dr s.srca)
  | _ => d

/-! ### Bundles -/

/-- Syllables from an address up to the stop bit, or the exception of the fetch; `n` bounds them. -/
def Dev.fetch (d : Dev) (k : Nat) (u : Bool) : Nat → Nat → Except Exc (List Nat)
  | 0, _ => .error { vec := 1, slot := 7, detail := 1 }
  | n + 1, a =>
    let x := d.fetchDetail k u a
    if x ≠ 0 then .error { vec := 3, slot := 7, detail := x }
    else
      let w := d.busRead k u 0 a 4
      if w.testBit 31 then .ok [w]
      else match Dev.fetch d k u n ((a + 4) % 2 ^ 32) with
        | .ok t => .ok (w :: t)
        | .error e => .error e

/-- The bundle at PC, or the exception it raises before any part of it executes (R470). -/
def Dev.bundleAt (d : Dev) (k : Nat) : Except Exc (List Nat) :=
  let c := d.core k
  match d.fetch k (c.bit 13) 8 c.pc.toNat with
  | .error e => .error e
  | .ok ws => match bundleFault ws with
    | 0 => .ok ws
    | n => .error { vec := 1, slot := 7, detail := n }

/-- Address after a bundle of `n` syllables. -/
def Core.nextPc (c : Core) (n : Nat) : Word := c.pc + BitVec.ofNat 32 (4 * n)

/-- PC after a bundle at `pc` (R513): a branch, else the loop test with LC as the bundle leaves it. -/
def Core.finish (x : Core) (pc next : Word) (branch : Option Word) : Core :=
  let go := fun (y : Core) (t : Word) => { y with pc := t &&& 0xFFFFFFFC, inRep := false }
  match branch with
  | some t => go x t
  | none =>
    if x.le = pc ∧ 1 < x.lc.toNat then go { x with lc := x.lc - 1 } x.ls
    else if x.le = pc ∧ x.lc = 1 then go { x with lc := 0 } next
    else go x next

/-- The bundle executes: no PFX, or its predicate holds (R471). -/
def Dev.bundleRun (d0 : Dev) (k : Nat) (ws : List Nat) : Dev :=
  let f := d0.fresh
  let d := f.2
  let c := d.core k
  let u := c.bit 13
  let next := c.nextPc ws.length
  let sx := sylIn ws 0
  let sy := sylIn ws 1
  let sm := sylIn ws 2
  let sl := sylIn ws 3
  let sc := sylIn ws 4
  let on := fun (o : Option Syl) (g : Syl → Core → Core) (x : Core) => match o with | some s => g s x | none => x
  let exc := (match sl with | some s => d.lExc k c u s | none => []) ++ (match sc with | some s => d.cExc k c u s | none => [])
  match lowestExc exc with
  | some e => if e.vec = 10 ∧ c.brk then d.setCore k { c with dbg := true } else d.syncExc k e false c.pc
  | none =>
    let x := on sl (d.lRun k c u f.1) (on sm (mRun c) (on sy (yRun c) (on sx (xRun c) (on sc (d.cRun k c u f.1 next) c))))
    let y := x.finish c.pc next (match sc with | some s => cBranch c s | none => none)
    let z : Core := match sc with | some s => if s.op = 0x16 then { y with psw := c.epsw &&& 0x3FBF } else y | none => y
    let d1 := d.setCore k z
    let d2 := match sc with | some s => d1.cDo k c d s | none => d1
    let d3 := match sl with
      | some s => (match d.lStore k c u f.1 s with | some p => d2.busWrite k u p.1 p.2 | none => d2)
      | none => d2
    let dz : Bool := match sx with | some s => (match divOf c s with | some r => r.dz && c.bit 8 | none => false) | none => false
    if dz then d3.syncExc k { vec := 8, slot := 0 } false z.pc
    else match sc with
      | some s => if s.op = 0x14 then d3.syncExc k { vec := 9, slot := 4, detail := s.low } false z.pc else d3
      | none => d3

/-- One element of a repeat (R509): the exception it raises, or the device after it and whether the repeat ends. -/
def Dev.repStep (d0 : Dev) (k : Nat) (s : Syl) : Except Exc (Dev × Bool) :=
  let f := d0.fresh
  let d := f.2
  let c := d.core k
  let u := c.bit 13
  match lowestExc (d.lExc k c u s) with
  | some e => .error e
  | none =>
    let x := d.lRun k c u f.1 s c
    let y : Core := { x with sc := c.sc - 1, inRep := true }
    let d1 := d.setCore k y
    let d2 := match d.lStore k c u f.1 s with | some p => d1.busWrite k u p.1 p.2 | none => d1
    .ok (d2, decide (y.sc = 0) || (decide (s.op = 0x22) && !y.bit 0) || (decide (s.op = 0x23) && y.bit 0))

/-- PC passes the bundle. -/
def Dev.bundlePass (d : Dev) (k n : Nat) : Dev :=
  let c := d.core k
  if c.stackMode then d else d.setCore k (c.finish c.pc (c.nextPc n) none)

/-- Up to `n` elements of the repeat; it ends, faults, or stands between two elements, as where an interrupt is due (R509). -/
def Dev.repRun (k : Nat) (s : Syl) : Nat → Dev → Dev
  | 0, d => d
  | n + 1, d =>
    if (d.core k).stackMode ∨ d.intDue k then d
    else match d.repStep k s with
    | .error e => d.syncExc k e true (d.core k).pc
    | .ok (d1, last) => if last then d1.bundlePass k 2 else Dev.repRun k s n d1

/-- A bundle that has been fetched and found legal: its predicate (R469), then the bundle or its repeat, of which at most `n` elements. -/
def Dev.bundleGo (d : Dev) (k : Nat) (ws : List Nat) (n : Nat) : Dev :=
  let c := d.core k
  let u := c.bit 13
  let pf := (pfxOf ws).getD 0
  let b := field pf 14 0
  let asks := pfxPred pf && !c.inRep
  match (if asks then d.bitExc k u 6 b true false else []) with
  | e :: _ => d.syncExc k e false c.pc
  | [] =>
    if asks ∧ d.bitRead k b = pf.testBit 25 then d.bundlePass k ws.length
    else if pfxRep pf then
      match sylIn ws 3 with
      | some s => if c.sc = 0 then d.bundlePass k ws.length else Dev.repRun k s n d
      | none => d
    else d.bundleRun k ws

/-- A core that issues bundles: at a boundary where it takes an interrupt, none before that entry (R473). -/
def Dev.coreIssues (d : Dev) (k : Nat) : Bool := d.coreOn k && !(d.core k).waiting && !d.intDue k

/-- BUNDLE: one bundle, a repeat to its end. -/
def Dev.bundle (d : Dev) (k : Nat) : Dev :=
  if !d.coreIssues k then d
  else
    let c := d.core k
    match d.bundleAt k with
    | .error e => d.syncExc k e false c.pc
    | .ok ws => d.bundleGo k ws c.sc.toNat

/-- REP_ELEMENT: one element of the repeat at PC. -/
def Dev.repElement (d : Dev) (k : Nat) : Dev :=
  if !d.coreIssues k then d
  else match d.bundleAt k with
    | .error _ => d
    | .ok ws => if pfxRep ((pfxOf ws).getD 0) then d.bundleGo k ws 1 else d

/-- PROG_RUN_ABORT (R483): the run ends through a TIMER interrupt of K3. -/
def Dev.progRunAbort (d : Dev) : Dev :=
  if d.kp.running.isNone then d
  else
    let d1 := d.progAbort
    let c := d1.core 3
    d1.takeExc 3 16 7 0 c.inRep c.pc (some (c.level 16))

/-! ### Rows -/

/-- BUNDLE (R471). -/
def execBundle (k : Nat) (s : State) : Host.Outcome State Fault Refusal := s.upd (fun d => d.bundle k)
/-- REP_ELEMENT (R509). -/
def execRepElement (k : Nat) (s : State) : Host.Outcome State Fault Refusal := s.upd (fun d => d.repElement k)
/-- INTERRUPT_ENTRY (R473). -/
def execInterruptEntry (k : Nat) (s : State) : Host.Outcome State Fault Refusal := s.upd (fun d => d.interrupt k)
/-- WAIT_WAKE (R516). -/
def execWaitWake (k : Nat) (s : State) : Host.Outcome State Fault Refusal := s.upd (fun d => d.waitWake k)
/-- TIMER_COMPARE (R476). -/
def execTimerCompare (k : Nat) (s : State) : Host.Outcome State Fault Refusal := s.upd (fun d => d.timerCompare k)
/-- PROG_RUN_ABORT (R483). -/
def execProgRunAbort (s : State) : Host.Outcome State Fault Refusal := s.upd Dev.progRunAbort
/-- DEBUG_HALT (R543): at level CONTROL a Keeper is halted, or, with `arm`, halts at its next BREAK. -/
def execDebugHalt (k : Nat) (arm : Bool) (s : State) : Host.Outcome State Fault Refusal :=
  s.upd (fun d => if d.fabricOn ∧ d.nat O.scDebugState = 2 then
    d.setCore k (if arm then { d.core k with brk := true } else { d.core k with dbg := true }) else d)

end Sys2Proof.Machine
end

