-- ==== Sys2Proof/Machine/Stack.lean ====
section
/-! DEFINITION. Stack mode (R478 to R480, R487 to R493), which runs the boot ROM: stacks, memory, branches, the hash, signature, OTP and flash
engines, and ENTER.REG. -/

namespace Sys2Proof.Machine

/-! ### Running one instruction -/

/-- A core in stack mode that is clocked and not halted. -/
def Dev.stackOn (d : Dev) (k : Nat) : Bool :=
  let c := d.core k
  d.fabricOn && c.stackMode && !c.dead && !c.dbg && (decide (k = 0) || !d.asleep)

/-- A stack-mode fault stops the core and resets the device (R479). -/
def Dev.stackFault (d : Dev) (k : Nat) : Dev := d.reset 6 k

/-- An instruction of `len` bytes that acts on its core alone: `f` gives the core after it, with PC already moved on, or none for a fault. -/
def Dev.sm (d : Dev) (k len : Nat) (f : Core → Option Core) : Dev :=
  if d.stackOn k then
    let c := d.core k
    match f { c with pc := c.pc + BitVec.ofNat 32 len } with
    | some x => d.setCore k x
    | none => d.stackFault k
  else d

/-- A data stack pushed on: at most 64 cells. -/
def Core.push (c : Core) (l : List Word) : Option Core := if 64 < l.length then none else some { c with ds := l }

/-- ( -- x ). -/
def smPush (x : Word) (c : Core) : Option Core := c.push (x :: c.ds)

/-- ( a -- f a ). -/
def sm1 (f : Word → Word) (c : Core) : Option Core := match c.ds with | a :: t => some { c with ds := f a :: t } | [] => none

/-- ( a b -- f a b ). -/
def sm2 (f : Word → Word → Word) (c : Core) : Option Core := match c.ds with | b :: a :: t => some { c with ds := f a b :: t } | _ => none

/-- 1 for true, 0 for false (R489). -/
def truth (b : Bool) : Word := if b then 1 else 0

/-- A sign-extended operand of `n` bits. -/
def smSigned (n x : Nat) : Word := BitVec.ofInt 32 (toSigned n x)

/-! ### Stack manipulation -/

/-- DUP. -/
def smDupF (c : Core) : Option Core := match c.ds with | a :: t => c.push (a :: a :: t) | [] => none
/-- DROP. -/
def smDropF (c : Core) : Option Core := match c.ds with | _ :: t => some { c with ds := t } | [] => none
/-- SWAP. -/
def smSwapF (c : Core) : Option Core := match c.ds with | b :: a :: t => some { c with ds := a :: b :: t } | _ => none
/-- OVER. -/
def smOverF (c : Core) : Option Core := match c.ds with | b :: a :: t => c.push (a :: b :: a :: t) | _ => none
/-- ROT. -/
def smRotF (c : Core) : Option Core := match c.ds with | e :: b :: a :: t => some { c with ds := a :: e :: b :: t } | _ => none
/-- PICK: the cell n below the popped n. -/
def smPickF (c : Core) : Option Core :=
  match c.ds with
  | n :: t => (match t[n.toNat]? with | some x => some { c with ds := x :: t } | none => none)
  | [] => none
/-- TOR. -/
def smTorF (c : Core) : Option Core := match c.ds with | a :: t => if 32 ≤ c.rs.length then none else some { c with ds := t, rs := a :: c.rs } | [] => none
/-- FROMR. -/
def smFromrF (c : Core) : Option Core := match c.rs with | a :: t => (({ c with rs := t } : Core).push (a :: c.ds)) | [] => none
/-- DEPTH. -/
def smDepthF (c : Core) : Option Core := smPush (BitVec.ofNat 32 c.ds.length) c

/-! ### Shifts (R489) -/

/-- SHL, SHR and SAR by the low 8 bits of n. -/
def smShift (g : Nat → Nat → Nat → Nat × Bool) (a n : Word) : Word := BitVec.ofNat 32 (g 32 a.toNat (n.toNat % 256)).1

/-! ### Branches (R490) -/

/-- An address in the boot ROM. -/
def inRom (a : Word) : Bool := decide (regionOf a.toNat = .rom)

/-- Continue at an address, which must lie in the boot ROM. -/
def smGo (t : Word) (c : Core) : Option Core := if inRom t then some { c with pc := t } else none

/-- A relative branch; PC stands after the operand bytes. -/
def smBr (off : Word) (c : Core) : Option Core := smGo (c.pc + off) c

/-- Branch if the popped cell is 0. -/
def smBz (off : Word) (c : Core) : Option Core :=
  match c.ds with
  | f :: t => if f = 0 then smBr off { c with ds := t } else some { c with ds := t }
  | [] => none

/-- A call: the return address on the return stack. -/
def smCall (t : Word) (c : Core) : Option Core := if 32 ≤ c.rs.length then none else smGo t { c with rs := c.pc :: c.rs }

/-- CALLX. -/
def smCallxF (c : Core) : Option Core := match c.ds with | a :: t => smCall a { c with ds := t } | [] => none

/-- RET. -/
def smRetF (c : Core) : Option Core := match c.rs with | a :: t => smGo a { c with rs := t } | [] => none

/-! ### Memory (R491) -/

/-- A load that R464 allows in stack mode, where the boot ROM is readable. -/
def Dev.smLoadOk (d : Dev) (k a n : Nat) : Bool := decide (a % n = 0) && (decide (regionOf a = .rom) || decide (d.loadDetail k false a n = 0))
/-- A store that it allows. -/
def Dev.smStoreOk (d : Dev) (k a n : Nat) : Bool := decide (a % n = 0) && decide (d.storeDetail k false a n = 0)

/-- A block that can be read, as bytes or as words. -/
def Dev.smBlockIn (d : Dev) (k a n : Nat) : Bool :=
  (List.range n).all (fun i => d.smLoadOk k (a + i) 1) || (decide (n % 4 = 0) && (List.range (n / 4)).all (fun i => d.smLoadOk k (a + 4 * i) 4))
/-- A block that can be written. -/
def Dev.smBlockOut (d : Dev) (k a n : Nat) : Bool :=
  (List.range n).all (fun i => d.smStoreOk k (a + i) 1) || (decide (n % 4 = 0) && (List.range (n / 4)).all (fun i => d.smStoreOk k (a + 4 * i) 4))

/-- Bytes of a block, each as its address reads. -/
def Dev.smBytes (d : Dev) (k f a n : Nat) : List Byte :=
  if regionOf a = .port then (List.range (n / 4)).flatMap (fun i => d.busBytes k false f (a + 4 * i) 4) else d.busBytes k false f a n

/-- Bytes written to a block. -/
def Dev.smWrite (d : Dev) (k a : Nat) (b : List Byte) : Dev :=
  if regionOf a = .port ∨ regionOf a = .stream then
    (List.range (b.length / 4)).foldl (fun (x : Dev) i => x.busWrite k false (a + 4 * i) (slice b (4 * i) 4)) d
  else d.busWrite k false a b

/-- An instruction that acts on memory or an engine: `f` gets the device with PC moved on and the core, and answers the device or a fault. -/
def Dev.smDev (d : Dev) (k : Nat) (f : Dev → Core → Option Dev) : Dev :=
  if d.stackOn k then
    let c := d.core k
    let x : Core := { c with pc := c.pc + 1 }
    match f (d.setCore k x) x with
    | some e => e
    | none => d.stackFault k
  else d

/-- LDW (`n` 4) and LDB (`n` 1). -/
def Dev.smLoad (d : Dev) (k n : Nat) : Dev :=
  d.smDev k (fun x c => match c.ds with
    | a :: t =>
      if x.smLoadOk k a.toNat n then
        let f := x.fresh
        some (f.2.setCore k { c with ds := BitVec.ofNat 32 (x.busRead k false f.1 a.toNat n) :: t })
      else none
    | [] => none)

/-- STW and STB. -/
def Dev.smStore (d : Dev) (k n : Nat) : Dev :=
  d.smDev k (fun x c => match c.ds with
    | a :: v :: t => if x.smStoreOk k a.toNat n then some ((x.setCore k { c with ds := t }).busWrite k false a.toNat (leBytes n v.toNat)) else none
    | _ => none)

/-- `n` bytes copied one at a time in ascending order. -/
def Dev.smCopy (k f : Nat) : Nat → Nat → Nat → Dev → Option Dev
  | 0, _, _, d => some d
  | n + 1, src, dst, d =>
    if d.smLoadOk k src 1 && d.smStoreOk k dst 1 then
      Dev.smCopy k f n ((src + 1) % 2 ^ 32) ((dst + 1) % 2 ^ 32) (d.busWrite k false dst (d.busBytes k false f src 1))
    else none

/-- MOVE. -/
def Dev.smMove (d : Dev) (k : Nat) : Dev :=
  d.smDev k (fun x c => match c.ds with
    | n :: dst :: src :: t => Dev.smCopy k x.free n.toNat src.toNat dst.toNat (x.fresh.2.setCore k { c with ds := t })
    | _ => none)

/-! ### Engines (R488, R492) -/

/-- SHA_INIT. -/
def Dev.smShaInit (d : Dev) (k : Nat) : Dev := d.smDev k (fun x _ => some { x with kp := { x.kp with sha := some [] } })

/-- SHA_DATA. -/
def Dev.smShaData (d : Dev) (k : Nat) : Dev :=
  d.smDev k (fun x c => match c.ds with
    | n :: a :: t =>
      if x.smBlockIn k a.toNat n.toNat then
        let y := x.fresh.2.setCore k { c with ds := t }
        some { y with kp := { y.kp with sha := y.kp.sha.map (fun m => m ++ x.smBytes k x.free a.toNat n.toNat) } }
      else none
    | _ => none)

/-- SHA_FINAL. Without SHA_INIT before it the digest is not stated (log 34). -/
def Dev.smShaFinal (d : Dev) (k : Nat) : Dev :=
  d.smDev k (fun x c => match c.ds with
    | a :: t =>
      if x.smBlockOut k a.toNat 32 then
        let b := match x.kp.sha with | some m => sha256 m | none => padTo 32 (Config.random 32 x.free)
        let y := x.fresh.2.setCore k { c with ds := t }
        some (({ y with kp := { y.kp with sha := none } } : Dev).smWrite k a.toNat b)
      else none
    | [] => none)

/-- Where the area of Table 20.4 that holds a flash byte ends. -/
def areaEnd (a : Nat) : Nat :=
  ([0x00100000, 0x00900000, 0x01100000, 0x01200000, 0x01300000, 0x02000000, 0x0E000000, 0x1A000000].find? (fun e => decide (a < e))).getD 0x20000000

/-- The bytes that SIG_VERIFY can see of the image at an address: up to its signature block's end, inside its flash area or local memory. -/
def Dev.smImage (d : Dev) (k ty a : Nat) : List Byte :=
  let room := match regionOf a with
    | .xip => areaEnd (a - 0x80000000) - (a - 0x80000000)
    | .imem => 0x20000 - a
    | .dmem => 0x10040000 - a
    | _ => 0
  let n := (imageExtent ty (d.busBytes k false 0 a (min room 128))).2 + 3040
  d.busBytes k false 0 a (min room n)

/-- The counter that an image type is held against; a service program's index is not an operand (log 35). -/
def typeCounter (ty : Nat) : Nat := match ty with | 1 => 0 | 2 => 2 | 3 => 3 | 4 => 16 | _ => 1

/-- SIG_VERIFY. A firmware area that fails is noted for BOOT_REJECTS, and a recovery script that fails halts K0 (R539). -/
def Dev.smSigVerify (d : Dev) (k : Nat) : Dev :=
  d.smDev k (fun x c => match c.ds with
    | a :: ty :: t =>
      let y := ty.toNat
      let img := x.smImage k y a.toNat
      let r := if 1 ≤ y ∧ y ≤ 5 then x.verify y (typeCounter y) img else 1
      let x1 := x.setCore k { c with ds := truth (decide (r = 0)) :: t }
      if r = 0 then some { x1 with sec := { x1.sec with range := some (a.toNat, (imageExtent y img).2) } }
      else if k = 0 ∧ y = 1 ∧ a = 0x80100000 then
        some { x1 with sec := { x1.sec with rejects := withBit x1.sec.rejects 0 true, rejectA := r } }
      else if k = 0 ∧ y = 1 ∧ a = 0x80900000 then
        some { x1 with sec := { x1.sec with rejects := withBit x1.sec.rejects 1 true, rejectB := r } }
      else if k = 0 ∧ y = 5 then
        some ((({ x1 with pw := { x1.pw with step5 := true } } : Dev).setCore 0 { x1.core 0 with dead := true }).setN (O.kpCoreState 0) 2)
      else some x1
    | _ => none)

/-- An OTP word (Table 20.1): the secret regions read 0; of a region whose layout is not given the value is free. -/
def Dev.otpRead (d : Dev) (i n : Nat) : Word :=
  let o := 4 * i
  let at_ := fun (b : List Byte) (base : Nat) => BitVec.ofNat 32 (leAt b (o - base) 4)
  if 0x40 ≤ o ∧ o < 0x60 then at_ (padTo 32 (d.raw O.scSkenumRoot)) 0x40
  else if 0x60 ≤ o ∧ o < 0x80 then at_ (padTo 32 (d.raw (O.scCustRoot 0))) 0x60
  else if 0x80 ≤ o ∧ o < 0xA0 then at_ (padTo 32 (d.raw (O.scCustRoot 1))) 0x80
  else if (0xC0 ≤ o ∧ o < 0x1E0) ∨ (0x200 ≤ o ∧ o < 0x230) then 0
  else if 0x230 ≤ o ∧ o < 0x240 then at_ (leBytes 16 d.sec.epoch) 0x230
  else if 0x240 ≤ o ∧ o < 0x27C then at_ (padTo 60 (d.raw O.scAttestPub)) 0x240
  else Config.otpWord i n

/-- OTP_RD. -/
def Dev.smOtpRd (d : Dev) (k : Nat) : Dev :=
  d.smDev k (fun x c => match c.ds with
    | i :: t => some (x.fresh.2.setCore k { c with ds := x.otpRead i.toNat x.free :: t })
    | [] => none)

/-- CTR_RD. -/
def Dev.smCtrRd (d : Dev) (k : Nat) : Dev :=
  d.smDev k (fun x c => match c.ds with
    | i :: t =>
      let v : Word := if counterExists i.toNat then BitVec.ofNat 32 (x.nat (O.scRollback i.toNat)) else Config.noCounter i.toNat x.free
      some (x.fresh.2.setCore k { c with ds := v :: t })
    | [] => none)

/-- CTR_ADV. -/
def Dev.smCtrAdv (d : Dev) (k : Nat) : Dev :=
  d.smDev k (fun x c => match c.ds with
    | i :: v :: t =>
      let j := i.toNat
      let ok := counterExists j && decide (x.nat (O.scRollback j) ≤ v.toNat) && decide (v.toNat ≤ counterMax j)
      let y := x.setCore k { c with ds := truth ok :: t }
      some (if ok then y.raiseCounter j v.toNat else y)
    | _ => none)

/-- OSPI_RD: flash ends with its two selects (Table 17.4). -/
def Dev.smOspiRd (d : Dev) (k : Nat) : Dev :=
  d.smDev k (fun x c => match c.ds with
    | n :: dst :: a :: t =>
      if !x.smBlockOut k dst.toNat n.toNat then none
      else
        let ok := decide (a.toNat + n.toNat ≤ 0x20000000)
        let y := x.setCore k { c with ds := truth ok :: t }
        some (if ok then y.smWrite k dst.toNat (memBytes x.flash a.toNat n.toNat) else y)
    | _ => none)

/-! ### ENTER.REG (R480, R539) -/

/-- What K0's entry into an image settles: BOOT_AREA, FW_HASH and the versions of the running firmware; and K1–K3 are clocked, in the boot ROM's loop at
400 MHz (Table 21.5a, R565). -/
def Dev.booted (d : Dev) (start len : Nat) : Dev :=
  let a := start - 0x80000000
  let img := memBytes d.flash a len
  let area := if start = 0x80100000 then 1 else if start = 0x80900000 then 2 else if start = 0x80000000 then 3 else 0
  let d1 : Dev := { d with pw := { d.pw with entered := true },
                           sec := { d.sec with fwVersion := leAt img 12 4, recovery := if area = 3 ∧ d.sec.recovery = 0 then 3 else d.sec.recovery } }
  let d2 := ((d1.setN O.scBootArea area).setRaw O.scFwHash (sha256 img)).setN O.syFwVersion (leAt img 16 4 : Nat)
  ([1, 2, 3] : List Nat).foldl (fun (x : Dev) k => x.setN (O.pwKeeperFreq k) 400) d2

/-- A core in register mode at a target. -/
def Dev.enterAt (d : Dev) (k : Nat) (target : Word) : Dev :=
  let c := d.core k
  let x : Core := { stackMode := false, pc := target &&& 0xFFFFFFFC, a := [(15, 0x10040000)], dbg := c.dbg, brk := c.brk }
  let d1 := (d.setCore k x).setN (O.kpCoreState k) 1
  { d1 with lflags := d1.lflags.filter (fun p => decide (p.1 / 1024 ≠ k)), kp := { d1.kp with wdtAt := Tab.set 0 d1.kp.wdtAt k d1.mono } }

/-- ENTER.REG. -/
def Dev.smEnter (d : Dev) (k : Nat) : Dev :=
  d.smDev k (fun x c => match c.ds, x.sec.range with
    | t :: _, some (a, n) =>
      if a ≤ t.toNat ∧ t.toNat < a + n then
        let y := x.enterAt k t
        some (if k = 0 ∧ !y.pw.entered then y.booted a n else y)
      else none
    | _, _ => none)

/-! ### One instruction by its opcode, for the debug port -/

/-- The instruction of an opcode byte with its operand (Table 18.1); a reserved opcode faults. -/
def Dev.smOp (d : Dev) (k op x : Nat) : Dev :=
  if op < 0x20 then d.sm k 1 (smPush (BitVec.ofNat 32 op))
  else match op with
  | 0x20 => d.sm k 2 (smPush (smSigned 8 x))
  | 0x21 => d.sm k 3 (smPush (smSigned 16 x))
  | 0x22 => d.sm k 5 (smPush (BitVec.ofNat 32 x))
  | 0x24 => d.sm k 1 smDupF
  | 0x25 => d.sm k 1 smDropF
  | 0x26 => d.sm k 1 smSwapF
  | 0x27 => d.sm k 1 smOverF
  | 0x28 => d.sm k 1 smRotF
  | 0x29 => d.sm k 1 smPickF
  | 0x2A => d.sm k 1 smTorF
  | 0x2B => d.sm k 1 smFromrF
  | 0x2C => d.sm k 1 smDepthF
  | 0x40 => d.sm k 1 (sm2 (fun a b => a + b))
  | 0x41 => d.sm k 1 (sm2 (fun a b => a - b))
  | 0x42 => d.sm k 1 (sm2 (fun a b => a * b))
  | 0x43 => d.sm k 1 (sm2 (fun a b => a &&& b))
  | 0x44 => d.sm k 1 (sm2 (fun a b => a ||| b))
  | 0x45 => d.sm k 1 (sm2 (fun a b => a ^^^ b))
  | 0x46 => d.sm k 1 (sm1 (fun a => ~~~a))
  | 0x47 => d.sm k 1 (sm2 (smShift shlOut))
  | 0x48 => d.sm k 1 (sm2 (smShift shrOut))
  | 0x49 => d.sm k 1 (sm2 (smShift sarOut))
  | 0x4A => d.sm k 1 (sm2 (fun a b => truth (decide (a = b))))
  | 0x4B => d.sm k 1 (sm2 (fun a b => truth (a.slt b)))
  | 0x4C => d.sm k 1 (sm2 (fun a b => truth (a.ult b)))
  | 0x4D => d.sm k 1 (sm1 (fun a => truth (decide (a = 0))))
  | 0x60 => d.smLoad k 4
  | 0x61 => d.smStore k 4
  | 0x62 => d.smLoad k 1
  | 0x63 => d.smStore k 1
  | 0x64 => d.smMove k
  | 0x70 => d.sm k 2 (smBr (smSigned 8 x))
  | 0x71 => d.sm k 3 (smBr (smSigned 16 x))
  | 0x72 => d.sm k 2 (smBz (smSigned 8 x))
  | 0x73 => d.sm k 3 (smBz (smSigned 16 x))
  | 0x74 => d.sm k 3 (fun c => smCall (c.pc + smSigned 16 x) c)
  | 0x75 => d.sm k 1 smCallxF
  | 0x76 => d.sm k 1 smRetF
  | 0x80 => d.smShaInit k
  | 0x81 => d.smShaData k
  | 0x82 => d.smShaFinal k
  | 0x84 => d.smSigVerify k
  | 0x88 => d.smOtpRd k
  | 0x89 => d.smCtrRd k
  | 0x8A => d.smCtrAdv k
  | 0x90 => d.smOspiRd k
  | 0xF0 => d.smEnter k
  | _ => d.stackFault k

/-- Operand bytes of an opcode. -/
def smOperands (op : Nat) : Nat := match op with | 0x20 | 0x70 | 0x72 => 1 | 0x21 | 0x71 | 0x73 | 0x74 => 2 | 0x22 => 4 | _ => 0

/-- The instruction that the boot ROM holds at PC. -/
def Dev.smStep (d : Dev) (k : Nat) : Dev :=
  let a := (d.core k).pc.toNat - 0xF0000000
  let op := (Config.romByte a).toNat
  d.smOp k op (leNat ((List.range (smOperands op)).map (fun i => Config.romByte (a + 1 + i))))

/-- DEBUG_SINGLE_STEP (R543): at level CONTROL a Keeper that the port has halted issues one bundle or one stack-mode instruction; an
interrupt that is due is entered instead (log 53). -/
def Dev.debugStep (d : Dev) (k : Nat) : Dev :=
  let c := d.core k
  if d.fabricOn ∧ d.nat O.scDebugState = 2 ∧ c.dbg then
    let d1 := d.setCore k { c with dbg := false }
    let d2 := if c.stackMode then d1.smStep k else if d1.intDue k then d1.interrupt k else d1.bundle k
    if d2.fabricOn then d2.setCore k { d2.core k with dbg := true } else d2
  else d

/-! ### Rows -/

/-- LIT (R488). -/
def execSmLit (k : Nat) (n : Nat) (s : State) : Host.Outcome State Fault Refusal := s.upd (fun d => d.sm k 1 (smPush (BitVec.ofNat 32 n)))
/-- PUSH8 (R488). -/
def execPush8 (k : Nat) (x : Nat) (s : State) : Host.Outcome State Fault Refusal := s.upd (fun d => d.sm k 2 (smPush (smSigned 8 x)))
/-- PUSH16 (R488). -/
def execPush16 (k : Nat) (x : Nat) (s : State) : Host.Outcome State Fault Refusal := s.upd (fun d => d.sm k 3 (smPush (smSigned 16 x)))
/-- PUSH32 (R488). -/
def execPush32 (k : Nat) (x : Nat) (s : State) : Host.Outcome State Fault Refusal := s.upd (fun d => d.sm k 5 (smPush (BitVec.ofNat 32 x)))
/-- DUP (R488). -/
def execSmDup (k : Nat) (s : State) : Host.Outcome State Fault Refusal := s.upd (fun d => d.sm k 1 smDupF)
/-- DROP (R488). -/
def execSmDrop (k : Nat) (s : State) : Host.Outcome State Fault Refusal := s.upd (fun d => d.sm k 1 smDropF)
/-- SWAP (R488). -/
def execSmSwap (k : Nat) (s : State) : Host.Outcome State Fault Refusal := s.upd (fun d => d.sm k 1 smSwapF)
/-- OVER (R488). -/
def execSmOver (k : Nat) (s : State) : Host.Outcome State Fault Refusal := s.upd (fun d => d.sm k 1 smOverF)
/-- ROT (R488). -/
def execSmRot (k : Nat) (s : State) : Host.Outcome State Fault Refusal := s.upd (fun d => d.sm k 1 smRotF)
/-- PICK (R488). -/
def execSmPick (k : Nat) (s : State) : Host.Outcome State Fault Refusal := s.upd (fun d => d.sm k 1 smPickF)
/-- TOR (R488). -/
def execTor (k : Nat) (s : State) : Host.Outcome State Fault Refusal := s.upd (fun d => d.sm k 1 smTorF)
/-- FROMR (R488). -/
def execFromr (k : Nat) (s : State) : Host.Outcome State Fault Refusal := s.upd (fun d => d.sm k 1 smFromrF)
/-- DEPTH (R488). -/
def execSmDepth (k : Nat) (s : State) : Host.Outcome State Fault Refusal := s.upd (fun d => d.sm k 1 smDepthF)
/-- SM_ADD (R488). -/
def execSmAdd (k : Nat) (s : State) : Host.Outcome State Fault Refusal := s.upd (fun d => d.sm k 1 (sm2 (fun a b => a + b)))
/-- SM_SUB (R488). -/
def execSmSub (k : Nat) (s : State) : Host.Outcome State Fault Refusal := s.upd (fun d => d.sm k 1 (sm2 (fun a b => a - b)))
/-- SM_MUL (R488). -/
def execSmMul (k : Nat) (s : State) : Host.Outcome State Fault Refusal := s.upd (fun d => d.sm k 1 (sm2 (fun a b => a * b)))
/-- SM_AND (R488). -/
def execSmAnd (k : Nat) (s : State) : Host.Outcome State Fault Refusal := s.upd (fun d => d.sm k 1 (sm2 (fun a b => a &&& b)))
/-- SM_OR (R488). -/
def execSmOr (k : Nat) (s : State) : Host.Outcome State Fault Refusal := s.upd (fun d => d.sm k 1 (sm2 (fun a b => a ||| b)))
/-- SM_XOR (R488). -/
def execSmXor (k : Nat) (s : State) : Host.Outcome State Fault Refusal := s.upd (fun d => d.sm k 1 (sm2 (fun a b => a ^^^ b)))
/-- NOT (R488). -/
def execSmNot (k : Nat) (s : State) : Host.Outcome State Fault Refusal := s.upd (fun d => d.sm k 1 (sm1 (fun a => ~~~a)))
/-- SM_SHL (R489). -/
def execSmShl (k : Nat) (s : State) : Host.Outcome State Fault Refusal := s.upd (fun d => d.sm k 1 (sm2 (smShift shlOut)))
/-- SM_SHR (R489). -/
def execSmShr (k : Nat) (s : State) : Host.Outcome State Fault Refusal := s.upd (fun d => d.sm k 1 (sm2 (smShift shrOut)))
/-- SM_SAR (R489). -/
def execSmSar (k : Nat) (s : State) : Host.Outcome State Fault Refusal := s.upd (fun d => d.sm k 1 (sm2 (smShift sarOut)))
/-- EQ (R488). -/
def execSmEq (k : Nat) (s : State) : Host.Outcome State Fault Refusal := s.upd (fun d => d.sm k 1 (sm2 (fun a b => truth (decide (a = b)))))
/-- LT (R488). -/
def execSmLt (k : Nat) (s : State) : Host.Outcome State Fault Refusal := s.upd (fun d => d.sm k 1 (sm2 (fun a b => truth (a.slt b))))
/-- LTU (R488). -/
def execLtu (k : Nat) (s : State) : Host.Outcome State Fault Refusal := s.upd (fun d => d.sm k 1 (sm2 (fun a b => truth (a.ult b))))
/-- ZEQ (R488). -/
def execZeq (k : Nat) (s : State) : Host.Outcome State Fault Refusal := s.upd (fun d => d.sm k 1 (sm1 (fun a => truth (decide (a = 0)))))
/-- LDW (R491). -/
def execLdw (k : Nat) (s : State) : Host.Outcome State Fault Refusal := s.upd (fun d => d.smLoad k 4)
/-- STW (R491). -/
def execStw (k : Nat) (s : State) : Host.Outcome State Fault Refusal := s.upd (fun d => d.smStore k 4)
/-- LDB (R491). -/
def execLdb (k : Nat) (s : State) : Host.Outcome State Fault Refusal := s.upd (fun d => d.smLoad k 1)
/-- STB (R491). -/
def execStb (k : Nat) (s : State) : Host.Outcome State Fault Refusal := s.upd (fun d => d.smStore k 1)
/-- MOVE (R491). -/
def execSmMove (k : Nat) (s : State) : Host.Outcome State Fault Refusal := s.upd (fun d => d.smMove k)
/-- BR8 (R490). -/
def execBr8 (k : Nat) (x : Nat) (s : State) : Host.Outcome State Fault Refusal := s.upd (fun d => d.sm k 2 (smBr (smSigned 8 x)))
/-- BR16 (R490). -/
def execBr16 (k : Nat) (x : Nat) (s : State) : Host.Outcome State Fault Refusal := s.upd (fun d => d.sm k 3 (smBr (smSigned 16 x)))
/-- BZ8 (R490). -/
def execBz8 (k : Nat) (x : Nat) (s : State) : Host.Outcome State Fault Refusal := s.upd (fun d => d.sm k 2 (smBz (smSigned 8 x)))
/-- BZ16 (R490). -/
def execBz16 (k : Nat) (x : Nat) (s : State) : Host.Outcome State Fault Refusal := s.upd (fun d => d.sm k 3 (smBz (smSigned 16 x)))
/-- CALL16 (R490). -/
def execCall16 (k : Nat) (x : Nat) (s : State) : Host.Outcome State Fault Refusal := s.upd (fun d => d.sm k 3 (fun c => smCall (c.pc + smSigned 16 x) c))
/-- CALLX (R490). -/
def execCallx (k : Nat) (s : State) : Host.Outcome State Fault Refusal := s.upd (fun d => d.sm k 1 smCallxF)
/-- RET (R490). -/
def execSmRet (k : Nat) (s : State) : Host.Outcome State Fault Refusal := s.upd (fun d => d.sm k 1 smRetF)
/-- SHA_INIT (R488). -/
def execShaInit (k : Nat) (s : State) : Host.Outcome State Fault Refusal := s.upd (fun d => d.smShaInit k)
/-- SHA_DATA (R488). -/
def execShaData (k : Nat) (s : State) : Host.Outcome State Fault Refusal := s.upd (fun d => d.smShaData k)
/-- SHA_FINAL (R488). -/
def execShaFinal (k : Nat) (s : State) : Host.Outcome State Fault Refusal := s.upd (fun d => d.smShaFinal k)
/-- SIG_VERIFY (R492). -/
def execSigVerify (k : Nat) (s : State) : Host.Outcome State Fault Refusal := s.upd (fun d => d.smSigVerify k)
/-- OTP_RD (R488). -/
def execOtpRd (k : Nat) (s : State) : Host.Outcome State Fault Refusal := s.upd (fun d => d.smOtpRd k)
/-- CTR_RD (R488). -/
def execCtrRd (k : Nat) (s : State) : Host.Outcome State Fault Refusal := s.upd (fun d => d.smCtrRd k)
/-- CTR_ADV (R492). -/
def execCtrAdv (k : Nat) (s : State) : Host.Outcome State Fault Refusal := s.upd (fun d => d.smCtrAdv k)
/-- OSPI_RD (R488). -/
def execOspiRd (k : Nat) (s : State) : Host.Outcome State Fault Refusal := s.upd (fun d => d.smOspiRd k)
/-- ENTER_REG (R480). -/
def execEnterReg (k : Nat) (s : State) : Host.Outcome State Fault Refusal := s.upd (fun d => d.smEnter k)
/-- DEBUG_SINGLE_STEP (R543). -/
def execDebugSingleStep (k : Nat) (s : State) : Host.Outcome State Fault Refusal := s.upd (fun d => d.debugStep k)

end Sys2Proof.Machine
end

