-- ==== Sys2Proof/Machine/Boot.lean ====
section
/-! DEFINITION. What firmware does once it runs (Table 21.6): it restores the configuration and the statistics, resumes the log, reports
what the boot found, starts the units, and declares full operation (R372, R378, R379, R385, R539, R572). -/

namespace Sys2Proof.Machine

/-! ### The log resumes (R385) -/

/-- The SEQ that follows the highest one in the eNVM log, at the next multiple of 4,096. -/
def Nvm.resumeSeq (m : Nvm) : Nat :=
  match m.log with
  | [] => 0
  | e :: t => (t.foldl (fun h x => max h x.seq) e.seq) / 4096 * 4096 + 4096

/-- Entries of the eNVM log after its last BOOT record. -/
def sinceBoot (l : List LogEntry) : List LogEntry := (l.reverse.takeWhile (fun e => !(decide (e.kind = 3) && decide (e.result = 1)))).reverse

/-- The BOOT record takes the SEQ at which the log resumes, in both rings; then the entries that waited for it. -/
def Dev.logBoot (d : Dev) : Dev :=
  let n := d.nvm.resumeSeq
  let e : LogEntry := { seq := n, kind := 3, result := 1, t := d.now, role := 3, source := 0xFF00, vflags := 0x20, old := d.causeWord,
                        new := d.nat O.syFwVersion, oldLen := 8, newLen := 8 }
  let d1 : Dev := { d with log := { d.log with ram := d.log.ram ++ [e], next := n + 1, held := [] }, nvm := d.nvm.put e }
  d.log.held.foldl (fun (x : Dev) h => (x.logPut h.1 h.2).2) d1

/-! ### Configuration (R378) -/

/-- P objects and user defaults as a bank's good records give them; an object without a restored value takes its user default (R378). -/
def Dev.bankTake (d : Dev) (b : Bank) : Dev :=
  let good := b.recs.filter (fun r => r.okFor d.part .P)
  let bad := b.recs.filter (fun r => !r.okFor d.part .P)
  let d1 : Dev := { d with objs := d.objs.filter (fun p => decide (Dict.cls p.1 ≠ .P)), udef := [] }
  let d2 := good.foldl (fun (x : Dev) r => if r.user then x.setUser r.oid (some r.value) else x.put r.oid r.value) d1
  let lost := d2.udef.filter (fun p => !good.any (fun r => !r.user && decide (r.oid = p.1)))
  let d3 := lost.foldl (fun (x : Dev) p => x.put p.1 p.2) d2
  if bad.isEmpty then d3
  else ((d3.setN O.lgBootDiscarded bad.length).setN O.lgLgAlertCause 4).raise 127 4

/-- The configuration bank to take, if any. -/
def Nvm.cfgPick (m : Nvm) : Option Bool := pickBank (m.cfgA.valid .P) m.cfgA.seq (m.cfgB.valid .P) m.cfgB.seq

/-- The configuration bank taken: the valid one with the higher SEQ, or the factory defaults. -/
def Dev.cfgBoot (d : Dev) : Dev :=
  match d.nvm.cfgPick with
  | none => ({ d with objs := d.objs.filter (fun p => decide (Dict.cls p.1 ≠ .P)), udef := [] } : Dev).setN O.lgCfgBank 0
  | some a =>
    let b := if a then d.nvm.cfgA else d.nvm.cfgB
    ((((d.bankTake b).setN O.lgCfgBank (if a then 1 else 2)).setN O.lgCfgSeq b.seq).setN O.lgCfgLastStore b.tStore).setN O.lgCfgLen b.length

/-! ### Statistics (R372) -/

/-- S objects that hold a highest value. -/
def keepsMax (o : Nat) : Bool :=
  decide (o = O.pwTempMax) || decide (o = O.wtMaxLateNs) || decide (o = O.llLlLookupMaxUs) || (decide (O.area o = 17) && decide (O.item o = 0x19))

/-- One restored statistics value: the larger of the two, or the count since the reset added. -/
def Dev.statTake (d : Dev) (o : Nat) (v : Int) : Dev :=
  if keepsMax o then d.setN o (max (d.num o) v) else d.count (8 * (Dict.ty o).size) o v.toNat

/-- The statistics bank with the higher SEQ restored. -/
def Dev.statsBoot (d : Dev) : Dev :=
  match d.nvm.statPick with
  | none => d
  | some a => ((if a then d.nvm.statA else d.nvm.statB).recs.filter (fun r => r.okFor d.part .S)).foldl (fun (x : Dev) r => x.statTake r.oid r.value.int) d

/-! ### Incomplete stores (R321, R379, R546) -/

/-- Bank SEQs of the store records with a code in a log, without a valid bank. -/
def unfinished (l : List LogEntry) (code : Nat) (valid : Nat → Bool) : List Nat :=
  (l.filter (fun e => decide (e.kind = 3) && decide (e.result = code) && !valid e.old)).map (fun e => e.old)

/-- The highest log SEQ that the active bank covers, as its store's BEGIN record gave it (log 36). -/
def covered (l : List LogEntry) (kind code seq : Nat) : Nat :=
  match l.reverse.find? (fun e => decide (e.kind = 3) && decide (e.result = code) && decide (e.old = seq)) with
  | some e => e.new
  | none => Config.coverLost kind seq

/-- A configuration store that did not complete is reported. -/
def Dev.cfgIncomplete (cover : Nat) (d : Dev) (q : Nat) : Dev := ((((d.record 4 q cover).inc O.lgCfgStoreIncomplete).setN O.lgLgAlertCause 1).raise 127 1)

/-- A calibration store that did not complete is reported. -/
def Dev.calIncomplete (cover : Nat) (d : Dev) (q : Nat) : Dev := ((d.record 7 q cover).inc O.caStoreIncomplete).raise 47 q

/-- Stores that the log `l`, as the last run left it, shows begun since the last boot and not completed. -/
def Dev.storesBoot (d : Dev) (l : List LogEntry) : Dev :=
  let s := sinceBoot l
  let m := d.nvm
  let two := fun (ma : Bool) (sa : Nat) (mb : Bool) (sb q : Nat) => (ma && decide (sa = q)) || (mb && decide (sb = q))
  let d1 := (unfinished s 2 (two (m.cfgA.valid .P) m.cfgA.seq (m.cfgB.valid .P) m.cfgB.seq)).foldl (Dev.cfgIncomplete (covered l 0 2 (d.nat O.lgCfgSeq))) d
  let d2 := (unfinished s 5 (two m.calA.valid m.calA.seq m.calB.valid m.calB.seq)).foldl (Dev.calIncomplete (covered l 1 5 (d.nat O.caCalSeq))) d1
  d2.lmsBoot (unfinished s 0x4C (two m.lmsA.valid m.lmsA.seq m.lmsB.valid m.lmsB.seq))

/-! ### What the boot ROM found (R539, R550) -/

/-- BOOT_REJECTS, the record of each rejected firmware area, and the record of a recovery. -/
def Dev.bootReport (d : Dev) : Dev :=
  let r := d.sec.rejects
  let d1 := d.setN O.scBootRejects r
  let d2 := if r.testBit 0 then d1.record 0x48 1 (d.sec.rejectA + 256) else d1
  let d3 := if r.testBit 1 then d2.record 0x48 1 (d.sec.rejectB + 512) else d2
  if d.nat O.scBootArea = 3 then d3.record 0x4F d.sec.recovery 0 else d3

/-! ### The units start -/

/-- The units that take up their restored objects: pins, Keepers, audio, chains and feeds, measurement streams, the two-wire ports, the
Light List and service programs. -/
def Dev.unitsStart (d : Dev) : Dev :=
  let d1 : Dev := { d with pw := { d.pw with supplyEn := if d.flag O.pwSupplyCtrl then some true else none }, store := { d.store with ckptAt := d.mono } }
  let d2 := (List.range 4).foldl (fun (x : Dev) k => x.setN (O.pwKeeperFreq k) (x.num (O.pwKeeperFmax k))) d1
  let d3 := d2.linkTake.audioOn.chainsTrim
  let d4 := d3.chainList.foldl (fun (x : Dev) n => x.feedCheck n) d3
  let d5 := (List.range 8).foldl (fun (x : Dev) i => x.streamSet i) d4
  let d6 := ([0, 1] : List Nat).foldl (fun (x : Dev) p =>
    let y := x.setTw p { x.twp p with freeAt := x.mono + 100000 }
    if twController (y.nat (O.twRole p)) then y.twRecover p else y) d5
  (List.range 16).foldl (fun (x : Dev) i => if x.flag (O.kpProgEnable i) then x.progStart i else x) d6.llBoot

/-- Whether the request waiting at port `k` is taken before port `j`'s (R27): it crossed earlier, or in the same cycle from a Keeper of lower
number, or earlier from the same Keeper. -/
def Dev.portBefore (d : Dev) (k j : Nat) : Bool :=
  let p : DictPort := Tab.get {} d.ports k
  let q : DictPort := Tab.get {} d.ports j
  decide (p.since < q.since) || (decide (p.since = q.since) && (decide (k / 2 < j / 2) || (decide (k / 2 = j / 2) && decide (p.no < q.no))))

/-- Ports with a request that waits, in the order in which the server takes them. -/
def Dev.portQueue (d : Dev) : List Nat :=
  ((List.range 8).filter (fun k => (Tab.get ({} : DictPort) d.ports k).busy)).foldl
    (fun l k => l.takeWhile (fun j => d.portBefore j k) ++ k :: l.dropWhile (fun j => d.portBefore j k)) []

/-- Requests that waited at the dictionary ports, one transaction at a time (R27). -/
def Dev.portsRun (d : Dev) : Dev := d.portQueue.foldl Dev.portRun d

/-- CONFIG_RESTORE (R378): the dictionary server starts. -/
def Dev.configRestore (d : Dev) : Dev :=
  if d.pw.phase ≠ .starting ∨ !d.pw.entered ∨ d.pw.restored then d
  else
    let old := d.nvm.log
    let d0 : Dev := { d with pw := { d.pw with restored := true } }
    ((((d0.logBoot.cfgBoot.statsBoot.storesBoot old).bootReport).dmJudge).unitsStart).portsRun

/-! ### Full operation (R572) -/

/-- A full watch image runs, or both areas have been rejected. -/
def Dev.watchSettled (d : Dev) : Bool :=
  decide (d.nat O.wtRunBank = 1) || decide (d.nat O.wtRunBank = 2) ||
  (d.wt.selected && d.wt.checking.isNone && d.wt.next.isNone && decide (3 ≤ d.nat O.wtActResult))

/-- The Light List runs, or is rejected. -/
def Dev.listSettled (d : Dev) : Bool := d.ll.checking.isNone && d.ll.next.isNone

/-- Every enabled transport is up. -/
def Dev.transportsUp (d : Dev) : Bool :=
  (!d.flag O.ntT1Enable || decide (d.nat O.ntT1Link = 1)) && (!d.flag O.ntT1sEnable || decide (d.nat O.ntT1sStatus ≠ 0)) &&
  (!d.flag O.ntCanEnable || decide (d.nat O.ntCanState = 1) || decide (d.nat O.ntCanState = 2))

/-- FULL_OPERATION (R572, Table 21.2): events 0 and 2, T_FULL, and event 3 after a wake from STANDBY (R557). -/
def Dev.fullOperation (d : Dev) : Dev :=
  if d.pw.phase ≠ .starting ∨ !d.pw.restored ∨ !d.chainsUp ∨ !d.watchSettled ∨ !d.listSettled ∨ !d.transportsUp then d
  else
    let d1 := ((({ d with pw := { d.pw with full := true, wakeEvent := none } } : Dev).setN O.pwTFull d.now).raise 0 d.causeWord).pwGo .run
    (match d.pw.wakeEvent with
     | some c => d1.raise 3 c
     | none => d1).coarseStore

/-! ### Rows -/

/-- CONFIG_RESTORE (R378). -/
def execConfigRestore (s : State) : Host.Outcome State Fault Refusal := s.upd Dev.configRestore
/-- FULL_OPERATION (R572). -/
def execFullOperation (s : State) : Host.Outcome State Fault Refusal := s.upd Dev.fullOperation

end Sys2Proof.Machine
end

