-- ==== Sys2Proof/Machine/Slots.lean ====
section
/-! DEFINITION. A watch period starts, and the slots of the period run: contexts, Keeper jobs, Buoy polls and calibration windows
(R136 to R139, R151, R483). -/

namespace Sys2Proof.Machine

/-! ### PERIOD_START -/

/-- Due polls of BUOY_POLL slots that do not run (R153, R430). -/
def Dev.pollsDropped (d : Dev) (l : List Nat) : Dev := d.blSkip ((l.map (fun s => (d.duePolls s).length)).sum)

/-- After a wake from SENTRY the running image takes effect again at the first period start (R555). -/
def Dev.imageResumes (d : Dev) : Dev :=
  if d.wt.resume ∧ !d.inSentry then
    { d with wt := { d.wt with resume := false, next := match d.wt.next with | some x => some x | none => d.wt.img.map (fun w => (w, d.nat O.wtRunBank)) } }
  else d

/-- PERIOD_START (R151): a Watch that stops leads to READY (Table 21.2); the Foghorn path acts again once the image is back (R244), and
warnings whose sources are gone end. -/
def Dev.periodAll (d : Dev) : Dev :=
  if !d.serverUp ∨ !d.periodDone ∨ (d.wt.img.isNone ∧ d.wt.next.isNone) then d
  else if d.wt.stopping then d.periodStart.1.pwReady
  else
    let r := d.imageResumes.periodStart
    ((r.1.pollsDropped r.2).fhService).fhSources

/-! ### Service programs (R482, R483) -/

/-- One MPU region from address `a`, `n` bytes, with rights (bit 0 R, 1 W, 2 X). -/
def mpuRegion (a n rights : Nat) : Word × Word :=
  (BitVec.ofNat 32 (a / 64 * 64), BitVec.ofNat 32 ((a + n - 1) / 64 * 64 + 8 + rights))

/-- The MPU regions of a program: code, data, dictionary port, and each of its rings where it lies now. -/
def Dev.progMpu (d : Dev) (p : Prog) : List (Word × Word) :=
  mpuRegion p.codeAt p.codeLen 5 :: mpuRegion p.dataAt p.dataLen 3 :: mpuRegion 0x60000000 0x8000 3 ::
  (p.rings.filterMap (fun r => (d.au.rings.find? (fun q => decide (q.1 = r))).map (fun q => mpuRegion (0x20000000 + q.2.1) q.2.2 3)))

/-- The bit windows of a program: its BITS entries. -/
def Prog.windows (p : Prog) : List (Word × Word) :=
  (capsOf 2 p.caps).map (fun c => (BitVec.ofNat 32 (c.first % 32768), BitVec.ofNat 32 (c.last % 32768 + (c.flags % 4) * 65536)))

/-- A list of register pairs by its index. -/
def pairTab (l : List (Word × Word)) : List (Nat × Word × Word) := (l.zipIdx.map (fun p => (p.2, p.1)))

/-- Program `i` starts its run in slot `s` (R483): in U mode at ENTRY with D0, A13 and A15, at KEEPER_FMAX (R565). -/
def Dev.progRun (d : Dev) (i s : Nat) : Dev :=
  let c := d.core 3
  let p := Tab.get ({} : Prog) d.kp.progs i
  if d.nat (O.kpProgState i) ≠ 2 ∨ d.kp.running.isSome ∨ !d.coreOn 3 then d
  else
    let x : Core := { c with
      d := if p.runs % 2 ^ 32 = 0 then [] else [(0, BitVec.ofNat 32 p.runs)]
      a := [(13, BitVec.ofNat 32 p.dataAt), (15, BitVec.ofNat 32 (p.dataAt + p.dataLen))]
      pc := BitVec.ofNat 32 (p.codeAt + p.entry), psw := 0x2200, mpu := pairTab (d.progMpu p), win := pairTab p.windows, waiting := false, inRep := false, resv := none }
    let d1 : Dev := { d.setCore 3 x with kp := { (d.setCore 3 x).kp with running := some (i, s, d.mono), progs := Tab.insert i { p with runs := p.runs + 1 } (d.kp.progs.filter (fun q => decide (q.1 ≠ i))) } }
    d1.setN (O.pwKeeperFreq 3) (d1.num (O.pwKeeperFmax 3))

/-! ### SLOT_START -/

/-- A Keeper job (Table 5.3) runs, its longest lookup taking `us`. Jobs 4, 5 and 6 have their effects in commands of their own. -/
def Dev.keeperJob (d : Dev) (s job us : Nat) : Dev :=
  match job with
  | 1 => d.followJob (Dev.fwWrites 2) us
  | 2 => d.routeResolve true
  | 3 => d.sideDataJob
  | 7 => d.blMgmtJob
  | j => if 0x100 ≤ j ∧ j ≤ 0x10F then d.progRun (j - 0x100) s else d

/-- A calibration window (R145, R309): its due entries; the L-band synthesiser's trigger whatever they hold (R310). -/
def Dev.windowRun (d : Dev) (group : Nat) : Dev :=
  let due : List WinEnt := match d.wt.img with
    | some w => w.wins.filter (fun e => decide (e.group = group) && decide (d.nat O.wtPeriodIndex % e.every = e.phase))
    | none => []
  due.foldl (fun (x : Dev) (e : WinEnt) => x.calWindow e.lanes e.items) d.lsynTempCal

/-- The Keeper of a slot is halted: the slot completes at its start (R569). -/
def Dev.slotHalted (d : Dev) (e : Slot) : Bool := decide (e.kind = 3) && (d.core (e.track - 1)).dead

/-- SLOT_START (R136, R138). -/
def Dev.slotStart (d : Dev) (s us : Nat) : Dev :=
  if !d.serverUp ∨ !d.slotWaits s then d
  else
    let d1 := d.slotBegin s
    let e := d1.planSlots.getD s {}
    if d1.slotHalted e then d1.slotDone s 0
    else
      match e.kind with
      | 1 | 2 => (d1.slotCtxs s).foldl (fun (x : Dev) c => x.runStart c) d1
      | 3 => d1.keeperJob s e.job us
      | 4 => d1.blSlotStart s
      | 5 => d1.byKeeper 3 (fun x => x.windowRun e.job)
      | _ => d1

/-! ### SLOT_RUN_DONE -/

/-- A service program still runs in the slot. -/
def Dev.slotHeld (d : Dev) (s : Nat) : Bool := match d.kp.running with | some (_, t, _) => decide (t = s) | none => false

/-- SLOT_RUN_DONE (R137): the run took `us`. A run whose program or poll entry is still under way does not end; the longest run of a
program is kept. -/
def Dev.slotEnd (d : Dev) (s us : Nat) : Dev :=
  let e := d.planSlots.getD s {}
  if d.slotHeld s ∨ !d.wt.kept.any (fun q => decide (q.1 = s) && (match q.2 with | .running _ => true | _ => false)) then d
  else
    let b := d.blSlotEnd s
    if b.2 then b.1
    else
      let d1 := b.1.slotDone s us
      if e.kind = 3 ∧ 0x100 ≤ e.job ∧ e.job ≤ 0x10F then
        d1.setN (O.kpProgRunMaxUs (e.job - 0x100)) (max (d1.nat (O.kpProgRunMaxUs (e.job - 0x100))) us : Nat)
      else d1

/-! ### Rows -/

/-- PERIOD_START (R151). -/
def execPeriodStart (s : State) : Host.Outcome State Fault Refusal := s.upd Dev.periodAll
/-- SLOT_START (R136). -/
def execSlotStart (slot us : Nat) (s : State) : Host.Outcome State Fault Refusal := s.upd (fun d => d.slotStart slot us)
/-- SLOT_RUN_DONE (R137). -/
def execSlotRunDone (slot us : Nat) (s : State) : Host.Outcome State Fault Refusal := s.upd (fun d => d.slotEnd slot us)

end Sys2Proof.Machine
end

