-- ==== Sys2Proof/Machine/Dispatch.lean ====
section
/-! DEFINITION. The meaning of each command, by name. -/

namespace Sys2Proof.Machine

/-- The effect of a command on everything but the queue. -/
def exec (i : Instr) (s : State) : Host.Outcome State Fault Refusal :=
  match i with
  | .resetRelease straps => Sys2Proof.Machine.execResetRelease straps s
  | .resetPin => Sys2Proof.Machine.execResetPin s
  | .supplyWarning v mv => Sys2Proof.Machine.execSupplyWarning v mv s
  | .brownOut v => Sys2Proof.Machine.execBrownOut v s
  | .pfailOnset => Sys2Proof.Machine.execPfailOnset s
  | .pfailClear => Sys2Proof.Machine.execPfailClear s
  | .refclkLoss => Sys2Proof.Machine.execRefclkLoss s
  | .watchdogWarning k => Sys2Proof.Machine.execWatchdogWarning k s
  | .watchdogExpiry k => Sys2Proof.Machine.execWatchdogExpiry k s
  | .bootWatchdog => Sys2Proof.Machine.execBootWatchdog s
  | .keeperHaltReset k => Sys2Proof.Machine.execKeeperHaltReset k s
  | .configRestore => Sys2Proof.Machine.execConfigRestore s
  | .bootImageSelect => Sys2Proof.Machine.execBootImageSelect s
  | .fullOperation => Sys2Proof.Machine.execFullOperation s
  | .pwRequestReady org => Sys2Proof.Machine.execPwRequestReady org s
  | .pwRequestRun org => Sys2Proof.Machine.execPwRequestRun org s
  | .pwRequestSentry org => Sys2Proof.Machine.execPwRequestSentry org s
  | .sentryReached => Sys2Proof.Machine.execSentryReached s
  | .pwRequestStandby org => Sys2Proof.Machine.execPwRequestStandby org s
  | .standbyReached => Sys2Proof.Machine.execStandbyReached s
  | .pwRequestReset org => Sys2Proof.Machine.execPwRequestReset org s
  | .deferredReset => Sys2Proof.Machine.execDeferredReset s
  | .wakePin pin => Sys2Proof.Machine.execWakePin pin s
  | .wakeTimer => Sys2Proof.Machine.execWakeTimer s
  | .tempSample temps => Sys2Proof.Machine.execTempSample temps s
  | .thermalRestartCheck t8 => Sys2Proof.Machine.execThermalRestartCheck t8 s
  | .thermRankRise => Sys2Proof.Machine.execThermRankRise s
  | .thermRankFall => Sys2Proof.Machine.execThermRankFall s
  | .periodStart => Sys2Proof.Machine.execPeriodStart s
  | .slotStart slot us => Sys2Proof.Machine.execSlotStart slot us s
  | .slotRunDone slot us => Sys2Proof.Machine.execSlotRunDone slot us s
  | .activate org v => Sys2Proof.Machine.execActivate org v s
  | .watchChecksDone => Sys2Proof.Machine.execWatchChecksDone s
  | .slotMask org elem v => Sys2Proof.Machine.execSlotMask org elem v s
  | .stormExit org v => Sys2Proof.Machine.execStormExit org v s
  | .earlyTrackUpdate c => Sys2Proof.Machine.execEarlyTrackUpdate c s
  | .contextRunEnd c rep => Sys2Proof.Machine.execContextRunEnd c rep s
  | .tapFillDone t => Sys2Proof.Machine.execTapFillDone t s
  | .hypDetection c det => Sys2Proof.Machine.execHypDetection c det s
  | .hypVerifyFail c => Sys2Proof.Machine.execHypVerifyFail c s
  | .hypConfirmed c cf => Sys2Proof.Machine.execHypConfirmed c cf s
  | .signalLoss c => Sys2Proof.Machine.execSignalLoss c s
  | .holdReverified c cf => Sys2Proof.Machine.execHoldReverified c cf s
  | .holdTimeout c => Sys2Proof.Machine.execHoldTimeout c s
  | .acqTimeout c => Sys2Proof.Machine.execAcqTimeout c s
  | .selectSwitch c entry => Sys2Proof.Machine.execSelectSwitch c entry s
  | .request org c v => Sys2Proof.Machine.execRequest org c v s
  | .sweepFrame => Sys2Proof.Machine.execSweepFrame s
  | .sweepIntervalEnd seg chain frames => Sys2Proof.Machine.execSweepIntervalEnd seg chain frames s
  | .lsynNeeded => Sys2Proof.Machine.execLsynNeeded s
  | .lsynLocked => Sys2Proof.Machine.execLsynLocked s
  | .lsynCalTimeout => Sys2Proof.Machine.execLsynCalTimeout s
  | .lsynLockDrop => Sys2Proof.Machine.execLsynLockDrop s
  | .lsynCalCmd org v => Sys2Proof.Machine.execLsynCalCmd org v s
  | .lsynNotNeeded => Sys2Proof.Machine.execLsynNotNeeded s
  | .doorCBand org chain v => Sys2Proof.Machine.execDoorCBand org chain v s
  | .bandSwitchDone chain => Sys2Proof.Machine.execBandSwitchDone chain s
  | .gainTick det peak => Sys2Proof.Machine.execGainTick det peak s
  | .gainStepDeferred chain door => Sys2Proof.Machine.execGainStepDeferred chain door s
  | .overloadDeclared chain codes det => Sys2Proof.Machine.execOverloadDeclared chain codes det s
  | .overloadPersist chain => Sys2Proof.Machine.execOverloadPersist chain s
  | .overloadContinuityEnd chain => Sys2Proof.Machine.execOverloadContinuityEnd chain s
  | .overloadPersistRearm chain => Sys2Proof.Machine.execOverloadPersistRearm chain s
  | .chainEnable org chain v => Sys2Proof.Machine.execChainEnable org chain v s
  | .feedEnable org chain v => Sys2Proof.Machine.execFeedEnable org chain v s
  | .feedTrip chain => Sys2Proof.Machine.execFeedTrip chain s
  | .feedInrushEnd chain => Sys2Proof.Machine.execFeedInrushEnd chain s
  | .feedOpenDetect chain => Sys2Proof.Machine.execFeedOpenDetect chain s
  | .feedOpenRecover chain => Sys2Proof.Machine.execFeedOpenRecover chain s
  | .feedLimitDwell chain => Sys2Proof.Machine.execFeedLimitDwell chain s
  | .feedOn10s chain => Sys2Proof.Machine.execFeedOn10s chain s
  | .feedRetryExpired chain => Sys2Proof.Machine.execFeedRetryExpired chain s
  | .feedReset org chain v => Sys2Proof.Machine.execFeedReset org chain v s
  | .indicatorInterval c r => Sys2Proof.Machine.execIndicatorInterval c r s
  | .digitalIndicatorInterval c r => Sys2Proof.Machine.execDigitalIndicatorInterval c r s
  | .audioQualityTick c => Sys2Proof.Machine.execAudioQualityTick c s
  | .ifbwDecision c lo hi => Sys2Proof.Machine.execIfbwDecision c lo hi s
  | .stereoChange c v => Sys2Proof.Machine.execStereoChange c v s
  | .rdsBlock c stream chips sample first => Sys2Proof.Machine.execRdsBlock c stream chips sample first s
  | .amPllLock c => Sys2Proof.Machine.execAmPllLock c s
  | .amPllUnlock c => Sys2Proof.Machine.execAmPllUnlock c s
  | .amDetectorChange c v => Sys2Proof.Machine.execAmDetectorChange c v s
  | .measWindowEnd c r => Sys2Proof.Machine.execMeasWindowEnd c r s
  | .serviceInfoComplete c r => Sys2Proof.Machine.execServiceInfoComplete c r s
  | .dabReconfig c cif r => Sys2Proof.Machine.execDabReconfig c cif r s
  | .drmReconfig c services info => Sys2Proof.Machine.execDrmReconfig c services info s
  | .nrsc5ModeChange c info => Sys2Proof.Machine.execNrsc5ModeChange c info s
  | .codedFrameFailed c sel => Sys2Proof.Machine.execCodedFrameFailed c sel s
  | .motTimeout c sub tid => Sys2Proof.Machine.execMotTimeout c sub tid s
  | .svcAgeOut row => Sys2Proof.Machine.execSvcAgeOut row s
  | .svcDump org => Sys2Proof.Machine.execSvcDump org s
  | .sdStreamStall stream => Sys2Proof.Machine.execSdStreamStall stream s
  | .fhIndication us => Sys2Proof.Machine.execFhIndication us s
  | .fhEndTimeout w => Sys2Proof.Machine.execFhEndTimeout w s
  | .fhSourceLost w => Sys2Proof.Machine.execFhSourceLost w s
  | .fhSourceReady w => Sys2Proof.Machine.execFhSourceReady w s
  | .warnDismiss org w => Sys2Proof.Machine.execWarnDismiss org w s
  | .llActivate org v => Sys2Proof.Machine.execLlActivate org v s
  | .llChecksDone => Sys2Proof.Machine.execLlChecksDone s
  | .llBlockFetch b => Sys2Proof.Machine.execLlBlockFetch b s
  | .positionWrite org lat lon => Sys2Proof.Machine.execPositionWrite org lat lon s
  | .followEnable org f v => Sys2Proof.Machine.execFollowEnable org f v s
  | .shadowIdTimeout f c => Sys2Proof.Machine.execShadowIdTimeout f c s
  | .corrRefresh f c al ar sl sr => Sys2Proof.Machine.execCorrRefresh f c al ar sl sr s
  | .followXfadeStart f => Sys2Proof.Machine.execFollowXfadeStart f s
  | .followXfadeDone f => Sys2Proof.Machine.execFollowXfadeDone f s
  | .mfInput ch vals => Sys2Proof.Machine.execMfInput ch vals s
  | .mfRecordTimeout ch => Sys2Proof.Machine.execMfRecordTimeout ch s
  | .filterSettingsWrite org oid v => Sys2Proof.Machine.execFilterSettingsWrite org oid v s
  | .outMs org oid v => Sys2Proof.Machine.execOutMs org oid v s
  | .thrChannel org elem v => Sys2Proof.Machine.execThrChannel org elem v s
  | .powerupCalDone rep => Sys2Proof.Machine.execPowerupCalDone rep s
  | .laneDueTime lane => Sys2Proof.Machine.execLaneDueTime lane s
  | .laneCalCmd org lane v => Sys2Proof.Machine.execLaneCalCmd org lane v s
  | .lanegWarmDone => Sys2Proof.Machine.execLanegWarmDone s
  | .lanegSelfCalDone rep => Sys2Proof.Machine.execLanegSelfCalDone rep s
  | .overlapInDone al => Sys2Proof.Machine.execOverlapInDone al s
  | .xfadeInDone => Sys2Proof.Machine.execXfadeInDone s
  | .laneRecalDone ok rep => Sys2Proof.Machine.execLaneRecalDone ok rep s
  | .overlapOutDone al => Sys2Proof.Machine.execOverlapOutDone al s
  | .rampOutDone => Sys2Proof.Machine.execRampOutDone s
  | .xfadeOutDone => Sys2Proof.Machine.execXfadeOutDone s
  | .calRampStep ramp => Sys2Proof.Machine.execCalRampStep ramp s
  | .refCmd org v => Sys2Proof.Machine.execRefCmd org v s
  | .refMeasureDone tone offset snr => Sys2Proof.Machine.execRefMeasureDone tone offset snr s
  | .linkCalCmd org v => Sys2Proof.Machine.execLinkCalCmd org v s
  | .cfgStoreStart => Sys2Proof.Machine.execCfgStoreStart s
  | .cfgStoreDone ok => Sys2Proof.Machine.execCfgStoreDone ok s
  | .calStoreStart => Sys2Proof.Machine.execCalStoreStart s
  | .calStoreDone ok => Sys2Proof.Machine.execCalStoreDone ok s
  | .statsCheckpoint => Sys2Proof.Machine.execStatsCheckpoint s
  | .lmsStoreStart => Sys2Proof.Machine.execLmsStoreStart s
  | .lmsStoreDone ok => Sys2Proof.Machine.execLmsStoreDone ok s
  | .logNvCopy ok => Sys2Proof.Machine.execLogNvCopy ok s
  | .logSummary => Sys2Proof.Machine.execLogSummary s
  | .heartbeat => Sys2Proof.Machine.execHeartbeat s
  | .heartbeatOnChange => Sys2Proof.Machine.execHeartbeatOnChange s
  | .objectWrite org oid value => Sys2Proof.Machine.execObjectWrite org oid value s
  | .defaultsRestore org areas => Sys2Proof.Machine.execDefaultsRestore org areas s
  | .defaultsFactory org areas => Sys2Proof.Machine.execDefaultsFactory org areas s
  | .statsClear org areas => Sys2Proof.Machine.execStatsClear org areas s
  | .segmentRx port src source seg => Sys2Proof.Machine.execSegmentRx port src source seg s
  | .reassemblyTimeout port src => Sys2Proof.Machine.execReassemblyTimeout port src s
  | .read m => Sys2Proof.Machine.execRead m s
  | .write m => Sys2Proof.Machine.execWrite m s
  | .multi m => Sys2Proof.Machine.execMulti m s
  | .subscribe m => Sys2Proof.Machine.execSubscribe m s
  | .unsubscribe m => Sys2Proof.Machine.execUnsubscribe m s
  | .logRead m => Sys2Proof.Machine.execLogRead m s
  | .daymark m => Sys2Proof.Machine.execDaymark m s
  | .authHello m => Sys2Proof.Machine.execAuthHello m s
  | .authProve m => Sys2Proof.Machine.execAuthProve m s
  | .close m => Sys2Proof.Machine.execClose m s
  | .ping m => Sys2Proof.Machine.execPing m s
  | .unknownOpcode m => Sys2Proof.Machine.execUnknownOpcode m s
  | .deviceOpcodeReceived m => Sys2Proof.Machine.execDeviceOpcodeReceived m s
  | .authProveTimeout session => Sys2Proof.Machine.execAuthProveTimeout session s
  | .sessionIdle session => Sys2Proof.Machine.execSessionIdle session s
  | .authLockoutEnd port src => Sys2Proof.Machine.execAuthLockoutEnd port src s
  | .linkChange link v => Sys2Proof.Machine.execLinkChange link v s
  | .plcaBeacon => Sys2Proof.Machine.execPlcaBeacon s
  | .plcaBeaconTimeout => Sys2Proof.Machine.execPlcaBeaconTimeout s
  | .changeIntervalEnd sub => Sys2Proof.Machine.execChangeIntervalEnd sub s
  | .streamRecordSend sub => Sys2Proof.Machine.execStreamRecordSend sub s
  | .spiPut seg cut => Sys2Proof.Machine.execSpiPut seg cut s
  | .spiGet cut => Sys2Proof.Machine.execSpiGet cut s
  | .spiStatus => Sys2Proof.Machine.execSpiStatus s
  | .ptpSync gm gtime rate => Sys2Proof.Machine.execPtpSync gm gtime rate s
  | .ptpAnnounce gm => Sys2Proof.Machine.execPtpAnnounce gm s
  | .ptpSyncTimeout => Sys2Proof.Machine.execPtpSyncTimeout s
  | .peerDelayRequest => Sys2Proof.Machine.execPeerDelayRequest s
  | .ptpEnable org v => Sys2Proof.Machine.execPtpEnable org v s
  | .timeSet org v => Sys2Proof.Machine.execTimeSet org v s
  | .buoyPollEntry slot => Sys2Proof.Machine.execBuoyPollEntry slot s
  | .blAckTimeout => Sys2Proof.Machine.execBlAckTimeout s
  | .blDetection n kind dt strength => Sys2Proof.Machine.execBlDetection n kind dt strength s
  | .blHeaderEnd n w => Sys2Proof.Machine.execBlHeaderEnd n w s
  | .blPacketEnd n body crc eye powers => Sys2Proof.Machine.execBlPacketEnd n body crc eye powers s
  | .blAckSend n => Sys2Proof.Machine.execBlAckSend n s
  | .blSynthLock ns => Sys2Proof.Machine.execBlSynthLock ns s
  | .blSynthLockTimeout => Sys2Proof.Machine.execBlSynthLockTimeout s
  | .blNoiseMeasure n powers => Sys2Proof.Machine.execBlNoiseMeasure n powers s
  | .buoyFeedSettle n => Sys2Proof.Machine.execBuoyFeedSettle n s
  | .dlMsg org b msg => Sys2Proof.Machine.execDlMsg org b msg s
  | .fwCmd org v => Sys2Proof.Machine.execFwCmd org v s
  | .linkEnable org chain v => Sys2Proof.Machine.execLinkEnable org chain v s
  | .role org p what v sda => Sys2Proof.Machine.execRole org p what v sda s
  | .twBusFree p => Sys2Proof.Machine.execTwBusFree p s
  | .xGo org p v => Sys2Proof.Machine.execXGo org p v s
  | .twXferDone p addr addr2 acked data => Sys2Proof.Machine.execTwXferDone p addr addr2 acked data s
  | .twArbLost p byte bit own => Sys2Proof.Machine.execTwArbLost p byte bit own s
  | .twStretchTimeout p => Sys2Proof.Machine.execTwStretchTimeout p s
  | .twSclStuck p => Sys2Proof.Machine.execTwSclStuck p s
  | .recover org p v sda => Sys2Proof.Machine.execRecover org p v sda s
  | .twTargetTimeout p put => Sys2Proof.Machine.execTwTargetTimeout p put s
  | .twIbrDetected p ack census => Sys2Proof.Machine.execTwIbrDetected p ack census s
  | .twIbrRepeat p => Sys2Proof.Machine.execTwIbrRepeat p s
  | .twWindowStatus p ctrl => Sys2Proof.Machine.execTwWindowStatus p ctrl s
  | .twWindowPut p ctrl seg cut => Sys2Proof.Machine.execTwWindowPut p ctrl seg cut s
  | .twWindowGet p ctrl cut => Sys2Proof.Machine.execTwWindowGet p ctrl cut s
  | .sideEnable org port side v => Sys2Proof.Machine.execSideEnable org port side v s
  | .groupGo org v => Sys2Proof.Machine.execGroupGo org v s
  | .audioTxFrame port bclks => Sys2Proof.Machine.execAudioTxFrame port bclks s
  | .audioRxFrame port bclks sd => Sys2Proof.Machine.execAudioRxFrame port bclks sd s
  | .slaveClockLoss port side => Sys2Proof.Machine.execSlaveClockLoss port side s
  | .slaveClockReturn port side edges => Sys2Proof.Machine.execSlaveClockReturn port side edges s
  | .rateMeasure port side edges => Sys2Proof.Machine.execRateMeasure port side edges s
  | .audioInternalFrame inp => Sys2Proof.Machine.execAudioInternalFrame inp s
  | .routeWrite org oid value => Sys2Proof.Machine.execRouteWrite org oid value s
  | .routeApply r => Sys2Proof.Machine.execRouteApply r s
  | .audioSlotMask org port side v => Sys2Proof.Machine.execAudioSlotMask org port side v s
  | .ringFrames org ring v => Sys2Proof.Machine.execRingFrames org ring v s
  | .ringIndexWrite org oid v => Sys2Proof.Machine.execRingIndexWrite org oid v s
  | .avtpEnable org stream v => Sys2Proof.Machine.execAvtpEnable org stream v s
  | .avtpPacket stream => Sys2Proof.Machine.execAvtpPacket stream s
  | .mclkSel org n v => Sys2Proof.Machine.execMclkSel org n v s
  | .eventOccurrence e stamp arg => Sys2Proof.Machine.execEventOccurrence e stamp arg s
  | .evAck org elem v => Sys2Proof.Machine.execEvAck org elem v s
  | .evMask org elem v => Sys2Proof.Machine.execEvMask org elem v s
  | .hostirqReassert pin => Sys2Proof.Machine.execHostirqReassert pin s
  | .eventWindowEnd sub e => Sys2Proof.Machine.execEventWindowEnd sub e s
  | .fwActivate org v => Sys2Proof.Machine.execFwActivate org v s
  | .recoverCmd org v => Sys2Proof.Machine.execRecoverCmd org v s
  | .rollbackAdv org v => Sys2Proof.Machine.execRollbackAdv org v s
  | .keyWrite org oid key => Sys2Proof.Machine.execKeyWrite org oid key s
  | .keyRevoke org v => Sys2Proof.Machine.execKeyRevoke org v s
  | .custRoot org elem hash => Sys2Proof.Machine.execCustRoot org elem hash s
  | .rootRevoke org v => Sys2Proof.Machine.execRootRevoke org v s
  | .debugDisable org v => Sys2Proof.Machine.execDebugDisable org v s
  | .debugChallenge => Sys2Proof.Machine.execDebugChallenge s
  | .debugResponse level resp => Sys2Proof.Machine.execDebugResponse level resp s
  | .attestGen org v => Sys2Proof.Machine.execAttestGen org v s
  | .attestGenDone => Sys2Proof.Machine.execAttestGenDone s
  | .attestTreesBuilt => Sys2Proof.Machine.execAttestTreesBuilt s
  | .attestNonce org nonce => Sys2Proof.Machine.execAttestNonce org nonce s
  | .attestQuoteDone => Sys2Proof.Machine.execAttestQuoteDone s
  | .progEnable org prog v => Sys2Proof.Machine.execProgEnable org prog v s
  | .progLoadDone prog => Sys2Proof.Machine.execProgLoadDone prog s
  | .progRunAbort => Sys2Proof.Machine.execProgRunAbort s
  | .bundle k => Sys2Proof.Machine.execBundle k s
  | .interruptEntry k => Sys2Proof.Machine.execInterruptEntry k s
  | .repElement k => Sys2Proof.Machine.execRepElement k s
  | .timerCompare k => Sys2Proof.Machine.execTimerCompare k s
  | .waitWake k => Sys2Proof.Machine.execWaitWake k s
  | .smLit k n => Sys2Proof.Machine.execSmLit k n s
  | .push8 k x => Sys2Proof.Machine.execPush8 k x s
  | .push16 k x => Sys2Proof.Machine.execPush16 k x s
  | .push32 k x => Sys2Proof.Machine.execPush32 k x s
  | .smDup k => Sys2Proof.Machine.execSmDup k s
  | .smDrop k => Sys2Proof.Machine.execSmDrop k s
  | .smSwap k => Sys2Proof.Machine.execSmSwap k s
  | .smOver k => Sys2Proof.Machine.execSmOver k s
  | .smRot k => Sys2Proof.Machine.execSmRot k s
  | .smPick k => Sys2Proof.Machine.execSmPick k s
  | .tor k => Sys2Proof.Machine.execTor k s
  | .fromr k => Sys2Proof.Machine.execFromr k s
  | .smDepth k => Sys2Proof.Machine.execSmDepth k s
  | .smAdd k => Sys2Proof.Machine.execSmAdd k s
  | .smSub k => Sys2Proof.Machine.execSmSub k s
  | .smMul k => Sys2Proof.Machine.execSmMul k s
  | .smAnd k => Sys2Proof.Machine.execSmAnd k s
  | .smOr k => Sys2Proof.Machine.execSmOr k s
  | .smXor k => Sys2Proof.Machine.execSmXor k s
  | .smNot k => Sys2Proof.Machine.execSmNot k s
  | .smShl k => Sys2Proof.Machine.execSmShl k s
  | .smShr k => Sys2Proof.Machine.execSmShr k s
  | .smSar k => Sys2Proof.Machine.execSmSar k s
  | .smEq k => Sys2Proof.Machine.execSmEq k s
  | .smLt k => Sys2Proof.Machine.execSmLt k s
  | .ltu k => Sys2Proof.Machine.execLtu k s
  | .zeq k => Sys2Proof.Machine.execZeq k s
  | .ldw k => Sys2Proof.Machine.execLdw k s
  | .stw k => Sys2Proof.Machine.execStw k s
  | .ldb k => Sys2Proof.Machine.execLdb k s
  | .stb k => Sys2Proof.Machine.execStb k s
  | .smMove k => Sys2Proof.Machine.execSmMove k s
  | .br8 k x => Sys2Proof.Machine.execBr8 k x s
  | .br16 k x => Sys2Proof.Machine.execBr16 k x s
  | .bz8 k x => Sys2Proof.Machine.execBz8 k x s
  | .bz16 k x => Sys2Proof.Machine.execBz16 k x s
  | .call16 k x => Sys2Proof.Machine.execCall16 k x s
  | .callx k => Sys2Proof.Machine.execCallx k s
  | .smRet k => Sys2Proof.Machine.execSmRet k s
  | .shaInit k => Sys2Proof.Machine.execShaInit k s
  | .shaData k => Sys2Proof.Machine.execShaData k s
  | .shaFinal k => Sys2Proof.Machine.execShaFinal k s
  | .sigVerify k => Sys2Proof.Machine.execSigVerify k s
  | .otpRd k => Sys2Proof.Machine.execOtpRd k s
  | .ctrRd k => Sys2Proof.Machine.execCtrRd k s
  | .ctrAdv k => Sys2Proof.Machine.execCtrAdv k s
  | .ospiRd k => Sys2Proof.Machine.execOspiRd k s
  | .enterReg k => Sys2Proof.Machine.execEnterReg k s
  | .fwChecksDone => Sys2Proof.Machine.execFwChecksDone s
  | .linkChannelCalDone ch => Sys2Proof.Machine.execLinkChannelCalDone ch s
  | .refclkReturn => Sys2Proof.Machine.execRefclkReturn s
  | .positionStale => Sys2Proof.Machine.execPositionStale s
  | .fhConfirmWindowEnd w => Sys2Proof.Machine.execFhConfirmWindowEnd w s
  | .sideLeadStart port side => Sys2Proof.Machine.execSideLeadStart port side s
  | .twBusStartSeen p => Sys2Proof.Machine.execTwBusStartSeen p s
  | .twCensusResponse p lowest => Sys2Proof.Machine.execTwCensusResponse p lowest s
  | .plcaBeaconSend => Sys2Proof.Machine.execPlcaBeaconSend s
  | .debugHalt k arm => Sys2Proof.Machine.execDebugHalt k arm s
  | .debugSingleStep k => Sys2Proof.Machine.execDebugSingleStep k s
  | .debugReset => Sys2Proof.Machine.execDebugReset s

end Sys2Proof.Machine
end

