-- ==== Sys2Proof/WellFormed.lean ====
section
/-! DEFINITION. Well-formed commands: every operand within the range the spec gives it. -/

namespace Sys2Proof

open Sys2Proof.Machine

/-- An 8-bit operand. -/
def u8Ok (v : Nat) : Bool := decide (v < 2 ^ 8)
/-- A 16-bit operand. -/
def u16Ok (v : Nat) : Bool := decide (v < 2 ^ 16)
/-- A 32-bit operand. -/
def u32Ok (v : Nat) : Bool := decide (v < 2 ^ 32)
/-- A 64-bit operand. -/
def u64Ok (v : Nat) : Bool := decide (v < 2 ^ 64)
/-- A signed 16-bit operand. -/
def s16Ok (v : Int) : Bool := decide (-32768 ≤ v) && decide (v < 32768)
/-- A signed 32-bit operand. -/
def s32Ok (v : Int) : Bool := decide (-2147483648 ≤ v) && decide (v < 2147483648)
/-- A signed 64-bit operand. -/
def s64Ok (v : Int) : Bool := decide (-9223372036854775808 ≤ v) && decide (v < 9223372036854775808)
/-- A list of a given length. -/
def lenIs {α : Type} (n : Nat) (l : List α) : Bool := decide (l.length = n)
/-- A list of signed 16-bit numbers. -/
def allS16 (l : List Int) : Bool := l.all s16Ok
/-- A chain A–F (R33). -/
def chainOk (n : Nat) : Bool := decide (n < 6)
/-- A lane A–G (Table 11.8). -/
def laneOk (n : Nat) : Bool := decide (n < 7)
/-- A door H, V or C (R33). -/
def doorOk (d : Nat) : Bool := decide (d < 3)
/-- A context number (R29). -/
def ctxOk (c : Nat) : Bool := decide (1 ≤ c) && decide (c ≤ 63)
/-- A slot of a plan (Table 5.5). -/
def slotOk (s : Nat) : Bool := decide (s < 256)
/-- A Keeper (Table 1.1). -/
def keeperOk (k : Nat) : Bool := decide (k < 4)
/-- A supply (Table 21.4). -/
def supplyOk (v : Nat) : Bool := decide (v < 6)
/-- A tap (R77). -/
def tapOk (t : Nat) : Bool := decide (t < 128)
/-- One of eight: a stream, a Buoy-link channel, an audio port, a session slot. -/
def idx8Ok (i : Nat) : Bool := decide (i < 8)
/-- One of two: a two-wire port, a wake pin, a host pin, MCLK. -/
def bitOk (i : Nat) : Bool := decide (i < 2)
/-- A service program (R485). -/
def progOk (p : Nat) : Bool := decide (p < 16)
/-- An event (R520). -/
def eventOk (e : Nat) : Bool := decide (e < 128)
/-- An antenna-list entry (Table 4.9). -/
def entryOk (i : Nat) : Bool := decide (i < 6)
/-- A sweep-plan segment (R91). -/
def segOk (s : Nat) : Bool := decide (s < 64)
/-- A ramped correction (R305): 0 the lane G alignment, 1 + j ABS_CORR of door band j. -/
def rampOk (r : Nat) : Bool := decide (r < 25)
/-- An origin (Table 13.9). -/
def orgOk (o : Origin) : Bool := decide (o.port < 8) && u16Ok o.session && u64Ok o.source
/-- A Tender message of a transport (Tables 14.1 and 14.4). -/
def msgOk (m : TMsg) : Bool :=
  decide (1 ≤ m.port) && decide (m.port ≤ 6) && decide (m.src < 2 ^ 144) && u64Ok m.source && u8Ok m.opcode && decide (m.mflags < 8) &&
  u16Ok m.session && u16Ok m.tag && u32Ok m.seq && decide (m.body.length ≤ 65536) &&
  decide (m.mac.length = if m.mflags.testBit 1 then 32 else 0)
/-- A detection (R122). -/
def hypDetOk (h : HypDet) : Bool := entryOk h.entry && u8Ok h.mode && s32Ok h.offset && s64Ok h.timing && u64Ok h.sample && s16Ok h.peak && s16Ok h.depth && u32Ok h.len
/-- The samples of some Sweep frames: of each frame some sub-bands, with 512 complex Q31 samples of each (R74, R86, R102). -/
def framesOk (l : List (Nat × List (Nat × List (Int × Int)))) : Bool :=
  l.all fun f => f.2.all fun x => decide (x.1 < 256) && decide (x.2.length = 512) && x.2.all (fun p => s32Ok p.1 && s32Ok p.2)
/-- At most 64 codes of the 14-bit converter (R34, R53). -/
def codesOk (l : List Int) : Bool := decide (l.length ≤ 64) && l.all (fun c => decide (-8192 ≤ c) && decide (c < 8192))
/-- A lane's calibration report: of `k` items, each with a figure (Tables 11.1 and 11.3). -/
def laneReportOk (k : Nat) (r : LaneReport) : Bool :=
  lenIs k r.figs && r.figs.all (fun l => !l.isEmpty && allS16 l) && r.margins.all (fun m => decide (m ≤ 100)) && !r.margins.isEmpty
/-- A power-up calibration report (Table 11.1). -/
def calReportOk (r : CalReport) : Bool :=
  decide (r.noTone < 2 ^ 18) && u32Ok r.us && lenIs 7 r.lanes && r.lanes.all (laneReportOk 11) && lenIs 6 r.corners && r.corners.all (lenIs 3) && s16Ok r.synth
/-- An alignment estimate (R312). -/
def alignOk (a : Align) : Bool := s16Ok a.delay && lenIs 3 a.gains && allS16 a.gains && lenIs 3 a.phases && allS16 a.phases
/-- Signal parameters (Table 7.20). -/
def sigInfoOk (i : SigInfo) : Bool :=
  u8Ok i.mode && u8Ok i.param && decide (i.interleave ≤ 1) && decide (i.mscMap ≤ 4) && decide (i.services ≤ 4) && decide (i.smode ≤ 4)
/-- A 24-bit sample pair (R331). -/
def pairOk (p : Int × Int) : Bool :=
  decide (-8388608 ≤ p.1) && decide (p.1 < 8388608) && decide (-8388608 ≤ p.2) && decide (p.2 < 8388608)
/-- Complex samples in Q31 (R102). -/
def q31Ok (l : List (Int × Int)) : Bool := l.all (fun p => s32Ok p.1 && s32Ok p.2)
/-- What confirmed a signal (R198). -/
def confirmOk (f : Confirm) : Bool := entryOk f.entry && u64Ok f.at_ && sigInfoOk f.fac && lenIs 6 f.delays && allS16 f.delays
/-- A digital entry (Table 7.14). -/
def digEntOk (e : DigEnt) : Bool :=
  u8Ok e.ety && u8Ok e.src && u8Ok e.err && u16Ok e.counter && u64Ok e.sample && u32Ok e.span && u16Ok e.content.length
/-- A digital run (Table 7.13). -/
def digRunOk (r : DigRun) : Bool :=
  r.entries.all digEntOk && u16Ok r.counter && u32Ok r.alfn && r.audio.all (fun a => decide (a.sel < 5) && a.pcm.all pairOk)
/-- A run report (R128). -/
def runReportOk (r : RunReport) : Bool :=
  lenIs 6 r.snr && allS16 r.snr && lenIs 6 r.weights && allS16 r.weights && r.weights.all (fun w => decide (w ≤ 0)) && q31Ok r.iq && digRunOk r.dig
/-- A measured value, or none. -/
def someS32 (v : Option Int) : Bool := match v with | some x => s32Ok x | none => true
/-- A millisecond of an FM or AM chain: at most 6,144 samples of each stream. -/
def sigInOk (r : SigIn) : Bool :=
  lenIs 6 r.taps && r.taps.all (fun l => decide (l.length ≤ 6144) && q31Ok l) && someS32 r.level && someS32 r.snr && someS32 r.multipath &&
  lenIs 6 r.cn && r.cn.all (fun p => s16Ok p.1 && s32Ok p.2) && s16Ok r.lo && s16Ok r.hi
/-- Indicators of a digital interval (Table 7.12). -/
def digInOk (r : DigIn) : Bool := lenIs 6 r.vals && r.vals.all someS32
/-- A MEAS window's measurements (Tables 6.11, 7.17 and 7.18). -/
def measRepOk (r : MeasRep) : Bool :=
  lenIs 4 r.rdsDev && r.rdsDev.all u16Ok && u32Ok r.errRate && u16Ok r.doppler && s16Ok r.wmer &&
  r.tii.all (fun e => decide (e.1 ≤ 69) && decide (1 ≤ e.2.1) && decide (e.2.1 ≤ 23) && s16Ok e.2.2.1 && s32Ok e.2.2.2)
/-- A service (Tables 7.9 and 7.11). -/
def svcEntOk (e : SvcEnt) : Bool :=
  u32Ok e.sid && decide (e.comp < 64) && decide (1 ≤ e.codec) && decide (e.codec ≤ 5) && u32Ok e.fs && u16Ok e.start && u16Ok e.size && u16Ok e.prot
/-- A set of service information (R209). -/
def svcRepOk (r : SvcRep) : Bool := u16Ok r.eid && sigInfoOk r.info && r.services.all svcEntOk
/-- Samples for an internal frame. -/
def audioInOk (a : AudioIn) : Bool := a.arr.all (fun p => u32Ok p.1 && u32Ok p.2)


/-- A received Buoy packet's payload: at most 255 bytes of GFSK; symbols of 52 points each of OFDM (Tables 15.2 and 15.3). -/
def blDataOk (b : BlData) : Bool :=
  match b with
  | .bytes l => decide (l.length ≤ 255)
  | .points l => l.all (fun s => lenIs 52 s && s.all (fun p => s16Ok p.1 && s16Ok p.2))

/-- Whether every operand of a command lies in the range its row gives it. A command with an operand outside is no
command of the hardware. -/
def Instr.wf (i : Instr) : Bool :=
  match i with
  | .resetRelease straps => u8Ok straps
  | .resetPin => true
  | .supplyWarning v mv => supplyOk v && u16Ok mv
  | .brownOut v => supplyOk v
  | .pfailOnset => true
  | .pfailClear => true
  | .refclkLoss => true
  | .watchdogWarning k => keeperOk k
  | .watchdogExpiry k => keeperOk k
  | .bootWatchdog => true
  | .keeperHaltReset k => keeperOk k
  | .configRestore => true
  | .bootImageSelect => true
  | .fullOperation => true
  | .pwRequestReady org => orgOk org
  | .pwRequestRun org => orgOk org
  | .pwRequestSentry org => orgOk org
  | .sentryReached => true
  | .pwRequestStandby org => orgOk org
  | .standbyReached => true
  | .pwRequestReset org => orgOk org
  | .deferredReset => true
  | .wakePin pin => bitOk pin
  | .wakeTimer => true
  | .tempSample temps => lenIs 9 temps && allS16 temps
  | .thermalRestartCheck t8 => s16Ok t8
  | .thermRankRise => true
  | .thermRankFall => true
  | .periodStart => true
  | .slotStart slot us => slotOk slot && u32Ok us
  | .slotRunDone slot us => slotOk slot && u16Ok us
  | .activate org v => orgOk org && u8Ok v
  | .watchChecksDone => true
  | .slotMask org elem v => orgOk org && u8Ok elem && u64Ok v
  | .stormExit org v => orgOk org && u8Ok v
  | .earlyTrackUpdate c => ctxOk c
  | .contextRunEnd c rep => ctxOk c && runReportOk rep
  | .tapFillDone t => tapOk t
  | .hypDetection c det => ctxOk c && hypDetOk det
  | .hypVerifyFail c => ctxOk c
  | .hypConfirmed c cf => ctxOk c && confirmOk cf
  | .signalLoss c => ctxOk c
  | .holdReverified c cf => ctxOk c && confirmOk cf
  | .holdTimeout c => ctxOk c
  | .acqTimeout c => ctxOk c
  | .selectSwitch c entry => ctxOk c && entryOk entry
  | .request org c v => orgOk org && ctxOk c && u8Ok v
  | .sweepFrame => true
  | .sweepIntervalEnd seg chain frames => segOk seg && chainOk chain && framesOk frames
  | .lsynNeeded => true
  | .lsynLocked => true
  | .lsynCalTimeout => true
  | .lsynLockDrop => true
  | .lsynCalCmd org v => orgOk org && u8Ok v
  | .lsynNotNeeded => true
  | .doorCBand org chain v => orgOk org && chainOk chain && u8Ok v
  | .bandSwitchDone chain => chainOk chain
  | .gainTick det peak => lenIs 18 det && allS16 det && lenIs 18 peak && allS16 peak
  | .gainStepDeferred chain door => chainOk chain && doorOk door
  | .overloadDeclared chain codes det => chainOk chain && codesOk codes.1 && codesOk codes.2 && lenIs 3 det && allS16 det
  | .overloadPersist chain => chainOk chain
  | .overloadContinuityEnd chain => chainOk chain
  | .overloadPersistRearm chain => chainOk chain
  | .chainEnable org chain v => orgOk org && chainOk chain && u8Ok v
  | .feedEnable org chain v => orgOk org && chainOk chain && u8Ok v
  | .feedTrip chain => chainOk chain
  | .feedInrushEnd chain => chainOk chain
  | .feedOpenDetect chain => chainOk chain
  | .feedOpenRecover chain => chainOk chain
  | .feedLimitDwell chain => chainOk chain
  | .feedOn10s chain => chainOk chain
  | .feedRetryExpired chain => chainOk chain
  | .feedReset org chain v => orgOk org && chainOk chain && u8Ok v
  | .indicatorInterval c r => ctxOk c && sigInOk r
  | .digitalIndicatorInterval c r => ctxOk c && digInOk r
  | .audioQualityTick c => ctxOk c
  | .ifbwDecision c lo hi => ctxOk c && s16Ok lo && s16Ok hi
  | .stereoChange c _ => ctxOk c
  | .rdsBlock c stream chips sample first => ctxOk c && decide (stream < 4) && decide (chips < 2 ^ 52) && u64Ok sample && u64Ok first
  | .amPllLock c => ctxOk c
  | .amPllUnlock c => ctxOk c
  | .amDetectorChange c v => ctxOk c && decide (v < 4)
  | .measWindowEnd c r => ctxOk c && measRepOk r
  | .serviceInfoComplete c r => ctxOk c && svcRepOk r
  | .dabReconfig c cif r => ctxOk c && decide (cif < 5000) && svcRepOk r
  | .drmReconfig c services info => ctxOk c && services.all svcEntOk && sigInfoOk info
  | .nrsc5ModeChange c info => ctxOk c && sigInfoOk info
  | .codedFrameFailed c sel => ctxOk c && decide (sel < 5)
  | .motTimeout c sub tid => ctxOk c && u8Ok sub && u16Ok tid
  | .svcAgeOut row => u16Ok row
  | .svcDump org => orgOk org
  | .sdStreamStall stream => idx8Ok stream
  | .fhIndication us => decide (us ≤ 1000)
  | .fhEndTimeout w => idx8Ok w
  | .fhSourceLost w => idx8Ok w
  | .fhSourceReady w => idx8Ok w
  | .warnDismiss org w => orgOk org && idx8Ok w
  | .llActivate org v => orgOk org && u8Ok v
  | .llChecksDone => true
  | .llBlockFetch b => u16Ok b
  | .positionWrite org lat lon => orgOk org && s32Ok lat && s32Ok lon
  | .followEnable org f v => orgOk org && bitOk f && u8Ok v
  | .shadowIdTimeout f c => bitOk f && ctxOk c
  | .corrRefresh f c al ar sl sr => bitOk f && ctxOk c && decide (ar.length = al.length) && decide (sl.length = al.length + 384064) && decide (sr.length = sl.length) &&
      (al ++ ar ++ sl ++ sr).all (fun v => pairOk (v, 0))
  | .followXfadeStart f => bitOk f
  | .followXfadeDone f => bitOk f
  | .mfInput ch vals => u16Ok ch && vals.all s32Ok
  | .mfRecordTimeout ch => u16Ok ch
  | .filterSettingsWrite org oid v => orgOk org && u32Ok oid && u8Ok v
  | .outMs org oid v => orgOk org && u32Ok oid && u16Ok v
  | .thrChannel org elem v => orgOk org && u8Ok elem && u16Ok v
  | .powerupCalDone rep => calReportOk rep
  | .laneDueTime lane => laneOk lane
  | .laneCalCmd org lane v => orgOk org && laneOk lane && u8Ok v
  | .lanegWarmDone => true
  | .lanegSelfCalDone rep => laneReportOk 4 rep
  | .overlapInDone al => alignOk al
  | .xfadeInDone => true
  | .laneRecalDone _ rep => laneReportOk 4 rep
  | .overlapOutDone al => alignOk al
  | .rampOutDone => true
  | .xfadeOutDone => true
  | .calRampStep ramp => rampOk ramp
  | .refCmd org v => orgOk org && u8Ok v
  | .refMeasureDone tone offset snr => s16Ok tone && s32Ok offset && s16Ok snr
  | .linkCalCmd org v => orgOk org && u8Ok v
  | .cfgStoreStart => true
  | .cfgStoreDone _ => true
  | .calStoreStart => true
  | .calStoreDone _ => true
  | .statsCheckpoint => true
  | .lmsStoreStart => true
  | .lmsStoreDone _ => true
  | .logNvCopy _ => true
  | .logSummary => true
  | .heartbeat => true
  | .heartbeatOnChange => true
  | .objectWrite org oid _ => orgOk org && u32Ok oid
  | .defaultsRestore org areas => orgOk org && u32Ok areas
  | .defaultsFactory org areas => orgOk org && u32Ok areas
  | .statsClear org areas => orgOk org && u32Ok areas
  | .segmentRx port src source _ => decide (1 ≤ port) && decide (port ≤ 3) && decide (src < 2 ^ 144) && u64Ok source
  | .reassemblyTimeout port src => u8Ok port && decide (src < 2 ^ 144)
  | .read m => msgOk m
  | .write m => msgOk m
  | .multi m => msgOk m
  | .subscribe m => msgOk m
  | .unsubscribe m => msgOk m
  | .logRead m => msgOk m
  | .daymark m => msgOk m
  | .authHello m => msgOk m
  | .authProve m => msgOk m
  | .close m => msgOk m
  | .ping m => msgOk m
  | .unknownOpcode m => msgOk m
  | .deviceOpcodeReceived m => msgOk m
  | .authProveTimeout session => u16Ok session
  | .sessionIdle session => u16Ok session
  | .authLockoutEnd port src => u8Ok port && decide (src < 2 ^ 144)
  | .linkChange link v => decide (1 ≤ link) && decide (link ≤ 3) && decide (v ≤ 3)
  | .plcaBeacon => true
  | .plcaBeaconTimeout => true
  | .changeIntervalEnd sub => u8Ok sub
  | .streamRecordSend sub => u8Ok sub
  | .spiPut _ _ => true
  | .spiGet _ => true
  | .spiStatus => true
  | .ptpSync gm gtime rate => u64Ok gm && u64Ok gtime && s32Ok rate
  | .ptpAnnounce gm => u64Ok gm
  | .ptpSyncTimeout => true
  | .peerDelayRequest => true
  | .ptpEnable org v => orgOk org && u8Ok v
  | .timeSet org v => orgOk org && u64Ok v
  | .buoyPollEntry slot => slotOk slot
  | .blAckTimeout => true
  | .blDetection n kind dt strength => chainOk n && decide (kind < 7) && u32Ok dt && s16Ok strength
  | .blHeaderEnd n w => chainOk n && decide (w < 4503599627370496)
  | .blPacketEnd n body crc eye powers => chainOk n && blDataOk body && u32Ok crc && decide (eye ≤ 100) && lenIs 64 powers && allS16 powers
  | .blAckSend n => chainOk n
  | .blSynthLock ns => u32Ok ns
  | .blSynthLockTimeout => true
  | .blNoiseMeasure n powers => chainOk n && lenIs 64 powers && allS16 powers
  | .buoyFeedSettle n => chainOk n
  | .dlMsg org b _ => orgOk org && decide (b < 24)
  | .fwCmd org v => orgOk org && u8Ok v
  | .linkEnable org chain v => orgOk org && chainOk chain && u8Ok v
  | .role org p what v sda => orgOk org && bitOk p && bitOk what && u8Ok v && decide (sda ≤ 10)
  | .twBusFree p => bitOk p
  | .xGo org p v => orgOk org && bitOk p && u8Ok v
  | .twXferDone p _ _ acked _ => bitOk p && u8Ok acked
  | .twArbLost p byte bit _ => bitOk p && u8Ok byte && u8Ok bit
  | .twStretchTimeout p => bitOk p.port && decide (p.acked ≤ 64)
  | .twSclStuck p => bitOk p
  | .recover org p v sda => orgOk org && bitOk p && u8Ok v && decide (sda ≤ 10)
  | .twTargetTimeout p _ => bitOk p
  | .twIbrDetected p _ census => bitOk p && u8Ok census
  | .twIbrRepeat p => bitOk p
  | .twWindowStatus p ctrl => bitOk p && decide (8 ≤ ctrl) && decide (ctrl ≤ 119)
  | .twWindowPut p ctrl _ _ => bitOk p && decide (8 ≤ ctrl) && decide (ctrl ≤ 119)
  | .twWindowGet p ctrl _ => bitOk p && decide (8 ≤ ctrl) && decide (ctrl ≤ 119)
  | .sideEnable org port side v => orgOk org && idx8Ok port && bitOk side && u8Ok v
  | .groupGo org v => orgOk org && u8Ok v
  | .audioTxFrame port bclks => idx8Ok port && u16Ok bclks
  | .audioRxFrame port bclks sd => idx8Ok port && u16Ok bclks && decide (sd.length ≤ 257)
  | .slaveClockLoss port side => idx8Ok port && bitOk side
  | .slaveClockReturn port side edges => idx8Ok port && bitOk side && edges.all u64Ok
  | .rateMeasure port side edges => idx8Ok port && bitOk side && edges.all u64Ok
  | .audioInternalFrame inp => audioInOk inp
  | .routeWrite org oid _ => orgOk org && u32Ok oid
  | .routeApply r => decide (r < 32)
  | .audioSlotMask org port side v => orgOk org && idx8Ok port && bitOk side && u8Ok v
  | .ringFrames org ring v => orgOk org && idx8Ok ring && u16Ok v
  | .ringIndexWrite org oid v => orgOk org && u32Ok oid && u32Ok v
  | .avtpEnable org stream v => orgOk org && decide (stream < 63) && u8Ok v
  | .avtpPacket stream => decide (stream < 63)
  | .mclkSel org n v => orgOk org && bitOk n && u8Ok v
  | .eventOccurrence e stamp arg => eventOk e && u64Ok stamp && u32Ok arg
  | .evAck org elem v => orgOk org && u8Ok elem && u64Ok v
  | .evMask org elem v => orgOk org && u8Ok elem && u64Ok v
  | .hostirqReassert pin => bitOk pin
  | .eventWindowEnd sub e => u8Ok sub && eventOk e
  | .fwActivate org v => orgOk org && u8Ok v
  | .recoverCmd org v => orgOk org && u8Ok v
  | .rollbackAdv org v => orgOk org && u8Ok v
  | .keyWrite org oid _ => orgOk org && u32Ok oid
  | .keyRevoke org v => orgOk org && u8Ok v
  | .custRoot org elem _ => orgOk org && u8Ok elem
  | .rootRevoke org v => orgOk org && u8Ok v
  | .debugDisable org v => orgOk org && u8Ok v
  | .debugChallenge => true
  | .debugResponse level _ => u8Ok level
  | .attestGen org v => orgOk org && u8Ok v
  | .attestGenDone => true
  | .attestTreesBuilt => true
  | .attestNonce org _ => orgOk org
  | .attestQuoteDone => true
  | .progEnable org prog v => orgOk org && progOk prog && u8Ok v
  | .progLoadDone prog => progOk prog
  | .progRunAbort => true
  | .bundle k => keeperOk k
  | .interruptEntry k => keeperOk k
  | .repElement k => keeperOk k
  | .timerCompare k => keeperOk k
  | .waitWake k => keeperOk k
  | .smLit k n => keeperOk k && decide (n < 32)
  | .push8 k x => keeperOk k && u8Ok x
  | .push16 k x => keeperOk k && u16Ok x
  | .push32 k x => keeperOk k && u32Ok x
  | .smDup k => keeperOk k
  | .smDrop k => keeperOk k
  | .smSwap k => keeperOk k
  | .smOver k => keeperOk k
  | .smRot k => keeperOk k
  | .smPick k => keeperOk k
  | .tor k => keeperOk k
  | .fromr k => keeperOk k
  | .smDepth k => keeperOk k
  | .smAdd k => keeperOk k
  | .smSub k => keeperOk k
  | .smMul k => keeperOk k
  | .smAnd k => keeperOk k
  | .smOr k => keeperOk k
  | .smXor k => keeperOk k
  | .smNot k => keeperOk k
  | .smShl k => keeperOk k
  | .smShr k => keeperOk k
  | .smSar k => keeperOk k
  | .smEq k => keeperOk k
  | .smLt k => keeperOk k
  | .ltu k => keeperOk k
  | .zeq k => keeperOk k
  | .ldw k => keeperOk k
  | .stw k => keeperOk k
  | .ldb k => keeperOk k
  | .stb k => keeperOk k
  | .smMove k => keeperOk k
  | .br8 k x => keeperOk k && u8Ok x
  | .br16 k x => keeperOk k && u16Ok x
  | .bz8 k x => keeperOk k && u8Ok x
  | .bz16 k x => keeperOk k && u16Ok x
  | .call16 k x => keeperOk k && u16Ok x
  | .callx k => keeperOk k
  | .smRet k => keeperOk k
  | .shaInit k => keeperOk k
  | .shaData k => keeperOk k
  | .shaFinal k => keeperOk k
  | .sigVerify k => keeperOk k
  | .otpRd k => keeperOk k
  | .ctrRd k => keeperOk k
  | .ctrAdv k => keeperOk k
  | .ospiRd k => keeperOk k
  | .enterReg k => keeperOk k
  | .fwChecksDone => true
  | .linkChannelCalDone ch => idx8Ok ch
  | .refclkReturn => true
  | .positionStale => true
  | .fhConfirmWindowEnd w => idx8Ok w
  | .sideLeadStart port side => idx8Ok port && bitOk side
  | .twBusStartSeen p => bitOk p
  | .twCensusResponse p lowest => bitOk p && u8Ok lowest
  | .plcaBeaconSend => true
  | .debugHalt k _ => keeperOk k
  | .debugSingleStep k => keeperOk k
  | .debugReset => true

end Sys2Proof
end

