-- ==== Sys2Proof/Safety.lean ====
section
/-! DEFINITION. The terms that statements use: a sound state, the parts of the device, what a command may touch of them (its frame), and
what it means that a command completes. -/

namespace Sys2Proof.Machine

/-! ### Sound states -/

/-- Every derived object holds the value that the rest of the state gives it. -/
def Dev.Settled (d : Dev) : Prop := ∀ p ∈ d.derived, d.num p.1 = p.2

/-- A memory in its canonical form: addresses strictly rising, and no entry for what an unlisted address reads as (log 2). -/
def Memory.wf (m : List (Nat × Byte)) : Bool := Tab.wf (fun _ => (0 : Byte)) m

/-- The queue holds well-formed commands. -/
def State.QueueOk (s : State) : Prop := ∀ c ∈ s.pending, c.wf = true

/-- A sound state. -/
def State.Sound (s : State) : Prop := s.dev.Settled

/-! ### Parts of the device -/

/-- The parts that a frame speaks of: the fields of the device beside its objects, the host links without what they have sent, and the
two-wire ports without what they offer. The count of free values is no part: it belongs to the model. -/
inductive Part where
  | time | ticks | udef | log | store | nvm | host | tm | ev | pw | tw | rings | ports | lflags | rf | lens | cx | wt | cal | sd | ll | mf | bl
  | sec | au | kp | flash
  deriving DecidableEq, Repr

/-- A session without the counter of what the device has sent in it. -/
def Session.still (s : Session) : Session := { s with txSeq := 0 }

/-- A subscription without its progress: the last notification, losses and open windows. -/
def Sub.still (s : Sub) : Sub := { s with lastVal := [], lastT := 0, lost := 0, losing := false, windows := [] }

/-- The host links without what sending changes. -/
def HostState.still (h : HostState) : HostState :=
  { h with sessions := h.sessions.map Session.still, subs := h.subs.map Sub.still, sent := [], msgno := [], spi := [], spiMsgno := 0 }

/-- A two-wire port without the segments it offers and the in-band request for them. -/
def TwPort.still (w : TwPort) : TwPort := { w with out := [], msgno := [], ibr := false, ibrAt := 0, pulses := 0 }

/-- A part of `e` is as it is in `d`; of the host links, what was sent or waits stands before what is new. -/
def Part.same (d e : Dev) : Part → Prop
  | .time => e.now = d.now ∧ e.mono = d.mono
  | .ticks => e.ticks = d.ticks
  | .udef => e.udef = d.udef
  | .log => e.log = d.log
  | .store => e.store = d.store
  | .nvm => e.nvm = d.nvm
  | .host => e.host.still = d.host.still ∧ d.host.sent <+: e.host.sent ∧ d.host.spi <+: e.host.spi
  | .tm => e.tm = d.tm
  | .ev => e.ev = d.ev
  | .pw => e.pw = d.pw
  | .tw => ∀ p, (e.twp p).still = (d.twp p).still
  | .rings => e.rings = d.rings
  | .ports => e.ports = d.ports
  | .lflags => e.lflags = d.lflags
  | .rf => e.rf = d.rf
  | .lens => e.lens = d.lens
  | .cx => e.cx = d.cx
  | .wt => e.wt = d.wt
  | .cal => e.cal = d.cal
  | .sd => e.sd = d.sd
  | .ll => e.ll = d.ll
  | .mf => e.mf = d.mf
  | .bl => e.bl = d.bl
  | .sec => e.sec = d.sec
  | .au => e.au = d.au
  | .kp => e.kp = d.kp
  | .flash => e.flash = d.flash

/-! ### Frames -/

/-- The objects that the router keeps for event `e` (Table 19.2), its latch apart. -/
def eventObjs (e : Nat) : List Nat := [O.evEvCount e, O.evEvPendCount e, O.evEvTFirst e, O.evEvTLast e, O.evEvArg e]

/-- Events that a notification can raise: 100 when it is lost, 99 when it waits at the SPI target, and 13 when one of them saturates. -/
def notifyEvents : List Nat := [13, 99, 100]

/-- The derived objects. -/
def derivedOids : List Nat :=
  [O.evEvHostirqState, O.lgLogSeq, O.lgLogRamFirst, O.lgLogNvFirst, O.lgLogNvPending, O.ntSessions, O.ntSubs, O.pwPwState, O.caCalState,
   O.cxDecUsed, O.cxDecWaiting]

/-- Objects that may change with any command: the derived ones, the latch words, and the objects of the events of notifications. -/
def noisy : List Nat := derivedOids ++ [O.evEvLatched 0, O.evEvLatched 1] ++ notifyEvents.flatMap eventObjs

/-- An object that only a command's own effect changes. -/
def quiet (o : Nat) : Bool := !noisy.contains o

/-- `e` is `d` but for the parts `ps`, the objects that satisfy `os`, and the events `es` (their latches and objects). Derived objects and
the events of notifications are left out: they follow. -/
structure Frame (d e : Dev) (ps : List Part) (os : Nat → Prop) (es : List Nat) : Prop where
  parts : ∀ p, p ∉ ps → p.same d e
  objs : ∀ o, quiet o = true → ¬ os o → (∀ v ∈ es, o ∉ eventObjs v) → e.get o = d.get o
  latches : ∀ v < 128, v ∉ es → v ∉ notifyEvents → e.latched v = d.latched v

/-- No object. -/
def noObj : Nat → Prop := fun _ => False

/-- One object. -/
def only (o : Nat) : Nat → Prop := fun x => x = o

/-- The objects of a list. -/
def among (l : List Nat) : Nat → Prop := fun x => x ∈ l

/-- The objects of an area. -/
def inArea (a : Nat) : Nat → Prop := fun x => O.area x = a

/-- The objects `f n` with `n` below `k`. -/
def each (k : Nat) (f : Nat → Nat) : Nat → Prop := fun x => ∃ n < k, x = f n

/-- The objects `f n m` with `n` below `k` and `m` below `l`. -/
def each2 (k l : Nat) (f : Nat → Nat → Nat) : Nat → Prop := fun x => ∃ n < k, ∃ m < l, x = f n m

/-- The objects `f n` for any `n`: where the state itself names `n`, as a context names its taps. -/
def anyOf (f : Nat → Nat) : Nat → Prop := fun x => ∃ n, x = f n

/-- The objects of a list, and those of some sets. -/
def setsOf (l : List Nat) (ss : List (Nat → Prop)) : Nat → Prop := fun x => x ∈ l ∨ ∃ p ∈ ss, p x

/-- Any object. -/
def anyObj : Nat → Prop := fun _ => True

/-- Every event code of the router. -/
def anyEvent : List Nat := List.range 128

/-- `e` differs from `d` only in what notifications and derived objects may change. -/
def Dev.Alike (d e : Dev) : Prop := Frame d e [] noObj []

/-- Event `v` has occurred once between `d` and `e`, first with argument `arg` (Table 19.2); `e` counts it short of its width. -/
def Occurred (d e : Dev) (v arg : Nat) : Prop :=
  e.latched v = true ∧ (d.nat (O.evEvCount v) + 1 < 2 ^ 32 → e.nat (O.evEvCount v) = d.nat (O.evEvCount v) + 1) ∧
  (d.latched v = false → e.nat (O.evEvArg v) = arg ∧ e.nat (O.evEvPendCount v) = 1)

/-- Command `i` completes in `s`: exec answers a next state whose queue is that of `s`, whose derived objects are in place, which differs from
`s` only inside the frame, and whose device satisfies `P`. -/
def Completes (i : Instr) (s : State) (ps : List Part) (os : Nat → Prop) (es : List Nat) (P : Dev → Prop) : Prop :=
  ∃ t, exec i s = .next t ∧ t.pending = s.pending ∧ t.dev.Settled ∧ Frame s.dev t.dev ps os es ∧ P t.dev

/-- Command `i` answers a next state in `s`, settled and with the queue as it was, whose device satisfies `P`. -/
def Answers (i : Instr) (s : State) (P : Dev → Prop) : Prop := ∃ t, exec i s = .next t ∧ t.pending = s.pending ∧ t.dev.Settled ∧ P t.dev

/-! ### Resets -/

/-- The cause and detail of a reset that asks for `c`: after thermal shutdown it is THERMAL with the sensor, whatever ends it (R570). -/
def Dev.causeOf (d : Dev) (c : Nat × Nat) : Nat × Nat :=
  match d.pw.thermal with
  | some t => (7, t)
  | none => c

/-- `e` is the device that a reset of `d` leaves (R566, R567): in reset, with cause and detail `c`; eNVM, flash, the OTP and every K object
as they were; the objects of `news` at their values; every other object at its reset value; no session, subscription, image, context or log
entry in RAM, and no event latched. -/
structure WasReset (d e : Dev) (c : Nat × Nat) (news : List (Nat × Nat)) : Prop where
  held : e.pw.phase = .held ∧ e.pw.restored = false
  cause : (e.pw.cause, e.pw.detail) = c
  kept : e.nvm = d.nvm ∧ e.flash = d.flash ∧ (e.sec.seed, e.sec.ident, e.sec.epoch) = (d.sec.seed, d.sec.ident, d.sec.epoch)
  objs : ∀ o, quiet o = true → o ∉ news.map Prod.fst → e.get o = if Dict.cls o = .K then d.get o else Dict.dflt o
  news : ∀ p ∈ news, e.nat p.1 = p.2
  gone : e.host.sessions = [] ∧ e.host.subs = [] ∧ e.wt.img = none ∧ e.ll.img = none ∧ e.cx.ctxs = [] ∧ e.log.ram = []
  clear : ∀ v < 128, v ∉ notifyEvents → e.latched v = false

/-- Command `i` resets the device in `s`. -/
def Resets (i : Instr) (s : State) (c : Nat × Nat) (news : List (Nat × Nat)) (P : Dev → Prop) : Prop :=
  Answers i s (fun e => WasReset s.dev e c news ∧ P e)

/-! ### Writes -/

/-- The transaction that writes items as a command of its own. -/
def writeTxn (org : Origin) (l : List TItem) : Txn := { org := org, opcode := 3, items := l, limit := 65536 }

/-- The device as a transaction finds it: its number issued and counted (R366). -/
def Dev.txnOpen (d : Dev) : Dev := ({ d with log := { d.log with txn := (d.log.txn + 1) % 2 ^ 32 } } : Dev).inc O.syTxnCount

/-- The dictionary server runs, and the nine checks of Table 13.4 accept a transaction of these writes. -/
def Dev.accepts (d : Dev) (org : Origin) (l : List TItem) : Prop := d.serverUp = true ∧ ∃ z, d.txnOpen.txnCheck (writeTxn org l) = .ok z

/-- The parts that any accepted write may change: transaction and log counters, and the stores and heartbeat it asks for. -/
def writeParts : List Part := [.log, .nvm, .store, .host]

/-- The objects that any accepted write may change beside its own. -/
def writeObjs : List Nat := [O.syTxnCount, O.lgCfgDirty, O.lgDmT, O.lgDmState, O.lgDmMismatches]

/-- An object whose unit has no reaction of its own to a write, and that nothing else touches when a write is accepted. -/
def inert (o : Nat) : Bool :=
  let i := O.item o
  let e := O.elem o
  quiet o && !writeObjs.contains o && !(eventObjs 126).contains o && decide (o ≠ O.syDefaultsCmd) && decide (o ≠ O.syStatsClear) &&
  (match O.area o with
   | 0 | 3 => true
   | 1 => decide (i ≠ 7) && decide (o ≠ O.pwSupplyCtrl) && decide (o ≠ O.pwPwRequest)
   | 4 => decide (i ≠ 1)
   | 5 => decide (o ≠ O.cpLsynCalCmd) && !(decide (i % 0x20 = 0) && (decide (e = 0) || decide (e = 3))) && !(decide (i % 0x20 = 6) && (decide (e = 0) || decide (e = 0xA)))
   | 6 => decide (i ≠ 0x300)
   | 9 => decide (i ≠ 1) && decide (i ≠ 2)
   | 10 => decide (i ≠ 0x10) && decide (o ≠ O.llLlActivate) && decide (o ≠ O.llPosLat)
   | 11 => decide (i < 0x11) || decide (0x13 < i) && decide (i ≠ 0x26) && decide (o ≠ O.sdSvcDump)
   | 14 => decide (o ≠ O.ntPlcaEnable) && decide (o ≠ O.ntPlcaNodeId)
   | 17 => decide (i ≠ 0x10)
   | 18 => decide (o ≠ O.tmPtpEnable) && decide (o ≠ O.tmTimeSet)
   | _ => false)

/-- The objects that a refused transaction may change. -/
def refuseObjs : List Nat := [O.syTxnCount, O.syTxnRefused, O.syTxnLastCode, O.cxRefusals, O.cxLastRefusal, O.lnTapRefusals]

/-! ### Tender -/

/-- Message `m` has been handed to its transport between `d` and `e` (R402, R457). -/
def Dev.handed (d e : Dev) (m : OutMsg) : Prop :=
  if m.port = 4 then ∃ n, segmentsOf 255 4092 n 0 m.bytes <:+: e.host.spi.drop d.host.spi.length
  else if m.port = 5 ∨ m.port = 6 then
    ∃ n, (segmentsOf 255 248 n 0 m.bytes).map (fun b => (m.dest, b)) <:+: (e.twp (m.port - 5)).out.drop (d.twp (m.port - 5)).out.length
  else
    ∃ x ∈ e.host.sent.drop d.host.sent.length, { x with sender := m.sender, frames := m.frames } = m ∧ x.sender = d.linkSelf m.port m.dest ∧
      ∃ n, x.frames = ({ d with host := { d.host with msgno := [(m.port, n)] } } : Dev).framesOf m

/-- The reply to `m` with flags `fl` (1 REPLY, 5 ERROR) and a body: outside a session, or in session `y` with SEQ `q` and its MAC (R395, R404). -/
def replyMsg (m : TMsg) (x : Option Session) (fl : Nat) (body : List Byte) (q : Nat) : OutMsg :=
  match x with
  | none => { port := m.port, dest := m.src, opcode := m.opcode, mflags := fl, tag := m.tag, body := body }
  | some y => { port := m.port, dest := m.src, opcode := m.opcode, mflags := fl + 2, session := y.num, tag := m.tag, seq := q, body := body,
                mac := hmac y.sk (headerBytes m.opcode (fl + 2) y.num m.tag body.length q ++ body) }

/-- The reply to `m` with this body has gone out; in a session with a SEQ above every one before. -/
def Dev.answered (d e : Dev) (m : TMsg) (x : Option Session) (body : List Byte) : Prop :=
  ∃ q, d.handed e (replyMsg m x 1 body q) ∧ ∀ y, x = some y → y.txSeq < q

/-- The ERROR reply to `m` with a code of Table 14.3 has gone out. -/
def Dev.erred (d e : Dev) (m : TMsg) (x : Option Session) (code : Nat) : Prop :=
  ∃ q, d.handed e (replyMsg m x 5 (leBytes 1 code ++ leBytes 3 0) q) ∧ ∀ y, x = some y → y.txSeq < q

/-- `m` has arrived on a transport that is up, and R404 takes it: outside a session (`none`), or in session `x`. -/
def Dev.takes (d : Dev) (m : TMsg) (x : Option Session) : Prop :=
  d.tenderUp m.port = true ∧
  match x with
  | none => d.sessCheck m = .outside
  | some y => d.sessCheck m = .passed y ∧ m.session ≠ 0

/-- The device with `m` taken from its queue, and noted in its session. -/
def Dev.taken (d : Dev) (m : TMsg) (x : Option Session) : Dev :=
  match x with
  | none => d.tenderTake m
  | some y => (d.tenderTake m).sessTake y m

/-- The command that a message is, by its opcode (Table 14.2), but for AUTH_PROVE and the opcodes that only the device sends. -/
def tenderCmd (m : TMsg) : Instr :=
  match m.opcode with
  | 0x01 => .read m
  | 0x02 => .write m
  | 0x03 => .multi m
  | 0x10 => .subscribe m
  | 0x11 => .unsubscribe m
  | 0x20 => .logRead m
  | 0x21 => .daymark m
  | 0x30 => .authHello m
  | 0x32 => .close m
  | 0x3F => .ping m
  | _ => .unknownOpcode m

/-! ### Units -/

/-- In `e` the capture hardware outside chain `n` is as in `d`: every other chain, every door, the synthesiser. -/
def Dev.chainOnly (d e : Dev) (n : Nat) : Prop := (∀ m, m ≠ n → e.chain m = d.chain m) ∧ e.rf.doors = d.rf.doors ∧ e.rf.lsyn = d.rf.lsyn

/-- The same, but for the users that the synthesiser remembers: those that no longer need LO_L are dropped (R41). -/
def Dev.chainTrim (d e : Dev) (n : Nat) : Prop :=
  (∀ m, m ≠ n → e.chain m = d.chain m) ∧ e.rf.doors = d.rf.doors ∧ e.rf.lsyn = { d.rf.lsyn with users := d.rf.lsyn.users &&& e.lsynUsers }

/-- The objects of the feed of chain `n` and of the Buoys on it. -/
def feedObjs (n : Nat) : List Nat :=
  [O.cpFeedState n, O.blFwState, O.blBuoyState (4 * n), O.blBuoyState (4 * n + 1), O.blBuoyState (4 * n + 2), O.blBuoyState (4 * n + 3),
    O.blDlQueued (4 * n), O.blDlQueued (4 * n + 1), O.blDlQueued (4 * n + 2), O.blDlQueued (4 * n + 3)]

/-- The Buoys of chain `n` after its feed has left ON: RAMP, ACTIVE and LOST ones at FEED_OFF (Table 15.7). -/
def Dev.buoysOff (d e : Dev) (n : Nat) : Prop :=
  ∀ k < 4, e.nat (O.blBuoyState (4 * n + k)) =
    if d.nat (O.blBuoyState (4 * n + k)) = 1 ∨ d.nat (O.blBuoyState (4 * n + k)) = 2 ∨ d.nat (O.blBuoyState (4 * n + k)) = 4 then 3
    else d.nat (O.blBuoyState (4 * n + k))

/-- What contexts that go to HOLD may change; event 65 goes with it. -/
def holdSets : List (Nat → Prop) := [only (O.cxEventContexts 1), each 64 O.cxState, each 64 O.cxTState, each 64 O.cxHoldCount]

/-- Context `c` has a tap on a door C that `p` selects by its chain. -/
def Dev.usesDoorC (d : Dev) (p : Nat → Bool) (c : Nat) : Bool :=
  (d.cxTaps c).any fun x => p (d.nat (O.lnTapChain x.2)) && decide (d.nat (O.lnTapDoor x.2) = 2)

/-- Context `c` has a tap on chain `n`. -/
def Dev.usesChain (d : Dev) (n c : Nat) : Bool := (d.cxTaps c).any fun x => decide (d.nat (O.lnTapChain x.2) = n)

/-- Of the contexts of `d` that are LOCKED or SHADOW, those of `p` are in HOLD in `e`; every other context keeps its state. -/
def Dev.holds (d e : Dev) (p : Nat → Bool) : Prop :=
  ∀ c, 1 ≤ c → c < 64 → e.cxSt c = if (d.cxSt c = 3 ∨ d.cxSt c = 4) ∧ p c = true then 5 else d.cxSt c

/-- In `e` every context but `c` holds what it holds in `d`. -/
def Dev.ctxOnly (d e : Dev) (c : Nat) : Prop := ∀ m, m ≠ c → e.ctx m = d.ctx m

/-- The objects of the four selectors of context `c`. -/
def selSets (c : Nat) : List (Nat → Prop) := [each 4 (O.cxSelState c), each 4 (O.cxSelCodec c), each 4 (O.cxDecFs c), each 4 (O.cxDecSlot c)]

/-- The counts of contexts (Table 4.10) and TAPS_RESERVED. -/
def countObjs : List Nat := [O.cxWuUsed, O.cxActive, O.cxNDab, O.cxNDrm, O.cxNFm, O.cxNNrsc5, O.cxNSentry, O.lnTapsReserved]

/-- A context in LOCKED or SHADOW as its REQUEST in effect has it. -/
def Dev.lockedAs (d e : Dev) (c : Nat) : Prop := e.cxSt c = if d.cxEff c (O.cxRequest c) = 2 then 4 else 3

/-- A 32-bit counter has gone up by `k`, where it does not pass its width. -/
def Dev.counted (d e : Dev) (o k : Nat) : Prop := d.nat o + k < 2 ^ 32 → e.nat o = d.nat o + k

/-- Event `v` with argument `a` has occurred once, if the router can take it. -/
def Dev.told (d e : Dev) (v a : Nat) : Prop := d.canRaise v = true → Occurred d e v a

/-- A KIND 3 record with this code, OLD and NEW has entered the log, where the configuration has been restored (before that it waits, R385). -/
def Dev.recorded (d e : Dev) (code old new : Nat) : Prop :=
  d.pw.restored = true → ∃ r ∈ e.log.ram, r.kind = 3 ∧ r.result = code ∧ r.old = old ∧ r.new = new ∧ r.t = d.now ∧ d.log.next ≤ r.seq

/-- In `e` core `k` is `x`, every other core is as in `d`, and the rest of the Keeper state is that of `p`. -/
def Dev.kpNow (d e : Dev) (k : Nat) (x : Core) (p : KpState) : Prop :=
  e.core k = x ∧ (∀ j, j ≠ k → e.core j = d.core j) ∧ { e.kp with cores := [] } = { p with cores := [] }

/-- Stack-mode command `i` of core `k`: nothing happens while the core is not in stack mode, clocked and running; else the core becomes
`r`, and with `none` the fault of R479 resets the device. -/
def stackDoes (i : Instr) (s : State) (k : Nat) (r : Option Core) : Prop :=
  (s.dev.stackOn k = false → Completes i s [] noObj [] (fun _ => True)) ∧
  (s.dev.stackOn k = true →
    match r with
    | some x => Completes i s [.kp] noObj [] (fun e => s.dev.kpNow e k x s.dev.kp)
    | none => Resets i s (s.dev.causeOf (6, k)) [(O.pwBootCount, 1)] (fun _ => True))

end Sys2Proof.Machine
end

