-- ==== Sys2Proof/Certificates/Slice0/Obligations.lean ====
section
/-! DEFINITION. The statements for the provers. Each docstring says what its statement says; what a command may touch beside is its frame
(`Completes`), and a statement that rests on a log entry names it. -/

open Sys2Proof Sys2Proof.Machine

/-- For every command c, device d and queue q, step of the state with queue c, then q, is exec of c on d with the queue q. On an empty queue
step answers a next state whose device time and elapsed time are one nanosecond later; the queue stays empty and no object, event or other
part of the device changes. That an idle step is a nanosecond is the model's choice (log 1). (98_reader.md) -/
def Obligations.StepRunsFrontCommand : Prop :=
  (∀ (c : Instr) (d : Dev) (q : List Instr), Machine.step { dev := d, pending := c :: q } = exec c { dev := d, pending := q }) ∧
  (∀ d : Dev, ∃ t, Machine.step { dev := d, pending := [] } = .next t ∧ t.pending = [] ∧ t.dev.now = d.now + 1 ∧ t.dev.mono = d.mono + 1 ∧
    Frame d t.dev [.time] noObj [])

/-- In State.reset no command waits, the device is in reset before the configuration is restored, every derived object holds its value, no
event is latched, every object reads its factory default, and flash, the early watch region, local memories and shared SRAM are in canonical
form. Which values objects without a stated reset value have is the model's choice (log 2). (R566, R571) -/
def Obligations.ResetStateIsSound : Prop :=
  State.reset.pending = [] ∧ State.reset.dev.pw.phase = .held ∧ State.reset.dev.pw.restored = false ∧ State.reset.Sound ∧ State.reset.QueueOk ∧
  (∀ v < 128, State.reset.dev.latched v = false) ∧ (∀ o, State.reset.dev.get o = Dict.dflt o) ∧
  Memory.wf State.reset.dev.flash = true ∧ Memory.wf State.reset.dev.nvm.early = true ∧ Memory.wf State.reset.dev.kp.lmem = true ∧
  Memory.wf State.reset.dev.kp.sram = true

/-- From every sound state whose queue holds well-formed commands, a step answers a next state that is sound again: the host pins, log
positions, session and subscription counts, PW_STATE, CAL_STATE and decoder counts hold what the rest of the state gives them; the queue is
the old one without its front command; and an exec of any command, in every state sound or not, answers a sound state with its queue
unchanged. (R525, R551, R386, R323) -/
def Obligations.StepsKeepSound : Prop :=
  (∀ s : State, s.Sound → s.QueueOk → ∃ t, Machine.step s = .next t ∧ t.Sound ∧ t.QueueOk ∧ t.pending = s.pending.tail) ∧
  (∀ (i : Instr) (s : State), ∃ t, exec i s = .next t ∧ t.Sound ∧ t.pending = s.pending)

/-- decodeTableWord answers none for every word of every width, and withFetchWord leaves every state as it is. (98_reader.md) -/
def Obligations.NoWordSpellsACommand : Prop :=
  ∀ (n w : Nat) (s : State), decodeTableWord n w = none ∧ s.withFetchWord n w = s

/-- After every command in every state, bit i of EV_HOSTIRQ_STATE, for pins 0 and 1, is 1 exactly when some event of 0 to 127 has its latch
set, its mask clear and bit i of EV_HOST set, and the pin is not in the release that follows an acknowledge. Holds in every state that a
command answers, whatever the state before. (R525) -/
def Obligations.HostPinsFollowEvents : Prop :=
  ∀ (i : Instr) (s t : State), exec i s = .next t → ∀ n < 2,
    ((t.dev.nat O.evEvHostirqState).testBit n = true ↔
      (∃ e < 128, t.dev.latched e = true ∧ t.dev.masked e = false ∧ (t.dev.nat (O.evEvHost e)).testBit n = true) ∧
      (if n = 0 then t.dev.ev.reassert0 else t.dev.ev.reassert1) = false)

/-- RESET_PIN always, BROWN_OUT of a supply, REFCLK_LOSS, the expiry of a running watchdog, the boot watchdog, the delayed reset after a
double fault, a scheduled reset and DEBUG_RESET at level CONTROL each leave the device in reset: cause and detail as Table 21.5 gives
(THERMAL after thermal shutdown), eNVM, flash, OTP and K objects kept, BOR_COUNT and WDT_COUNT counted from 0, every other object at its
reset value, no session, subscription, image, context or RAM log entry, and no event latched. A brown-out of VDD_AO is a power-on reset
whatever came before. BOOT_COUNT reads 1 until the statistics are restored. (R559, R563, R566, R567, R568, R569, R552) -/
def Obligations.ResetSources : Prop :=
  ∀ s : State,
    Resets .resetPin s (s.dev.causeOf (2, 0)) [(O.pwBootCount, 1)] (fun _ => True) ∧
    (∀ v, v ≠ 5 → s.dev.pw.phase ≠ .standby →
      Resets (.brownOut v) s (s.dev.causeOf (3, v)) [(O.pwBootCount, 1), (O.pwBorCount, 1)] (fun _ => True)) ∧
    Resets (.brownOut 5) s (1, 0) [(O.pwBootCount, 1)] (fun _ => True) ∧
    (s.dev.pw.phase ≠ .standby → s.dev.pw.refclkLost = false →
      Resets .refclkLoss s (s.dev.causeOf (12, 0)) [(O.pwBootCount, 1)] (fun e => e.pw.refclkLost = true)) ∧
    (∀ k, s.dev.wdtRuns k = true →
      Resets (.watchdogExpiry k) s (s.dev.causeOf (4, k)) [(O.pwBootCount, 1), (O.pwWdtCount, 1)]
        (fun e => Tab.get 0 s.dev.kp.wdtAt k + 1000000 * s.dev.nat O.pwWdtMs ≤ e.mono)) ∧
    (s.dev.pw.phase = .starting → s.dev.pw.entered = false → s.dev.pw.step5 = false → (s.dev.core 0).dbg = false →
      Resets .bootWatchdog s (s.dev.causeOf (4, 255)) [(O.pwBootCount, 1)] (fun e => s.dev.pw.bootAt + 2000000000 ≤ e.mono)) ∧
    (∀ k t, s.dev.pw.haltAt.find? (fun p => decide (p.1 = k)) = some (k, t) → s.dev.nat O.pwHaltResetMs ≠ 0 →
      Resets (.keeperHaltReset k) s (s.dev.causeOf (5, k)) [(O.pwBootCount, 1)] (fun e => t + 1000000 * s.dev.nat O.pwHaltResetMs ≤ e.mono)) ∧
    (∀ c t a, s.dev.pw.pendReset = some (c, t, a) → Resets .deferredReset s (s.dev.causeOf (c, t)) [(O.pwBootCount, 1)] (fun e => a ≤ e.mono)) ∧
    (s.dev.nat O.scDebugState = 2 → Resets .debugReset s (s.dev.causeOf (13, 0)) [(O.pwBootCount, 1)] (fun _ => True))

/-- In reset with REFCLK present, RESET_RELEASE enters start-up: device time is 0, elapsed time is kept, recovery is requested by STRAP3
after a power-on or pin reset or by cause RECOVERY. With no valid calibration bank, the straps read STRAPS, RESET_CAUSE holds code, detail
and bit 16 of Table 21.5, K0 runs at 400 MHz, every chain is in power-up calibration and only these objects change. REFCLK_RETURN always
lets a held device be released and changes nothing else. (R563, R567, R571, R606) -/
def Obligations.ResetRelease : Prop :=
  ∀ s : State,
    (∀ straps, s.dev.pw.phase = .held → s.dev.pw.refclkLost = false →
      Answers (.resetRelease straps) s (fun e => e.pw.phase = .starting ∧ e.now = 0 ∧ e.mono = s.dev.mono ∧ e.pw.bootAt = s.dev.mono ∧
        e.sec.recovery = (if straps.testBit 3 = true ∧ (s.dev.pw.cause = 1 ∨ s.dev.pw.cause = 2) then 2 else if s.dev.pw.cause = 9 then 1 else 0))) ∧
    (∀ straps, s.dev.pw.phase = .held → s.dev.pw.refclkLost = false → s.dev.nvm.calA.valid = false → s.dev.nvm.calB.valid = false →
      Completes (.resetRelease straps) s [.time, .pw, .rf, .lens, .cal, .sec]
        (setsOf [O.syStraps, O.pwResetCause, O.pwWakeCause, O.pwKeeperFreq 0] [fun o => ∃ n < 6, o = O.cpChainState n]) []
        (fun e => e.nat O.syStraps = straps % 16 ∧
          e.nat O.pwResetCause = s.dev.pw.cause + 256 * s.dev.pw.detail + (if s.dev.pw.prev5 then 65536 else 0) ∧
          e.nat (O.pwKeeperFreq 0) = 400 ∧ ∀ n < s.dev.chains, e.nat (O.cpChainState n) = 1)) ∧
    Completes .refclkReturn s [.pw] noObj [] (fun e => e.pw = { s.dev.pw with refclkLost := false })

/-- With the fabric powered, SUPPLY_WARNING of a reading below the supply's warning threshold sets its bit of SUPPLY_WARN and its reading,
counts an onset of a power-fail condition in PFAIL_COUNT, and raises event 4 with the supply index. PFAIL_ONSET with WAKE1_PFAIL holds the
condition and counts its onset. PFAIL_CLEAR ends the condition: SUPPLY_WARN reads 0. WATCHDOG_WARNING of a running watchdog raises event 7
with the Keeper, no earlier than WDT_MS / 2 after its restart. Nothing else changes. (R559, R560, R568, R521) -/
def Obligations.SuppliesAndWatchdogWarning : Prop :=
  ∀ s : State,
    (∀ v mv, v < 6 → mv < supplyWarnMv v → s.dev.fabricOn = true →
      Completes (.supplyWarning v mv) s [] (among [O.pwPfailCount, O.pwSupplyWarn, O.pwSupplyMv v]) [4] (fun e =>
        (e.nat O.pwSupplyWarn).testBit v = true ∧ e.nat (O.pwSupplyMv v) = mv ∧
        (s.dev.canRaise 4 = true → Occurred s.dev e 4 v))) ∧
    (s.dev.fabricOn = true → s.dev.flag O.pwWake1Pfail = true → s.dev.pw.wake1Low = false →
      Completes .pfailOnset s [.pw] (among [O.pwPfailCount]) [] (fun e => e.pw = { s.dev.pw with wake1Low := true } ∧
        (s.dev.pfail = false → s.dev.nat O.pwPfailCount + 1 < 2 ^ 32 → e.nat O.pwPfailCount = s.dev.nat O.pwPfailCount + 1))) ∧
    Completes .pfailClear s [.pw] (among [O.pwSupplyWarn]) [] (fun e =>
      e.nat O.pwSupplyWarn = 0 ∧ e.pw = { s.dev.pw with wake1Low := false } ∧ e.pfail = false) ∧
    (∀ k, s.dev.wdtRuns k = true →
      Completes (.watchdogWarning k) s [.time] noObj [7] (fun e =>
        Tab.get 0 s.dev.kp.wdtAt k + 500000 * s.dev.nat O.pwWdtMs ≤ e.mono ∧ (s.dev.canRaise 7 = true → Occurred s.dev e 7 k)))

/-- WAKE_PIN whose mode is not off (WAKE1 only without WAKE1_PFAIL), WAKE_TIMER with a time set, and THERMAL_RESTART_CHECK below 120 °C
after thermal shutdown: from STANDBY the device is reset with cause STANDBY_WAKE (THERMAL after thermal shutdown) and the wake cause, which
event 3 is to report; during SENTRY_ENTRY or STANDBY_ENTRY a pin wake is only latched, the lower code of two; in SENTRY, WAKE_CAUSE holds
the code and the watch image is to take effect again. (R553, R555, R556, R557, R567, R570) -/
def Obligations.Wakes : Prop :=
  ∀ s : State,
    (∀ pin c, ((pin = 0 ∧ s.dev.pw.aoWake0 ≠ 0 ∧ c = 1) ∨ (pin ≠ 0 ∧ s.dev.pw.aoWake1 ≠ 0 ∧ s.dev.pw.aoPfail = false ∧ c = 2)) →
      (s.dev.pw.phase = .standby →
        Resets (.wakePin pin) s (s.dev.causeOf (11, c)) [(O.pwBootCount, 1)] (fun e => e.pw.wakeEvent = some c)) ∧
      (s.dev.pw.phase = .standbyEntry ∨ s.dev.pw.phase = .sentryEntry →
        Completes (.wakePin pin) s [.pw] noObj [] (fun e =>
          e.pw = { s.dev.pw with latched := some (match s.dev.pw.latched with | some x => min x c | none => c) })) ∧
      (s.dev.pw.phase = .sentry → s.dev.pw.waking = none →
        Completes (.wakePin pin) s [.au, .bl, .cal, .lens, .mf, .pw, .rf, .wt] anyObj anyEvent (fun e =>
          e.nat O.pwWakeCause = c ∧ e.wt.resume = true ∧ (∀ k < 4, e.num (O.pwKeeperFreq k) = s.dev.num (O.pwKeeperFmax k))))) ∧
    (s.dev.pw.aoTimer ≠ 0 → s.dev.pw.phase = .standby → (s.dev.pw.thermal.isSome = true → s.dev.pw.aoThermRestart = true) →
      Resets .wakeTimer s (s.dev.causeOf (11, 3)) [(O.pwBootCount, 1)] (fun e => e.pw.wakeEvent = some 3 ∧
        s.dev.pw.reachedAt + 900 * s.dev.pw.aoTimer * 1000000 ≤ e.mono)) ∧
    (∀ t8 sensor, s.dev.pw.phase = .standby → s.dev.pw.thermal = some sensor → s.dev.pw.aoThermRestart = true →
      (t8 < 12000 → Resets (.thermalRestartCheck t8) s (7, sensor) [(O.pwBootCount, 1)] (fun e => e.pw.wakeEvent = some 5)) ∧
      (12000 ≤ t8 → Completes (.thermalRestartCheck t8) s [.time, .pw] noObj [] (fun e => e.pw = { s.dev.pw with reachedAt := e.mono })))

/-- At the end of SENTRY_ENTRY without a latched wake, SENTRY_REACHED enters SENTRY: PW_STATE 4, K0 at 200 MHz, K1 to K3 at 0, audio off,
the Buoy modem stopped (log 102), and a DISCIPLINED device in HOLDOVER; only power, audio, the modem, the time flags of open sweep
intervals, those objects and events 2 and 101 change. At the end of STANDBY_ENTRY with no store pending and no power-fail condition,
STANDBY_REACHED enters STANDBY: K objects and flash are kept, every other object reads its reset value, the wake configuration has been
copied to the AO island, and SUPPLY_EN is low where SUPPLY_CTRL asks for it. While a store is pending it changes nothing. (R528, R554, R556,
R561, R574) -/
def Obligations.SentryAndStandbyReached : Prop :=
  ∀ s : State,
    (s.dev.pw.phase = .sentryEntry → s.dev.pw.latched = none →
      Completes .sentryReached s [.au, .pw, .bl, .lens]
        (setsOf [O.pwKeeperFreq 0, O.pwKeeperFreq 1, O.pwKeeperFreq 2, O.pwKeeperFreq 3, O.tmTimeState] [each2 8 2 O.auSideState, each 32 O.auRouteState]) [2, 101]
        (fun e => e.pw.phase = .sentry ∧ e.nat O.pwPwState = 4 ∧ e.nat (O.pwKeeperFreq 0) = 200 ∧
          (∀ k, 1 ≤ k → k < 4 → e.nat (O.pwKeeperFreq k) = 0) ∧ e.au.on = false ∧ e.bl.todo = [] ∧ e.bl.rx = [] ∧ e.pw.reachedAt = s.dev.mono ∧
          e.nat O.tmTimeState = (if s.dev.nat O.tmTimeState = 2 then 3 else s.dev.nat O.tmTimeState))) ∧
    (s.dev.pw.phase = .standbyEntry → s.dev.storesIdle = true → s.dev.pfail = false → s.dev.pw.latched = none →
      Answers .standbyReached s (fun e => e.pw.phase = .standby ∧ e.flash = s.dev.flash ∧
        (∀ o, quiet o = true → Dict.cls o = .K → e.get o = s.dev.get o) ∧ (∀ o, quiet o = true → Dict.cls o ≠ .K → e.get o = Dict.dflt o) ∧
        e.pw.aoWake0 = s.dev.nat O.pwWake0Mode ∧ e.pw.aoTimer = s.dev.nat O.pwWakeTimerS ∧
        e.pw.supplyEn = (if s.dev.flag O.pwSupplyCtrl then some false else none))) ∧
    (s.dev.pw.phase = .standbyEntry → s.dev.storesIdle = false → Completes .standbyReached s [] noObj [] (fun e => e.pw.phase = .standbyEntry))

/-- TEMP_SAMPLE with the fabric powered and every reading below 150 °C shows nine readings in TEMP, keeps their maximum in TEMP_MAX, and
raises event 5 with the hottest sensor when warnings are armed and the reading reaches THERM_WARN_C. With a reading of 150 °C or more the
device enters STANDBY with the thermal latch set to that sensor, eNVM and flash kept. THERM_RANK_RISE at 140.0 °C or more raises THERM_RANK
by 1, to 255 at most, 100 ms after the step before; the first step raises event 56. THERM_RANK_FALL below 135.0 °C lowers it by 1, 1 s after
the step before, and event 57 is raised when it reaches 0. (R570, R158, R521) -/
def Obligations.TemperatureAndThermalRank : Prop :=
  ∀ s : State,
    (∀ l : List Int, s.dev.fabricOn = true → l.length = 9 → l.getD (hottest l) 0 < 15000 →
      Completes (.tempSample l) s [.time, .ticks, .pw, .wt, .cal] (setsOf [O.pwTempMax, O.caLinkCalValid] [each 9 O.pwTemp, each 7 O.caLaneDue, each 24 O.caLevelUnc]) [5]
        (fun e => (∀ i < 9, e.num (O.pwTemp i) = l.getD i 0) ∧ e.num O.pwTempMax = max (s.dev.num O.pwTempMax) (l.getD (hottest l) 0) ∧
          (s.dev.pw.thArmed = true → s.dev.num O.pwThermWarnC ≤ l.getD (hottest l) 0 → e.pw.thArmed = false ∧
            (s.dev.canRaise 5 = true → Occurred s.dev e 5 (hottest l))))) ∧
    (∀ l : List Int, s.dev.fabricOn = true → 15000 ≤ l.getD (hottest l) 0 →
      Answers (.tempSample l) s (fun e => e.pw.phase = .standby ∧ e.pw.thermal = some (hottest l) ∧ e.nvm = s.dev.nvm ∧ e.flash = s.dev.flash ∧
        (∀ o, quiet o = true → Dict.cls o ≠ .K → e.get o = Dict.dflt o))) ∧
    (s.dev.fabricOn = true → 14000 ≤ s.dev.dieTemp →
      Completes .thermRankRise s [.time, .wt] (among [O.wtThermRank]) [56] (fun e =>
        e.nat O.wtThermRank = min 255 (s.dev.nat O.wtThermRank + 1) ∧ e.wt.rankUpAt = some e.mono ∧
        (∀ t, s.dev.wt.rankUpAt = some t → t + 100000000 ≤ e.mono) ∧
        (s.dev.wt.rankUpAt = none → s.dev.canRaise 56 = true → e.latched 56 = true))) ∧
    (s.dev.fabricOn = true → s.dev.dieTemp < 13500 → s.dev.nat O.wtThermRank ≠ 0 →
      Completes .thermRankFall s [.time, .wt] (among [O.wtThermRank]) [57] (fun e =>
        e.nat O.wtThermRank = s.dev.nat O.wtThermRank - 1 ∧ (∀ t, s.dev.wt.rankDownAt = some t → t + 1000000000 ≤ e.mono) ∧
        (s.dev.nat O.wtThermRank = 1 → s.dev.canRaise 57 = true → e.latched 57 = true)))

/-- CONFIG_RESTORE, once K0 has left the boot ROM and no dictionary port has a request, completes: the dictionary server runs, the device
stays in STARTING, every Keeper is at its KEEPER_FMAX, and a BOOT record with the reset cause takes the SEQ at which the log resumes. With
no valid configuration bank every P object reads its factory default, no user default is set and CFG_BANK is 0; with one, CFG_BANK and
CFG_SEQ name it, every good value record that is the only one of its object gives the object its value, and a P object without a record
reads its factory default. BOOT_IMAGE_SELECT with no check under way completes: it begins to check the area of BOOT_BANK, then the other
one, with ACT_RESULT 1; the early watch takes effect at the next period start if EARLY_ENABLE is 1, EARLY_RF is not 0, no image runs and the
image of the early region passes its checks, and otherwise what waited stays. FULL_OPERATION, once every enabled chain is in RUN, a full
image runs or both areas have been rejected, the Light List is settled and every enabled transport is up, completes and enters RUN: T_FULL
holds the device time, PW_STATE is 2, and event 0 with the reset cause, event 2, and event 3 after a wake, are raised. What each does not
name stays. (R159, R378, R385, R528, R571, R572, R574) -/
def Obligations.StartUp : Prop :=
  ∀ s : State,
    (s.dev.pw.phase = .starting → s.dev.pw.entered = true → s.dev.pw.restored = false →
      (∀ k < 8, (Tab.get ({} : DictPort) s.dev.ports k).busy = false) →
      Completes .configRestore s [.au, .bl, .cal, .cx, .host, .kp, .lens, .lflags, .ll, .log, .mf, .nvm, .ports, .pw, .rf, .rings, .sec, .store, .tw,
        .udef, .wt] anyObj anyEvent (fun e => e.pw.restored = true ∧ e.pw.phase = .starting ∧ e.serverUp = true ∧
        (∀ k < 4, e.num (O.pwKeeperFreq k) = e.num (O.pwKeeperFmax k)) ∧
        (s.dev.log.held.length ≤ 4096 → s.dev.nvm.log.length ≤ 8192 → ∃ r ∈ e.log.ram, r.kind = 3 ∧ r.result = 1 ∧ r.seq = s.dev.nvm.resumeSeq ∧
          r.old = s.dev.causeWord ∧ r.t = s.dev.now) ∧
        (s.dev.nvm.cfgPick = none → e.nat O.lgCfgBank = 0 ∧ e.udef = [] ∧ ∀ o, quiet o = true → Dict.cls o = .P → e.get o = Dict.dflt o) ∧
        (∀ a, s.dev.nvm.cfgPick = some a →
          let b := if a then s.dev.nvm.cfgA else s.dev.nvm.cfgB
          e.nat O.lgCfgBank = (if a then 1 else 2) ∧ e.nat O.lgCfgSeq = b.seq ∧
          (∀ r ∈ b.recs, quiet r.oid = true → r.okFor s.dev.part .P = true → r.user = false → (∀ x ∈ b.recs, x.oid = r.oid → x.user = false → x = r) →
            e.get r.oid = r.value) ∧
          (∀ o, quiet o = true → Dict.cls o = .P → (∀ r ∈ b.recs, r.oid ≠ o) → e.get o = Dict.dflt o)))) ∧
    (s.dev.serverUp = true → s.dev.wt.checking = none →
      Completes .bootImageSelect s [.log, .nvm, .wt] (among [O.wtActResult]) [9] (fun e =>
        e.wt.checking = some (s.dev.nat O.wtBootBank) ∧ e.wt.bootTry = [3 - s.dev.nat O.wtBootBank, 0] ∧ e.wt.selected = true ∧
        e.nat O.wtActResult = 1 ∧ e.wt.img = s.dev.wt.img ∧
        e.wt.next = (let eb := memBytes s.dev.nvm.early 0 NvmUse.early.region.2
          if s.dev.flag O.wtEarlyEnable = true ∧ s.dev.nat O.wtEarlyRf ≠ 0 ∧ s.dev.wt.img = none ∧ s.dev.watchCheck eb 1 = 0
            then some (readImage eb, 3) else s.dev.wt.next))) ∧
    (s.dev.pw.phase = .starting → s.dev.pw.restored = true →
      (∀ n < s.dev.chains, s.dev.flag (O.cpChainEnable n) = true → s.dev.nat (O.cpChainState n) = 2) →
      (s.dev.nat O.wtRunBank = 1 ∨ s.dev.nat O.wtRunBank = 2 ∨
        s.dev.wt.selected = true ∧ s.dev.wt.checking = none ∧ s.dev.wt.next = none ∧ 3 ≤ s.dev.nat O.wtActResult) →
      s.dev.ll.checking = none → s.dev.ll.next = none →
      (s.dev.flag O.ntT1Enable = true → s.dev.nat O.ntT1Link = 1) → (s.dev.flag O.ntT1sEnable = true → s.dev.nat O.ntT1sStatus ≠ 0) →
      (s.dev.flag O.ntCanEnable = true → s.dev.nat O.ntCanState = 1 ∨ s.dev.nat O.ntCanState = 2) →
      Completes .fullOperation s [.cal, .pw, .store, .lens] (among [O.pwTFull]) [0, 2, 3] (fun e =>
        e.pw.phase = .run ∧ e.pw.full = true ∧ e.pw.wakeEvent = none ∧ e.nat O.pwTFull = s.dev.now ∧ e.nat O.pwPwState = 2 ∧
        (s.dev.canRaise 0 = true → Occurred s.dev e 0 s.dev.causeWord) ∧ (s.dev.canRaise 2 = true → Occurred s.dev e 2 2) ∧
        (∀ c, s.dev.pw.wakeEvent = some c → s.dev.canRaise 3 = true → Occurred s.dev e 3 c)))

/-- A write of PW_REQUEST that the nine checks accept: 1 with a watch image running asks the Watch to stop at the next period start and
changes nothing else but the log of the write, without one it enters READY with every lane down; 2 starts the power-up calibration of every
enabled chain and the choice of a watch image, and RUN is entered at once where no chain is enabled; 3 enters SENTRY_ENTRY with the wake
configuration copied to the AO island; 4 enters STANDBY_ENTRY; 5 schedules a reset with cause SOFTWARE 10 ms later. In READY a write of 1 or
3, and in RUN one of 2, is refused with STATE. (R552, R553, R554, R556, R574) -/
def Obligations.PowerRequests : Prop :=
  ∀ (s : State) (org : Origin),
    (s.dev.accepts org [writeNum O.pwPwRequest 1] → s.dev.wt.img.isSome = true →
      Completes (.pwRequestReady org) s (.wt :: writeParts) (among (O.pwPwRequest :: writeObjs)) [126] (fun e =>
        e.wt = { s.dev.wt with stopping := true })) ∧
    (s.dev.accepts org [writeNum O.pwPwRequest 1] → s.dev.wt.img = none →
      Completes (.pwRequestReady org) s ([.bl, .cal, .cx, .lens, .mf, .pw, .rf, .rings, .wt] ++ writeParts) anyObj anyEvent (fun e =>
        e.pw.phase = .ready ∧ e.nat O.pwPwState = 1 ∧ ∀ n < s.dev.chains, (e.chain n).feedHeld = true ∧ e.nat (O.cpChainState n) = 0)) ∧
    (s.dev.accepts org [writeNum O.pwPwRequest 2] → s.dev.wt.checking = none →
      Completes (.pwRequestRun org) s ([.bl, .cal, .lens, .mf, .pw, .rf, .wt] ++ writeParts) anyObj anyEvent (fun e =>
        ((e.pw.phase = .ready ∧ e.pw.rising = true) ∨ e.pw.phase = .run) ∧ e.wt.selected = true ∧
        ∀ n < s.dev.chains, s.dev.flag (O.cpChainEnable n) = true → e.nat (O.cpChainState n) = 1 ∧ e.pw.rising = true)) ∧
    (s.dev.accepts org [writeNum O.pwPwRequest 3] →
      Completes (.pwRequestSentry org) s ([.au, .bl, .cal, .cx, .lens, .ll, .mf, .pw, .rf, .rings] ++ writeParts) anyObj anyEvent (fun e =>
        e.pw.phase = .sentryEntry ∧ e.nat O.pwPwState = 3 ∧ e.pw.aoWake0 = s.dev.nat O.pwWake0Mode ∧ e.pw.aoWake1 = s.dev.nat O.pwWake1Mode ∧
        e.pw.aoTimer = s.dev.nat O.pwWakeTimerS)) ∧
    (s.dev.accepts org [writeNum O.pwPwRequest 4] →
      Completes (.pwRequestStandby org) s ([.au, .bl, .cx, .mf, .pw, .rf] ++ writeParts) anyObj anyEvent (fun e =>
        e.pw.phase = .standbyEntry ∧ e.nat O.pwPwState = 5)) ∧
    (s.dev.accepts org [writeNum O.pwPwRequest 5] →
      Completes (.pwRequestReset org) s (.pw :: writeParts) (among (O.pwPwRequest :: writeObjs)) [126] (fun e =>
        e.pw = { s.dev.pw with pendReset := some (10, 0, s.dev.mono + 10000000) })) ∧
    (s.dev.pw.phase = .ready → s.dev.pwRefused 1 = true ∧ s.dev.pwRefused 3 = true) ∧ (s.dev.pw.phase = .run → s.dev.pwRefused 2 = true)

/-- Every door that runs on a chain in RUN shows its detector; its index rises at once to the target gt of R50, or falls by one when gt is
lower and HOLD_MS and RELEASE_MS have passed, each time with STEP_COUNT, but within 2 µs of the last step the result is held as deferred.
GAIN_STEP_DEFERRED applies a held index no earlier than 2 µs after the last step. (R48, R50, R52) -/
def Obligations.GainControl : Prop :=
  ∀ s : State,
    (∀ det peak : List Int, Completes (.gainTick det peak) s [.lens, .rf, .ticks, .time]
      (setsOf [] [each2 6 3 O.cpDetLevel, each2 6 3 O.cpLnaNow, each2 6 3 O.cpAttenNow, each2 6 3 O.cpGainNow, each2 6 3 O.cpPinFs, each2 6 3 O.cpStepCount,
        each 6 O.cpLastMarkSample, each 6 O.cpLastMarkTime, each 6 O.cpLastMarkDoors, each 6 O.cpMarkCount, each 6 O.cpOvlActive]) []
      (fun e => ∀ n < s.dev.chains, ∀ i < 3, s.dev.doorLive n i = true →
        let x := s.dev.door n i
        let gt := s.dev.gainTarget n i (det.getD (3 * n + i) 0) (peak.getD (3 * n + i) 0)
        let spaced := ∀ t, x.lastStep = some t → t + 2000 ≤ e.mono
        e.num (O.cpDetLevel n i) = det.getD (3 * n + i) 0 ∧ (gt = x.g → e.door n i = x) ∧
        (x.g < gt → spaced → (e.door n i).g = gt ∧ (e.door n i).lastInc = some e.mono ∧ (e.door n i).lastStep = some e.mono ∧
          e.nat (O.cpLnaNow n i) = min 2 (gt / 12) ∧ e.nat (O.cpAttenNow n i) = gt - 12 * min 2 (gt / 12)) ∧
        (x.g < gt → ¬ spaced → e.door n i = { x with deferred := some gt }) ∧
        (gt < x.g → e.elapsed x.lastInc (s.dev.nat (O.cpHoldMs n i)) = true → e.elapsed x.lastDec (s.dev.nat (O.cpReleaseMs n i)) = true → spaced →
          (e.door n i).g = x.g - 1 ∧ (e.door n i).lastDec = some e.mono))) ∧
    (∀ n < 6, ∀ i < 3, ∀ g t, s.dev.doorLive n i = true → (s.dev.door n i).deferred = some g → (s.dev.door n i).lastStep = some t →
      Completes (.gainStepDeferred n i) s [.lens, .rf, .time] (among [O.cpLnaNow n i, O.cpAttenNow n i, O.cpGainNow n i, O.cpPinFs n i, O.cpStepCount n i,
        O.cpLastMarkSample n, O.cpLastMarkTime n, O.cpLastMarkDoors n, O.cpMarkCount n]) []
        (fun e => (e.door n i).g = g ∧ (e.door n i).deferred = none ∧ t + 2000 ≤ e.mono ∧ e.nat (O.cpLastMarkDoors n) = 2 ^ i))

/-- OVERLOAD_DECLARED counts the clipped samples of the lanes that a running chain uses, each index once (log 106). With the path enabled
and OVL_CLIP_COUNT of them on a lane it stamps LAST_OVL and, 1 µs or more after the last step, flags the samples from the first clipped one
to 394 after the mark of the step, or after it without a step, raises the index of every selected door not yet at 55 by OVL_STEP up to 55,
with OVL_COUNT, OVL_ACTIVE and event 16 + 4n; Otherwise only the count follows. Selected are the enabled doors within 3 dB of the highest
detector, or all of them when none reads above −6 dBFS; every other door keeps its index. OVERLOAD_PERSIST raises event 17 + 4n once; the
continuity ends 1 ms, and the event is armed again 1 s, after the last declaration. (R53, R54, R55, R56) -/
def Obligations.OverloadPath : Prop :=
  ∀ (s : State) (n : Nat), n < 6 →
    let c := s.dev.chain n
    (∀ own spare det, s.dev.chainUp n = true → s.dev.flag (O.cpOvlEnable n) = true →
      ((s.dev.lanesClipped n own spare).any (fun x => decide (s.dev.nat (O.cpOvlClipCount n) ≤ x.length)) = true) →
      let ages := ((s.dev.lanesClipped n own spare).flatMap id).eraseDups
      let sel := fun i => s.dev.flag (O.cpDoorEnable n i) = true ∧
        ((∀ j < 3, s.dev.flag (O.cpDoorEnable n j) = true → det.getD j (-32768) ≤ -600) ∨
         (∀ j < 3, s.dev.flag (O.cpDoorEnable n j) = true → det.getD j (-32768) - 300 ≤ det.getD i (-32768)))
      let steps := fun i => i < 3 ∧ sel i ∧ (s.dev.door n i).g ≠ 55 ∧ ∀ t, c.stepAt = some t → t + 1000 ≤ s.dev.mono
      Completes (.overloadDeclared n (own, spare) det) s [.lens, .rf]
        (setsOf [O.cpClipSamples n, O.cpLastOvl n, O.cpLastMarkSample n, O.cpLastMarkTime n, O.cpLastMarkDoors n, O.cpMarkCount n, O.cpOvlCount n, O.cpOvlActive n]
          [each 3 (O.cpLnaNow n), each 3 (O.cpAttenNow n), each 3 (O.cpGainNow n), each 3 (O.cpPinFs n), each 3 (O.cpStepCount n)]) [16 + 4 * n, 17 + 4 * n]
        (fun e => e.nat (O.cpLastOvl n) = s.dev.now ∧ (e.chain n).lastDecl = some s.dev.mono ∧ 
          (s.dev.nat (O.cpClipSamples n) + ages.length < 2 ^ 64 → e.nat (O.cpClipSamples n) = s.dev.nat (O.cpClipSamples n) + ages.length) ∧
          ((∀ t, c.stepAt = some t → t + 1000 ≤ s.dev.mono) → ∃ x ∈ e.rf.spans, x.chain = n ∧ x.door = 3 ∧ x.tag = tagOvl ∧
            x.first = s.dev.sampleIndex - ages.foldl Nat.max 0 ∧
            ((∃ i < 3, steps i) → x.last = some (e.nat (O.cpLastMarkSample n) + 394)) ∧ ((∀ i < 3, ¬ steps i) → x.last = some (x.first + 394))) ∧
          (∀ i, steps i → (e.door n i).g = min 55 ((s.dev.door n i).g + s.dev.nat (O.cpOvlStep n))) ∧
          (∀ i < 3, ¬ steps i → (e.door n i).g = (s.dev.door n i).g) ∧
          ((∃ i < 3, steps i) → e.flag (O.cpOvlActive n) = true ∧
            (s.dev.nat (O.cpOvlCount n) + 1 < 2 ^ 32 → e.nat (O.cpOvlCount n) = s.dev.nat (O.cpOvlCount n) + 1) ∧
            (s.dev.canRaise (16 + 4 * n) = true → ∃ m, Occurred s.dev e (16 + 4 * n) m ∧ ∀ i < 3, m.testBit i = true ↔ steps i)))) ∧
    (∀ own spare det, s.dev.chainUp n = true →
      (s.dev.flag (O.cpOvlEnable n) = false ∨ ∀ x ∈ s.dev.lanesClipped n own spare, x.length < s.dev.nat (O.cpOvlClipCount n)) →
      let k := (((s.dev.lanesClipped n own spare).flatMap id).eraseDups).length
      Completes (.overloadDeclared n (own, spare) det) s [.rf] (only (O.cpClipSamples n)) [] (fun e =>
        (s.dev.nat (O.cpClipSamples n) + k < 2 ^ 64 → e.nat (O.cpClipSamples n) = s.dev.nat (O.cpClipSamples n) + k) ∧
        e.chain n = { c with clipped := c.clipped + k } ∧ s.dev.chainOnly e n)) ∧
    (∀ codes det, s.dev.chainUp n = false → Completes (.overloadDeclared n codes det) s [] noObj [] (fun _ => True)) ∧
    (∀ t, c.at55 = some t → c.armed = true → s.dev.canRaise (17 + 4 * n) = true →
      Completes (.overloadPersist n) s [.rf, .time] noObj [17 + 4 * n] (fun e =>
        e.chain n = { c with armed := false } ∧ s.dev.chainOnly e n ∧ t + 1000000 * s.dev.nat (O.cpPersistMs n) ≤ e.mono ∧
        ∃ m, Occurred s.dev e (17 + 4 * n) m)) ∧
    (∀ t, c.lastDecl = some t →
      Completes (.overloadContinuityEnd n) s [.rf, .time] noObj [] (fun e =>
        e.chain n = { c with at55 := none } ∧ s.dev.chainOnly e n ∧ t + 1000001 ≤ e.mono) ∧
      Completes (.overloadPersistRearm n) s [.rf, .time] noObj [] (fun e =>
        e.chain n = { c with at55 := none, armed := true } ∧ s.dev.chainOnly e n ∧ t + 1000000000 ≤ e.mono))

/-- FEED_TRIP in RAMP, ON or OPEN drives the feed off and counts the fault: RETRY_WAIT with one retry fewer, or LATCHED when none is left;
event 18 + 4n occurs, and when the feed leaves ON the Buoys on it go to FEED_OFF. FEED_LIMIT_DWELL, 10 ms after ON or OPEN was entered, does
the same. The end of the inrush time makes RAMP ON, 50 ms make ON OPEN and OPEN ON, 10 s in ON restore the retries, and RETRY_MS in
RETRY_WAIT drives the feed again. Only the chain, its feed and its Buoys are touched. (R64, R65, R66, R67) -/
def Obligations.FeedProtection : Prop :=
  ∀ (s : State) (n : Nat), n < 6 →
    let c := s.dev.chain n
    let st := s.dev.nat (O.cpFeedState n)
    let tripped := fun (e : Dev) =>
      (e.nat (O.cpFeedState n) = if 0 < c.retryLeft then 5 else 6) ∧ s.dev.chainOnly e n ∧
      e.chain n = { c with feedEn := false, retryLeft := c.retryLeft - 1, feedSince := e.mono } ∧ (st = 2 → s.dev.buoysOff e n) ∧
      (s.dev.nat (O.cpFaultCount n) + 1 < 2 ^ 32 → e.nat (O.cpFaultCount n) = s.dev.nat (O.cpFaultCount n) + 1) ∧
      (s.dev.canRaise (18 + 4 * n) = true → e.latched (18 + 4 * n) = true ∧
        (s.dev.latched (18 + 4 * n) = false → e.nat (O.evEvArg (18 + 4 * n)) = 4))
    (st = 1 ∨ st = 2 ∨ st = 3 → Completes (.feedTrip n) s [.bl, .rf] (among (O.cpFaultCount n :: feedObjs n)) [113, 117, 18 + 4 * n] tripped) ∧
    (st = 2 ∨ st = 3 → Completes (.feedLimitDwell n) s [.bl, .rf, .time] (among (O.cpFaultCount n :: feedObjs n)) [113, 117, 18 + 4 * n] (fun e =>
      tripped e ∧ c.feedSince + 10000000 ≤ e.mono)) ∧
    (st = 1 → Completes (.feedInrushEnd n) s [.rf, .time] (only (O.cpFeedState n)) [] (fun e =>
      e.nat (O.cpFeedState n) = 2 ∧ s.dev.chainOnly e n ∧ e.chain n = { c with feedSince := e.mono } ∧
      c.feedSince + 1000000 * s.dev.nat (O.cpInrushMs n) ≤ e.mono)) ∧
    (st = 2 → s.dev.nat (O.cpIOpen n) ≠ 0 → Completes (.feedOpenDetect n) s [.bl, .rf, .time] (among (feedObjs n)) [113, 117, 18 + 4 * n] (fun e =>
      e.nat (O.cpFeedState n) = 3 ∧ s.dev.chainOnly e n ∧ e.chain n = { c with feedSince := e.mono } ∧ s.dev.buoysOff e n ∧
      c.feedSince + 50000000 ≤ e.mono ∧ (s.dev.canRaise (18 + 4 * n) = true → Occurred s.dev e (18 + 4 * n) 3))) ∧
    (s.dev.nat (O.cpIOpen n) = 0 → Completes (.feedOpenDetect n) s [] noObj [] (fun e => e.nat (O.cpFeedState n) = st)) ∧
    (st = 3 → Completes (.feedOpenRecover n) s [.rf, .time] (only (O.cpFeedState n)) [] (fun e =>
      e.nat (O.cpFeedState n) = 2 ∧ s.dev.chainOnly e n ∧ e.chain n = { c with feedSince := e.mono } ∧ c.feedSince + 50000000 ≤ e.mono)) ∧
    (st = 2 → Completes (.feedOn10s n) s [.rf, .time] noObj [] (fun e =>
      s.dev.chainOnly e n ∧ e.chain n = { c with retryLeft := s.dev.nat (O.cpRetryCount n) } ∧ c.feedSince + 10000000000 ≤ e.mono)) ∧
    (st = 5 → Completes (.feedRetryExpired n) s [.mf, .rf, .time] (only (O.cpFeedState n)) [] (fun e =>
      (e.nat (O.cpFeedState n) = if s.dev.nat (O.cpInrushMs n) = 0 then 2 else 1) ∧ s.dev.chainOnly e n ∧
      e.chain n = { c with feedEn := true, feedSince := e.mono } ∧ c.feedSince + 1000000 * s.dev.nat (O.cpRetryMs n) ≤ e.mono))

/-- An accepted FEED_ENABLE of 1 starts a feed that is OFF and not held (RAMP, or ON with INRUSH_MS 0) with all its retries; 0 turns it OFF.
FEED_RESET of 1 takes a LATCHED feed to OFF, and starts it again when it is enabled and not held; in any other state it does nothing. A
CHAIN_ENABLE that changes to 1 while the lanes are powered and the chain is OFF begins its calibration, and one that changes to 0 turns it
OFF and its contexts in LOCKED or SHADOW to HOLD. (R66, R69, R368) -/
def Obligations.FeedAndChainWrites : Prop :=
  ∀ (s : State) (org : Origin) (n : Nat), n < 6 →
    let c := s.dev.chain n
    let st := s.dev.nat (O.cpFeedState n)
    let start := if s.dev.nat (O.cpInrushMs n) = 0 then 2 else 1
    let on := { c with feedEn := true, retryLeft := s.dev.nat (O.cpRetryCount n), feedSince := s.dev.mono }
    let off := { c with feedEn := false, retryLeft := s.dev.nat (O.cpRetryCount n), feedSince := s.dev.mono }
    (s.dev.accepts org [writeNum (O.cpFeedEnable n) 1] →
      Completes (.feedEnable org n 1) s ([.mf, .rf] ++ writeParts) (among (O.cpFeedEnable n :: O.cpFeedState n :: writeObjs)) [126] (fun e =>
        e.flag (O.cpFeedEnable n) = true ∧ s.dev.chainOnly e n ∧ (st = 0 → c.feedHeld = false → e.nat (O.cpFeedState n) = start ∧ e.chain n = on) ∧
        (st ≠ 0 ∨ c.feedHeld = true → e.nat (O.cpFeedState n) = st ∧ e.chain n = c))) ∧
    (s.dev.accepts org [writeNum (O.cpFeedEnable n) 0] →
      Completes (.feedEnable org n 0) s ([.bl, .rf] ++ writeParts) (among (O.cpFeedEnable n :: feedObjs n ++ writeObjs)) [113, 117, 126] (fun e =>
        e.flag (O.cpFeedEnable n) = false ∧ e.nat (O.cpFeedState n) = 0 ∧ s.dev.chainOnly e n ∧ e.chain n = off ∧ (st = 2 → s.dev.buoysOff e n))) ∧
    (s.dev.accepts org [writeNum (O.cpFeedReset n) 1] →
      Completes (.feedReset org n 1) s ([.mf, .rf] ++ writeParts) (among (O.cpFeedState n :: writeObjs)) [126] (fun e =>
        s.dev.chainOnly e n ∧ (st ≠ 6 → e.nat (O.cpFeedState n) = st ∧ e.chain n = c) ∧
        (st = 6 → (c.feedHeld = true ∨ s.dev.flag (O.cpFeedEnable n) = false) → e.nat (O.cpFeedState n) = 0 ∧ e.chain n = off) ∧
        (st = 6 → c.feedHeld = false → s.dev.flag (O.cpFeedEnable n) = true → e.nat (O.cpFeedState n) = start ∧ e.chain n = on))) ∧
    (s.dev.accepts org [writeNum (O.cpFeedReset n) 0] → Completes (.feedReset org n 0) s writeParts (among writeObjs) [126] (fun e => e.chain n = c)) ∧
    (n < s.dev.chains → s.dev.accepts org [writeNum (O.cpChainEnable n) 1] → s.dev.num (O.cpChainEnable n) = 0 → s.dev.lanesOn = true →
      s.dev.nat (O.cpChainState n) = 0 →
      Completes (.chainEnable org n 1) s ([.cal, .lens, .mf, .pw, .rf] ++ writeParts)
        (setsOf (O.cpChainEnable n :: O.cpChainState n :: writeObjs) [anyOf O.mfThrZone]) [2, 3, 126] (fun e =>
        e.flag (O.cpChainEnable n) = true ∧ e.nat (O.cpChainState n) = 1 ∧ e.chain n = { c with calSince := some s.dev.mono } ∧ s.dev.chainTrim e n ∧
        e.cal = { s.dev.cal with runs := s.dev.cal.runs ++ [(2 ^ n, s.dev.mono)] })) ∧
    (s.dev.accepts org [writeNum (O.cpChainEnable n) 0] → s.dev.num (O.cpChainEnable n) ≠ 0 →
      Completes (.chainEnable org n 0) s ([.cal, .cx, .lens, .mf, .pw, .rf] ++ writeParts)
        (setsOf (O.cpChainEnable n :: O.cpChainState n :: O.cpFeedState n :: O.cpLanegStage :: O.cpLanegChain :: writeObjs)
          ([each 6 O.cpLane, each 7 O.caLaneDue, anyOf O.lnTapState, anyOf O.lnTapIndex] ++ holdSets)) ([65, 2, 3, 126] ++ (List.range 6).map (fun k => 19 + 4 * k)) (fun e =>
        e.flag (O.cpChainEnable n) = false ∧ e.nat (O.cpChainState n) = 0 ∧ (e.chain n).calSince = none ∧ s.dev.holds e (s.dev.usesChain n)))

/-- LSYN_NEEDED from OFF, or from UNLOCKED for a further chain, LSYN_LOCK_DROP in LOCKED (UNLOCK_COUNT, event 46 with 1) and an accepted
LSYN_CAL_CMD of 1 in LOCKED or UNLOCKED start a first attempt: CALIBRATING, and every LOCKED or SHADOW context on an L-band door C in HOLD.
LSYN_LOCKED gives LOCKED, stamped with time and die temperature, in a band found anew (item 9). 1.2 ms without lock start the next attempt,
or after the third UNLOCKED with UNLOCK_COUNT and event 46 with 3. LSYN_NOT_NEEDED with no user gives OFF. A changed DOOR_C_BAND mutes door
C and holds its contexts until BAND_SWITCH_DONE, which waits for LOCKED only where the chain needs LO_L. (R41, R42, R43) -/
def Obligations.LbandSynthesiser : Prop :=
  ∀ s : State,
    let st := s.dev.nat O.cpLsynState
    let lband := fun n => decide (n < s.dev.chains) && decide (s.dev.nat (O.cpDoorCBand n) = 1)
    let attempt := fun (k : Nat) (e : Dev) => e.nat O.cpLsynState = 1 ∧ e.rf = { s.dev.rf with
        lsyn := { s.dev.rf.lsyn with attempts := k, users := s.dev.lsynUsers, since := e.mono }, spans := e.rf.spans } ∧
      s.dev.holds e (s.dev.usesDoorC lband)
    ((st = 0 ∧ s.dev.lsynUsers ≠ 0) ∨ (st = 3 ∧ clearBits s.dev.lsynUsers s.dev.rf.lsyn.users ≠ 0) →
      Completes .lsynNeeded s [.cx, .lens, .rf] (setsOf [O.cpLsynState] holdSets) [65] (attempt 1)) ∧
    (st = 1 → Completes .lsynLocked s [.lens, .rf] (among [O.cpLsynState, O.cpLsynLastCal, O.cpLsynCalTemp]) [] (fun e =>
      e.nat O.cpLsynState = 2 ∧ e.nat O.cpLsynLastCal = s.dev.now ∧ e.num O.cpLsynCalTemp = satS 16 s.dev.dieTemp ∧
      e.rf = { s.dev.rf with lsyn := { s.dev.rf.lsyn with band := Config.lsynBand s.dev.rf.lsyn.cals, cals := s.dev.rf.lsyn.cals + 1 }, spans := e.rf.spans })) ∧
    (st = 1 → s.dev.rf.lsyn.attempts < 3 →
      Completes .lsynCalTimeout s [.cx, .lens, .rf, .time] (setsOf [O.cpLsynState] holdSets) [65] (fun e =>
        attempt (s.dev.rf.lsyn.attempts + 1) e ∧ s.dev.rf.lsyn.since + 1200000 ≤ e.mono)) ∧
    (st = 1 → 3 ≤ s.dev.rf.lsyn.attempts →
      Completes .lsynCalTimeout s [.rf, .time] (among [O.cpLsynState, O.cpLsynUnlockCount]) [46] (fun e =>
        e.nat O.cpLsynState = 3 ∧ (s.dev.canRaise 46 = true → Occurred s.dev e 46 3) ∧ s.dev.rf.lsyn.since + 1200000 ≤ e.mono ∧
        (s.dev.nat O.cpLsynUnlockCount + 1 < 2 ^ 32 → e.nat O.cpLsynUnlockCount = s.dev.nat O.cpLsynUnlockCount + 1))) ∧
    (st = 2 → Completes .lsynLockDrop s [.cx, .lens, .rf] (setsOf [O.cpLsynState, O.cpLsynUnlockCount] holdSets) [46, 65] (fun e =>
      attempt 1 e ∧ (s.dev.canRaise 46 = true → Occurred s.dev e 46 1) ∧
      (s.dev.nat O.cpLsynUnlockCount + 1 < 2 ^ 32 → e.nat O.cpLsynUnlockCount = s.dev.nat O.cpLsynUnlockCount + 1))) ∧
    (s.dev.lsynUsers = 0 → st ≠ 0 → Completes .lsynNotNeeded s [.lens, .rf] (only O.cpLsynState) [] (fun e =>
      e.nat O.cpLsynState = 0 ∧ e.rf = { s.dev.rf with lsyn := { band := s.dev.rf.lsyn.band, cals := s.dev.rf.lsyn.cals }, spans := e.rf.spans })) ∧
    (∀ org, s.dev.accepts org [writeNum O.cpLsynCalCmd 1] → st = 2 ∨ st = 3 →
      Completes (.lsynCalCmd org 1) s ([.cx, .lens, .rf] ++ writeParts) (setsOf (O.cpLsynState :: writeObjs) holdSets) [65, 126] (attempt 1)) ∧
    (∀ org, s.dev.accepts org [writeNum O.cpLsynCalCmd 1] → st = 0 ∨ st = 1 →
      Completes (.lsynCalCmd org 1) s writeParts (among writeObjs) [126] (fun e => e.nat O.cpLsynState = st)) ∧
    (∀ org, ∀ n < 6, ∀ v : Nat, v ≤ 1 → s.dev.accepts org [writeNum (O.cpDoorCBand n) v] → s.dev.num (O.cpDoorCBand n) ≠ v →
      Completes (.doorCBand org n v) s ([.cx, .lens, .rf] ++ writeParts)
        (setsOf (O.cpDoorCBand n :: O.cpBandSwitching n :: O.cpLnaNow n 2 :: O.cpAttenNow n 2 :: O.cpGainNow n 2 :: O.cpPinFs n 2 :: writeObjs) holdSets) [65, 126]
        (fun e => e.nat (O.cpDoorCBand n) = v ∧ e.flag (O.cpBandSwitching n) = true ∧ e.chain n = { s.dev.chain n with bandMute := true } ∧
          s.dev.chainTrim e n ∧ s.dev.holds e (s.dev.usesDoorC (fun m => decide (m = n))))) ∧
    (∀ n < 6, (s.dev.chain n).bandMute = true → (s.dev.lsynUsers.testBit n = false ∨ st = 2) →
      Completes (.bandSwitchDone n) s [.lens, .rf] (only (O.cpBandSwitching n)) [] (fun e =>
        e.flag (O.cpBandSwitching n) = false ∧ e.chain n = { s.dev.chain n with bandMute := false } ∧ s.dev.chainOnly e n))

/-- With the running image and no change due, PERIOD_START steps the grid by one period, no earlier than that instant, counts consecutive
late periods, takes over the slot mask, and keeps only slots that the plan fills and the mask admits, every mandatory one among them.
Sixteen late periods with the next start already past bring the storm plan. A checked image waiting in READY becomes the running one on its
own grid. A stopping Watch ends with READY. While a slot run of the period is under way, or the dictionary server is down, nothing happens.
(R147, R149, R151, R152, R154, R157) -/
def Obligations.PeriodOnTheGrid : Prop :=
  ∀ s : State,
    let ps := [Part.au, .bl, .cal, .cx, .lens, .log, .mf, .nvm, .pw, .rf, .rings, .sd, .time, .wt]
    (∀ w, s.dev.serverUp = true → s.dev.periodDone = true → s.dev.wt.img = some w → s.dev.wt.next = none → s.dev.wt.resume = false →
      s.dev.wt.stopping = false → s.dev.wt.resync = false → s.dev.wt.storm = false → s.dev.wt.stormExit = false → s.dev.inSentry = false →
      let g := s.dev.wt.grid + w.periodUs * 1000
      (s.dev.wt.run < 16 ∨ s.dev.wt.doneAt ≤ g →
        Completes .periodStart s ps anyObj anyEvent (fun e =>
          e.wt.img = some w ∧ e.wt.grid = g ∧ g ≤ e.now ∧ e.wt.run = (if s.dev.now ≤ g then 0 else s.dev.wt.run + 1) ∧ e.wt.maskWrites = [] ∧
          (∀ p ∈ e.wt.kept, p.2 = .waiting ∧ ∃ sl, w.slots[p.1]? = some sl ∧ sl.kind ≠ 0 ∧ maskBit e.wt.mask p.1 = true) ∧
          (∀ n sl, w.slots[n]? = some sl → sl.kind ≠ 0 → maskBit e.wt.mask n = true → sl.cls ≠ 1 → ∃ p ∈ e.wt.kept, p.1 = n))) ∧
      (16 ≤ s.dev.wt.run → g < s.dev.wt.doneAt →
        Completes .periodStart s ps anyObj anyEvent (fun e => e.wt.storm = true ∧ e.wt.grid = g ∧ e.wt.img = some w ∧ g ≤ e.now))) ∧
    (∀ w a, s.dev.serverUp = true → s.dev.periodDone = true → s.dev.wt.img = none → s.dev.wt.next = some (w, a) → s.dev.wt.stopping = false →
      s.dev.wt.resume = false → s.dev.inSentry = false →
      Completes .periodStart s ps anyObj anyEvent (fun e =>
        e.wt.img = some w ∧ e.wt.next = none ∧ e.wt.grid = s.dev.now / (w.periodUs * 1000) * (w.periodUs * 1000) ∧ e.wt.storm = false)) ∧
    (∀ w, s.dev.serverUp = true → s.dev.periodDone = true → s.dev.wt.img = some w → s.dev.wt.stopping = true →
      Completes .periodStart s ps anyObj anyEvent (fun e =>
        e.pw.phase = .ready ∧ e.wt.img = none ∧ e.wt.kept = [] ∧ e.wt.stopping = false ∧ e.nat O.wtWatchState = 0 ∧ e.nat O.wtRunBank = 0)) ∧
    (s.dev.serverUp = false ∨ s.dev.periodDone = false → Completes .periodStart s [] noObj [] (fun e => e.wt = s.dev.wt))

/-- SLOT_START of a waiting slot whose predecessors on its track are done marks it running, no earlier than its grid offset; on a halted
Keeper it is done at once. SLOT_RUN_DONE of a running slot marks it done, its run no shorter than stated, and shows SLOT_STATE 1,
SLOT_LAST_US and an overrun where the run exceeds EST_US; with the last run of the period the period is complete. (R136, R137, R138, R569) -/
def Obligations.SlotRuns : Prop :=
  ∀ (s : State) (n : Nat), n < 256 →
    let e0 := s.dev.planSlots.getD n {}
    (∀ job, s.dev.serverUp = true → s.dev.slotWaits n = true → s.dev.slotHalted e0 = false →
      Answers (.slotStart n job) s (fun e => ∃ t, s.dev.wt.grid + e0.start * 1000 ≤ t ∧ s.dev.now ≤ t ∧ t ≤ e.now ∧
        e.wt.kept = s.dev.wt.kept.map (fun q => if q.1 = n then (n, RunSt.running t) else q))) ∧
    (∀ job, s.dev.serverUp = true → s.dev.slotWaits n = true → s.dev.slotHalted e0 = true →
      Answers (.slotStart n job) s (fun e => e.wt.kept = s.dev.wt.kept.map (fun q => if q.1 = n then (n, RunSt.done) else q))) ∧
    (∀ t us, s.dev.slotHeld n = false → s.dev.wt.kept.find? (fun q => decide (q.1 = n)) = some (n, .running t) → s.dev.bl.entry = none →
      Completes (.slotRunDone n us) s [.bl, .time, .wt]
        (setsOf [O.blPollsSkipped, O.wtSlotState n, O.wtSlotLastUs n, O.wtSlotOverruns n] [each 16 O.kpProgRunMaxUs]) [] (fun e =>
        e.wt.kept = s.dev.wt.kept.map (fun q => if q.1 = n then (n, RunSt.done) else q) ∧ t + us * 1000 ≤ e.now ∧
        (e.periodDone = true → e.wt.doneAt = e.now) ∧
        (s.dev.wt.storm = false → n < s.dev.fullSlots.length → e.nat (O.wtSlotState n) = 1 ∧ e.nat (O.wtSlotLastUs n) = satU 16 us ∧
          (e0.est < us → s.dev.counted e (O.wtSlotOverruns n) 1) ∧ (us ≤ e0.est → e.nat (O.wtSlotOverruns n) = s.dev.nat (O.wtSlotOverruns n)))))

/-- An accepted ACTIVATE of a bank starts its checks with ACT_RESULT 1. WATCH_CHECKS_DONE makes an image that passes the next one; a failure
shows its code in ACT_RESULT and raises event 55; at start-up the other area is tried, and event 61 follows when none is left. An accepted
SLOT_MASK write stands in its object and waits with its origin for the next period start, STORM_EXIT likewise. EARLY_TRACK_UPDATE of a
context that has fed route 0 for 10 s, itself or through a follow slot, at most once in 60 s, writes the early station from that context.
(R146, R149, R156, R159, R160) -/
def Obligations.ActivationAndMask : Prop :=
  ∀ s : State,
    (∀ org (v : Nat), 1 ≤ v → v ≤ 2 → s.dev.accepts org [writeNum O.wtActivate v] →
      Completes (.activate org v) s (.wt :: writeParts) (among (O.wtActResult :: writeObjs)) [126] (fun e =>
        e.wt = { s.dev.wt with checking := some v } ∧ e.nat O.wtActResult = 1)) ∧
    (∀ a, s.dev.wt.checking = some a →
      let b := s.dev.flashArea (watchArea a)
      let c := s.dev.watchCheck b 0
      (c = 0 → Completes .watchChecksDone s [.wt] noObj [] (fun e =>
        e.wt = { s.dev.wt with checking := none, next := some (readImage b, a), bootTry := [] })) ∧
      (c ≠ 0 → s.dev.wt.bootTry = [] → Completes .watchChecksDone s [.log, .nvm, .wt] (only O.wtActResult) [9, 55] (fun e =>
        e.wt = { s.dev.wt with checking := none } ∧ e.nat O.wtActResult = c ∧ s.dev.told e 55 (s.dev.nat O.wtPeriodIndex % 2 ^ 32))) ∧
      (∀ n l, c ≠ 0 → s.dev.wt.bootTry = n :: l → n ≠ 0 → Completes .watchChecksDone s [.log, .nvm, .wt] (only O.wtActResult) [9, 55] (fun e =>
        e.wt = { s.dev.wt with checking := some n, bootTry := l } ∧ e.nat O.wtActResult = 1 ∧ s.dev.told e 55 (s.dev.nat O.wtPeriodIndex % 2 ^ 32))) ∧
      (∀ l, c ≠ 0 → s.dev.wt.bootTry = 0 :: l → Completes .watchChecksDone s [.log, .nvm, .wt] (only O.wtActResult) [9, 55, 61] (fun e =>
        e.wt = { s.dev.wt with checking := none, bootTry := l } ∧ e.nat O.wtActResult = c ∧ s.dev.told e 61 (s.dev.nat O.wtPeriodIndex % 2 ^ 32)))) ∧
    (∀ org, ∀ k < 4, ∀ v : Nat, v < 2 ^ 64 → s.dev.accepts org [writeNum (O.wtSlotMask k) v] →
      Completes (.slotMask org k v) s (.wt :: writeParts) (among (O.wtSlotMask k :: writeObjs)) [126] (fun e =>
        e.nat (O.wtSlotMask k) = v ∧ e.wt = { s.dev.wt with maskWrites := s.dev.wt.maskWrites ++ [{ elems := [(k, v)], org := org }] })) ∧
    (∀ org, s.dev.accepts org [writeNum O.wtStormExit 1] →
      Completes (.stormExit org 1) s (.wt :: writeParts) (among writeObjs) [126] (fun e => e.wt = { s.dev.wt with stormExit := true })) ∧
    (∀ c t0, s.dev.serverUp = true → s.dev.flag O.wtEarlyTrack = true → s.dev.feeder = some (c, t0) → s.dev.cxLive c = true → (s.dev.nat (O.cxType c) = 1 ∨ s.dev.nat (O.cxType c) = 2) → s.dev.nat (O.cxDoor c) < 2 →
      max (max (s.dev.nat (O.auRouteTApplied 0)) (s.dev.nat (O.cxTLock c))) t0 + 10000000000 ≤ s.dev.now → (∀ t, s.dev.wt.earlyWriteAt = some t → t + 60000000000 ≤ s.dev.mono) →
      let mask := ((s.dev.cxChains c).eraseDups.map (fun n => 2 ^ n)).sum
      ({ s.dev with wt := { s.dev.wt with earlyWriteAt := some s.dev.mono } } : Dev).accepts { firmware with source := 0xFF00 }
        [writeNum O.wtEarlyType (s.dev.nat (O.cxType c)), writeNum O.wtEarlyRf (s.dev.nat (O.cxRf c)), writeNum O.wtEarlyDoor (s.dev.nat (O.cxDoor c)),
          writeNum O.wtEarlyChains mask] →
      Completes (.earlyTrackUpdate c) s (.wt :: writeParts) (among ([O.wtEarlyType, O.wtEarlyRf, O.wtEarlyDoor, O.wtEarlyChains] ++ writeObjs)) [126] (fun e =>
        e.wt = { s.dev.wt with earlyWriteAt := some s.dev.mono } ∧ e.nat O.wtEarlyType = s.dev.nat (O.cxType c) ∧
        e.nat O.wtEarlyRf = s.dev.nat (O.cxRf c) % 2 ^ 32 ∧ e.nat O.wtEarlyDoor = s.dev.nat (O.cxDoor c) ∧ e.nat O.wtEarlyChains = mask % 2 ^ 8))

/-- HYP_CONFIRMED in ACQUIRING of a hypothesis whose verification the report completes (Tables 6.2 and 7.2) goes to LOCKED, or SHADOW with
REQUEST SHADOW in effect, with T_LOCK and event 64; SIGNAL_LOSS in LOCKED or SHADOW, once the criterion of its type holds, goes to HOLD with
HOLD_COUNT and event 65; HOLD_REVERIFIED of the signal held goes back with event 64; HOLD_TIMEOUT_MS in HOLD, unless 0, goes to ACQUIRING
with every hypothesis and the synchronisation held dropped, and event 66; ACQ_TIMEOUT_MS counts ACQ_TIMEOUTS with event 67 and starts again.
Each event names the context. No other context is touched. (R83, R117, R122, R124, R134) -/
def Obligations.ContextStates : Prop :=
  ∀ (s : State) (c : Nat), 1 ≤ c → c < 64 → s.dev.nat (O.cxAntCount c) ≤ 6 →
    let st := s.dev.cxSt c
    let hold := (s.dev.cxEff c (O.cxHoldTimeoutMs c)).toNat
    let acq := (s.dev.cxEff c (O.cxAcqTimeoutMs c)).toNat
    (∀ (f : Confirm) (y : Hyp), st = 2 → (s.dev.ctx c).hyps.find? (·.verifying) = some y → s.dev.hypPassed c y f = true →
      Completes (.hypConfirmed c f) s [.cx, .mf]
        (setsOf [O.cxState c, O.cxTState c, O.cxTLock c, O.cxDMode c, O.cxDParam c, O.cxDrmInterleave c, O.cxDrmMscMap c, O.cxDrmServices c, O.cxNrSmode c, O.cxDSyncFail c, O.cxIncluded c, O.cxEventContexts 0, O.cxEventContexts 10]
          [each 4 (O.cxHypState c), each 6 (O.cxAntDelay c), each 256 O.mfThrZone]) [64, 74] (fun e =>
        s.dev.lockedAs e c ∧ e.nat (O.cxTLock c) = s.dev.now ∧ (e.ctx c).hyps = [] ∧ (∀ h < 4, e.nat (O.cxHypState c h) = 0) ∧ s.dev.ctxOnly e c ∧
        (e.ctx c).timing = f.at_ ∧ (e.ctx c).offset = y.det.offset ∧ (∀ i < s.dev.nat (O.cxAntCount c), e.num (O.cxAntDelay c i) = f.delays.getD i 0) ∧
        s.dev.told e 64 c)) ∧
    (st = 3 ∨ st = 4 → s.dev.cxLost c = true → Completes (.signalLoss c) s [.cx] (setsOf [O.cxState c, O.cxTState c, O.cxHoldCount c, O.cxEventContexts 1] (selSets c)) [65] (fun e =>
      e.cxSt c = 5 ∧ e.nat (O.cxTState c) = s.dev.now ∧ s.dev.counted e (O.cxHoldCount c) 1 ∧ s.dev.ctxOnly e c ∧ s.dev.told e 65 c)) ∧
    (∀ f : Confirm, st = 5 → s.dev.heldFound c f = true →
      Completes (.holdReverified c f) s [.cx, .mf]
        (setsOf [O.cxState c, O.cxTState c, O.cxIncluded c, O.cxEventContexts 0, O.cxEventContexts 10] [each 6 (O.cxAntDelay c)]) [64, 74] (fun e =>
        s.dev.lockedAs e c ∧ s.dev.ctxOnly e c ∧ (∀ i < s.dev.nat (O.cxAntCount c), e.num (O.cxAntDelay c i) = f.delays.getD i 0) ∧
        s.dev.told e 64 c)) ∧
    (st = 5 → hold ≠ 0 →
      Completes (.holdTimeout c) s [.cx, .time] (setsOf [O.cxState c, O.cxTState c, O.cxRdsSync c, O.cxSyncLock c, O.cxStereo c, O.cxEventContexts 2] (each 4 (O.cxHypState c) :: selSets c)) [66] (fun e =>
        e.cxSt c = 2 ∧ (e.ctx c).hyps = [] ∧ (e.ctx c).rds = [] ∧ e.nat (O.cxRdsSync c) = 0 ∧ e.nat (O.cxSyncLock c) = 0 ∧ (s.dev.ctx c).since + 1000000 * hold ≤ e.mono ∧ s.dev.ctxOnly e c ∧ s.dev.told e 66 c)) ∧
    (st = 5 → hold = 0 → Completes (.holdTimeout c) s [] noObj [] (fun e => e.cxSt c = 5)) ∧
    (st = 2 → acq ≠ 0 →
      Completes (.acqTimeout c) s [.cx, .time] (among [O.cxAcqTimeouts c, O.cxEventContexts 3]) [67] (fun e =>
        e.ctx c = { s.dev.ctx c with acqAt := e.mono } ∧ (s.dev.ctx c).acqAt + 1000000 * acq ≤ e.mono ∧ s.dev.counted e (O.cxAcqTimeouts c) 1 ∧
        s.dev.ctxOnly e c ∧ s.dev.told e 67 c))

/-- HYP_DETECTION in ACQUIRING of a signal that no slot holds, at a sample of its own, enters it as the one hypothesis under verification;
one that was being verified is saved and counted in HYP_PREEMPTED. HYP_VERIFY_FAIL drops the hypothesis under verification once that has
failed, counts HYP_REJECTED, raises event 75, and puts the most recently saved one, if any, under verification. (R122) -/
def Obligations.AcquisitionHypotheses : Prop :=
  ∀ (s : State) (c : Nat), 1 ≤ c → c < 64 → s.dev.cxSt c = 2 →
    let l := (s.dev.ctx c).hyps
    (∀ det : HypDet, s.dev.detectionOk c det = true → det.entry < s.dev.nat (O.cxAntCount c) → (∀ y ∈ l, sameSignal (s.dev.cxKind c) (s.dev.nat (O.cxType c)) y.det det = false) →
      (∀ y ∈ (s.dev.ctx c).dets, y.sample ≠ det.sample) →
      Completes (.hypDetection c det) s [.cx] (setsOf [O.cxHypPreempted c] [each 4 (O.cxHypState c)]) [] (fun e =>
        (∃ y ∈ (e.ctx c).hyps, y.verifying = true ∧ y.det = det) ∧ (∀ y ∈ (e.ctx c).hyps, y.verifying = true → y.det = det) ∧ s.dev.ctxOnly e c ∧
        ((∃ y ∈ l, y.verifying = true) → s.dev.counted e (O.cxHypPreempted c) 1) ∧
        ((∀ y ∈ l, y.verifying = false) → e.nat (O.cxHypPreempted c) = s.dev.nat (O.cxHypPreempted c)))) ∧
    (∀ z, l.find? (·.verifying) = some z → s.dev.hypFailed c z = true →
      Completes (.hypVerifyFail c) s [.cx] (setsOf [O.cxHypRejected c, O.cxEventContexts 11] [each 4 (O.cxHypState c)]) [75] (fun e =>
        s.dev.counted e (O.cxHypRejected c) 1 ∧ s.dev.told e 75 c ∧ s.dev.ctxOnly e c ∧
        ((∀ y ∈ l, y.verifying = true) → (e.ctx c).hyps = []) ∧
        ((∃ y ∈ l, y.verifying = false) → ∃ n ∈ l, n.verifying = false ∧ (∀ m ∈ l, m.verifying = false → m.saved ≤ n.saved) ∧
          ∃ y ∈ (e.ctx c).hyps, y.verifying = true ∧ y.det = n.det)))

/-- An accepted REQUEST of RUN or SHADOW on a FREE context arms it, owned by the dictionary and the writer's role, at the cost of its type
and antennas; on any other context the value waits for the next run start and the value in effect stays. TAP_FILL_DONE puts a filling tap in
RUN at the next index on the grid of its rate. SELECT_SWITCH of an entry that has been ahead by SWITCH_HYST for SWITCH_HOLD_MS, the lowest
of several, chooses it. CONTEXT_RUN_END of a running context shows the SNR of every antenna, the best entry, ties to the lower, and no
weight for entries beyond ANT_COUNT or excluded, and in LOCKED, SHADOW or HOLD produces one frame, delivered to its ring with the next frame
number or counted in OUT_LOST (IQ export apart, whose records fill frames as they need). (R83, R113, R115, R118, R123, R125, R128, R131) -/
def Obligations.ContextRequestsAndRuns : Prop :=
  ∀ (s : State) (c : Nat), 1 ≤ c → c < 64 →
    (∀ org (v : Nat), 1 ≤ v → v ≤ 2 → s.dev.cxSt c = 0 → s.dev.accepts org [writeNum (O.cxRequest c) v] →
      Completes (.request org c v) s (.cx :: writeParts)
        (among ([O.cxRequest c, O.cxOwner c, O.cxCost c, O.cxSlotNow c, O.cxState c, O.cxTState c] ++ countObjs ++ writeObjs)) [126] (fun e =>
        e.nat (O.cxRequest c) = v ∧ e.cxSt c = 1 ∧ e.nat (O.cxOwner c) = 1 ∧ (e.ctx c).owner = org.role ∧ s.dev.ctxOnly e c ∧
        e.nat (O.cxCost c) = typeCost (s.dev.nat (O.cxType c)) (s.dev.nat (O.cxAntCount c)))) ∧
    (∀ org (v : Nat), v ≤ 2 → s.dev.cxSt c ≠ 0 → s.dev.accepts org [writeNum (O.cxRequest c) v] →
      Completes (.request org c v) s (.cx :: writeParts) (among (O.cxRequest c :: writeObjs)) [126] (fun e =>
        e.nat (O.cxRequest c) = v ∧ e.cxEff c (O.cxRequest c) = s.dev.cxEff c (O.cxRequest c) ∧ (e.ctx c).pending = true ∧ s.dev.ctxOnly e c)) ∧
    (∀ t < 128, s.dev.nat (O.lnTapState t) = 1 → s.dev.nat (O.lnTapContext t) = c →
      Completes (.tapFillDone t) s [.cx, .lens, .time]
        (setsOf [O.lnTapState t, O.lnTapIndex t, O.cxState c, O.cxTState c, O.cxTLock c, O.cxIncluded c, O.cxEventContexts 0] []) [64] (fun e =>
        e.nat (O.lnTapState t) = 2 ∧ e.nat (O.lnTapIndex t) = s.dev.tapIndexNow (s.dev.nat (O.lnTapRate t)) + 1 ∧
        (typeDirect (s.dev.nat (O.cxType c)) (s.dev.nat (O.cxSubject c)) = true → s.dev.cxSt c = 1 ∨ s.dev.cxSt c = 2 → s.dev.lockedAs e c) ∧
        (typeDirect (s.dev.nat (O.cxType c)) (s.dev.nat (O.cxSubject c)) = false → e.cxSt c = s.dev.cxSt c))) ∧
    (∀ k, s.dev.cxMode c = 1 → s.dev.cxSt c = 3 ∨ s.dev.cxSt c = 4 →
      (((s.dev.ctx c).ahead.filter (fun p => decide (p.2 + (s.dev.cxEff c (O.cxSwitchHoldMs c)).toNat * 1000000 ≤ s.dev.mono) &&
        (s.dev.nat (O.cxIncluded c)).testBit p.1)).map (·.1)).head? = some k →
      Completes (.selectSwitch c k) s [.cx] noObj [] (fun e => (e.ctx c).chosen = k ∧ s.dev.ctxOnly e c)) ∧
    (∀ r : RunReport, (s.dev.ctx c).running = true → s.dev.nat (O.cxAntCount c) ≤ 6 → (∀ i < 6, s.dev.nat (O.cxTap c i) < 256) →
      Completes (.contextRunEnd c r) s [.cx, .mf, .rings, .sd]
        (setsOf ([O.cxBest c, O.cxDSyncFail c, O.cxCifCount c, O.cxNrAlfn c, O.cxIncluded c, O.cxOutLost c, O.cxOutSeq c, O.cxEventContexts 4,
            O.cxEventContexts 10] ++ (s.dev.ctx c).shown.map Prod.fst)
          [each 6 (O.cxAntSnr c), each 6 (O.cxAntWeight c), each 256 O.lnTapIndex, each 256 O.lnTapTagged]) [68, 74] (fun e =>
        (e.ctx c).running = false ∧ (e.ctx c).lastOvl = s.dev.cxTagged c tagOvl (s.dev.ctx c).runFrom (s.dev.ctx c).runTo ∧ s.dev.ctxOnly e c ∧
        (e.ctx c).nextIndex = (s.dev.ctx c).runTo ∧ (∀ i < s.dev.nat (O.cxAntCount c), e.num (O.cxAntSnr c i) = r.snr.getD i 0) ∧
        (s.dev.nat (O.cxAntCount c) ≠ 0 → e.nat (O.cxBest c) < s.dev.nat (O.cxAntCount c) ∧ ∀ i < s.dev.nat (O.cxAntCount c),
          r.snr.getD i 0 ≤ r.snr.getD (e.nat (O.cxBest c)) 0 ∧ (i < e.nat (O.cxBest c) → r.snr.getD i 0 < r.snr.getD (e.nat (O.cxBest c)) 0)) ∧
        (s.dev.cxProduces c = true → (∀ i < 6, s.dev.nat (O.cxAntCount c) ≤ i ∨ (e.nat (O.cxIncluded c)).testBit i = false →
          e.num (O.cxAntWeight c i) = -32768)) ∧
        (s.dev.cxProduces c = true → s.dev.nat (O.cxType c) ≠ 10 → (e.ctx c).frameSeq = ((s.dev.ctx c).frameSeq + 1) % 2 ^ 32 ∧
          ((e.ring (16 + c)).gone = (e.ctx c).frameSeq ∨ (∃ x ∈ (e.ring (16 + c)).recs, x.seq = (e.ctx c).frameSeq) ∨ s.dev.counted e (O.cxOutLost c) 1))))

/-- INDICATOR_INTERVAL of a working context computes its indicators, which wait for the end of the run (R189): −327.68 for what is missing
and for everything in HOLD or without tap samples, AQ as R177 gives it. AUDIO_QUALITY_TICK in LOCKED or SHADOW moves blend, high-cut and
mute one smoothing step towards the targets of R178, that of the blend 0 without stereo; without an AQ, in HOLD or while acquiring nothing
moves. IFBW_DECISION in AUTO goes to a narrower target at once, towards a wider one by one setting after IFBW_RELEASE_MS, and not inside a
crossfade. STEREO_CHANGE after 100 ms of its criterion shows the decoder's state. AM_PLL_LOCK after 50 ms, AM_PLL_UNLOCK after 20 ms and
AM_DETECTOR_CHANGE that the sidebands call for set SYNC_LOCK and the detector that AM_MODE gives, outside a crossfade at once. (R171, R172,
R175, R177, R178, R179, R187, R188, R189) -/
def Obligations.AnalogueReception : Prop :=
  ∀ (s : State) (c : Nat), 1 ≤ c → c < 64 →
    let fm := s.dev.cxKind c = 0
    let x := s.dev.ctx c
    let eff := fun o => s.dev.cxEff c o
    (∀ r : SigIn, s.dev.cxAnalogue c = true → s.dev.cxWorks c = true →
      let dead := s.dev.cxSt c = 5 ∨ ∀ l ∈ r.taps, l = []
      Completes (.indicatorInterval c r) s [.cx, .ticks, .time] (among [O.cxBlankCount c, O.cxAudioSat c, O.cxDevGain c, O.cxAmSideband c]) [] (fun e =>
        let q := (e.ctx c).shown
        (dead → ∀ o ∈ [O.cxQLevel c, O.cxQSnr c, O.cxQUsn c, O.cxQMultipath c, O.cxQAq c], (o, -32768, -32768) ∈ q) ∧
        (¬ dead → (O.cxQLevel c, levelOr r.level, -32768) ∈ q ∧ (O.cxQSnr c, levelOr r.snr, -32768) ∈ q ∧
          (fm → (O.cxQMultipath c, levelOr r.multipath, -32768) ∈ q ∧ ∃ u, (O.cxQUsn c, u, -32768) ∈ q ∧
            ∀ v m, r.snr = some v → r.multipath = some m → (O.cxQAq c, satS 16 (min v (min (-u - 600) (-m - 600))), -32768) ∈ q) ∧
          (¬ fm → (O.cxQMultipath c, -32768, -32768) ∈ q ∧ (O.cxQUsn c, -32768, -32768) ∈ q ∧
            ∀ v, r.snr = some v → (O.cxQAq c, satS 16 v, -32768) ∈ q) ∧
          (r.snr = none → (O.cxQAq c, -32768, -32768) ∈ q)) ∧
        (e.ctx c).intervals = x.intervals + 1 ∧ s.dev.ctxOnly e c)) ∧
    ((s.dev.nat (O.cxType c) = 1 ∨ s.dev.nat (O.cxType c) = 2) → (s.dev.cxSt c = 3 ∨ s.dev.cxSt c = 4) →
      Completes (.audioQualityTick c) s [.cx, .ticks, .time] (among [O.cxBlend c, O.cxHicut c, O.cxMuteAtten c]) [] (fun e =>
        let aq := s.dev.qNow c (O.cxQAq c)
        let att := (eff (O.cxAttackMs c)).toNat
        let rel := (eff (O.cxReleaseMs c)).toNat
        let ta := if s.dev.flag (O.cxStereo c) = true ∧ eff (O.cxStereoMode c) ≠ 1
          then unitRatio (aq - eff (O.cxBlendLo c)) (eff (O.cxBlendHi c) - eff (O.cxBlendLo c)) else 0
        let tm := eff (O.cxMuteMax c) * unitRatio (eff (O.cxMuteHi c) - aq) (eff (O.cxMuteHi c) - eff (O.cxMuteLo c))
        (aq = -32768 → e.ctx c = x) ∧
        (aq ≠ -32768 → (e.ctx c).mute = smooth x.mute tm (if x.mute < tm then att else rel) ∧ e.num (O.cxMuteAtten c) = divRound (e.ctx c).mute fxOne ∧
          (e.ctx c).alpha = (if s.dev.nat (O.cxType c) = 1 then smooth x.alpha ta (if ta < x.alpha then att else rel) else 0) ∧
          e.num (O.cxBlend c) = divRound (100 * (e.ctx c).alpha) fxOne) ∧ s.dev.ctxOnly e c)) ∧
    (s.dev.cxSt c = 5 → Completes (.audioQualityTick c) s [] noObj [] (fun e => e.ctx c = x)) ∧
    (∀ lo hi, s.dev.cxAnalogue c = true → s.dev.cxWorks c = true → s.dev.bwAuto c = true →
      let t := s.dev.bwTarget c lo hi
      Completes (.ifbwDecision c lo hi) s [.cx, .ticks, .time] (only (O.cxIfbw c)) [] (fun e =>
        (e.mono < x.bwFade → e.ctx c = x) ∧ (x.bw = t → e.ctx c = x) ∧
        (x.bwFade ≤ e.mono → x.bw < t → (e.ctx c).bw = t ∧ e.nat (O.cxIfbw c) = (if fm then fmIf else amIf).getD t 0) ∧
        (x.bwFade ≤ e.mono → t < x.bw → x.bwAt + (eff (O.cxIfbwReleaseMs c)).toNat * 1000000 ≤ e.mono →
          (e.ctx c).bw = x.bw - 1 ∧ e.nat (O.cxIfbw c) = (if fm then fmIf else amIf).getD (x.bw - 1) 0) ∧
        (t < x.bw → e.mono < x.bwAt + (eff (O.cxIfbwReleaseMs c)).toNat * 1000000 → e.ctx c = x) ∧ s.dev.ctxOnly e c)) ∧
    (∀ v, s.dev.nat (O.cxType c) = 1 → s.dev.cxWorks c = true → 100 ≤ (if v then x.ana.pilotHi else x.ana.pilotLo) →
      Completes (.stereoChange c v) s [] (only (O.cxStereo c)) [] (fun e => e.flag (O.cxStereo c) = v)) ∧
    (s.dev.cxAm c = true → 50 ≤ x.ana.phLow →
      Completes (.amPllLock c) s [.cx] (among [O.cxSyncLock c, O.cxAmSideband c]) [] (fun e =>
        e.flag (O.cxSyncLock c) = true ∧ s.dev.ctxOnly e c ∧ (x.ana.detWas = none →
          (eff (O.cxAmMode c) = 0 → e.nat (O.cxAmSideband c) = max 1 (s.dev.nat (O.cxAmSideband c))) ∧
          (eff (O.cxAmMode c) = 1 → e.nat (O.cxAmSideband c) = 0)) ∧
        (x.ana.detWas.isSome = true → e.nat (O.cxAmSideband c) = s.dev.nat (O.cxAmSideband c)))) ∧
    (s.dev.cxAm c = true → 20 ≤ x.ana.phHigh →
      Completes (.amPllUnlock c) s [.cx] (among [O.cxSyncLock c, O.cxAmSideband c]) [] (fun e =>
        e.flag (O.cxSyncLock c) = false ∧ s.dev.ctxOnly e c ∧ (x.ana.detWas = none →
          (eff (O.cxAmMode c) = 0 → e.nat (O.cxAmSideband c) = 0) ∧
          (2 ≤ eff (O.cxAmMode c) → e.nat (O.cxAmSideband c) = (eff (O.cxAmMode c)).toNat - 1)) ∧
        (x.ana.detWas.isSome = true → e.nat (O.cxAmSideband c) = s.dev.nat (O.cxAmSideband c)))) ∧
    (∀ v, s.dev.cxAm c = true → eff (O.cxAmMode c) = 0 → s.dev.flag (O.cxSyncLock c) = true → x.ana.detWants = some v →
      Completes (.amDetectorChange c v) s [.cx] (only (O.cxAmSideband c)) [] (fun e =>
        let now := s.dev.nat (O.cxAmSideband c)
        s.dev.ctxOnly e c ∧ (x.ana.detWas = none → e.nat (O.cxAmSideband c) = v ∧ (e.ctx c).ana.detWas = (if now = v then none else some (now, 0))) ∧
        (x.ana.detWas.isSome = true → e.nat (O.cxAmSideband c) = now ∧ (e.ctx c).ana.detNext = (if v = now then none else some v))))

/-- On a stream that RDS_ENABLE names, the chips of a block are decoded to 26 bits; a block whose offset may follow the one before it
synchronises the stream; in synchronisation a block with an expected offset is counted and entered with its information word, and one that
no correction of at most RDS_ERR_MAX bits fits counts also as uncorrectable. MEAS_WINDOW_END of a MEAS context adds one record to the next
frame, that of a window cut short first, and, with FM, shows the multiplex power and deviation exceedance of that window; a whole window is
followed by an empty one. (R183, R184, R191, R192) -/
def Obligations.RdsAndMeasurement : Prop :=
  ∀ (s : State) (c : Nat), 1 ≤ c → c < 64 →
    (∀ stream chips sample first, s.dev.rdsOn c stream = true →
      let x := Tab.get {} (s.dev.ctx c).rds stream
      let last := (rdsWord x.last chips).1
      let w := (rdsWord x.last chips).2
      let os := among [O.cxRdsSync c, O.cxRdsBlocks c, O.cxRdsUncorr c]
      (∀ p, ∀ k < 6, x.sync = false → x.prev = some p → k ∈ rdsNext p → rdsRem 16 w = rdsOffsets.getD k 0 →
        Completes (.rdsBlock c stream chips sample first) s [.cx] os [] (fun e =>
          Tab.get {} (e.ctx c).rds stream = { sync := true, expect := k, fresh := true, last := last, lostAt := x.lostAt } ∧ (e.nat (O.cxRdsSync c)).testBit stream = true ∧ s.dev.ctxOnly e c)) ∧
      (x.sync = false → (∀ k < 6, rdsRem 16 w ≠ rdsOffsets.getD k 0) →
        Completes (.rdsBlock c stream chips sample first) s [.cx] os [] (fun e =>
          Tab.get {} (e.ctx c).rds stream = { last := last, lostAt := x.lostAt } ∧ (e.nat (O.cxRdsSync c)).testBit stream = false ∧ s.dev.ctxOnly e c)) ∧
      (∀ k, x.sync = true → k ∈ rdsNext x.expect → rdsRem 16 w = rdsOffsets.getD k 0 →
        Completes (.rdsBlock c stream chips sample first) s [.cx] os [] (fun e =>
          s.dev.counted e (O.cxRdsBlocks c) 1 ∧ e.nat (O.cxRdsUncorr c) = s.dev.nat (O.cxRdsUncorr c) ∧ s.dev.ctxOnly e c ∧
          ∃ b, (e.ctx c).rdsOut = (s.dev.ctx c).rdsOut ++ [(sample, stream, b)] ∧ b.take 5 = leBytes 2 (w / 1024) ++ leBytes 1 stream ++ leBytes 1 k ++ leBytes 1 0)) ∧
      (x.sync = true → (∀ k ∈ rdsNext x.expect, rdsFix w (rdsOffsets.getD k 0) (s.dev.cxEff c (O.cxRdsErrMax c)).toNat = none) →
        Completes (.rdsBlock c stream chips sample first) s [.cx] os [] (fun e =>
          s.dev.counted e (O.cxRdsBlocks c) 1 ∧ s.dev.counted e (O.cxRdsUncorr c) 1 ∧ s.dev.ctxOnly e c))) ∧
    (∀ r : MeasRep, s.dev.nat (O.cxType c) = 9 → s.dev.cxWorks c = true →
      Completes (.measWindowEnd c r) s [.cx, .ticks, .time] (among [O.cxMpxPower c, O.cxDevExceed c]) [] (fun e =>
        (∃ b, (e.ctx c).meas = (s.dev.ctx c).meas ++ [b]) ∧ s.dev.ctxOnly e c ∧
        let was := match (s.dev.ctx c).cuts with | w :: _ => w.1 | [] => (s.dev.ctx c).window
        (s.dev.cxKind c = 0 → (e.num (O.cxMpxPower c), e.nat (O.cxDevExceed c)) = (s.dev.measRecord c was 0 false r).2) ∧
        ((s.dev.ctx c).cuts = [] → (e.ctx c).window.rows = []) ∧ (∀ w l, (s.dev.ctx c).cuts = w :: l → (e.ctx c).cuts = l)))

/-- DIGITAL_INDICATOR_INTERVAL of a working digital context computes its indicators, which wait for the end of the run: −327.68 in HOLD.
SERVICE_INFO_COMPLETE in LOCKED or SHADOW shows the signal parameters, or, when a DAB ensemble's EId has changed without a reconfiguration,
sends the context back to ACQUIRING. DAB_RECONFIG, DRM_RECONFIG and NRSC5_MODE_CHANGE count D_RECONFIG, mark the run, show the new signal
parameters, keep the selectors whose component keeps its place (NRSC-5: all), and stop the others, which resolve again. CODED_FRAME_FAILED
on a decoding selector counts its DEC_ERR. (R205, R206, R207, R208, R209, R214, R215) -/
def Obligations.DigitalReception : Prop :=
  ∀ (s : State) (c : Nat), 1 ≤ c → c < 64 →
    let k := s.dev.cxKind c
    let sig := [O.cxDMode c, O.cxDParam c, O.cxDrmInterleave c, O.cxDrmMscMap c, O.cxDrmServices c, O.cxNrSmode c, O.cxEid c, O.cxNrPrograms c, O.cxDReconfig c]
    let after := fun (keep : Nat → Bool) (i : SigInfo) (e : Dev) =>
      e.nat (O.cxDMode c) = i.mode ∧ e.nat (O.cxDParam c) = i.param ∧ s.dev.counted e (O.cxDReconfig c) 1 ∧ (e.ctx c).reconf = true ∧ (e.ctx c).seen = [] ∧
      s.dev.ctxOnly e c ∧ ∀ n < 5, let st := (s.dev.sel c n).state
        (keep n = true → st ≠ 1 → st ≠ 5 → e.sel c n = s.dev.sel c n) ∧
        (keep n = false → st ≠ 0 → if s.dev.selMode c n = 0 then (e.sel c n).state = 0 else (e.sel c n).state ∈ [1, 3, 5, 6])
    (∀ r : DigIn, s.dev.cxAnalogue c = false → k ≠ 5 → s.dev.nat (O.cxType c) ≠ 0 → s.dev.cxWorks c = true →
      Completes (.digitalIndicatorInterval c r) s [.cx, .ticks, .time] noObj [] (fun e =>
        let q := (e.ctx c).shown
        (s.dev.cxSt c = 5 → ∀ o ∈ [O.cxDLevel c, O.cxDSnr c, O.cxDMer c, O.cxDCdno c], (o, -32768, -32768) ∈ q) ∧
        (s.dev.cxSt c ≠ 5 → (O.cxDLevel c, levelOr (r.vals.getD 0 none), -32768) ∈ q ∧ (O.cxDSnr c, levelOr (r.vals.getD 1 none), -32768) ∈ q ∧
          (O.cxDMer c, levelOr (r.vals.getD 2 none), -32768) ∈ q ∧ (O.cxDOffset c, (r.vals.getD 3 none).getD 0, 0) ∈ q) ∧
        (e.ctx c).intervals = (s.dev.ctx c).intervals + 1 ∧ s.dev.ctxOnly e c)) ∧
    (∀ r : SvcRep, s.dev.cxDigital c = true → k = 2 → (s.dev.ctx c).info = true → s.dev.nat (O.cxEid c) ≠ r.eid →
      Completes (.serviceInfoComplete c r) s [.cx, .mf]
        (setsOf [O.cxState c, O.cxTState c, O.cxRdsSync c, O.cxSyncLock c, O.cxStereo c] (each 4 (O.cxHypState c) :: each 256 O.mfThrZone :: selSets c)) [] (fun e =>
        e.cxSt c = 2 ∧ (e.ctx c).hyps = [] ∧ (e.ctx c).info = false ∧ s.dev.ctxOnly e c)) ∧
    (∀ r : SvcRep, s.dev.cxDigital c = true → (k = 2 → (s.dev.ctx c).info = true → s.dev.nat (O.cxEid c) = r.eid) →
      Completes (.serviceInfoComplete c r) s [.cx] (setsOf sig (selSets c)) [] (fun e =>
        e.nat (O.cxDMode c) = r.info.mode ∧ e.nat (O.cxDParam c) = r.info.param ∧ (e.ctx c).info = true ∧ e.cxSt c = s.dev.cxSt c ∧ s.dev.ctxOnly e c ∧
        (k = 2 → e.nat (O.cxEid c) = r.eid) ∧ (k = 3 → e.nat (O.cxDrmServices c) = r.info.services) ∧ (k = 4 → e.nat (O.cxNrSmode c) = r.info.smode))) ∧
    (∀ cif (r : SvcRep), s.dev.cxDigital c = true → k = 2 →
      Completes (.dabReconfig c cif r) s [.cx] (setsOf (O.cxCifCount c :: sig) (selSets c)) [] (fun e =>
        after (fun n => s.dev.selKept c n r.services) r.info e ∧ e.nat (O.cxEid c) = r.eid ∧ e.nat (O.cxCifCount c) = cif ∧ (e.ctx c).svcs = r.services)) ∧
    (∀ l i, s.dev.cxDigital c = true → k = 3 → Completes (.drmReconfig c l i) s [.cx] (setsOf sig (selSets c)) [] (fun e =>
      after (fun n => s.dev.selKept c n l) i e ∧ (e.ctx c).svcs = l)) ∧
    (∀ i, s.dev.cxDigital c = true → k = 4 → Completes (.nrsc5ModeChange c i) s [.cx] (setsOf sig (selSets c)) [] (fun e =>
      after (fun _ => true) i e ∧ ∀ n < 5, e.sel c n = s.dev.sel c n)) ∧
    (∀ n < 5, (s.dev.sel c n).state = 2 → Completes (.codedFrameFailed c n) s [.cx] (setsOf [] (each 4 (O.cxDecErr c) :: selSets c)) [] (fun e =>
      (e.ctx c).audioErr = (s.dev.ctx c).audioErr + 1 ∧ (n < 4 → s.dev.counted e (O.cxDecErr c n) 1) ∧ (n = 0 → (e.ctx c).errAt = some s.dev.mono) ∧ s.dev.ctxOnly e c))

/-- SWEEP_FRAME shows the frame's number, no earlier than its samples have passed, and adds it with the gain indices of the doors to every
open interval of a chain in RUN in which its time stamp falls. SWEEP_INTERVAL_END takes the first interval of the segment and chain that has
ended and forms its records; none having ended, the open one ends at the next multiple of its length, its records are formed 166.667 µs
later, and an interval that starts no earlier is open; with no interval of that segment and chain nothing happens. (R86, R92, R93, R95, R96) -/
def Obligations.SweepIntervals : Prop :=
  ∀ s : State, s.dev.fabricOn = true →
    let j := max s.dev.lens.frames (s.dev.sampleIndex / 65536 - 2)
    let stamp := s.dev.rf.epoch + ceilDiv ((65536 * j + 65536) * 1000000) 393216
    Completes .sweepFrame s [.lens, .time] (only O.lnSweepFrames) [] (fun e =>
      e.nat O.lnSweepFrames = j ∧ e.lens.frames = j + 1 ∧
      s.dev.rf.epoch + ceilDiv ((65536 * j + 131072) * 1000000) 393216 ≤ e.mono ∧
      ∀ p ∈ s.dev.lens.ints, let sg := s.dev.lens.plan.getD (p.1 / 8) {}
        e.now < p.2.tEnd sg → ∃ q ∈ e.lens.ints, q.1 = p.1 ∧ q.2.tStart = p.2.tStart ∧
          q.2.frames = if p.2.takes sg stamp = true ∧ s.dev.chainUp (p.1 % 8) = true
            then p.2.frames ++ [(j, (List.range 3).map (fun i => (s.dev.door (p.1 % 8) i).g))] else p.2.frames) ∧
    ∀ seg chain frames, seg < 64 → chain < 6 →
      let k := 8 * seg + chain
      let tEnd := (Tab.get {} s.dev.lens.ints k).tEnd (s.dev.lens.plan.getD seg {})
      let os := setsOf [O.lnSweepLost] [each 8 O.lnStreamSeq, each 8 O.lnStreamLost]
      (∀ c, s.dev.lens.due.find? (fun c => decide (c.1 = k)) = some c →
        Completes (.sweepIntervalEnd seg chain frames) s [.lens, .ll, .mf, .rings] os [40] (fun e =>
          e.lens.due = s.dev.lens.due.erase c ∧ e.lens.ints = s.dev.lens.ints ∧ e.lens.plan = s.dev.lens.plan)) ∧
      (s.dev.lens.due.find? (fun c => decide (c.1 = k)) = none → Tab.has s.dev.lens.ints k = true →
        Completes (.sweepIntervalEnd seg chain frames) s [.lens, .ll, .mf, .rings, .time] os [40] (fun e =>
          tEnd + 166667 ≤ e.now ∧ e.lens.plan = s.dev.lens.plan ∧ ∃ q ∈ e.lens.ints, q.1 = k ∧ tEnd ≤ q.2.tStart ∧ q.2.tStart ≤ e.now)) ∧
      (s.dev.lens.due.find? (fun c => decide (c.1 = k)) = none → Tab.has s.dev.lens.ints k = false →
        Completes (.sweepIntervalEnd seg chain frames) s [] noObj [] (fun e => e.lens = s.dev.lens))

/-- While K1 executes, MOT_TIMEOUT discards an incomplete object 60 s after its first segment and counts it, one that was too large
excepted, which has been counted, and SVC_AGE_OUT removes a service that has had no source for SVC_AGE_S. An accepted SVC_DUMP gives one
record per service on every stream that carries them, where all find room. SD_STREAM_STALL of a stream that has lacked room for 1 s disables
it, counts the stall and raises event 123. (R232, R235, R246) -/
def Obligations.SideData : Prop :=
  ∀ s : State,
    (∀ c sub tid m, s.dev.sd.mots.find? (fun m => decide (m.ctx = c) && decide (m.sub = sub) && decide (m.tid = tid)) = some m → s.dev.keeperUp 1 = true →
      Completes (.motTimeout c sub tid) s [.sd, .time] (only O.sdMotDiscarded) [] (fun e =>
        e.sd = { s.dev.sd with mots := s.dev.sd.mots.filter (fun m => !(decide (m.ctx = c) && decide (m.sub = sub) && decide (m.tid = tid))) } ∧
        (if m.dead = true then e.nat O.sdMotDiscarded = s.dev.nat O.sdMotDiscarded else s.dev.counted e O.sdMotDiscarded 1) ∧ m.since + 60000000000 ≤ e.mono)) ∧
    (∀ i x t, s.dev.sd.svcs.find? (fun p => decide (p.1 = i)) = some (i, x) → x.noSrc = some t → s.dev.nat O.sdSvcAgeS ≠ 0 → s.dev.keeperUp 1 = true →
      Completes (.svcAgeOut i) s [.rings, .sd, .time] (setsOf [O.sdSvcCount] [each 8 O.sdSdStreamSeq]) [] (fun e =>
        e.sd.svcs = Tab.erase s.dev.sd.svcs i ∧ e.nat O.sdSvcCount = e.sd.svcs.length ∧ t + 1000000000 * s.dev.nat O.sdSvcAgeS ≤ e.mono)) ∧
    (∀ org, s.dev.accepts org [writeNum O.sdSvcDump 1] →
      Completes (.svcDump org) s ([.rings, .sd] ++ writeParts) (setsOf writeObjs [each 8 O.sdSdStreamSeq]) [126] (fun e =>
        e.sd.svcs = s.dev.sd.svcs ∧
        (s.dev.sd.out = [] →
          (∀ k < 8, s.dev.sdUsed k + (s.dev.sd.svcs.map (fun p => ringBytes (32 + (s.dev.svcPayload p.2 false).length))).sum ≤ 65536) →
          e.sd.out = [] ∧ ∀ k < 8, e.nat (O.sdSdStreamSeq k) =
            if s.dev.sdCarries k 0x26 0 = true ∧ s.dev.sd.svcs ≠ [] then (s.dev.nat (O.sdSdStreamSeq k) + s.dev.sd.svcs.length) % 2 ^ 32
            else s.dev.nat (O.sdSdStreamSeq k)))) ∧
    (∀ i < 8, ∀ t, s.dev.sd.full.find? (fun p => decide (p.1 = i)) = some (i, t) → t + 1000000000 ≤ s.dev.mono →
      s.dev.accepts { firmware with source := 0xFF01 } [writeNum (O.sdSdStreamEnable i) 0] →
      Completes (.sdStreamStall i) s ([.rings, .sd] ++ writeParts)
        (setsOf ([O.sdSdStreamEnable i, O.sdSdStreamStalls i] ++ writeObjs) [each 8 O.sdSdStreamSeq]) [123, 126] (fun e =>
        e.flag (O.sdSdStreamEnable i) = false ∧ s.dev.counted e (O.sdSdStreamStalls i) 1 ∧ s.dev.told e 123 i))

/-- FH_INDICATION takes the oldest indication, up to 1 ms after it was decoded. The first indication of a warning that needs more than one
takes a free slot to CONFIRMING; the one that completes FH_CONFIRM outside SENTRY makes it ACTIVE, counts FH_COUNT and raises event 120.
FH_CONFIRM_WINDOW_END frees a DAB slot 2 s after its first indication. FH_SOURCE_READY routes an ACTIVE warning of action ROUTE.
FH_END_TIMEOUT once nothing of its class has been heard for the limit, FH_SOURCE_LOST with every source in HOLD for 5 s, and an accepted
WARN_DISMISS end it with causes 1, 3 and 2 and event 121; a dismissed one is ignored until an end indication. (R238, R241, R243) -/
def Obligations.Foghorn : Prop :=
  ∀ s : State, (∀ w < 8, s.dev.nat (O.sdWarnContext w) < 64) → (∀ w < 8, ∀ n, (s.dev.warn w).own = some n → n < 64) →
    let endObjs := fun (w : Nat) => setsOf [O.sdWarnState w, O.sdWarnEndCause w]
      ([each 32 O.auRouteState, each 8 O.sdWarnPorts, each 64 O.cxState, each 64 O.cxTState, each 8 O.sdSdStreamSeq, each2 64 4 O.cxSelState, each2 64 4 O.cxSelCodec,
        each2 64 4 O.cxDecFs, each2 64 4 O.cxDecSlot])
    let ended := fun (w cause : Nat) (e : Dev) => e.warnSt w = 0 ∧ e.nat (O.sdWarnEndCause w) = cause ∧ e.warn w = {} ∧ s.dev.told e 121 w
    (∀ us (i : FhInd) (l : List FhInd) (w : Nat), s.dev.sd.inds = i :: l → i.ctx < 64 → s.dev.serverUp = true → s.dev.fhFits i.ctx i.cls = true →
      i.present = true → (i.cls, i.sid) ∉ s.dev.sd.quiet → i.cls ≠ 2 → (∀ v < 8, s.dev.fhMeans i v = false) → s.dev.fhAction i.cls ≠ 0 →
      (List.range 8).find? (fun v => decide (s.dev.warnSt v = 0)) = some w → 1 < s.dev.nat O.sdFhConfirm →
      Completes (.fhIndication us) s [.sd, .time, .rings]
        (setsOf [O.sdWarnState w, O.sdWarnClass w, O.sdWarnSid w, O.sdWarnContext w, O.sdWarnEndCause w, O.sdWarnTStart w] [each 8 O.sdSdStreamSeq]) [] (fun e =>
        e.warnSt w = 1 ∧ e.nat (O.sdWarnClass w) = i.cls ∧ e.nat (O.sdWarnSid w) = i.sid ∧ e.nat (O.sdWarnContext w) = i.ctx ∧ e.sd.inds = l ∧
        i.at_ + 1000 * min us 1000 ≤ e.mono)) ∧
    (∀ us (i : FhInd) (l : List FhInd) (w : Nat), s.dev.sd.inds = i :: l → i.ctx < 64 → s.dev.serverUp = true → s.dev.fhFits i.ctx i.cls = true →
      i.present = true → (i.cls, i.sid) ∉ s.dev.sd.quiet → i.cls ≠ 2 → ((List.range 8).filter (s.dev.fhMeans i)).head? = some w →
      s.dev.warnSt w = 1 → s.dev.nat O.sdFhConfirm ≤ Tab.get 0 (s.dev.warn w).seen i.ctx + 1 → s.dev.inSentry = false →
      Answers (.fhIndication us) s (fun e => e.warnSt w = 2 ∧ s.dev.counted e O.sdFhCount 1 ∧ s.dev.told e 120 w)) ∧
    (s.dev.sd.inds = [] → ∀ us, Completes (.fhIndication us) s [] noObj [] (fun _ => True)) ∧
    (∀ w < 8, s.dev.warnSt w = 1 → (s.dev.warn w).cls = 2 →
      Completes (.fhConfirmWindowEnd w) s [.sd, .time] (only (O.sdWarnState w)) [] (fun e =>
        e.warnSt w = 0 ∧ e.warn w = {} ∧ (s.dev.warn w).first + 2000000000 ≤ e.mono)) ∧
    (∀ w < 8, s.dev.warnSt w = 2 → s.dev.fhAction (s.dev.warn w).cls = 2 → s.dev.fhReady w = true →
      Completes (.fhSourceReady w) s [.au] (setsOf [O.sdWarnState w] [each 32 O.auRouteState, each 8 O.sdWarnPorts]) [] (fun e => e.warnSt w = 3)) ∧
    (∀ w < 8, ∀ t, (s.dev.warnSt w = 2 ∨ s.dev.warnSt w = 3) → s.dev.fhSilent (s.dev.warn w) = some t →
      Completes (.fhEndTimeout w) s [.au, .cx, .rings, .sd, .time] (endObjs w) [121] (fun e =>
        ended w 1 e ∧ t + (if (s.dev.warn w).cls < 2 then 10000000000 else 5000000000) ≤ e.mono)) ∧
    (∀ w < 8, (s.dev.warnSt w = 2 ∨ s.dev.warnSt w = 3) →
      let l := (s.dev.warn w).srcs.filter (fun c => s.dev.fhAlive (s.dev.warn w) c)
      l ≠ [] → (∀ c ∈ l, s.dev.cxSt c = 5) →
      Completes (.fhSourceLost w) s [.au, .cx, .rings, .sd, .time] (endObjs w) [121] (fun e =>
        ended w 3 e ∧ ∀ c ∈ l, (s.dev.ctx c).since + 5000000000 ≤ e.mono)) ∧
    (∀ org, ∀ w < 8, (s.dev.warnSt w = 2 ∨ s.dev.warnSt w = 3) → s.dev.accepts org [writeNum (O.sdWarnDismiss w) 1] →
      Answers (.warnDismiss org w) s (fun e => ended w 2 e ∧ ((s.dev.warn w).cls, (s.dev.warn w).sid) ∈ e.sd.quiet))

/-- An accepted LL_ACTIVATE of an area starts its checks. With the Keeper of each executing (K0 for checks, K2 for the rest), LL_CHECKS_DONE
makes a list that passes wait for the next following run; a failure shows its code and raises event 124 with cause 7, and at start-up the
next area is checked. LL_BLOCK_FETCH of a block that matches its leaf hash puts it first in the cache with one miss; one that fails twice is
marked BAD with event 124 cause 5; a cached block moves to the front. An accepted position write stamps POS_T and makes the position valid,
unless the latitude says there is none; POSITION_STALE follows after POS_TIMEOUT_MS. (R256, R257, R259, R262) -/
def Obligations.LightList : Prop :=
  ∀ s : State,
    (∀ org (v : Nat), 1 ≤ v → v ≤ 2 → s.dev.accepts org [writeNum O.llLlActivate v] →
      Completes (.llActivate org v) s (.ll :: writeParts) (among (O.llLlActResult :: O.llLlState :: writeObjs)) [126] (fun e =>
        e.ll = { s.dev.ll with checking := some v, tries := [] } ∧ e.nat O.llLlActResult = 1 ∧ e.nat O.llLlState = 1)) ∧
    (∀ a, s.dev.ll.checking = some a → s.dev.keeperUp 0 = true →
      let r := s.dev.llCheck a
      let back := if s.dev.ll.img.isSome = true then 2 else 0
      (r.1 = 0 → Completes .llChecksDone s [.ll] (only O.llLlState) [] (fun e =>
        e.ll = { s.dev.ll with checking := none, next := some r.2.1, tries := [] } ∧ e.nat O.llLlState = back)) ∧
      (r.1 ≠ 0 → s.dev.ll.tries = [] →
        Completes .llChecksDone s [.ll, .log, .nvm] (among [O.llLlState, O.llLlActResult, O.llLlEventCause]) [9, 124] (fun e =>
          e.ll = { s.dev.ll with checking := none } ∧ e.nat O.llLlActResult = r.1 ∧ e.nat O.llLlState = back ∧ e.nat O.llLlEventCause = 7 ∧ s.dev.told e 124 7)) ∧
      (∀ b t, r.1 ≠ 0 → s.dev.ll.tries = b :: t →
        Completes .llChecksDone s [.ll, .log, .nvm] (among [O.llLlState, O.llLlActResult, O.llLlEventCause]) [9, 124] (fun e =>
          e.ll = { s.dev.ll with checking := some b, tries := t } ∧ e.nat O.llLlActResult = 1 ∧ e.nat O.llLlState = 1 ∧ s.dev.told e 124 7))) ∧
    (∀ w b, s.dev.ll.img = some w → b < w.blocks → b ∉ w.bad → s.dev.keeperUp 2 = true →
      let os := among [O.llLlCacheMiss, O.llLlBlockFail, O.llLlEventCause, O.llLlBlocksBad]
      (∀ x, w.cache.find? (fun x => decide (x.1 = b)) = some x → Completes (.llBlockFetch b) s [.ll] noObj [] (fun e =>
        e.ll = { s.dev.ll with img := some { w with cache := x :: w.cache.filter (fun x => decide (x.1 ≠ b)) } })) ∧
      (w.cache.find? (fun x => decide (x.1 = b)) = none → s.dev.llBlockOk w b = true → Completes (.llBlockFetch b) s [.ll] os [] (fun e =>
        e.ll = { s.dev.ll with img := some { w with cache := ((b, s.dev.llBlock w b) :: w.cache).take w.size } } ∧ s.dev.counted e O.llLlCacheMiss 1 ∧
        e.nat O.llLlBlockFail = s.dev.nat O.llLlBlockFail)) ∧
      (w.cache.find? (fun x => decide (x.1 = b)) = none → s.dev.llBlockOk w b = false → Completes (.llBlockFetch b) s [.ll] os [124] (fun e =>
        e.ll = { s.dev.ll with img := some { w with bad := w.bad ++ [b] } } ∧ s.dev.counted e O.llLlCacheMiss 2 ∧ s.dev.counted e O.llLlBlockFail 1 ∧
        e.nat O.llLlBlocksBad = w.bad.length + 1 ∧ s.dev.told e 124 5))) ∧
    (∀ org (lat lon : Int), -2147483648 ≤ lat → lat < 2147483648 → -2147483648 ≤ lon → lon < 2147483648 →
      s.dev.accepts org [writeNum O.llPosLat lat, writeNum O.llPosLon lon] →
      Completes (.positionWrite org lat lon) s (.lens :: writeParts) (among ([O.llPosLat, O.llPosLon, O.llPosT, O.llPosState] ++ writeObjs)) [126] (fun e =>
        e.num O.llPosLat = lat ∧ e.num O.llPosLon = lon ∧ e.nat O.llPosT = s.dev.now ∧ e.nat O.llPosState = (if lat = -2147483648 then 0 else 1) ∧
        e.lens = { s.dev.lens with posWritten := true })) ∧
    (s.dev.nat O.llPosState = 1 → s.dev.keeperUp 2 = true → Completes .positionStale s [.time] (only O.llPosState) [] (fun e =>
      e.nat O.llPosState = 2 ∧ s.dev.nat O.llPosT + 1000000 * s.dev.nat O.llPosTimeoutMs ≤ e.now))

/-- An accepted FOLLOW_ENABLE of 1 takes an OFF slot to SEARCHING; 0 empties it and releases its contexts. While K2 executes,
SHADOW_ID_TIMEOUT of a shadow not yet identified drops it as failed and releases its context. CORR_REFRESH of a locked shadow, given both
windows whole, correlates them and accepts the lag, within 192,032 samples, whose peak reaches CORR_MIN, with the levels; a lower peak
leaves the lag it had, and without an active source or whole windows nothing changes. FOLLOW_XFADE_START starts the crossfade of a switch at
a 1 ms boundary; at FOLLOW_XFADE_DONE the target becomes active, the lines exchange roles, and SWITCH_COUNT, OUT_DELAY, OUT_GAIN, LAST_LAG
and LAST_SWITCH follow, with event 124 cause 1. (R267, R271, R273, R274, R275) -/
def Obligations.ServiceFollowing : Prop :=
  ∀ (s : State) (f : Nat), f < 2 →
    let x := s.dev.llSlot f
    let st := s.dev.nat (O.llFollowState f)
    let others := fun (e : Dev) => ∀ g, g ≠ f → e.llSlot g = s.dev.llSlot g
    (∀ org, s.dev.accepts org [writeNum (O.llFollowEnable f) 1] → st = 0 →
      Completes (.followEnable org f 1) s (.ll :: writeParts) (among (O.llFollowEnable f :: O.llFollowState f :: writeObjs)) [126] (fun e =>
        e.flag (O.llFollowEnable f) = true ∧ e.nat (O.llFollowState f) = 1 ∧ e.llSlot f = {} ∧ others e)) ∧
    (∀ org, s.dev.accepts org [writeNum (O.llFollowEnable f) 0] → st ≠ 0 → (∀ y ∈ x.others ++ x.active.toList, y.ctx < 64) →
      Completes (.followEnable org f 0) s ([.cx, .ll] ++ writeParts)
        (setsOf ([O.llFollowEnable f, O.llFollowState f, O.llCandSource f, O.llCandCount f, O.llOutDelay f, O.llActiveContext f, O.llShadowContexts f] ++ writeObjs)
          [each 64 O.cxState, each 64 O.cxTState]) [126] (fun e =>
        e.flag (O.llFollowEnable f) = false ∧ e.nat (O.llFollowState f) = 0 ∧ e.llSlot f = { fails := x.fails, ids := x.ids } ∧ others e ∧
        (∀ y ∈ x.others ++ x.active.toList, s.dev.cxSt y.ctx ≠ 0 → s.dev.nat (O.cxOwner y.ctx) = 3 → e.cxSt y.ctx = 6))) ∧
    (∀ c y, c < 64 → x.others.find? (fun y => decide (y.ctx = c) && !y.known) = some y → s.dev.keeperUp 2 = true →
      Completes (.shadowIdTimeout f c) s [.cx, .ll, .time] (among [O.llActiveContext f, O.llShadowContexts f, O.cxState c, O.cxTState c]) [] (fun e =>
        e.llSlot f = { x with others := x.others.filter (fun z => decide (z.ctx ≠ c)), fails := x.fails ++ [(y.cand, e.mono)] } ∧ others e ∧
        y.armed + 1000000 * s.dev.nat O.llIdTimeoutMs ≤ e.mono ∧ (s.dev.cxSt c ≠ 0 → s.dev.nat (O.cxOwner c) = 3 → e.cxSt c = 6) ∧
        (s.dev.nat (O.cxOwner c) ≠ 3 → e.cxSt c = s.dev.cxSt c))) ∧
    (∀ c y al ar sl sr, x.others.find? (fun y => decide (y.ctx = c)) = some y →
      let n := 48 * s.dev.nat O.llCorrWindowMs
      let r := corrFind (List.zipWith (· + ·) al ar) (List.zipWith (· + ·) sl sr)
      let whole := x.active.isSome = true ∧ (s.dev.cxSt c = 3 ∨ s.dev.cxSt c = 4) ∧ al.length = n ∧ sl.length = n + 384064
      Completes (.corrRefresh f c al ar sl sr) s [.ll, .time] noObj [] (fun e =>
        others e ∧ (∀ t, y.corrAt = some t → t + 1000000000 * s.dev.nat O.llCorrRefreshS ≤ e.mono) ∧ -192032 ≤ r.1 ∧ r.1 ≤ 192032 ∧
        (whole → e.llSlot f = { x with others := x.others.map (fun z => if z.ctx = c then
          { z with lag := (if s.dev.num O.llCorrMin ≤ r.2.1 then some (r.1, r.2.2.1, r.2.2.2, e.mono) else y.lag), corrAt := some e.mono } else z) }) ∧
        (¬ whole → e.llSlot f = x))) ∧
    (∀ t, x.target = some t → st = 3 → x.fade = none → s.dev.cxSt t.1 = 3 → s.dev.keeperUp 2 = true →
      let l := if x.useB = true then x.lineA else x.lineB
      l.ctx = t.1 → l.d ≤ l.held.length →
      Completes (.followXfadeStart f) s [.ll, .time] noObj [] (fun e =>
        e.llSlot f = { x with fade := some { start := frameAfter e.now, len := framesMs t.2.1 } } ∧ others e ∧
        e.now = (s.dev.now + 999999) / 1000000 * 1000000)) ∧
    (∀ t h, x.target = some t → x.fade = some h → st = 3 → h.rev = none → s.dev.keeperUp 2 = true →
      let l := if x.useB = true then x.lineA else x.lineB
      Completes (.followXfadeDone f) s [.ll, .time]
        (among [O.llFollowState f, O.llSwitchCount f, O.llOutDelay f, O.llOutGain f, O.llLastLag f, O.llLastSwitch f, O.llActiveContext f, O.llShadowContexts f,
          O.llLlEventCause]) [124] (fun e =>
        e.nat (O.llFollowState f) = 2 ∧ s.dev.counted e (O.llSwitchCount f) 1 ∧ e.nat (O.llOutDelay f) = l.d ∧ e.num (O.llOutGain f) = l.g ∧
        e.num (O.llLastLag f) = t.2.2 ∧ e.nat (O.llLastSwitch f) = e.now ∧ (h.start + h.len) * 1000000000 / 48000 ≤ e.now ∧ others e ∧
        (e.llSlot f).active = x.others.find? (fun y => decide (y.ctx = t.1)) ∧ (e.llSlot f).useB = !x.useB ∧ (e.llSlot f).target = none ∧
        (e.llSlot f).fade = none ∧ s.dev.told e 124 (256 * f + 1)))

/-- MF_INPUT of a chain channel that starts with the plain settings (no median, preset 0, 1 ms, linear) gives its input, the clipped samples
of the millisecond or the mean feed current, back as its first output, saturated to 32 bits, at its grid time; a channel of a context or
segment takes the oldest input fed to it and is live. MF_RECORD_TIMEOUT, 100 ms after the first held output, queues the record on every
enabled stream the channel names. Accepted writes of MEDIAN, PRESET or DOMAIN make every live channel outside a crossfade prepare a filter
with the new settings; OUT_MS restarts it at an output time to come; THR_CHANNEL puts the threshold's zone at UNKNOWN. (R279, R281, R284,
R291, R293, R297, R298) -/
def Obligations.MeasurementFilters : Prop :=
  ∀ s : State,
    let obs := fun (ch : Nat) => setsOf [O.mfMfChannels, O.mfReadValue, O.mfReadFlags, O.mfReadTime]
      [each 8 O.lnStreamSeq, each 256 O.mfThrZone, each 256 O.mfThrT, each 256 O.mfThrCount, each 4 O.mfThrPending,
        fun o => ∃ k, 6 ≤ k ∧ k ≤ 8 ∧ s.dev.mfOid ch k = some o]
    (∀ ch vals, 512 ≤ ch → ch < 512 + 2 * s.dev.chains → s.dev.mfChan ch = {} → s.dev.mfSet ch 0 ≤ 1 → s.dev.mfSet ch 1 = 0 → s.dev.mfSet ch 2 ≤ 1 →
      s.dev.mfSet ch 4 ≠ 1 → (ch % 2 = 0 → s.dev.nat (O.cpChainState ((ch - 512) / 2)) = 2) →
      let n := (ch - 512) / 2
      let v := if ch % 2 = 0 then (((s.dev.chain n).clipped + vals.sum.toNat : Nat) : Int) else s.dev.feedMean n vals
      Completes (.mfInput ch vals) s [.lens, .mf, .rf, .rings, .ticks, .time] (setsOf [O.cpClipSamples n, O.cpFeedCurrent n] [obs ch]) [125] (fun e =>
        (e.mfChan ch).live = true ∧ (e.mfChan ch).last = some (satS 32 v, 0, e.now / 1000000 * 1000000) ∧
        (∀ o, s.dev.mfOid ch 6 = some o → e.num o = satS 32 v) ∧
        (ch % 2 = 0 → (e.chain n).clipped = 0 ∧
          (s.dev.nat (O.cpClipSamples n) + vals.sum.toNat < 2 ^ 64 → e.nat (O.cpClipSamples n) = s.dev.nat (O.cpClipSamples n) + vals.sum.toNat)) ∧
        (ch % 2 = 1 → e.num (O.cpFeedCurrent n) = v))) ∧
    (∀ ch vals i, (ch < 512 ∨ 1024 ≤ ch) → s.dev.mfBlock ch ≠ none → s.dev.mf.inq.find? (fun p => decide (p.1 = ch)) = some (ch, i) →
      Completes (.mfInput ch vals) s [.lens, .mf, .rings] (obs ch) [125] (fun e =>
        e.mf.inq = s.dev.mf.inq.erase (ch, i) ∧ (e.mfChan ch).live = true)) ∧
    (∀ ch, (s.dev.mfChan ch).held ≠ [] →
      Completes (.mfRecordTimeout ch) s [.lens, .mf, .rings, .time] (each 8 O.lnStreamSeq) [] (fun e =>
        e.mfChan ch = { s.dev.mfChan ch with held := [] } ∧ (s.dev.mfChan ch).heldAt + 100000000 ≤ e.mono ∧
        ∀ k < 8, e.nat (O.lnStreamSeq k) = if (s.dev.mfSet ch 5).testBit k = true ∧ s.dev.flag (O.lnStreamEnable k) = true
          then (s.dev.nat (O.lnStreamSeq k) + 1) % 2 ^ 32 else s.dev.nat (O.lnStreamSeq k))) ∧
    (∀ org oid (v : Nat), O.area oid = 12 → 0x100 ≤ O.item oid → O.item oid < 0x400 → (O.elem oid / 8 = 0 ∨ O.elem oid / 8 = 1 ∨ O.elem oid / 8 = 4) →
      s.dev.accepts org [writeNum oid v] →
      Completes (.filterSettingsWrite org oid v) s (.mf :: writeParts) (among (oid :: O.mfSuperseded :: writeObjs)) [126] (fun e =>
        e.get oid = (s.dev.store_ oid ((Dict.ty oid).decode ((Dict.ty oid).encode (.num v)))).get oid ∧
        (∀ ch ∈ s.dev.mfChansOf (O.item oid) (O.elem oid % 8), (s.dev.mfChan ch).live = true → (s.dev.mfChan ch).fade = none →
          e.mfChan ch = { s.dev.mfChan ch with wait := some (e.mfFresh ch) }) ∧
        ∀ ch, ch ∉ s.dev.mfChansOf (O.item oid) (O.elem oid % 8) → e.mfChan ch = s.dev.mfChan ch)) ∧
    (∀ org oid (v : Nat), O.area oid = 12 → 0x100 ≤ O.item oid → O.item oid < 0x400 → O.elem oid / 8 = 2 → s.dev.accepts org [writeNum oid v] →
      Completes (.outMs org oid v) s (.mf :: writeParts) (among (oid :: writeObjs)) [126] (fun e =>
        e.get oid = (s.dev.store_ oid ((Dict.ty oid).decode ((Dict.ty oid).encode (.num v)))).get oid ∧
        (∀ ch ∈ s.dev.mfChansOf (O.item oid) (O.elem oid % 8), (s.dev.mfChan ch).live = true →
          (e.mfChan ch).wait = none ∧ (e.mfChan ch).fade = none ∧ (e.mfChan ch).later = none ∧
          ∃ r, (e.mfChan ch).restart = some r ∧ (0 < s.dev.mfTin ch → s.dev.now < r)) ∧
        ∀ ch, ch ∉ s.dev.mfChansOf (O.item oid) (O.elem oid % 8) → e.mfChan ch = s.dev.mfChan ch)) ∧
    (∀ org t (v : Nat), t < 256 → v < 65536 → s.dev.accepts org [writeNum (O.mfThrChannel t) v] →
      Completes (.thrChannel org t v) s (.mf :: writeParts) (among (O.mfThrChannel t :: O.mfThrZone t :: writeObjs)) [126] (fun e =>
        e.nat (O.mfThrChannel t) = v ∧ e.nat (O.mfThrZone t) = 0 ∧ e.thr t = (0, 0)))

/-- While K3 executes, with LANEG_CHAIN n: LANEG_WARM_DONE leads to SELF_CAL when lane G is due, else to OVERLAP_IN with LANE 1; the
self-calibration counts, stamps and leads to OVERLAP_IN, or to IDLE with event 43 when lane G itself was selected. An overlap within R312,
its usable samples among them, applies the alignment (XFADE_IN), another aborts: LANE 0, IDLE, ABORTS, event 44 with 256n + 4. The crossfade
gives LANE 2, the recalibration counts lane n, or fails with event 44 and 256n + 5, and LANE reads 1 again; the next overlap ramps the
alignment to the difference, and XFADE_OUT_DONE gives LANE 0, IDLE, HANDOVERS, a stamp of the lane and event 43. Each stage lasts its time,
and a command that came meanwhile stays due. With LANEG_CHAIN 255, LANEG_SELF_CAL_DONE in SELF_CAL shows and counts the results of lane G,
stamps it, powers it down (IDLE), and raises event 43 with cause 2 and lane 6. (R70, R301, R308, R309, R311, R312, R313) -/
def Obligations.LampChanger : Prop :=
  (∀ (s : State) (n : Nat), n < 6 → s.dev.nat O.cpLanegChain = n → s.dev.keeperUp 3 = true →
    let st := s.dev.nat O.cpLanegStage
    let t0 := s.dev.cal.stageAt
    let ramp := Tab.get {} s.dev.cal.ramps 0
    let lane := 19 + 4 * n
    let align := [O.cpAlignDelay, O.cpAlignGain 0, O.cpAlignGain 1, O.cpAlignGain 2, O.cpAlignPhase 0, O.cpAlignPhase 1, O.cpAlignPhase 2]
    let results := fun (k : Nat) (r : LaneReport) (e : Dev) =>
      s.dev.counted e (O.caLaneCalCount k) 1 ∧ e.nat (O.caTrimMargin k) = r.margins.foldl min (r.margins.headD 0) ∧
      e.laneSel k = { s.dev.laneSel k with elems := r.elems.foldl elemReplace (s.dev.laneSel k).elems } ∧
      e.nat (O.caSparesUsed k) = satU 8 (((e.laneSel k).elems.filter (fun x => x.live)).length : Nat) ∧
      ∀ i < 4, e.num (O.caCqf k i) = worst (r.figs.getD i [])
    let idle := fun (e : Dev) => e.nat O.cpLanegStage = 0 ∧ e.nat O.cpLanegChain = 255 ∧ e.nat (O.cpLane n) = 0
    let at_ := fun (k : Nat) (e : Dev) => e.nat O.cpLanegStage = k ∧ e.cal.stageAt = e.mono
    (st = 1 →
      Completes .lanegWarmDone s [.cal, .lens, .mf, .time] (among [O.cpLanegStage, O.cpLane n]) [lane] (fun e =>
        t0 + 200000 ≤ e.mono ∧ (s.dev.nat (O.caLaneDue 6) ≠ 0 → at_ 2 e ∧ e.nat (O.cpLane n) = s.dev.nat (O.cpLane n)) ∧
        (s.dev.nat (O.caLaneDue 6) = 0 → at_ 3 e ∧ e.nat (O.cpLane n) = 1 ∧ s.dev.told e lane 1))) ∧
    (st = 2 → ∀ r,
      Completes (.lanegSelfCalDone r) s [.cal, .lens, .mf]
        (setsOf [O.cpLanegStage, O.cpLane n, O.caLaneDue 6, O.caLaneLastT 6, O.caLaneLastTemp 6, O.caLaneCalCount 6, O.caSparesUsed 6, O.caTrimMargin 6]
          [each 4 (O.caCqf 6)]) [lane, 45] (fun e =>
        results 6 r e ∧ at_ 3 e ∧ e.nat (O.cpLane n) = 1 ∧ s.dev.told e lane 1 ∧ e.nat (O.caLaneLastT 6) = s.dev.now ∧
        e.num (O.caLaneLastTemp 6) = s.dev.num (O.pwTemp 6) ∧ (e.nat (O.caLaneDue 6) = if (s.dev.dueBits 6).testBit 3 = true then 3 else 0))) ∧
    (st = 3 → ∀ a, a.gains.length = 3 → a.phases.length = 3 →
      let d1 := s.dev.after t0 2
      let usable := d1.overlapUsable n (d1.sampleIndex - 786432) d1.sampleIndex
      (alignWithin a = true → usable = true →
        Completes (.overlapInDone a) s [.cal, .rf, .time] (among (O.cpLanegStage :: align)) [] (fun e =>
          at_ 4 e ∧ t0 + 2000000 ≤ e.mono ∧ e.alignTerms = a.delay :: (a.gains ++ a.phases))) ∧
      (alignWithin a = false ∨ usable = false →
        Completes (.overlapInDone a) s [.cal, .lens, .mf, .rf, .time]
          (setsOf [O.cpLanegStage, O.cpLanegChain, O.cpLane n, O.cpAborts, O.caLastCause] [each 7 O.caLaneDue]) [lane, 44] (fun e =>
          idle e ∧ t0 + 2000000 ≤ e.mono ∧ s.dev.counted e O.cpAborts 1 ∧ e.nat O.caLastCause = 4 ∧ s.dev.told e lane 0 ∧ s.dev.told e 44 (256 * n + 4)))) ∧
    (st = 4 →
      Completes .xfadeInDone s [.cal, .lens, .mf, .rf, .time] (among [O.cpLanegStage, O.cpLane n]) [lane] (fun e =>
        at_ 5 e ∧ t0 + 1000000 ≤ e.mono ∧ e.nat (O.cpLane n) = 2 ∧ s.dev.told e lane 2)) ∧
    (st = 5 → ∀ r,
      Completes (.laneRecalDone true r) s [.cal, .lens, .mf, .rf]
        (setsOf [O.cpLanegStage, O.cpLane n, O.caLaneCalCount n, O.caSparesUsed n, O.caTrimMargin n]
          [each 4 (O.caCqf n), each 3 (O.cpLnaNow n), each 3 (O.cpAttenNow n), each 3 (O.cpGainNow n), each 3 (O.cpPinFs n)]) [45] (fun e =>
        results n r e ∧ at_ 6 e ∧ e.nat (O.cpLane n) = 1 ∧ s.dev.chainOnly e n ∧ e.chain n = { s.dev.chain n with calRun := (s.dev.chain n).calRun + 1 }) ∧
      Completes (.laneRecalDone false r) s [.cal, .lens, .mf] (among [O.cpLanegStage, O.cpLane n, O.caLastCause]) [44] (fun e =>
        at_ 6 e ∧ e.nat (O.cpLane n) = 1 ∧ e.nat O.caLastCause = 5 ∧ s.dev.told e 44 (256 * n + 5))) ∧
    (st = 6 → ∀ a,
      Completes (.overlapOutDone a) s [.cal, .lens, .time] (only O.cpLanegStage) [] (fun e =>
        at_ 7 e ∧ t0 + 2000000 ≤ e.mono ∧
        Tab.get {} e.cal.ramps 0 =
          { a := if ramp.running = true then ramp.at else s.dev.alignTerms, b := alignClamped a, running := true, since := e.mono, ms := s.dev.nat O.caRampMs })) ∧
    (st = 7 →
      Completes .rampOutDone s [.cal, .rf, .time] (among (O.cpLanegStage :: align)) [] (fun e =>
        at_ 8 e ∧ (ramp.running = true → ramp.since + 1000000 * ramp.ms ≤ e.mono) ∧
        (ramp.running = true → ramp.b.length = 7 → e.alignTerms = ramp.b ∧ Tab.get {} e.cal.ramps 0 = {}) ∧
        (ramp.running = false → e.alignTerms = s.dev.alignTerms))) ∧
    (st = 8 →
      Completes .xfadeOutDone s [.cal, .lens, .mf, .rf, .time]
        (setsOf [O.cpLanegStage, O.cpLanegChain, O.cpLane n, O.caLaneLastT n, O.caLaneLastTemp n, O.cpHandovers, O.caLastCause] [each 7 O.caLaneDue]) [lane, 43] (fun e =>
        idle e ∧ t0 + 1000000 ≤ e.mono ∧ s.dev.counted e O.cpHandovers 1 ∧ e.nat O.caLastCause = 1 ∧ e.nat (O.caLaneLastT n) = e.now ∧
        e.num (O.caLaneLastTemp n) = s.dev.num (O.pwTemp n) ∧ (e.nat (O.caLaneDue n) = if (s.dev.dueBits n).testBit 3 = true then 3 else 0) ∧
        s.dev.told e lane 0 ∧ s.dev.told e 43 (256 * n + 1)))) ∧
  (∀ (s : State) (r : LaneReport), s.dev.nat O.cpLanegStage = 2 → s.dev.nat O.cpLanegChain = 255 → s.dev.keeperUp 3 = true →
    Completes (.lanegSelfCalDone r) s [.cal, .rf]
      (setsOf [O.cpLanegStage, O.cpLanegChain, O.caLaneLastT 6, O.caLaneLastTemp 6, O.caLaneCalCount 6, O.caSparesUsed 6, O.caTrimMargin 6, O.caLastCause]
        [each 4 (O.caCqf 6), each 7 O.caLaneDue]) [43, 45] (fun e =>
      e.nat O.cpLanegStage = 0 ∧ e.nat O.cpLanegChain = 255 ∧ e.nat O.caLastCause = 2 ∧ s.dev.told e 43 0x602 ∧ s.dev.counted e (O.caLaneCalCount 6) 1 ∧
      (∀ i < 4, e.num (O.caCqf 6 i) = worst (r.figs.getD i [])) ∧ (∀ i < 4, worst (r.figs.getD i []) < s.dev.num (O.caCqfMin i) → s.dev.canRaise 45 = true →
        e.latched 45 = true) ∧ e.nat (O.caLaneLastT 6) = s.dev.now))

/-- POWERUP_CAL_DONE ends the oldest calibration under way no earlier than its duration: a chain of it with a door at which the tone was not
found goes to FAULT, another to RUN with its results counted (an OFF one stays off by CHAIN_ENABLE), and event 42 carries the lanes. While
K3 executes, LANE_DUE_TIME makes a lane due INTERVAL_S after its last calibration, LANE_CAL_CMD at once (deferred while lane G works).
CAL_RAMP_STEP takes one of 256 steps. REF_CMD starts the procedure over REF_TARGETS; a measurement that passes sets ABS_CORR to REF_LEVEL
less the level and ramps to it, one that fails marks its target with event 44; the next target waits, or the record is to be stored.
LINK_CAL_CMD makes every link channel due; LINK_CHANNEL_CAL_DONE makes one valid, while Harbour is clocked and the synthesiser serves no
exchange. (R305, R306, R307, R308, R313, R315, R316, R322) -/
def Obligations.CalibrationRuns : Prop :=
  ∀ s : State,
    (∀ r lanes t rest, s.dev.cal.runs = (lanes, t) :: rest →
      Completes (.powerupCalDone r) s [.bl, .cal, .cx, .lens, .mf, .pw, .rf, .store, .time] anyObj anyEvent (fun e =>
        t + 1000 * r.us ≤ e.mono ∧ e.nat O.caPowerupUs = r.us ∧ s.dev.told e 42 lanes ∧
        ∀ n < s.dev.chains, lanes.testBit n = true →
          let silent := ∃ i < 3, r.noTone.testBit (3 * n + i) = true
          let off := s.dev.pw.restored = true ∧ s.dev.flag (O.cpChainEnable n) = false
          (e.chain n).calSince = none ∧ (off → e.nat (O.cpChainState n) = 0) ∧ (¬ off → silent → e.nat (O.cpChainState n) = 3) ∧
          (¬ off → ¬ silent → e.nat (O.cpChainState n) = 2) ∧
          (silent → s.dev.canRaise 44 = true → e.latched 44 = true ∧ e.nat O.caLastCause = 7) ∧
          (¬ silent → s.dev.counted e (O.caLaneCalCount n) 1 ∧ (e.chain n).calRun = (s.dev.chain n).calRun + 1))) ∧
    (∀ n, n ∈ s.dev.laneList → s.dev.keeperUp 3 = true → s.dev.nat O.caIntervalS ≠ 0 → (s.dev.dueBits n).testBit 0 = false →
      Completes (.laneDueTime n) s [.cal, .time] (only (O.caLaneDue n)) [] (fun e =>
        (e.dueBits n).testBit 0 = true ∧ s.dev.nat (O.caLaneLastT n) + 1000000000 * s.dev.nat O.caIntervalS ≤ e.now ∧ e.nat (O.caLaneDue n) =
          if (s.dev.dueBits n).testBit 2 = true ∨ (s.dev.dueBits n).testBit 3 = true then 3 else if (s.dev.dueBits n).testBit 1 = true then 2 else 1)) ∧
    (∀ org, ∀ n ∈ s.dev.laneList, s.dev.accepts org [writeNum (O.caLaneCalCmd n) 1] →
      Completes (.laneCalCmd org n 1) s (.cal :: writeParts) (among (O.caLaneDue n :: writeObjs)) [126] (fun e =>
        e.nat (O.caLaneDue n) = 3 ∧ (e.dueBits n).testBit (if s.dev.nat O.cpLanegStage = 0 then 2 else 3) = true)) ∧
    (∀ r, Tab.get {} s.dev.cal.ramps 0 = r → r.running = true → r.b.length = 7 →
      Completes (.calRampStep 0) s [.cal, .time] (among [O.cpAlignDelay, O.cpAlignGain 0, O.cpAlignGain 1, O.cpAlignGain 2, O.cpAlignPhase 0, O.cpAlignPhase 1,
        O.cpAlignPhase 2]) [] (fun e =>
        r.since + (r.step + 1) * r.ms * 1000000 / 256 ≤ e.mono ∧ e.alignTerms = Ramp.at { r with step := r.step + 1 } ∧ Tab.get {} e.cal.ramps 0 = if r.step + 1 < 256 then { r with step := r.step + 1 } else {})) ∧
    (∀ k r, 1 ≤ k → k ≤ 24 → Tab.get {} s.dev.cal.ramps k = r → r.running = true →
      let n := (k - 1) / 4
      Completes (.calRampStep k) s [.cal, .time] (setsOf [] [each 3 (O.cpLnaNow n), each 3 (O.cpAttenNow n), each 3 (O.cpGainNow n), each 3 (O.cpPinFs n)]) [] (fun e =>
        Tab.get {} e.cal.ramps k = if r.step + 1 < 256 then { r with step := r.step + 1 } else {})) ∧
    (∀ org, s.dev.accepts org [writeNum O.caRefCmd 1] →
      Completes (.refCmd org 1) s (.cal :: writeParts) (among ([O.caRefState, O.caRefDone, O.caRefFailed] ++ writeObjs)) [126] (fun e =>
        e.nat O.caRefState = 1 ∧ e.nat O.caRefDone = 0 ∧ e.nat O.caRefFailed = 0 ∧ e.cal = { s.dev.cal with targets := s.dev.refTargets })) ∧
    (∀ k old t tone offset snr, k < 18 → s.dev.cal.measuring = some (k, old, t) → s.dev.keeperUp 3 = true →
      let n := k / 3
      let level := tone + 400 - s.dev.toneGain n (s.dev.bandOf n (k % 3)) (s.dev.door n (k % 3)).g
      let j := s.dev.bandIndex n (k % 3)
      let ok := s.dev.num (O.caCqfMin 11) ≤ snr ∧ offset.natAbs ≤ 1000 ∧ (s.dev.num O.caRefLevel - level).natAbs ≤ 300
      Completes (.refMeasureDone tone offset snr) s [.cal, .host, .lens, .log, .nvm, .rf, .store, .time]
        (setsOf [O.cpLastMarkSample n, O.cpLastMarkTime n, O.cpLastMarkDoors n, O.cpMarkCount n, O.caCqf n 11, O.caAbsCorr j, O.lgDmState, O.lgDmMismatches,
            O.lgDmT, O.caRefT j, O.caRefDone, O.caLevelUnc j, O.caRefFailed, O.caLastCause, O.caRefState]
          [each 3 (O.cpLnaNow n), each 3 (O.cpAttenNow n), each 3 (O.cpGainNow n), each 3 (O.cpPinFs n), each 3 (O.cpStepCount n)]) [44, 45, 126] (fun e =>
        t + 10500000 ≤ e.mono ∧ e.cal.measuring = none ∧ (e.nat O.caRefState = if s.dev.cal.targets = 0 then 3 else 1) ∧ (e.door n (k % 3)).suspended = false ∧
        (ok → e.num (O.caAbsCorr j) = s.dev.num O.caRefLevel - level ∧ e.nat (O.caRefT j) = e.now ∧ (e.nat O.caRefDone).testBit k = true ∧
          (Tab.get {} e.cal.ramps (1 + j)).b = [s.dev.num O.caRefLevel - level] ∧ e.nat O.caRefFailed = s.dev.nat O.caRefFailed) ∧
        (¬ ok → (e.nat O.caRefFailed).testBit k = true ∧ e.num (O.caAbsCorr j) = s.dev.num (O.caAbsCorr j) ∧ e.nat O.caRefDone = s.dev.nat O.caRefDone ∧
          e.nat O.caLastCause = 6 ∧ s.dev.told e 44 0xFF06))) ∧
    (∀ org, s.dev.accepts org [writeNum O.caLinkCalCmd 1] →
      Completes (.linkCalCmd org 1) s (.cal :: writeParts) (among writeObjs) [126] (fun e => e.cal = { s.dev.cal with linkDue := 255 })) ∧
    (∀ c < 8, s.dev.harbourOn = true → s.dev.cal.linkDue.testBit c = true → s.dev.bl.calHeld = false → s.dev.bl.calWait = false →
      Completes (.linkChannelCalDone c) s [.cal] (only O.caLinkCalValid) [] (fun e =>
        (e.nat O.caLinkCalValid).testBit c = true ∧ e.cal.linkDue = withBit s.dev.cal.linkDue c false ∧ Tab.get 0 e.cal.linkTemp c = s.dev.dieTemp)) ∧
    (∀ c < 8, s.dev.harbourOn = false ∨ s.dev.cal.linkDue.testBit c = false ∨ s.dev.bl.calHeld = true →
      Completes (.linkChannelCalDone c) s [] noObj [] (fun e => e.cal = s.dev.cal))

/-- A store that is due starts when none runs, no power-fail condition holds and nothing fell due earlier: the entries awaiting eNVM are
flushed, the bank that is not active is erased and a bank with the next SEQ, the time and the version is prepared. Where it may not start
nothing changes. CFG_STORE_DONE puts that bank in force with CFG_BANK, CFG_SEQ, CFG_LAST_STORE, CFG_LEN and CFG_DIRTY and sends the replies
that waited for it; after a failure the bank stays, CFG_DIRTY stays and event 127 comes with cause 3. CAL_STORE_DONE does so for calibration
and ends the reference procedure; LMS_STORE_DONE raises the limit; the checkpoint writes a statistics bank with the next SEQ. Failed stores
are due again. (R316, R320, R372, R376, R546, R614) -/
def Obligations.BankStores : Prop :=
  ∀ s : State,
    let st := s.dev.store
    let nv := s.dev.nvm
    let waited := fun (k : StoreKind) (e : Dev) => (∀ r ∈ e.host.durable, k ∉ r.taken) ∧ ∀ r ∈ s.dev.host.durable, k ∉ r.taken → r ∈ e.host.durable
    let plain := fun (w : Nat × Val) => O.area w.1 ≠ 14 ∧ w.1 ≠ O.pwPwRequest
    let quietReplies := fun (k : StoreKind) => (∀ w ∈ s.dev.host.left, plain w) ∧ ∀ r ∈ s.dev.host.durable, k ∈ r.taken → ∀ w ∈ r.writes, plain w
    (∀ t, st.cfgDue = some t → (s.dev.clockTo t).storeTurn .cfg t = true →
      Completes .cfgStoreStart s [.host, .log, .nvm, .store, .time] noObj [] (fun e =>
        let toA := decide (s.dev.nat O.lgCfgBank ≠ 1)
        t ≤ e.mono ∧ e.store.cfgDue = none ∧ e.log.pend = [] ∧ (if toA then e.nvm.cfgA = {} ∧ e.nvm.cfgB = nv.cfgB else e.nvm.cfgB = {} ∧ e.nvm.cfgA = nv.cfgA) ∧
        ∃ j, e.store.job = some j ∧ j.kind = .cfg ∧ j.toA = toA ∧ j.cfg.valid .P = true ∧ j.cfg.seq = s.dev.nat O.lgCfgSeq + 1 ∧ j.cfg.tStore = e.now ∧
          j.cfg.fw = s.dev.nat O.syFwVersion ∧ j.cfg.body = s.dev.serial .P ∧ j.cfg.length = 64 + j.cfg.body.length ∧ j.cfg.daymark = s.dev.daymark .P)) ∧
    (∀ t, st.calDue = some t → (s.dev.clockTo t).storeTurn .cal t = true →
      Completes .calStoreStart s [.host, .log, .nvm, .store, .time] noObj [] (fun e =>
        let toA := decide (s.dev.nat O.caCalBank ≠ 1)
        t ≤ e.mono ∧ e.store.calDue = none ∧ e.log.pend = [] ∧ (if toA then e.nvm.calA = {} ∧ e.nvm.calB = nv.calB else e.nvm.calB = {} ∧ e.nvm.calA = nv.calA) ∧
        ∃ j, e.store.job = some j ∧ j.kind = .cal ∧ j.toA = toA ∧ j.cal.valid = true ∧ j.cal.seq = s.dev.nat O.caCalSeq + 1 ∧ j.cal.tStore = e.now ∧
          j.cal.refs = s.dev.cal.refs ∧ j.cal.reason = s.dev.cal.reason ∧ j.cal.temp = s.dev.dieTemp ∧ j.cal.fx = s.dev.cal.fx ∧ j.cal.seed = s.dev.cal.sel)) ∧
    (∀ t, st.lmsDue = some t → (s.dev.clockTo t).storeTurn .lms t = true →
      Completes .lmsStoreStart s [.host, .log, .nvm, .sec, .store, .time] noObj [] (fun e =>
        t ≤ e.mono ∧ e.store.lmsDue = none ∧ e.log.pend = [] ∧
        ∃ j, e.store.job = some j ∧ j.kind = .lms ∧ (j.toA = !s.dev.sec.lmsBankA) ∧ j.lms.valid = true ∧
          j.lms = lmsBank (s.dev.sec.lmsSeq + 1) (min (s.dev.nat O.scAttestLimit + 1024) attestEnd))) ∧
    ((st.cfgDue = none → Completes .cfgStoreStart s [] noObj [] (fun e => e.store = st)) ∧
     (∀ t, st.cfgDue = some t → (s.dev.clockTo t).storeTurn .cfg t = false → Completes .cfgStoreStart s [] noObj [] (fun e => e.store = st)) ∧
     (∀ t, st.calDue = some t → (s.dev.clockTo t).storeTurn .cal t = false → Completes .calStoreStart s [] noObj [] (fun e => e.store = st)) ∧
     (∀ t, st.lmsDue = some t → (s.dev.clockTo t).storeTurn .lms t = false → Completes .lmsStoreStart s [] noObj [] (fun e => e.store = st))) ∧
    (∀ j, st.job = some j → j.kind = .cfg →
      (∀ ok, Answers (.cfgStoreDone ok) s (fun e => ok = true → (if j.toA = true then e.nvm.cfgA else e.nvm.cfgB) = j.cfg)) ∧
      (quietReplies .cfg →
      Completes (.cfgStoreDone true) s [.host, .lflags, .log, .nvm, .ports, .store] (among [O.lgCfgBank, O.lgCfgSeq, O.lgCfgLastStore, O.lgCfgLen, O.lgCfgDirty]) [] (fun e =>
        e.store = { st with job := none } ∧ e.nat O.lgCfgBank = (if j.toA = true then 1 else 2) ∧ e.nat O.lgCfgSeq = j.cfg.seq ∧ e.nat O.lgCfgLastStore = j.cfg.tStore ∧
        e.nat O.lgCfgLen = j.cfg.length ∧ e.flag O.lgCfgDirty = st.cfgDue.isSome ∧ (if j.toA = true then e.nvm.cfgA else e.nvm.cfgB) = j.cfg ∧ waited .cfg e) ∧
      Completes (.cfgStoreDone false) s [.host, .lflags, .ports, .store] (only O.lgLgAlertCause) [127] (fun e =>
        e.store = { st with job := none, cfgDue := some (st.cfgDue.getD (s.dev.mono + 1000000 * s.dev.nat O.lgStoreDelayMs)) } ∧ e.nat O.lgLgAlertCause = 3 ∧
        s.dev.told e 127 3 ∧ e.nvm = nv ∧ e.flag O.lgCfgDirty = s.dev.flag O.lgCfgDirty ∧ waited .cfg e))) ∧
    (∀ j, st.job = some j → j.kind = .cal →
      (∀ ok, Answers (.calStoreDone ok) s (fun e => ok = true → (if j.toA = true then e.nvm.calA else e.nvm.calB) = j.cal)) ∧
      (quietReplies .cal →
      Completes (.calStoreDone true) s [.cal, .host, .lflags, .log, .nvm, .ports, .store] (among [O.caCalBank, O.caCalSeq, O.caRefState, O.caLastCause]) [43] (fun e =>
        e.store = { st with job := none } ∧ e.nat O.caCalBank = (if j.toA = true then 1 else 2) ∧ e.nat O.caCalSeq = j.cal.seq ∧
        (if j.toA = true then e.nvm.calA else e.nvm.calB) = j.cal ∧ waited .cal e ∧ e.cal = { s.dev.cal with seed := j.cal.seed } ∧
        (s.dev.nat O.caRefState = 3 → e.nat O.caRefState = (if s.dev.nat O.caRefFailed = 0 then 4 else 5) ∧ e.nat O.caLastCause = 3 ∧ s.dev.told e 43 0xFF03) ∧
        (s.dev.nat O.caRefState ≠ 3 → e.nat O.caRefState = s.dev.nat O.caRefState)) ∧
      Completes (.calStoreDone false) s [.host, .lflags, .ports, .store] noObj [] (fun e =>
        e.store = { st with job := none, calDue := some (st.calDue.getD (s.dev.mono + 100000000)) } ∧ e.nvm = nv ∧ waited .cal e))) ∧
    (∀ j, st.job = some j → j.kind = .lms →
      Completes (.lmsStoreDone true) s [.host, .lflags, .log, .nvm, .ports, .sec, .store] (only O.scAttestLimit) [] (fun e =>
        e.store = { st with job := none } ∧ e.nat O.scAttestLimit = j.lms.limit ∧ (if j.toA = true then e.nvm.lmsA else e.nvm.lmsB) = j.lms ∧
        e.sec = { s.dev.sec with lmsSeq := j.lms.seq, lmsBankA := j.toA }) ∧
      Completes (.lmsStoreDone false) s [.host, .lflags, .ports, .store] noObj [] (fun e =>
        e.store = { st with job := none, lmsDue := some (s.dev.mono + 100000000) })) ∧
    (let t := st.ckptAt + 1000000000 * s.dev.nat O.lgCkptS
     let p := nv.statPick
     let q := match p with | some true => nv.statA.seq | some false => nv.statB.seq | none => 0
     ((s.dev.clockTo t).storeTurn .stats t = true →
       Completes .statsCheckpoint s [.log, .nvm, .store, .time] noObj [] (fun e =>
         t ≤ e.mono ∧ e.store = { st with ckptAt := e.mono } ∧
         let b := if p = some true then e.nvm.statB else e.nvm.statA
         b.valid .S = true ∧ b.seq = q + 1 ∧ b.tStore = e.now ∧ (if p = some true then e.nvm.statA = nv.statA else e.nvm.statB = nv.statB))) ∧
     ((s.dev.clockTo t).storeTurn .stats t = false → Completes .statsCheckpoint s [] noObj [] (fun e => e.store = st)))

/-- LOG_NV_COPY takes the oldest entry that waits for eNVM and appends it to the eNVM ring; on a failure it is in RAM only, LG_ALERT_CAUSE
is 2 and event 127 is raised; under a power-fail condition nothing is copied. LOG_SUMMARY, at the whole minute, empties the minute's record:
one entry for each of the SUMMARY_MAX busiest objects, and one for the rest together, which SUMMARY_DROPPED counts. A heartbeat, at
HB_PHASE_MS after a whole second, takes the next HB_SEQ; the one on change covers every change before it. (R382, R383, R391) -/
def Obligations.LogAndHeartbeats : Prop :=
  ∀ s : State,
    (∀ x t, s.dev.log.pend = x :: t → s.dev.pfail = false →
      Completes (.logNvCopy true) s [.log, .nvm] noObj [] (fun e => e.log = { s.dev.log with pend := t } ∧ e.nvm = s.dev.nvm.put x) ∧
      Completes (.logNvCopy false) s [.log] (only O.lgLgAlertCause) [127] (fun e =>
        e.log.pend = t ∧ e.log.next = s.dev.log.next ∧ e.log.ram.map (·.seq) = s.dev.log.ram.map (·.seq) ∧ e.nat O.lgLgAlertCause = 2 ∧ s.dev.told e 127 2)) ∧
    (∀ ok, s.dev.pfail = true ∨ s.dev.log.pend = [] → Completes (.logNvCopy ok) s [] noObj [] (fun e => e.log = s.dev.log ∧ e.nvm = s.dev.nvm)) ∧
    (s.dev.serverUp = true →
      let l := s.dev.log.minute.foldl (fun a m => minuteInsert m a) []
      let n := s.dev.nat O.lgSummaryMax
      Completes .logSummary s [.log, .nvm, .ticks, .time] (only O.lgSummaryDropped) [] (fun e =>
        e.log.minute = [] ∧ (min (Tab.get 0 s.dev.ticks 8602) s.dev.now / 60000000000 + 1) * 60000000000 ≤ e.now ∧
        (n = 0 → e.log.pend = s.dev.log.pend) ∧
        (n ≠ 0 → ∃ q, e.log.pend = s.dev.log.pend ++ q ∧ (∀ r ∈ q, r.kind = 2 ∧ r.t = e.now) ∧
          q.map (·.oid) = (l.take n).map (·.oid) ++ (if n < l.length then [0] else []) ∧ s.dev.counted e O.lgSummaryDropped (l.length - n)))) ∧
    (s.dev.linksUp = true → s.dev.flag O.lgHbEnable = true →
      Completes .heartbeat s [.ticks, .time] (only O.lgHbSeq) [] (fun e =>
        e.nat O.lgHbSeq = (s.dev.nat O.lgHbSeq + 1) % 2 ^ 32 ∧
        (let l := min (Tab.get 0 s.dev.ticks 8601) s.dev.now
         let ph := 1000000 * s.dev.nat O.lgHbPhaseMs
         (if l < ph then ph else ((l - ph) / 1000000000 + 1) * 1000000000 + ph) ≤ e.now) ∧
        ∀ p ∈ s.dev.hbTargets, ∃ m ∈ e.host.sent.drop s.dev.host.sent.length, m.port = p.1 ∧ m.dest = p.2 ∧ m.opcode = 0x22) ∧
      (s.dev.flag O.lgHbOnChange = true → s.dev.host.hbWanted.isSome = true →
        Completes .heartbeatOnChange s [.host] (only O.lgHbSeq) [] (fun e => e.host.hbWanted = none ∧ e.nat O.lgHbSeq = (s.dev.nat O.lgHbSeq + 1) % 2 ^ 32)) ∧
      (s.dev.host.hbWanted = none → Completes .heartbeatOnChange s [] noObj [] (fun e => e.nat O.lgHbSeq = s.dev.nat O.lgHbSeq)))

/-- For a transaction of one write: more than 4,096 value bytes give TOO_LARGE; an object that the part does not have ABSENT; a role without
the right RIGHTS, among them role D always and role H on P and C objects while CFG_LOCK is 1; a wrong number of bytes LENGTH; a value out of
range INVALID_VALUE; a unit's state its own code. Each only when no earlier step fails. (R361, R364, R366, R367, R373) -/
def Obligations.NineChecks : Prop :=
  ∀ (d : Dev) (org : Origin) (o : Nat) (b : List Byte),
    let t := writeTxn org [writeItem o b]
    let fails := fun (k : Nat) (c : RC) => ∃ r, d.txnCheck t = .error r ∧ r.step = k ∧ r.idx = 0 ∧ r.code = c
    (4096 < b.length → fails 1 .tooLarge) ∧
    (b.length ≤ 4096 → Dict.row d.part o = none → fails 3 .absent) ∧
    (∀ r, b.length ≤ 4096 → Dict.row d.part o = some r →
      (r.mayWrite org.role = false → fails 4 .rights) ∧
      (org.role = .D → fails 4 .rights) ∧
      (org.role = .H → d.flag O.syCfgLock = true → (r.cls = .P ∨ r.cls = .C) → fails 4 .rights) ∧
      (d.step4 t (writeItem o b) = none →
        (r.lenOk b.length = false → fails 5 .length) ∧
        (r.lenOk b.length = true → r.valueOk d.part ((Dict.ty o).decode b) = false → fails 6 .invalidValue) ∧
        (r.lenOk b.length = true → r.valueOk d.part ((Dict.ty o).decode b) = true → ∀ c, d.stateRefuse o ((Dict.ty o).decode b) = some c → fails 7 c)))

/-- An accepted OBJECT_WRITE of an object whose unit has no reaction gives it the written value, counts the transaction, logs the write with
role, origin and time, and, when a P object changes, sets CFG_DIRTY and makes a store due STORE_DELAY_MS later. A refused one changes no
object but the counts, and TXN_LAST_CODE shows its code. DEFAULTS_CMD 1 gives every P object of the areas that is not Local its user default
or factory default, 2 the factory default and no user default. STATS_CLEAR sets every S object of the areas to 0. Where the units have no
reaction to what the defaults change, nothing else changes. (R360, R367, R368, R371, R372, R376, R380) -/
def Obligations.DictionaryWrites : Prop :=
  ∀ (s : State) (org : Origin),
    (∀ o b, inert o = true → s.dev.accepts org [writeItem o b] →
      Completes (.objectWrite org o b) s writeParts (among (o :: writeObjs)) [126] (fun e =>
        e.get o = (s.dev.store_ o ((Dict.ty o).decode b)).get o ∧ s.dev.counted e O.syTxnCount 1 ∧ e.log.txn = (s.dev.log.txn + 1) % 2 ^ 32 ∧
        (Dict.cls o = .P → e.get o ≠ s.dev.get o → e.flag O.lgCfgDirty = true ∧
          e.store.cfgDue = some (s.dev.store.cfgDue.getD (s.dev.mono + 1000000 * e.nat O.lgStoreDelayMs))) ∧
        (notLogged o = false → ∃ r ∈ e.log.ram, r.kind = 1 ∧ r.oid = o ∧ r.result = 0 ∧ r.role = org.role.code ∧ r.port = org.port ∧ r.session = org.session ∧
          r.source = org.source ∧ r.txn = (s.dev.log.txn + 1) % 2 ^ 32 ∧ r.t = s.dev.now))) ∧
    (∀ o b r, o ≠ O.scRollbackAdv → s.dev.serverUp = true → s.dev.txnOpen.txnCheck (writeTxn org [writeItem o b]) = .error r →
      Completes (.objectWrite org o b) s [.log, .nvm] (among refuseObjs) [] (fun e =>
        s.dev.counted e O.syTxnCount 1 ∧ s.dev.counted e O.syTxnRefused 1 ∧ e.nat O.syTxnLastCode = r.code.code ∧
        (notLogged o = false → ∃ x ∈ e.log.ram, x.kind = 1 ∧ x.oid = o ∧ x.result = (if r.idx = 0 then r.code.code else RC.notApplied.code) ∧ x.role = org.role.code ∧ x.t = s.dev.now))) ∧
    (∀ o b, s.dev.serverUp = false → Completes (.objectWrite org o b) s [] noObj [] (fun e => e.log = s.dev.log)) ∧
    (∀ areas : Nat, areas < 2 ^ 32 →
      let ps := fun (o : Nat) => ∃ r, Dict.find o = some r ∧ r.cls = .P ∧ r.loc = false ∧ areas.testBit (O.area o) = true
      let touched := fun (o : Nat) => ps o ∨ o ∈ O.syDefaultsAreas :: writeObjs
      let quietly := fun (f : Nat → Val) => ∀ o, ps o → s.dev.get o ≠ f o → inert o = true
      let settles := fun (l : List TItem) (f : Nat → Val) => s.dev.accepts org l → ∃ z, s.dev.txnOpen.txnCheck (writeTxn org l) = .ok z ∧ ∀ o, ps o → z.get o = f o
      let restore := [writeNum O.syDefaultsCmd 1, writeNum O.syDefaultsAreas areas]
      let factory := [writeNum O.syDefaultsCmd 2, writeNum O.syDefaultsAreas areas]
      settles restore s.dev.restored ∧ settles factory Dict.dflt ∧
      (s.dev.accepts org restore → quietly s.dev.restored →
        Completes (.defaultsRestore org areas) s writeParts touched [126] (fun e => ∀ o, ps o → e.get o = s.dev.restored o)) ∧
      (s.dev.accepts org factory → quietly Dict.dflt →
        Completes (.defaultsFactory org areas) s (.udef :: writeParts) touched [126] (fun e => ∀ o, ps o → e.get o = Dict.dflt o ∧
          e.udef.find? (fun p => decide (p.1 = o)) = none)) ∧
      (s.dev.accepts org [writeNum O.syStatsClear areas] →
        Completes (.statsClear org areas) s writeParts (fun o => (Dict.cls o = .S ∧ areas.testBit (O.area o) = true) ∨ o ∈ writeObjs) [126] (fun e =>
          ∀ o, Dict.cls o = .S → areas.testBit (O.area o) = true → quiet o = true → o ∉ writeObjs → o ∉ eventObjs 126 → e.num o = 0)))

/-- A message in session x, or outside one, whose items fill its body: a READ that the checks accept is answered with every value and
changes nothing but the transaction count; a WRITE or MULTI that they accept, of objects whose units have no reaction, leaves the values
written and is answered at once, or, with DURABLE and a P or C value changed, kept until the store; one that they refuse is answered with
the failing item's index and code, NOT_APPLIED for every other item, and changes no object. A body that the items do not fill is answered
with BAD_BODY. (R366, R367, R369, R377, R396, R397) -/
def Obligations.TenderTransactions : Prop :=
  ∀ (s : State) (m : TMsg) (x : Option Session), s.dev.takes m x → tmsgSize m ≤ largestMsg m.port → m.opcode = 1 ∨ m.opcode = 2 ∨ m.opcode = 3 →
    (parseItems m.body.length m.body = none →
      Completes (tenderCmd m) s [.host] noObj [] (fun e => s.dev.erred e m x 0x86)) ∧
    ∀ l, parseItems m.body.length m.body = some l →
      let n := (s.dev.log.txn + 1) % 2 ^ 32
      let t : Txn := { org := tmsgOrigin m x, opcode := m.opcode, items := l, limit := tmsgReplyLimit m x }
      let d := (s.dev.taken m x).txnOpen
      (∀ z, m.opcode = 1 → d.txnCheck t = .ok z →
        Completes (.read m) s [.host, .log] (only O.syTxnCount) [] (fun e =>
          s.dev.answered e m x (replyBody n 0xFF .ok (l.map (fun i => (i.oid, RC.ok, d.readBytes i.oid)))) ∧ s.dev.counted e O.syTxnCount 1)) ∧
      (∀ r, (∀ i ∈ l, i.oid ≠ O.scRollbackAdv) → d.txnCheck t = .error r →
        let body := replyBody n r.idx r.code ((indexed 0 l).map (fun p => (p.2.oid, if p.1 = r.idx then r.code else RC.notApplied, [])))
        Completes (tenderCmd m) s [.host, .log, .nvm] (among refuseObjs) [] (fun e =>
          s.dev.answered e m x body ∧ s.dev.counted e O.syTxnRefused 1 ∧ e.nat O.syTxnLastCode = r.code.code)) ∧
      (∀ z, (∀ i ∈ l, i.write = true ∧ inert i.oid = true) → d.txnCheck t = .ok z →
        let body := fun (f : RC) => replyBody n 0xFF f (l.map (fun i => (i.oid, f, [])))
        let changed := fun (c : Cls) => ∃ i ∈ l, Dict.cls i.oid = c ∧ (d.get i.oid ≠ z.get i.oid ∨
          d.udef.find? (fun p => decide (p.1 = i.oid)) ≠ z.udef.find? (fun p => decide (p.1 = i.oid)))
        let after := fun (e : Dev) => e.udef = z.udef ∧ (∀ i ∈ l, e.get i.oid = z.get i.oid) ∧ z = d.txnValues t ∧ (changed .P → e.flag O.lgCfgDirty = true) ∧
          (((∀ i ∈ l, i.durable = false) ∨ (¬ changed .P ∧ ¬ changed .C)) → s.dev.answered e m x (body .ok)) ∧
          (∀ i ∈ l, i.durable = true → changed .P ∨ changed .C → ∃ r, e.host.durable = s.dev.host.durable ++ [r] ∧ r.body = body .ok ∧ r.failed = body .storeFailed ∧
            (StoreKind.cfg ∈ r.waits ↔ changed .P) ∧ (StoreKind.cal ∈ r.waits ↔ changed .C))
        (m.opcode = 2 → Completes (.write m) s (.udef :: writeParts) (among (l.map (·.oid) ++ writeObjs)) [126] after) ∧
        (m.opcode = 3 → Completes (.multi m) s (.udef :: writeParts) (among (l.map (·.oid) ++ writeObjs)) [126] after))

/-- For every opcode but AUTH_PROVE and those that only the device sends: a message that names a session which is not open is answered with
error 0x83, one over its transport's limit with 0x85, and one that fails a check of R404 is discarded, counted in AUTH_FAIL, with event 97.
A PING of at most 64 bytes is answered with its body, a longer one with 0x86, an unknown opcode with 0x81. A message with an opcode that
only the device sends is discarded. (R396, R399, R404) -/
def Obligations.TenderErrors : Prop :=
  ∀ (s : State) (m : TMsg),
    let plain := m.opcode ≠ 0x31 ∧ deviceOpcode m.opcode = false
    (plain → s.dev.tenderUp m.port = true → s.dev.sessCheck m = .unknown → Completes (tenderCmd m) s [.host] noObj [] (fun e => s.dev.erred e m none 0x83)) ∧
    (∀ k, plain → s.dev.tenderUp m.port = true → s.dev.sessCheck m = .discard k →
      Completes (tenderCmd m) s [.host] (only O.ntAuthFail) [97] (fun e => s.dev.counted e O.ntAuthFail 1 ∧ s.dev.told e 97 k)) ∧
    (∀ x, plain → s.dev.takes m x → largestMsg m.port < tmsgSize m → Completes (tenderCmd m) s [.host] noObj [] (fun e => s.dev.erred e m x 0x85)) ∧
    (∀ x, m.opcode = 0x3F → s.dev.takes m x → tmsgSize m ≤ largestMsg m.port →
      Completes (.ping m) s [.host] noObj [] (fun e =>
        (m.body.length ≤ 64 → s.dev.answered e m x m.body) ∧ (64 < m.body.length → s.dev.erred e m x 0x86) ∧
        ∀ y, x = some y → ∃ z, e.sessionByNum y.num = some z ∧ z.still = { y with rxSeq := m.seq, tLast := s.dev.mono }.still)) ∧
    (∀ x, knownOpcode m.opcode = false → s.dev.takes m x → tmsgSize m ≤ largestMsg m.port →
      Completes (.unknownOpcode m) s [.host] noObj [] (fun e => s.dev.erred e m x 0x81)) ∧
    (deviceOpcode m.opcode = true → s.dev.tenderUp m.port = true →
      (∀ k, s.dev.sessCheck m = .discard k → Completes (.deviceOpcodeReceived m) s [.host] (only O.ntAuthFail) [97] (fun e => s.dev.told e 97 k)) ∧
      ((∀ k, s.dev.sessCheck m ≠ .discard k) → Completes (.deviceOpcodeReceived m) s [.host] noObj [] (fun e =>
        e.host.subs.map Sub.still = s.dev.host.subs.map Sub.still ∧ e.host.sessions.length = s.dev.host.sessions.length)))

/-- AUTH_HELLO of a free requester takes a session number and slot, keeps both nonces and answers with the number, the device nonce and
DEVICE_ID; while locked out or with eight sessions it is answered with 0x84. AUTH_PROVE with the HMAC of R403 within 5 s opens the session,
shows it in SESS_ROLE, SESS_PORT and SESS_SOURCE and answers with the device's proof; any other proof frees the number, counts AUTH_FAIL,
raises event 97 with the slot, answers 0x82, and the fifth failure within 60 s locks the requester out for 60 s. CLOSE answers and ends the
session with its subscriptions; 5 s without proof, or SESS_IDLE_S without a message, end it too. (R403, R404, R405) -/
def Obligations.TenderSessions : Prop :=
  ∀ s : State,
    let ended := fun (y : Session) (e : Dev) => e.sessionByNum y.num = none ∧ e.nat (O.ntSessRole y.slot) = 0 ∧ e.nat (O.ntSessPort y.slot) = 0 ∧
      e.nat (O.ntSessSource y.slot) = 0 ∧ ∀ u ∈ e.host.subs, u.session ≠ y.num
    let slotObjs := fun (k : Nat) => [O.ntSessRole k, O.ntSessPort k, O.ntSessSource k]
    (∀ m x, m.opcode = 0x30 → s.dev.takes m x → tmsgSize m ≤ largestMsg m.port → m.body.length = 20 → (leAt m.body 0 1 = 1 ∨ leAt m.body 0 1 = 5) → leAt m.body 1 1 ≤ 3 →
      (s.dev.lockedOut m = true ∨ 8 ≤ s.dev.host.sessions.length → Completes (.authHello m) s [.host] noObj [] (fun e => s.dev.erred e m x 0x84)) ∧
      (s.dev.lockedOut m = false → s.dev.host.sessions.length < 8 → Completes (.authHello m) s [.host] noObj [] (fun e =>
        ∃ y : Session, e.sessionByNum y.num = some y ∧ s.dev.sessionByNum y.num = none ∧ 1 ≤ y.num ∧ y.num < 65536 ∧ y.open_ = false ∧ y.slot < 8 ∧
          (∀ z ∈ e.host.sessions, z.num ≠ y.num → z.slot ≠ y.slot) ∧ y.role = (if leAt m.body 0 1 = 1 then .N else .M) ∧ y.port = m.port ∧ y.req = m.src ∧
          y.keySlot = leAt m.body 1 1 ∧ y.hostNonce = slice m.body 4 16 ∧ y.devNonce.length = 16 ∧ y.tLast = s.dev.mono ∧
          s.dev.answered e m x (leBytes 2 y.num ++ leBytes 2 0 ++ y.devNonce ++ leBytes 8 (s.dev.nat O.syDeviceId))))) ∧
    (∀ m y, m.opcode = 0x31 → s.dev.tenderUp m.port = true → m.mflags.testBit 1 = false → m.body.length = 32 → s.dev.sessionByNum m.session = some y → y.open_ = false →
      y.port = m.port → y.req = m.src → y.slot < 8 →
      let key := s.dev.sessionKey (decide (y.role = .M)) y.keySlot
      (∀ k, key = some k → s.dev.mono ≤ y.tLast + 5000000000 → m.body = hmac k (s.dev.proofMsg y 0x48) →
        Completes (.authProve m) s [.host, .log, .nvm] (among (slotObjs y.slot)) [] (fun e =>
          (∃ z, e.sessionByNum y.num = some z ∧ z.still =
            { y with open_ := true, tLast := s.dev.mono, sk := hmac k (tenderLabel 0x53 ++ leBytes 2 y.num ++ y.hostNonce ++ y.devNonce) }.still) ∧
          e.nat (O.ntSessRole y.slot) = y.role.code ∧ e.nat (O.ntSessPort y.slot) = y.port ∧ e.nat (O.ntSessSource y.slot) = y.source ∧
          s.dev.handed e { port := m.port, dest := m.src, opcode := m.opcode, mflags := 1, session := m.session, tag := m.tag, body := hmac k (s.dev.proofMsg y 0x44) })) ∧
      ((∀ k, key = some k → s.dev.mono ≤ y.tLast + 5000000000 → m.body ≠ hmac k (s.dev.proofMsg y 0x48)) →
        Completes (.authProve m) s [.host, .log, .nvm, .rings] (among (O.ntAuthFail :: slotObjs y.slot)) [97] (fun e =>
          ended y e ∧ s.dev.counted e O.ntAuthFail 1 ∧ s.dev.told e 97 y.slot ∧ s.dev.erred e m none 0x82 ∧
          ∀ f, s.dev.host.fails.find? (fun f => decide (f.port = m.port) && decide (f.req = m.src)) = some f →
            4 ≤ (f.times.filter (fun t => decide (s.dev.mono < t + 60000000000))).length → e.lockedOut m = true))) ∧
    (∀ m y, m.opcode = 0x32 → s.dev.takes m (some y) → m.body = [] → y.slot < 8 →
      Completes (.close m) s [.host, .log, .nvm, .rings] (among (slotObjs y.slot)) [] (fun e => ended y e ∧ s.dev.answered e m (some y) [])) ∧
    (∀ n y, s.dev.sessionByNum n = some y → y.slot < 8 →
      (y.open_ = false → Completes (.authProveTimeout n) s [.host, .rings, .time] (among (slotObjs y.slot)) [] (fun e => ended y e ∧ y.tLast + 5000000000 ≤ e.mono)) ∧
      (y.open_ = true → Completes (.sessionIdle n) s [.host, .log, .nvm, .rings, .time] (among (slotObjs y.slot)) [] (fun e =>
        ended y e ∧ y.tLast + 1000000000 * s.dev.nat O.ntSessIdleS ≤ e.mono))) ∧
    (∀ port req f t, s.dev.host.fails.find? (fun f => decide (f.port = port) && decide (f.req = req)) = some f → f.lockedUntil = some t →
      Completes (.authLockoutEnd port req) s [.host, .time] noObj [] (fun e => t ≤ e.mono ∧ f ∉ e.host.fails))

/-- A SUBSCRIBE that passes with fewer than 64 subscriptions takes an unused SUB_ID for its requester and answers with it; the 65th is
answered with 0x84; a refused one answers its code and opens nothing. UNSUBSCRIBE by its requester ends it, by another gives INVALID_VALUE.
At CHANGE_INTERVAL_END, MIN_MS after the last notification, a value that differs is notified. STREAM_RECORD_SEND, while Harbour is clocked,
passes the next record of a subscription's ring. LOG_READ answers with the entries from a SEQ on, DAYMARK with both Daymarks. (R386, R387,
R398, R406, R407, R408) -/
def Obligations.TenderSubscriptions : Prop :=
  ∀ s : State,
    let subsKept := fun (e : Dev) => e.host.subs.map Sub.still = s.dev.host.subs.map Sub.still
    (∀ m x, m.opcode = 0x10 → s.dev.takes m x → tmsgSize m ≤ largestMsg m.port → m.body.length = 24 →
      let org := tmsgOrigin m x
      (s.dev.subCheck org.role m.body ≠ .ok → Completes (.subscribe m) s [.host] noObj [] (fun e =>
        subsKept e ∧ ∃ id, s.dev.answered e m x (subReply id (s.dev.subCheck org.role m.body)))) ∧
      (s.dev.subCheck org.role m.body = .ok → 64 ≤ s.dev.host.subs.length → Completes (.subscribe m) s [.host] noObj [] (fun e => subsKept e ∧ s.dev.erred e m x 0x84)) ∧
      (s.dev.subCheck org.role m.body = .ok → s.dev.host.subs.length < 64 → Completes (.subscribe m) s [.host] noObj [] (fun e =>
        ∃ (u v : Sub), s.dev.subById u.id = none ∧ u.id < 256 ∧ e.subById u.id = some v ∧ v.still = u.still ∧ s.dev.answered e m x (subReply u.id .ok) ∧
          (u.kind, u.index, u.minMs, u.oid, u.evmask) = (leAt m.body 0 1, leAt m.body 1 1, leAt m.body 2 2, leAt m.body 4 4, leAt m.body 8 16) ∧
          (u.port, u.req, u.session, u.role) = (m.port, m.src, org.session, org.role)))) ∧
    (∀ m x, m.opcode = 0x11 → s.dev.takes m x → tmsgSize m ≤ largestMsg m.port → m.body.length = 4 →
      let id := leAt m.body 0 1
      (∀ u, s.dev.subById id = some u → u.port = m.port → u.req = m.src → u.session = sessNum x →
        Completes (.unsubscribe m) s [.host, .rings] noObj [] (fun e => e.subById id = none ∧ s.dev.answered e m x (subReply id .ok))) ∧
      ((∀ u, s.dev.subById id = some u → ¬ (u.port = m.port ∧ u.req = m.src ∧ u.session = sessNum x)) →
        Completes (.unsubscribe m) s [.host] noObj [] (fun e => subsKept e ∧ s.dev.answered e m x (subReply id .invalidValue)))) ∧
    (∀ id u, s.dev.subById id = some u → u.kind = 0 →
      Completes (.changeIntervalEnd id) s [.time] noObj [] (fun e =>
        u.lastT + 1000000 * u.minMs ≤ e.mono ∧
        (s.dev.linksUp = true → quiet u.oid = true → (∀ d : Dev, d.read u.oid = d.get u.oid) → ∃ v, e.subById id = some v ∧ v.still = u.still ∧
          v.lastVal = s.dev.readBytes u.oid ∧ (v.lastVal ≠ u.lastVal → v.lastT = e.mono)))) ∧
    (∀ id u n r, s.dev.harbourOn = true → s.dev.subById id = some u → subRing u.kind u.index = some n → (s.dev.ring n).nextFor (256 + id) = some r →
      Completes (.streamRecordSend id) s [.rings] noObj [] (fun e =>
        e.ring n = (s.dev.ring n).pass (256 + id) r.endPos ∧ (∀ k, k ≠ n → e.ring k = s.dev.ring k) ∧ ∃ v, e.subById id = some v ∧ v.still = u.still ∧
          (v.lost = u.lost ∨ v.lost = u.lost + 1) ∧
          let body := leBytes 1 id ++ leBytes 1 u.kind ++ leBytes 1 u.index ++ leBytes 1 0 ++ r.bytes
          (v.lost = u.lost → u.session = 0 → s.dev.handed e { port := u.port, dest := u.req, opcode := 0x12, mflags := 0, body := body }))) ∧
    (∀ m x, m.opcode = 0x20 → s.dev.takes m x → tmsgSize m ≤ largestMsg m.port → m.body.length = 12 → leAt m.body 0 1 ≤ 1 → 1 ≤ leAt m.body 1 1 → leAt m.body 1 1 ≤ 16 →
      Completes (.logRead m) s [.host] noObj [] (fun e =>
        let l := (s.dev.logFrom (leAt m.body 0 1) (leAt m.body 4 8)).take (leAt m.body 1 1)
        s.dev.answered e m x (leBytes 1 l.length ++ leBytes 3 0 ++ l.flatMap LogEntry.encode))) ∧
    (∀ m x, m.opcode = 0x21 → s.dev.takes m x → tmsgSize m ≤ largestMsg m.port → m.body.length = 4 → leAt m.body 0 1 ≤ 1 →
      Completes (.daymark m) s [.host] noObj [] (fun e =>
        s.dev.answered e m x (s.dev.daymark .P ++ s.dev.daymark .C ++ leBytes 1 (s.dev.nat O.lgDmState) ++ leBytes 1 (s.dev.nat O.lgCfgDirty) ++ leBytes 2 0 ++
          (if leAt m.body 0 1 = 1 then (List.range 19).flatMap (s.dev.leaf .P) else []))))

/-- On Ethernet and CAN FD a first segment that is not the last starts a partial message of its source; the next in order joins it, and the
last one completes it: a message of right MAGIC, VERSION and length, with room in the queue, joins the receive queue. A segment out of order
is ignored. REASSEMBLY_TIMEOUT, 100 ms after the first segment, drops the partial message and counts it. SPI_PUT takes a segment in the same
way; SPI_GET returns the oldest waiting segment behind its length, and removes it unless it was cut short; SPI_STATUS says whether one
waits, whether 4 KiB fit, and how many bytes wait. (R395, R400, R402) -/
def Obligations.Segments : Prop :=
  ∀ s : State,
    (∀ port src source seg, 1 ≤ port → port ≤ 3 → s.dev.portUp port = true → s.dev.linkAccepts port src source = true → 4 ≤ seg.length → seg.length ≤ segPayload port + 4 →
      let no := leAt seg 0 2
      let k := leAt seg 2 1
      let last := (leAt seg 3 1).testBit 0
      let fresh : Partial_ := { port := port, src := src, msgno := no, next := 1, t0 := s.dev.mono, source := source, bytes := seg.drop 4 }
      let joins := fun (q : Nat) (b0 : List Byte) (e : Dev) =>
        let b := if port = 3 then b0.take (headerLength b0) else b0
        16 ≤ b.length → leAt b 0 1 = 0xD7 → leAt b 1 1 = 1 → leAt b 8 4 ≤ 65536 → b.length = headerLength b0 → b.length ≤ largestMsg port →
          s.dev.rxUsed port + b.length ≤ rxQueue port → e.host.rx = s.dev.host.rx ++ [{ port := port, src := src, source := q, bytes := b }]
      let drops := [rxDropped port, O.ntAuthFail]
      let rest := s.dev.host.partials.filter (fun q => !(decide (q.port = port) && decide (q.src = src)))
      (s.dev.partialOf port src = none →
        (k = 0 → last = false → Completes (.segmentRx port src source seg) s [.host] noObj [] (fun e => e.host.partials = s.dev.host.partials ++ [fresh])) ∧
        (k = 0 → last = true → Completes (.segmentRx port src source seg) s [.host] (among drops) [97, 98] (joins source (seg.drop 4))) ∧
        (k ≠ 0 → Completes (.segmentRx port src source seg) s [] noObj [] (fun e => e.host.partials = s.dev.host.partials))) ∧
      (s.dev.partialOf port src ≠ none → k = 0 → last = false → Completes (.segmentRx port src source seg) s [.host] (only (rxDropped port)) [98] (fun e =>
        e.host.partials = rest ++ [fresh] ∧ s.dev.counted e (rxDropped port) 1)) ∧
      (∀ p, s.dev.partialOf port src = some p → k ≠ 0 → s.dev.mono < p.t0 + 100000000 →
        (p.msgno ≠ no ∨ p.next ≠ k ∨ 254 < k → Completes (.segmentRx port src source seg) s [] noObj [] (fun e => e.host.partials = s.dev.host.partials)) ∧
        (p.msgno = no → p.next = k → k ≤ 254 →
          (last = false → Completes (.segmentRx port src source seg) s [.host] noObj [] (fun e =>
            e.host.partials = rest ++ [{ p with next := k + 1, bytes := p.bytes ++ seg.drop 4 }])) ∧
          (last = true → Completes (.segmentRx port src source seg) s [.host] (among drops) [97, 98] (fun e =>
            e.host.partials = rest ∧ joins p.source (p.bytes ++ seg.drop 4) e))))) ∧
    (∀ port src p, port ≤ 6 → s.dev.partialOf port src = some p →
      Completes (.reassemblyTimeout port src) s [.host, .time] (only (rxDropped port)) [98] (fun e =>
        e.partialOf port src = none ∧ p.t0 + 100000000 ≤ e.mono ∧ s.dev.counted e (rxDropped port) 1)) ∧
    (s.dev.portUp 4 = true →
      (∀ seg, 4 ≤ seg.length → seg.length ≤ 4096 → leAt seg 2 1 = 0 → (leAt seg 3 1).testBit 0 = false → s.dev.partialOf 4 0 = none →
        Completes (.spiPut seg false) s [.host] noObj [] (fun e => e.host.partials = s.dev.host.partials ++
          [{ port := 4, src := 0, msgno := leAt seg 0 2, next := 1, t0 := s.dev.mono, source := 0, bytes := seg.drop 4 }])) ∧
      (∀ seg, Completes (.spiPut seg true) s [] noObj [] (fun e => e.host.partials = s.dev.host.partials ∧ e.host.rx = s.dev.host.rx)) ∧
      (∀ cut, s.dev.host.spi = [] → Completes (.spiGet cut) s [.host] noObj [] (fun e => e.host.spiAnswer = leBytes 2 0)) ∧
      (∀ b t, s.dev.host.spi = b :: t →
        Completes (.spiGet false) s [.host] noObj [] (fun e => e.host.spiAnswer = leBytes 2 b.length ++ b ∧ t <+: e.host.spi) ∧
        Completes (.spiGet true) s [.host] noObj [] (fun e => e.host.spiAnswer = leBytes 2 b.length ++ b ∧ b :: t <+: e.host.spi)) ∧
      Completes .spiStatus s [.host] noObj [] (fun e => e.host.spiAnswer =
        leBytes 4 ((if s.dev.host.spi.isEmpty = true then 0 else 1) + (if s.dev.rxUsed 4 + 4096 ≤ 16384 then 2 else 0) + 65536 * satU 16 (s.dev.host.spi.map (·.length)).sum)))

/-- LINK_CHANGE shows the new state of 1000BASE-T1, 10BASE-T1S (PLCA at once as coordinator) or CAN FD with event 96 and its cause; a link
that falls, or a CAN port off the bus, ends every session of its transport. A change to the present state, or up on a disabled port, does
nothing. A BEACON puts a PLCA follower in PLCA, 4 ms without one in CSMA/CD; the coordinator sends BEACONs. A peer-delay request is answered
while 1000BASE-T1 is up. (R401, R405, R413, R417) -/
def Obligations.LinksAndPlca : Prop :=
  ∀ s : State,
    (∀ link v, 1 ≤ link → link ≤ 3 → v < 4 → (link ≤ 2 → v ≤ 1) → s.dev.linksUp = true → (∀ y ∈ s.dev.host.sessions, y.slot < 8) →
      let o := if link = 1 then O.ntT1Link else if link = 2 then O.ntT1sStatus else O.ntCanState
      let en := s.dev.flag (if link = 1 then O.ntT1Enable else if link = 2 then O.ntT1sEnable else O.ntCanEnable)
      let was := s.dev.nat o
      let new := if v = 0 then 0 else if link = 2 then (if was ≠ 0 then was else if s.dev.plcaCoordinator = true then 2 else 1) else v
      let lost := new = 0 ∨ (link = 3 ∧ new = 3)
      ((en = true ∨ new = 0) → was ≠ new →
        Completes (.linkChange link v) s [.host, .log, .nvm, .rings]
          (setsOf [o, O.ntNtEventCause] [each 8 O.ntSessRole, each 8 O.ntSessPort, each 8 O.ntSessSource]) [96] (fun e =>
          e.nat o = new ∧ e.nat O.ntNtEventCause = link ∧ s.dev.told e 96 link ∧ (lost → ∀ y ∈ e.host.sessions, y.port ≠ link) ∧
          (¬ lost → e.host.sessions.map Session.still = s.dev.host.sessions.map Session.still))) ∧
      (was = new ∨ (en = false ∧ new ≠ 0) → Completes (.linkChange link v) s [] noObj [] (fun e => e.nat o = was))) ∧
    (s.dev.portUp 2 = true → s.dev.flag O.ntPlcaEnable = true →
      (s.dev.nat O.ntPlcaNodeId ≠ 0 → Completes .plcaBeacon s [.host] (only O.ntT1sStatus) [] (fun e =>
        e.nat O.ntT1sStatus = 2 ∧ e.host.beacon = some s.dev.mono ∧ e.host.beaconsSent = s.dev.host.beaconsSent)) ∧
      (s.dev.nat O.ntPlcaNodeId = 0 →
        Completes .plcaBeacon s [] noObj [] (fun e => e.host.beacon = s.dev.host.beacon) ∧
        Completes .plcaBeaconSend s [.host] noObj [] (fun e => e.host.beaconsSent = s.dev.host.beaconsSent + 1 ∧ e.host.beacon = s.dev.host.beacon))) ∧
    (∀ t, s.dev.host.beacon = some t → Completes .plcaBeaconTimeout s [.host, .time] (only O.ntT1sStatus) [] (fun e =>
      e.host.beacon = none ∧ t + 4000000 ≤ e.mono ∧ e.nat O.ntT1sStatus = if s.dev.nat O.ntT1sStatus = 0 then 0 else 1)) ∧
    (s.dev.portUp 1 = true → Completes .peerDelayRequest s [.host] noObj [] (fun e => e.host.peerDelay = s.dev.host.peerDelay + 1)) ∧
    (s.dev.portUp 1 = false → Completes .peerDelayRequest s [] noObj [] (fun e => e.host.peerDelay = s.dev.host.peerDelay))

/-- A first Sync, or one from another grandmaster, gives ACQUIRING with its offset; the second from the same one DISCIPLINED. A discipline
whose offset exceeds STEP_NS sets the time to the gPTP time, with LAST_STEP, STEP_COUNT, event 102 and a resynchronisation of the Watch; a
smaller one sets TIME_RATE, held within SLEW_PPM. An Announce of another grandmaster starts over. Without Sync ACQUIRING becomes FREE_RUN
and DISCIPLINED HOLDOVER; PTP_ENABLE 0 gives FREE_RUN. Every change of TIME_STATE raises event 101. An accepted TIME_SET steps the time to
the value written; it is refused with STATE while DISCIPLINED or ACQUIRING. (R157, R344, R412, R414) -/
def Obligations.DeviceTime : Prop :=
  ∀ s : State,
    let st := s.dev.nat O.tmTimeState
    let goes := fun (v : Nat) (e : Dev) => e.nat O.tmTimeState = v ∧ (st ≠ v → s.dev.told e 101 v)
    let stepped := fun (t : Nat) (e : Dev) => e.now = t ∧ e.mono = s.dev.mono ∧ e.num O.tmLastStep = (t : Int) - (s.dev.now : Int) ∧ s.dev.counted e O.tmStepCount 1 ∧
      s.dev.told e 102 (toUnsigned 32 (satS 32 ((t : Int) - (s.dev.now : Int)))) ∧ e.wt = { s.dev.wt with resync := true, stepTo := t }
    (s.dev.portUp 1 = true → s.dev.flag O.tmPtpEnable = true →
      (∀ (gm gtime : Nat) (rate : Int),
        let off : Int := (gtime : Int) - (s.dev.now : Int)
        let m : Int := 1000 * (s.dev.nat O.tmSlewPpm : Int)
        let fresh := fun (e : Dev) => e.tm = { s.dev.tm with offsets := 1, gm := gm } ∧ goes 1 e ∧ e.now = s.dev.now
        let kept := fun (e : Dev) => goes 2 e ∧ (s.dev.nat O.tmStepNs < off.natAbs → stepped gtime e) ∧
          (off.natAbs ≤ s.dev.nat O.tmStepNs → e.num O.tmTimeRate = max (-m) (min m rate) ∧ e.now = s.dev.now ∧ e.wt = s.dev.wt)
        Completes (.ptpSync gm gtime rate) s [.au, .cx, .lens, .time, .tm, .wt]
          (among [O.tmTimeOffset, O.tmGmId, O.tmTimeState, O.tmLastStep, O.tmStepCount, O.tmTimeRate]) [101, 102] (fun e =>
          e.num O.tmTimeOffset = off ∧ e.nat O.tmGmId = gm ∧
          (st = 0 ∨ st = 3 ∨ s.dev.tm.gm ≠ gm ∨ (st = 1 ∧ s.dev.tm.offsets = 0) → fresh e) ∧
          (st = 1 → s.dev.tm.gm = gm → s.dev.tm.offsets ≠ 0 → kept e ∧ e.tm = { s.dev.tm with offsets := 2 }) ∧
          (st = 2 → s.dev.tm.gm = gm → kept e ∧ e.tm = s.dev.tm))) ∧
      (∀ gm, Completes (.ptpAnnounce gm) s [.lens, .tm] (among [O.tmGmId, O.tmTimeState]) [101] (fun e =>
        e.nat O.tmGmId = gm ∧ ((st = 1 ∨ st = 2) → s.dev.tm.gm ≠ gm → e.tm = { s.dev.tm with offsets := 0, gm := gm } ∧ goes 1 e) ∧
        (st = 0 ∨ st = 3 ∨ s.dev.tm.gm = gm → e.tm = s.dev.tm ∧ e.nat O.tmTimeState = st)))) ∧
    (Completes .ptpSyncTimeout s [.lens, .tm] (only O.tmTimeState) [101] (fun e =>
      (st = 1 → e.tm = { s.dev.tm with offsets := 0 } ∧ goes 0 e) ∧ (st = 2 → goes 3 e) ∧ (st ≠ 1 → st ≠ 2 → e.nat O.tmTimeState = st))) ∧
    (∀ org, s.dev.accepts org [writeNum O.tmPtpEnable 0] →
      Completes (.ptpEnable org 0) s (.lens :: .tm :: writeParts) (among (O.tmPtpEnable :: O.tmTimeState :: writeObjs)) [101, 126] (fun e =>
        e.flag O.tmPtpEnable = false ∧ goes 0 e ∧ e.tm = { s.dev.tm with offsets := 0 })) ∧
    (∀ org, s.dev.accepts org [writeNum O.tmPtpEnable 1] →
      Completes (.ptpEnable org 1) s writeParts (among (O.tmPtpEnable :: writeObjs)) [126] (fun e => e.flag O.tmPtpEnable = true ∧ e.nat O.tmTimeState = st)) ∧
    (∀ org (v : Nat), v < 2 ^ 64 → s.dev.accepts org [writeNum O.tmTimeSet v] →
      Completes (.timeSet org v) s ([.au, .cx, .lens, .time, .wt] ++ writeParts) (among ([O.tmLastStep, O.tmStepCount] ++ writeObjs)) [102, 126] (fun e => stepped v e)) ∧
    (∀ v, st = 1 ∨ st = 2 → s.dev.stateRefuse O.tmTimeSet v = some .state)

/-- While Harbour is not clocked nothing happens. BUOY_POLL_ENTRY, while K3 executes, takes the next due entry of a running slot: it is
skipped and counted when its chain is not enabled or its Buoy is EMPTY or FEED_OFF; with nothing queued for the Buoy the closing message
goes out, 24 µs after the end of the last packet at the earliest, with the next SEQ and a deadline for its answer, or the hop to its channel
starts. BL_ACK_TIMEOUT repeats a message while DL_RETRIES allow, and ends an unanswered closing exchange with a miss; at MISS_LIMIT the Buoy
is LOST with event 113. BL_SYNTH_LOCK stores the channel and transmits 5 µs later; 200 µs without lock abort: TX_ABORTS and event 114. An
ACK that falls due is sent at its time, or omitted and counted while another port transmits. (R322, R430, R431, R435, R436, R437) -/
def Obligations.BuoyExchanges : Prop :=
  ∀ s : State,
    let bl := s.dev.bl
    let free := bl.acks = [] ∧ bl.hop = none ∧ s.dev.cal.linkDue = 0
    let tuned := fun (c : Nat) => s.dev.nat O.blChannelNow = c ∧ bl.settled = true
    (s.dev.harbourOn = false →
      (∀ slot, Completes (.buoyPollEntry slot) s [] noObj [] (fun e => e.bl = bl)) ∧ Completes .blAckTimeout s [] noObj [] (fun e => e.bl = bl) ∧
      (∀ ns, Completes (.blSynthLock ns) s [] noObj [] (fun e => e.bl = bl)) ∧ ∀ n, Completes (.blAckSend n) s [] noObj [] (fun e => e.bl = bl)) ∧
    (s.dev.harbourOn = true →
    (∀ slot p t, s.dev.keeperUp 3 = true → bl.entry = none → bl.todo.find? (fun q => decide (q.1 = slot)) = some (slot, p) →
      s.dev.wt.kept.find? (fun q => decide (q.1 = slot)) = some (slot, .running t) → s.dev.now < t + (s.dev.planSlots.getD slot {}).est * 1000 →
      p.chain < 6 → p.buoy < 4 →
      let i := 4 * p.chain + p.buoy
      let st := s.dev.nat (O.blBuoyState i)
      let b := s.dev.buoy i
      let off := s.dev.chains ≤ p.chain ∨ s.dev.flag (O.blLinkEnable p.chain) = false ∨ (p.kind ≠ 2 ∧ (st = 0 ∨ st = 3))
      (off → Completes (.buoyPollEntry slot) s [.bl] (only O.blPollsSkipped) [] (fun e =>
        e.bl = { bl with todo := bl.todo.erase (slot, p) } ∧ s.dev.counted e O.blPollsSkipped 1)) ∧
      (¬ off → p.kind ≠ 2 → (p.kind = 1 → b.first = false) → b.due = none → b.queue = [] → free → bl.cur = none → bl.wait = none → bl.assigns = [] →
        (tuned p.channel → Completes (.buoyPollEntry slot) s [.bl] (among [O.blDlQueued i, O.blPktTx p.chain]) [] (fun e =>
          let rate := s.dev.nat (O.blDlRate i)
          let t0 := max s.dev.mono (bl.lastEnd + 24000)
          let pkt := gfskBytes rate (if p.kind = 0 then 1 else 2) (ctrlByte b.txSeq true false p.buoy) []
          e.bl.todo = bl.todo.erase (slot, p) ∧ e.bl.entry = some { wslot := slot, poll := p, left := s.dev.nat O.blDlPerPoll, closed := true } ∧
          e.bl.sent = bl.sent ++ [{ chain := p.chain, channel := p.channel, rate := rate, level := s.dev.blLevel (s.dev.nat (O.blTxPowerIdx i)), at_ := t0, bytes := pkt }] ∧
          (∃ w, e.bl.wait = some w ∧ w.deadline = t0 + gfskTime rate 0 + 24000 + 64 * gfskBit rate + 2000 ∧ w.heard = false) ∧
          e.buoy i = { b with chan := some p.channel, txSeq := (b.txSeq + 1) % 16 } ∧ s.dev.counted e (O.blPktTx p.chain) 1)) ∧
        (¬ tuned p.channel → Completes (.buoyPollEntry slot) s [.bl] (among [O.blDlQueued i, O.blChannelNow]) [] (fun e =>
          e.bl.hop = some s.dev.mono ∧ e.bl.settled = false ∧ e.nat O.blChannelNow = p.channel ∧ e.bl.sent = bl.sent ∧ e.bl.cur.isSome = true ∧ e.bl.rx = [])))) ∧
    (∀ w, bl.wait = some w →
      (w.heard = true → Completes .blAckTimeout s [] noObj [] (fun e => e.bl = bl)) ∧
      (∀ x, w.heard = false → w.tx.use = .close → bl.entry = some x → x.poll.kind ≠ 2 → x.poll.chain < 6 → x.poll.buoy < 4 →
        let i := 4 * x.poll.chain + x.poll.buoy
        let k := s.dev.nat (O.blMisses i) + 1
        s.dev.nat (O.blBuoyState i) = 2 →
        Completes .blAckTimeout s [.bl, .time] (among [O.blMisses i, O.blBuoyState i, O.blDlQueued i, O.blFwState]) [113, 117] (fun e =>
          w.deadline ≤ e.mono ∧ e.bl.entry = none ∧ e.bl.wait = none ∧ e.nat (O.blMisses i) = k ∧
          (s.dev.nat O.blMissLimit ≤ k → e.nat (O.blBuoyState i) = 4 ∧ s.dev.told e 113 i) ∧ (k < s.dev.nat O.blMissLimit → e.nat (O.blBuoyState i) = 2))) ∧
      (∀ q, w.heard = false → w.tx.use = .down ∨ w.tx.use = .map ∨ w.tx.use = .assign → w.tx.msg.seq = some q → w.tx.tries < s.dev.nat O.blDlRetries → free → tuned w.tx.channel →
        w.tx.chain < 6 → w.tx.slot < 4 → s.dev.flag (O.blLinkEnable w.tx.chain) = true →
        Completes .blAckTimeout s [.bl, .time] (among [O.blDlNoack (4 * w.tx.chain + w.tx.slot), O.blPktTx w.tx.chain]) [] (fun e =>
          let pkt := gfskBytes w.tx.rate w.tx.msg.ty (ctrlByte q true w.tx.bcast (if w.tx.bcast = true then 0 else w.tx.slot)) w.tx.msg.body
          w.deadline ≤ e.mono ∧ s.dev.counted e (O.blDlNoack (4 * w.tx.chain + w.tx.slot)) 1 ∧
          e.bl.sent = bl.sent ++ [{ chain := w.tx.chain, channel := w.tx.channel, rate := w.tx.rate, level := w.tx.level, at_ := max e.mono (bl.lastEnd + 24000), bytes := pkt }] ∧
          ∃ v, e.bl.wait = some v ∧ v.tx = { w.tx with tries := w.tx.tries + 1 }))) ∧
    (∀ t ns, bl.hop = some t →
      let c := s.dev.nat O.blChannelNow
      (∀ tx, c < 8 → bl.cur = some tx → s.dev.flag (O.blLinkEnable tx.chain) = true → tx.chain < 6 → tx.slot < 4 →
        Completes (.blSynthLock ns) s [.bl, .cal, .time] (among [O.caLinkCalValid, O.blPktTx tx.chain, O.blDlQueued (4 * tx.chain + tx.slot)]) [] (fun e =>
          t + ns ≤ e.mono ∧ e.bl.hop = none ∧ e.bl.settled = true ∧ (e.nat O.caLinkCalValid).testBit c = true ∧ s.dev.counted e (O.blPktTx tx.chain) 1 ∧
          ∃ x, e.bl.sent = bl.sent ++ [x] ∧ x.at_ = e.mono + 5000 ∧ x.chain = tx.chain ∧ x.channel = tx.channel ∧ x.level = tx.level)) ∧
      (∀ tx, c < 8 → bl.cur = some tx → bl.entry = none →
        Completes .blSynthLockTimeout s [.bl, .time] (among [O.caLinkCalValid, O.blTxAborts]) [114] (fun e =>
          t + 200000 ≤ e.mono ∧ e.bl.hop = none ∧ e.bl.cur = none ∧ (e.nat O.caLinkCalValid).testBit c = false ∧ s.dev.counted e O.blTxAborts 1 ∧
          s.dev.told e 114 (256 * tx.chain + c)))) ∧
    (∀ n a, n < 6 → bl.acks.find? (fun a => decide (a.chain = n)) = some a →
      Completes (.blAckSend n) s [.bl, .lens, .rings, .time] anyObj anyEvent (fun e =>
        a.at_ ≤ e.mono ∧ a ∉ e.bl.acks ∧ (a.at_ < bl.txEnd → bl.txChain ≠ n → s.dev.counted e O.blAckOmitted 1) ∧
        (bl.txEnd ≤ a.at_ ∨ bl.txChain = n → s.dev.flag (O.blLinkEnable n) = true → ∃ q < 16, bl.sent ++ [{ chain := n, channel := s.dev.nat O.blChannelNow, rate := a.rate, level := a.level, at_ := a.at_, bytes := gfskBytes a.rate 0 (ctrlByte q false false (a.slot.getD 0)) [] }] <+: e.bl.sent))))

/-- While Harbour is clocked: BL_DETECTION at the end of a sync word takes an idle receiver, preempts a packet without header (counted, the
earlier one saved), and captures one with a header only by BL_CAPTURE_DB; nothing is received while the chain transmits. A header that fails
its CRC counts, and the latest saved detection is taken up again. A stored uplink of a known Buoy, new by its SEQ, waits in the queue with
its ACK due 24 µs after its end; a repeated one is only acknowledged. BL_NOISE_MEASURE smooths the noise of the channel. 200 ms after the
feed is ON its Buoys at FEED_OFF are LOST. LINK_ENABLE 0 empties the slots of its chain, DL_MSG queues a downlink, FW_CMD starts an update.
(R422, R426, R428, R432, R433, R434, R435, R439, R442) -/
def Obligations.BuoyReception : Prop :=
  ∀ s : State,
    let bl := s.dev.bl
    let rx := fun (d : Dev) (n : Nat) => Tab.get {} d.bl.rx n
    let rxOnly := fun (n : Nat) (e : Dev) => ∀ m, m ≠ n → rx e m = rx s.dev m
    (s.dev.harbourOn = true →
    (∀ (n kind dt : Nat) (strength : Int), n < s.dev.chains → s.dev.linksUp = true → s.dev.flag (O.blLinkEnable n) = true →
      let start := s.dev.mono + dt
      let stop := start + (if kind = 6 then 100000 else 64 * gfskBit kind)
      let det : BlDet := { kind := kind, start := start, strength := strength }
      let kept := (rx s.dev n).saved.filter (fun x => decide (stop ≤ x.start + 2000000))
      let k := s.dev.num O.blCaptureDb
      Completes (.blDetection n kind dt strength) s [.bl, .time] (among [O.blPreempted, O.blCaptureLost]) [115] (fun e =>
        e.mono = stop ∧ rxOnly n e ∧ (stop < bl.txEnd ∧ bl.txChain = n → rx e n = rx s.dev n) ∧
        (¬ (stop < bl.txEnd ∧ bl.txChain = n) →
          ((rx s.dev n).cur = none → rx e n = { rx s.dev n with cur := some det, hdr := none }) ∧
          (∀ c, (rx s.dev n).cur = some c → (rx s.dev n).hdr = none →
            rx e n = { cur := some det, hdr := none, saved := (kept ++ [c]).drop ((kept ++ [c]).length - 2) } ∧ s.dev.counted e O.blPreempted 1) ∧
          (∀ c h, (rx s.dev n).cur = some c → (rx s.dev n).hdr = some h →
            (k ≠ 0 → c.strength + k ≤ strength → rx e n = { cur := some det } ∧ s.dev.counted e O.blCaptureLost 1 ∧ (bl.losing = false → s.dev.told e 115 n)) ∧
            (k = 0 ∨ strength < c.strength + k → rx e n = { rx s.dev n with saved := kept }))))) ∧
    (∀ n w c, (rx s.dev n).cur = some c → (rx s.dev n).hdr = none →
      let stop := max s.dev.mono (c.start + (if c.kind = 6 then 150000 else 96 * gfskBit c.kind))
      (∀ h, (c.kind ≠ 6 ∧ gfskHeader w = some h) ∨ (c.kind = 6 ∧ ofdmHeader w = some h ∧ (s.dev.blMapOf (4 * n + h.slot) h.mapId).isSome = true) →
        Completes (.blHeaderEnd n w) s [.bl, .time] noObj [] (fun e => e.mono = stop ∧ rx e n = { rx s.dev n with hdr := some h } ∧ rxOnly n e)) ∧
      (c.kind ≠ 6 → gfskHeader w = none →
        (∀ x t, ((rx s.dev n).saved.filter (fun x => decide (stop ≤ x.start + 2000000))).reverse = x :: t →
          Completes (.blHeaderEnd n w) s [.bl, .time] (only O.blHdrFail) [] (fun e =>
            s.dev.counted e O.blHdrFail 1 ∧ rx e n = { cur := some x, hdr := none, saved := t.reverse } ∧ rxOnly n e)) ∧
        ((rx s.dev n).saved = [] → bl.wait = none → Completes (.blHeaderEnd n w) s [.bl, .time] (only O.blHdrFail) [] (fun e =>
          s.dev.counted e O.blHdrFail 1 ∧ rx e n = {} ∧ rxOnly n e)))) ∧
    (∀ n data crc eye powers det h, n < 6 → (rx s.dev n).cur = some det → (rx s.dev n).hdr = some h →
      let i := 4 * n + h.slot
      let stop := max s.dev.mono (det.start + s.dev.blDuration n det h)
      let map := (s.dev.blMapOf i h.mapId).getD []
      let good := fun (body : List Byte) => body.length = h.len ∧ ((det.kind ≠ 6 ∧ data = .bytes body ∧ crc = crc32 (beBytes 4 h.word ++ body)) ∨
        (det.kind = 6 ∧ ∃ l, data = .points l ∧ ofdmRead map h.len l = some (body, crc32 body)))
      let ack : BlAck := { chain := n, slot := some h.slot, at_ := stop + 24000, rate := s.dev.nat (O.blDlRate i), level := s.dev.blLevel (s.dev.nat (O.blTxPowerIdx i)) }
      ((∀ body, ¬ good body) → bl.wait = none → Completes (.blPacketEnd n data crc eye powers) s [.bl, .time] noObj [] (fun e =>
        e.mono = stop ∧ rx e n = {} ∧ rxOnly n e ∧ e.bl.rxq = bl.rxq)) ∧
      (∀ body, good body → h.slot < 4 → (h.ty = 0x0A ∨ h.ty = 0x10 ∨ (h.ty = 0x0E ∧ det.kind = 6)) → h.ackReq = true → s.dev.nat (O.blBuoyState i) ≠ 0 → bl.wait = none →
        let os := among [O.blPktRx n, O.blRxLevel i, O.blEyeWidth i, O.blSnrMin i, O.blUlRx i, O.blLastRx i, O.blDlQueued i]
        ((s.dev.buoy i).rxSeq ≠ some h.seq → (bl.rxq.map BlPkt.size).sum + (8 + body.length) ≤ 65536 →
          Completes (.blPacketEnd n data crc eye powers) s [.bl, .time] os [] (fun e =>
            e.mono = stop ∧ rx e n = {} ∧ e.bl.acks = bl.acks ++ [ack] ∧ (e.buoy i).rxSeq = some h.seq ∧ s.dev.counted e (O.blUlRx i) 1 ∧ s.dev.counted e (O.blPktRx n) 1 ∧
            e.nat (O.blLastRx i) = e.now ∧ e.num (O.blRxLevel i) = det.strength ∧ (det.kind ≠ 6 → e.nat (O.blEyeWidth i) = eye) ∧ (det.kind = 6 → (e.buoy i).sig = powers) ∧
            ∃ p, e.bl.rxq = bl.rxq ++ [p] ∧ p.body = body ∧ p.chain = n ∧ p.slot = h.slot ∧ p.ty = h.ty ∧ p.t = e.now ∧ p.uid = s.dev.nat (O.blUid i))) ∧
        ((s.dev.buoy i).rxSeq = some h.seq → Completes (.blPacketEnd n data crc eye powers) s [.bl, .time] os [] (fun e =>
          e.mono = stop ∧ e.bl.acks = bl.acks ++ [ack] ∧ e.bl.rxq = bl.rxq ∧ (e.buoy i).dup = true ∧ s.dev.counted e (O.blUlRx i) 1)))) ∧
    (∀ n powers, n < s.dev.chains → s.dev.linksUp = true → s.dev.flag (O.blLinkEnable n) = true → (rx s.dev n).cur = none → (rx s.dev n).saved = [] →
      bl.settled = true → powers.length = 64 →
      let t := max s.dev.mono (Tab.get 0 bl.noiseAt n + 40000)
      let base := 512 * n + 64 * s.dev.nat O.blChannelNow
      bl.txEnd ≤ t → Completes (.blNoiseMeasure n powers) s [.bl, .time] noObj [] (fun e =>
        e.mono = t ∧ Tab.get 0 e.bl.noiseAt n = t ∧ ∀ j < 64, Tab.get 0 bl.noise (base + j) = 0 → Tab.get 0 e.bl.noise (base + j) = dbLin (powers.getD j 0))) ∧
    (∀ n, n < 6 → s.dev.nat (O.cpFeedState n) = 2 → (∃ k < 4, s.dev.nat (O.blBuoyState (4 * n + k)) = 3) →
      Completes (.buoyFeedSettle n) s [.bl, .time] (among (feedObjs n)) [117] (fun e =>
        (s.dev.chain n).feedSince + 200000000 ≤ e.mono ∧
        ∀ k < 4, e.nat (O.blBuoyState (4 * n + k)) = if s.dev.nat (O.blBuoyState (4 * n + k)) = 3 then 4 else s.dev.nat (O.blBuoyState (4 * n + k))))) ∧
    (∀ org n, n < 6 →
      (s.dev.accepts org [writeNum (O.blLinkEnable n) 0] → bl.entry = none →
        Completes (.linkEnable org n 0) s (.bl :: writeParts) (among (O.blLinkEnable n :: feedObjs n ++ writeObjs)) [117, 126] (fun e =>
          e.flag (O.blLinkEnable n) = false ∧ rx e n = {} ∧ (∀ a ∈ e.bl.acks, a.chain ≠ n) ∧ (∀ t ∈ e.bl.assigns, t.chain ≠ n) ∧
          ∀ k < 4, e.nat (O.blBuoyState (4 * n + k)) = 0 ∧ (e.buoy (4 * n + k)).queue = [] ∧ (e.buoy (4 * n + k)).due = none)) ∧
      (s.dev.accepts org [writeNum (O.blLinkEnable n) 1] →
        Completes (.linkEnable org n 1) s writeParts (among (O.blLinkEnable n :: writeObjs)) [126] (fun e => e.flag (O.blLinkEnable n) = true ∧ e.bl = bl))) ∧
    (∀ org i ty body, i < 24 → s.dev.accepts org [writeItem (O.blDlMsg i) (ty :: body)] →
      Completes (.dlMsg org i (ty :: body)) s (.bl :: writeParts) (among (O.blDlQueued i :: writeObjs)) [126] (fun e =>
        e.buoy i = { s.dev.buoy i with queue := (s.dev.buoy i).queue ++ [{ ty := ty.toNat, body := body }] } ∧ e.nat (O.blDlQueued i) = (s.dev.buoy i).queue.length + 1)) ∧
    (∀ org, s.dev.accepts org [writeNum O.blFwCmd 1] → s.dev.nat O.blFwTarget < 24 →
      Completes (.fwCmd org 1) s (.bl :: writeParts) (among ([O.blFwState, O.blFwSent, O.blDlQueued (s.dev.nat O.blFwTarget)] ++ writeObjs)) [126] (fun e =>
        e.nat O.blFwState = 1 ∧ e.nat O.blFwSent = 0 ∧ ∃ f, e.bl.fw = some f ∧ f.target = s.dev.nat O.blFwTarget ∧ f.src = s.dev.nat O.blFwSrc ∧ f.len = s.dev.nat O.blFwLen))

/-- A role written on a free bus takes effect at once, on a busy one when it becomes free. While Harbour is clocked: X_GO queues a transfer
that starts on a free bus. At its end X_STATE is DONE with the result of Table 16.2, X_ACKED, X_T_DONE, the bytes read, and event 104 + 4p,
no earlier than Table 16.1 allows, and the bus is free tBUF later. A lost arbitration shows its byte and bit, counts, raises event 105 + 4p,
and the transfer waits again or, its retries used, ends ARB_LOST. A stretch that times out ends it; SCL low for 4 · CTL_STRETCH_MS more, or
SDA that nine pulses do not free, makes the port STUCK with event 106 + 4p. (R444, R445, R448, R449, R450, R451, R452, R454) -/
def Obligations.TwoWireController : Prop :=
  ∀ (s : State) (p : Nat), p < 2 →
    let w := s.dev.twp p
    let port := fun (e : Dev) => (e.twp p).still
    let idle := if w.role = 0 then 0 else 1
    let done := fun (r : Nat) (e : Dev) => e.nat (O.twXState p) = 3 ∧ e.nat (O.twXResult p) = r ∧ e.nat (O.twXTDone p) = e.now ∧ s.dev.told e (104 + 4 * p) r
    let ends := [O.twPortState p, O.twXState p, O.twXResult p, O.twXTDone p]
    let stuck := [O.twFaultCause p, O.twStuckCount p]
    let other := fun (e : Dev) => (e.twp (1 - p)).still = (s.dev.twp (1 - p)).still
    (∀ org v, (s.dev.twLine p 0).accepts org [writeNum (O.twRole p) v] → w.xfer = none → s.dev.nat (O.twPortState p) ≠ 6 → 0 ≤ v → v < 4 →
      Completes (.role org p 0 v.toNat 0) s (.tw :: writeParts) (among (O.twRole p :: O.twPortState p :: writeObjs)) [126] (fun e =>
        e.num (O.twRole p) = v ∧ other e ∧
        (w.free = true → port e = { w with role := v.toNat, speed := s.dev.nat (O.twSpeed p), sdaHold := 0 }.still ∧ e.nat (O.twPortState p) = if v = 0 then 0 else 1) ∧
        (w.free = false → (e.twp p).role = w.role ∧ e.nat (O.twPortState p) = s.dev.nat (O.twPortState p)))) ∧
    (∀ org (v : Nat), (s.dev.twLine p 0).accepts org [writeNum (O.twSpeed p) v] → w.xfer = none → s.dev.nat (O.twPortState p) ≠ 6 → w.free = true → v < 3 →
      Completes (.role org p 1 v 0) s (.tw :: writeParts) (among (O.twSpeed p :: O.twPortState p :: writeObjs)) [126] (fun e =>
        e.nat (O.twSpeed p) = v ∧ other e ∧ port e = { w with role := s.dev.nat (O.twRole p), speed := v, sdaHold := 0 }.still)) ∧
    (∀ org, s.dev.accepts org [writeNum (O.twXGo p) 1] → twController w.role = true → w.free = true →
      Completes (.xGo org p 1) s (.tw :: writeParts) (among (O.twXState p :: O.twXAcked p :: O.twPortState p :: writeObjs)) [126] (fun e =>
        e.nat (O.twXState p) = 2 ∧ e.nat (O.twXAcked p) = 0 ∧ e.nat (O.twPortState p) = 3 ∧ other e ∧
        let x : TwXfer := { addr := s.dev.nat (O.twXAddr p), write := s.dev.raw (O.twXWrite p), read := s.dev.nat (O.twXReadLen p), quick := s.dev.nat (O.twXQuickDir p) }
        port e = { w with free := false, xfer := some { x with started := true, active := true, at_ := s.dev.mono } }.still)) ∧
    (∀ org, s.dev.accepts org [writeNum (O.twXGo p) 1] → w.free = false →
      Completes (.xGo org p 1) s (.tw :: writeParts) (among (O.twXState p :: writeObjs)) [126] (fun e => e.nat (O.twXState p) = 1 ∧ (e.twp p).xfer.isSome = true ∧ other e)) ∧
    (s.dev.harbourOn = false → Completes (.twBusFree p) s [] noObj [] (fun e => e.tw = s.dev.tw)) ∧
    (s.dev.harbourOn = true →
    (s.dev.linksUp = true → w.free = false → w.sclLow = none → s.dev.nat (O.twPortState p) ≠ 6 →
      let r := s.dev.nat (O.twRole p)
      let at_ := max s.dev.mono w.freeAt
      (w.xfer = none → Completes (.twBusFree p) s [.time, .tw] (only (O.twPortState p)) [] (fun e =>
        e.mono = at_ ∧ port e = { w with free := true, ibrAgain := false, role := r, speed := s.dev.nat (O.twSpeed p) }.still ∧ e.nat (O.twPortState p) = (if r = 0 then 0 else 1) ∧ other e)) ∧
      (∀ x, w.xfer = some x → x.active = false → x.started = true → twController w.role = true →
        Completes (.twBusFree p) s [.time, .tw] (among [O.twPortState p, O.twXState p, O.twXAcked p]) [] (fun e =>
          e.mono = at_ ∧ port e = { w with ibrAgain := false, xfer := some { x with active := true, at_ := at_ } }.still ∧ e.nat (O.twPortState p) = 3 ∧ e.nat (O.twXState p) = 2))) ∧
    (∀ x, w.xfer = some x → x.active = true →
      let n := x.write.length
      (∀ addr addr2 acked data,
        let r := if addr = false then 1 else if min acked n < n then 2 else if 0 < n ∧ 0 < x.read ∧ addr2 = false then 1 else 0
        let l := x.tokens addr addr2 (min acked n) data
        Completes (.twXferDone p addr addr2 acked data) s [.time, .tw] (among (O.twXAcked p :: O.twXRead p :: ends)) [104 + 4 * p] (fun e =>
          done r e ∧ e.mono = max s.dev.mono (x.at_ + (l.map (TwTok.time w.speed)).sum) ∧
          port e = { w with free := false, freeAt := e.mono + twBuf w.speed, xfer := none, wire := w.wire ++ l }.still ∧ e.nat (O.twPortState p) = idle ∧ other e ∧ e.nat (O.twXAcked p) = (if addr = true then min acked n else 0) ∧
          (r = 0 → 0 < x.read → e.raw (O.twXRead p) = padTo x.read data) ∧ (r ≠ 0 ∨ x.read = 0 → e.get (O.twXRead p) = s.dev.get (O.twXRead p)))) ∧
      (∀ byte bit own,
        let os := among (O.twArbLast p :: O.twArbLostCount p :: O.twXAcked p :: ends)
        let z := twTimes w.speed
        let lost := fun (e : Dev) => e.mono = max s.dev.mono (x.at_ + z.2.2.1 + z.1 + (9 * byte + (7 - bit)) * twBit w.speed) ∧
          e.nat (O.twArbLast p) = 256 * byte + bit ∧ e.nat (O.twXAcked p) = x.ackedAt byte ∧ s.dev.counted e (O.twArbLostCount p) 1 ∧ s.dev.told e (105 + 4 * p) (256 * byte + bit) ∧
          (e.nat (O.twPortState p) = if w.role = 3 ∧ own = true ∧ byte = 0 then 4 else 2) ∧ other e
        (x.retries < s.dev.nat (O.twArbRetries p) → Completes (.twArbLost p byte bit own) s [.time, .tw] os [104 + 4 * p, 105 + 4 * p] (fun e => lost e ∧
          port e = { w with free := false, freeAt := e.mono, xfer := some { x with active := false, retries := x.retries + 1 } }.still)) ∧
        (s.dev.nat (O.twArbRetries p) ≤ x.retries → Completes (.twArbLost p byte bit own) s [.time, .tw] os [104 + 4 * p, 105 + 4 * p] (fun e => lost e ∧ done 3 e ∧
          port e = { w with free := false, freeAt := e.mono, xfer := none }.still))) ∧
      (∀ acked, Completes (.twStretchTimeout { port := p, acked := acked }) s [.tw] (among (O.twXAcked p :: ends)) [104 + 4 * p] (fun e =>
        done 4 e ∧ e.nat (O.twXAcked p) = min acked n ∧ port e = { w with free := false, freeAt := s.dev.mono, xfer := none, sclLow := some s.dev.mono }.still ∧ other e))) ∧
    (∀ t, w.sclLow = some t →
      Completes (.twSclStuck p) s [.time, .tw] (among (stuck ++ ends)) [104 + 4 * p, 106 + 4 * p] (fun e =>
        t + 4000000 * s.dev.nat (O.twCtlStretchMs p) ≤ e.mono ∧ e.nat (O.twPortState p) = 6 ∧ e.nat (O.twFaultCause p) = 2 ∧ s.dev.told e (106 + 4 * p) 2 ∧
        port e = { w with free := false, sclLow := none, xfer := none }.still ∧ (w.xfer.isSome = true → done 5 e) ∧ other e))) ∧
    (∀ org sda, (s.dev.twLine p sda).accepts org [writeNum (O.twRecover p) 1] → twController w.role = true →
      let go := fun (es : List Nat) (os : List Nat) (P : Dev → Prop) => Completes (.recover org p 1 sda) s ([.time, .tw] ++ writeParts) (among (os ++ writeObjs)) (126 :: es) P
      let later := fun (e : Dev) => e.mono = s.dev.mono + min 9 sda * twBit w.speed
      (sda = 0 → s.dev.nat (O.twPortState p) = 6 → go [] [O.twPortState p] (fun e =>
        later e ∧ e.nat (O.twPortState p) = 1 ∧ port e = { w with sdaHold := 0, freeAt := e.mono + 100000 }.still)) ∧
      (1 ≤ sda → sda ≤ 9 → go [] [O.twPortState p] (fun e =>
        later e ∧ e.nat (O.twPortState p) = 1 ∧ port e = { w with sdaHold := 0, free := false, freeAt := e.mono + twBuf w.speed, wire := w.wire ++ (List.replicate sda TwTok.pulse ++ [TwTok.stop]) }.still)) ∧
      (9 < sda → go [104 + 4 * p, 106 + 4 * p] (stuck ++ ends) (fun e =>
        later e ∧ e.nat (O.twPortState p) = 6 ∧ e.nat (O.twFaultCause p) = 1 ∧ s.dev.counted e (O.twStuckCount p) 1 ∧ s.dev.told e (106 + 4 * p) 1 ∧ (w.xfer.isSome = true → done 5 e))))

/-- To an addressed controller the window answers STATUS with whether a segment waits, whether one fits and its length, and GET with the
oldest segment for it, removed unless the GET was cut short; a PUT joins reassembly, one cut short is dropped and counted. TGT_TIMEOUT ends
a hang-up with event 106 + 4p. A foreign START makes the bus busy. A pending in-band request is pulsed again after 10 ms and ends when the
device's address is lowest in a census. A census with an acknowledge shows the lowest address with event 107 + 4p; without one, or all ones,
it is spurious. (R445, R453, R455, R456, R457) -/
def Obligations.TwoWireTarget : Prop :=
  ∀ (s : State) (p : Nat), p < 2 →
    let w := s.dev.twp p
    let port := fun (e : Dev) => (e.twp p).still
    let idle := if w.role = 0 then 0 else 1
    let ovr := fun (e : Dev) => e.nat (O.twPortState p) = idle
    let stopped : TwPort := { w with free := false, freeAt := s.dev.mono + twBuf w.speed }
    let other := fun (e : Dev) => (e.twp (1 - p)).still = (s.dev.twp (1 - p)).still
    s.dev.harbourOn = true →
    (∀ ctrl, s.dev.twWindow p ctrl = true →
      let n := ((w.nextOut ctrl).map (·.length)).getD 0
      Completes (.twWindowStatus p ctrl) s [.tw] (only (O.twPortState p)) [] (fun e => ovr e ∧ other e ∧
        port e = { stopped with answer := leBytes 1 ((if (w.nextOut ctrl).isSome = true then 1 else 0) + (if s.dev.rxUsed (5 + p) + 252 ≤ 8192 then 2 else 0)) ++ leBytes 1 0 ++ leBytes 2 n }.still) ∧
      (∀ cut b, w.nextOut ctrl = some b → Completes (.twWindowGet p ctrl cut) s [.tw] (only (O.twPortState p)) [] (fun e => ovr e ∧ other e ∧
        port e = { stopped with answer := leBytes 1 b.length ++ b }.still ∧ (if cut = true then w.out else dropFirst ctrl w.out) <+: (e.twp p).out)) ∧
      (∀ cut, w.nextOut ctrl = none → Completes (.twWindowGet p ctrl cut) s [.tw] (only (O.twPortState p)) [] (fun e => ovr e ∧ other e ∧
        port e = { stopped with answer := leBytes 1 0 }.still ∧ w.out <+: (e.twp p).out)) ∧
      (∀ seg, 4 ≤ seg.length → seg.length ≤ 252 →
        Completes (.twWindowPut p ctrl seg true) s [.tw] (among [O.twPortState p, O.twRxDropped p]) [] (fun e =>
          ovr e ∧ port e = stopped.still ∧ s.dev.counted e (O.twRxDropped p) 1 ∧ e.host.rx = s.dev.host.rx ∧ e.host.partials = s.dev.host.partials) ∧
        (leAt seg 2 1 = 0 → (leAt seg 3 1).testBit 0 = false → s.dev.partialOf (5 + p) ctrl = none →
          Completes (.twWindowPut p ctrl seg false) s [.host, .tw] (only (O.twPortState p)) [] (fun e => ovr e ∧ port e = stopped.still ∧
            e.host.partials = s.dev.host.partials ++ [{ port := 5 + p, src := ctrl, msgno := leAt seg 0 2, next := 1, t0 := s.dev.mono, source := ctrl, bytes := seg.drop 4 }])))) ∧
    (∀ ctrl seg cut, s.dev.twWindow p ctrl = false →
      Completes (.twWindowStatus p ctrl) s [] noObj [] (fun e => e.host.rx = s.dev.host.rx) ∧ Completes (.twWindowGet p ctrl cut) s [] noObj [] (fun e => w.out <+: (e.twp p).out) ∧
      Completes (.twWindowPut p ctrl seg cut) s [] noObj [] (fun e => e.host.partials = s.dev.host.partials)) ∧
    (∀ put, s.dev.linksUp = true → twTarget w.role = true → s.dev.nat (O.twTgtTimeoutMs p) ≠ 0 → w.running = none → s.dev.nat (O.twPortState p) ≠ 6 →
      Completes (.twTargetTimeout p put) s [.tw] (among [O.twPortState p, O.twTgtTimeouts p, O.twFaultCause p, O.twRxDropped p]) [106 + 4 * p] (fun e =>
        ovr e ∧ port e = { stopped with freeAt := s.dev.mono + 100000 }.still ∧ s.dev.counted e (O.twTgtTimeouts p) 1 ∧ e.nat (O.twFaultCause p) = 3 ∧ s.dev.told e (106 + 4 * p) 3 ∧
        s.dev.counted e (O.twRxDropped p) (if put = true then 1 else 0))) ∧
    (s.dev.linksUp = true → s.dev.nat (O.twPortState p) = 1 →
      Completes (.twBusStartSeen p) s [.tw] (only (O.twPortState p)) [] (fun e =>
        e.nat (O.twPortState p) = 2 ∧ port e = { w with free := false, freeAt := s.dev.mono }.still ∧ other e)) ∧
    (∀ ack census, s.dev.linksUp = true → twController w.role = true → s.dev.flag (O.twCensusEnable p) = true → w.free = true →
      Completes (.twIbrDetected p ack census) s [.tw] (among [O.twPortState p, O.twIbrSpurious p, O.twIbrLast p]) [107 + 4 * p] (fun e =>
        port e = { stopped with wire := w.wire ++ ([TwTok.start, TwTok.byte 0x07 ack] ++ (if ack = true then [TwTok.byte census false] else []) ++ [TwTok.stop]) }.still ∧ ovr e ∧ (ack = true → census ≠ 0xFF → e.nat (O.twIbrLast p) = census / 2 ∧ s.dev.told e (107 + 4 * p) (census / 2)) ∧
        (ack = false ∨ census = 0xFF → s.dev.counted e (O.twIbrSpurious p) 1))) ∧
    (w.ibr = true →
      (s.dev.flag (O.twIbrEnable p) = true → twTarget w.role = true →
        Completes (.twIbrRepeat p) s [.time, .tw] noObj [] (fun e => port e = w.still ∧ other e ∧ w.ibrAt + 10000000 ≤ e.mono ∧ w.pulses + 1 ≤ (e.twp p).pulses)) ∧
      ∀ lowest, Completes (.twCensusResponse p lowest) s [.tw] noObj [] (fun e => other e ∧
        (s.dev.nat (O.twTgtAddr p) ≤ lowest → port e = w.still ∧ ((e.twp p).ibr = false ∨ (e.twp p).out ≠ w.out)) ∧
        (lowest < s.dev.nat (O.twTgtAddr p) → port e = { w with ibrAgain := true }.still ∧ (e.twp p).ibr = true)))

/-- ENABLE 1 of a STOPPED side with a bad configuration gives ERROR with event 81 + 2p, with a good one ARMED in a group, WAIT_CLOCK without
clock, else LEAD with its start 2 ms and its lead away; ENABLE 0 begins the tail or stops. GROUP_GO starts the armed sides of a group on one
instant. The first edge at or after the start makes a side RUNNING with FRAME 0 and T_FIRST. A running master sends the frame of its number,
or counts XRUN and repeats or sends zeros; RX frames join the FIFO or count when it is full; a slave frame of the wrong length counts
FRAMING. Clock loss takes a running slave to WAIT_CLOCK, its return goes on with FRAME advanced. SLOT_MASK writes wait for a frame. (R333,
R334, R336, R337, R338, R339, R340, R341, R342, R343) -/
def Obligations.AudioSides : Prop :=
  ∀ (s : State) (p x : Nat), p < 8 → x < 2 → s.dev.au.on = true →
    let st := s.dev.sideSt p x
    let w := s.dev.side p x
    let n := s.dev.nat (O.auFrame p x) + 1
    let slave := s.dev.nat (O.auClkRole p x) = 1
    let cls := s.dev.nat (O.auRateClass p x)
    let meas := s.dev.nat (O.auMeasRate p x)
    let mhz := if s.dev.nat (O.auClkRole p x) = 0 then 1000 * s.dev.nat (O.auRate p x) else if meas ≠ 0 then meas else 1000 * cls
    let others := fun (e : Dev) => ∀ q y, q < 8 → y < 2 → (q, y) ≠ (p, x) → e.side q y = s.dev.side q y
    let objs := [O.auSideState p x, O.auFill p x, O.auFault p x, O.auFrame p x, O.auTFirst p x, O.auXrun p x, O.auFraming p x, O.pwTEarlyAudio]
    let tx := fun (bclks : Nat) (os es : List Nat) (P : Dev → Prop) => Completes (.audioTxFrame p bclks) s [.au, .time] (among os) es P
    let rx := fun (sd : List Bool) (bclks : Nat) (os es : List Nat) (P : Dev → Prop) => Completes (.audioRxFrame p bclks sd) s [.au, .time] (among os) es P
    (∀ org, s.dev.accepts org [writeNum (O.auEnable p x) 1] → st = 0 →
      Completes (.sideEnable org p x 1) s (.au :: writeParts) (among ([O.auEnable p x, O.auSideState p x, O.auFill p x, O.auFault p x] ++ writeObjs)) [81 + 2 * p, 126] (fun e =>
        e.flag (O.auEnable p x) = true ∧ others e ∧
        (s.dev.sideOk p x = false → e.sideSt p x = 6 ∧ e.nat (O.auFault p x) = 1 ∧ s.dev.told e (81 + 2 * p) (256 + x)) ∧
        (s.dev.sideOk p x = true → s.dev.nat (O.auGroup p x) ≠ 0 → e.sideSt p x = 1) ∧
        (s.dev.sideOk p x = true → s.dev.nat (O.auGroup p x) = 0 → slave → cls = 0 → e.sideSt p x = 2) ∧
        (s.dev.sideOk p x = true → s.dev.nat (O.auGroup p x) = 0 → (slave → cls ≠ 0) → e.sideSt p x = 3 ∧
          (e.side p x).t0 = some (s.dev.mono + 2000000 + s.dev.nat (O.auLeadFrames p x) * 1000000000000 / mhz)))) ∧
    (∀ org, s.dev.accepts org [writeNum (O.auEnable p x) 0] →
      Completes (.sideEnable org p x 0) s (.au :: writeParts) (among ([O.auEnable p x, O.auSideState p x, O.auFill p x] ++ writeObjs)) [126] (fun e =>
        e.flag (O.auEnable p x) = false ∧ others e ∧ (st = 3 ∨ st = 4 → e.sideSt p x = if w.tail = 0 then 0 else 5) ∧ (st = 1 ∨ st = 2 ∨ st = 6 → e.sideSt p x = 0) ∧
        (st = 0 ∨ st = 5 → e.sideSt p x = st))) ∧
    (∀ org (v : Nat), v < 256 → s.dev.accepts org [writeNum (O.auSlotMask p x) v] →
      Completes (.audioSlotMask org p x v) s (.au :: writeParts) (among (O.auSlotMask p x :: writeObjs)) [126] (fun e =>
        e.side p x = { w with masks := w.masks ++ [(v, org)] } ∧ others e)) ∧
    (∀ org (v : Nat), v < 16 → s.dev.accepts org [writeNum O.auGroupGo v] →
      Completes (.groupGo org v) s (.au :: writeParts) (setsOf writeObjs [each2 8 2 O.auSideState]) [126] (fun e =>
        ∀ i < 4, ∃ t, s.dev.nat O.auGroupAt ≤ t ∧ ∀ q y, q < 8 → y < 2 → s.dev.sideSt q y = 1 → s.dev.nat (O.auGroup q y) = i + 1 →
          (v.testBit i = false → e.sideSt q y = 1) ∧
          (v.testBit i = true → (e.sideSt q y = if s.dev.noClock q y = true then 2 else 3) ∧
            ((s.dev.side q y).role = 0 → (e.side q y).t0 = some (s.dev.mono + (t - s.dev.now)) ∧ s.dev.now + 2000000 + s.dev.leadNs q y ≤ t)))) ∧
    (st = 3 → w.clk = false → Completes (.sideLeadStart p x) s [.au, .time] noObj [] (fun e =>
      e.side p x = { w with clk := true } ∧ others e ∧ w.e0 - s.dev.leadNs p x ≤ e.mono)) ∧
    (st = 3 → (∃ t, w.t0 = some t ∧ t ≤ (if w.role = 0 then max s.dev.mono w.e0 else s.dev.mono)) → w.masks = [] →
      let runs := fun (e : Dev) => e.sideSt p x = 4 ∧ e.nat (O.auFrame p x) = 0 ∧ e.nat (O.auTFirst p x) = e.now ∧ (e.side p x).begun = true ∧ others e
      (x = 0 → ∀ b, tx b objs [81 + 2 * p] runs) ∧ (x = 1 → ∀ sd b, rx sd b objs [81 + 2 * p] runs)) ∧
    (st = 4 → w.role = 0 → w.masks = [] → w.reacq ≤ s.dev.mono →
      let at_ := max s.dev.mono (s.dev.edgeAt p x n)
      let xrun := fun (c : Nat) (e : Dev) => s.dev.counted e (O.auXrun p x) 1 ∧ e.nat (O.auFault p x) = c ∧ (w.counted = false → s.dev.told e (81 + 2 * p) (256 * c + x))
      (x = 0 → ∀ b, tx b objs [81 + 2 * p] (fun e => e.mono = at_ ∧ e.nat (O.auFrame p x) = n ∧ others e ∧
        (∀ f, w.fifo.find? (fun f => decide (f.1 = n)) = some f → (e.side p x).wire = txWords w f.2 ∧ (e.side p x).lastSent = f.2 ∧ e.nat (O.auXrun p x) = s.dev.nat (O.auXrun p x)) ∧
        (w.fifo.find? (fun f => decide (f.1 = n)) = none → xrun 2 e ∧ (e.side p x).wire = txWords w (if w.fill = 1 then w.lastSent else [])))) ∧
      (x = 1 → ∀ sd b, rx sd b objs [81 + 2 * p] (fun e => e.mono = at_ ∧ e.nat (O.auFrame p x) = n ∧ others e ∧
        (w.buf ≤ w.fifo.length → xrun 3 e ∧ (e.side p x).fifo = w.fifo) ∧
        (w.fifo.length < w.buf → e.nat (O.auFill p x) = w.fifo.length + 1 ∧ (e.side p x).fifo = w.fifo ++ [(at_, (List.range w.slots).map (fun i =>
          if slotOff w.mask i = true then 0 else rxSample w.wordBits ((w.receive sd).getD i 0)))])))) ∧
    (st = 4 → w.role = 1 → w.masks = [] → ∀ bclks sd, bclks ≠ w.slots * w.slotBits →
      let framing := fun (e : Dev) => s.dev.counted e (O.auFraming p x) 1 ∧ e.nat (O.auFault p x) = 5 ∧ (w.counted = false → s.dev.told e (81 + 2 * p) (256 * 5 + x)) ∧
        e.nat (O.auFrame p x) = n
      (x = 0 → tx bclks [O.auFrame p x, O.auFill p x, O.auFault p x, O.auFraming p x] [81 + 2 * p] framing) ∧
      (x = 1 → rx sd bclks [O.auFrame p x, O.auFill p x, O.auFault p x, O.auFraming p x] [81 + 2 * p] framing)) ∧
    (slave → cls ≠ 0 → Completes (.slaveClockLoss p x) s [.time] (among [O.auRateClass p x, O.auSideState p x]) [80 + 2 * p] (fun e =>
      (w.lastEdge ≠ 0 → w.lastEdge + 4000000000 / cls ≤ e.mono) ∧
      e.nat (O.auRateClass p x) = 0 ∧ s.dev.told e (80 + 2 * p) x ∧ (e.sideSt p x = if st = 4 then 2 else st))) ∧
    (∀ edges, slave →
      let mhz := edgesMhz (lastSecond edges)
      let c := rateClass mhz
      let rates := [O.auRateClass p x, O.auMeasRate p x, O.auRatePpm p x]
      let measured := fun (e : Dev) => e.nat (O.auMeasRate p x) = mhz ∧ e.nat (O.auRateClass p x) = c ∧ others e ∧
        e.num (O.auRatePpm p x) = (if c = 0 then 0 else divRound (((mhz : Int) - 1000 * c) * 100000000) (1000 * c)) ∧
        (c ≠ cls → s.dev.canRaise (80 + 2 * p) = true → e.latched (80 + 2 * p) = true)
      let returned := fun (e : Dev) => (st ≠ 2 ∨ c = 0 → e.sideSt p x = st ∧ e.num (O.auFrame p x) = s.dev.num (O.auFrame p x)) ∧
        (st = 2 → c ≠ 0 → w.begun = true → e.sideSt p x = 4 ∧ e.num (O.auFrame p x) = s.dev.num (O.auFrame p x) + divRound (((e.mono - w.lastEdge : Nat) : Int) * w.lastClass) 1000000000) ∧
        (st = 2 → c ≠ 0 → w.begun = false → e.sideSt p x = 3)
      (cls ≠ 0 → Completes (.rateMeasure p x edges) s [.au, .ticks, .time] (among rates) [80 + 2 * p] measured) ∧
      (cls = 0 → Completes (.rateMeasure p x edges) s [.au, .ticks, .time] (among (O.auFrame p x :: O.auSideState p x :: rates)) [80 + 2 * p] (fun e => measured e ∧ returned e)) ∧
      (cls = 0 → c ≠ 0 →
        Completes (.slaveClockReturn p x edges) s [.au] (among (O.auFrame p x :: O.auSideState p x :: rates)) [80 + 2 * p] (fun e => measured e ∧ returned e)))

/-- AUDIO_INTERNAL_FRAME reaches the next frame at its instant on the 48 kHz grid and sets every ROUTE_STATE: 0 without source or
destination, 3 while a warning holds the output, 2 live, 1 not; without the audio island nothing happens. A write of a routing object makes
its entry pending; ROUTE_APPLY takes it up at the next frame with a crossfade of ROUTE_XFADE_MS. RING_FRAMES allocates a ring at a multiple
of 64, clear of the others where there is room, and clears both indices, 0 removes it (where it lies is the model's free value, log 22).
AVTP_ENABLE updates AVTP_CH_USED; AVTP_PACKET sends the AAF packet of the oldest frames of an enabled stream and counts it. MCLK and ring
indices hold what is written. (R326, R328, R347, R348, R350, R352, R353, R354, R355) -/
def Obligations.AudioPaths : Prop :=
  ∀ s : State,
    let state := fun (d : Dev) (c : RouteCfg) (live : Bool) => if srcKind c.src = 0 ∨ srcKind c.dst = 0 then 0 else if d.dstHeld c.dst = true then 3 else if live = true then 2 else 1
    (∀ inp, s.dev.au.on = true →
      Completes (.audioInternalFrame inp) s [.au, .cx, .kp, .ll, .time] anyObj anyEvent (fun e =>
        e.au.k = s.dev.au.k + 1 ∧ (s.dev.au.k + 1) * 1000000000 / 48000 ≤ e.now ∧
        ∀ r < 32, let c := (s.dev.route_ r).cfg
          e.nat (O.auRouteState r) = state s.dev c (e.srcLive c.src && (s.dev.route_ r).live))) ∧
    (∀ inp, s.dev.au.on = false → Completes (.audioInternalFrame inp) s [] noObj [] (fun e => e.au = s.dev.au)) ∧
    (∀ org r oid b, r < 32 → oid ∈ [O.auRouteSrc r, O.auRouteDst r, O.auRouteMap r, O.auRouteGain r] → s.dev.accepts org [writeItem oid b] →
      Completes (.routeWrite org oid b) s (.au :: writeParts) (among (oid :: writeObjs)) [126] (fun e =>
        e.get oid = (s.dev.store_ oid ((Dict.ty oid).decode b)).get oid ∧ e.route_ r = { s.dev.route_ r with pending := true } ∧ ∀ k, k ≠ r → e.route_ k = s.dev.route_ k)) ∧
    (∀ r < 32,
      let x := s.dev.route_ r
      let c := s.dev.routeObjs r
      s.dev.au.on = true → s.dev.keeperUp 2 = true → x.pending = true → s.dev.dstHeld x.cfg.dst = false → s.dev.dstHeld c.dst = false →
      let k := max (s.dev.au.k + 1) (frameAfter s.dev.now)
      let len := 48 * s.dev.nat (O.auRouteXfadeMs r)
      Completes (.routeApply r) s [.au, .time] (setsOf [O.auRouteTApplied r] [each 32 O.auRouteState]) [] (fun e =>
        e.route_ r = { layers := (c, k, len) :: (if len = 0 then [] else x.layers), pending := false, live := s.dev.srcLive c.src } ∧
        e.nat (O.auRouteTApplied r) = k * 1000000000 / 48000 ∧ k * 1000000000 / 48000 ≤ e.now ∧ e.nat (O.auRouteState r) = state s.dev c (s.dev.srcLive c.src))) ∧
    (∀ org r (v : Nat), r < 8 → 0 < v → v < 65536 → s.dev.accepts org [writeNum (O.auRingFrames r) v] →
      let n := v * s.dev.nat (O.auRingCh r) * packBytes (s.dev.nat (O.auRingPack r))
      let rest := s.dev.au.rings.filter (fun q => decide (q.1 ≠ r))
      let room := ({ s.dev with au := { s.dev.au with rings := rest } } : Dev).ringRoom n
      Completes (.ringFrames org r v) s (.au :: writeParts) (among ([O.auRingFrames r, O.auRingAddr r, O.auRingWr r, O.auRingRd r] ++ writeObjs)) [126] (fun e =>
        e.nat (O.auRingFrames r) = v ∧ e.nat (O.auRingWr r) = 0 ∧ e.nat (O.auRingRd r) = 0 ∧ e.nat (O.auRingAddr r) % 64 = 0 ∧
        (room ≠ [] → e.nat (O.auRingAddr r) ∈ room) ∧ e.au.rings = rest ++ [(r, e.nat (O.auRingAddr r), n)])) ∧
    (∀ org, ∀ r < 8, s.dev.accepts org [writeNum (O.auRingFrames r) 0] →
      Completes (.ringFrames org r 0) s (.au :: writeParts) (among ([O.auRingFrames r, O.auRingAddr r] ++ writeObjs)) [126] (fun e =>
        e.nat (O.auRingFrames r) = 0 ∧ e.nat (O.auRingAddr r) = 0 ∧ e.au.rings = s.dev.au.rings.filter (fun q => decide (q.1 ≠ r)))) ∧
    (∀ org r oid (v : Nat), r < 8 → oid = O.auRingWr r ∨ oid = O.auRingRd r → v < 2 ^ 32 → s.dev.accepts org [writeNum oid v] →
      Completes (.ringIndexWrite org oid v) s writeParts (among (oid :: writeObjs)) [126] (fun e => e.nat oid = v)) ∧
    (∀ org i (v : Nat), i < 63 → v < 2 → s.dev.accepts org [writeNum (O.auAvtpEnable i) v] →
      Completes (.avtpEnable org i v) s (.au :: writeParts) (among ([O.auAvtpEnable i, O.auAvtpChUsed] ++ writeObjs)) [126] (fun e =>
        e.nat (O.auAvtpEnable i) = v ∧ e.nat O.auAvtpChUsed = e.avtpChannels ∧ (v = 0 → Tab.get [] e.au.avtp i = []))) ∧
    (∀ i < 63,
      let size := if s.dev.nat (O.auAvtpClass i) = 0 then 6 else 12
      let q := Tab.get [] s.dev.au.avtp i
      s.dev.au.on = true → s.dev.flag (O.auAvtpEnable i) = true → size ≤ q.length →
      let seq := Tab.get 0 s.dev.au.avtpSeq i
      let ts := (((q.take size).head?.map (fun f => f.1)).getD 0 * 1000000000 / 48000 + 1000000 + s.dev.nat (O.auAvtpOffset i)) % 2 ^ 32
      Completes (.avtpPacket i) s [.au] (among [O.auAvtpSent i, O.auAvtpUnsync i]) [] (fun e =>
        e.au.sent = s.dev.au.sent ++ [(i, s.dev.aafPacket i seq ts s.dev.timeDisc ((q.take size).map (fun f => f.2)))] ∧ Tab.get [] e.au.avtp i = q.drop size ∧
        Tab.get 0 e.au.avtpSeq i = (seq + 1) % 256 ∧ s.dev.counted e (O.auAvtpSent i) 1 ∧ s.dev.counted e (O.auAvtpUnsync i) (if s.dev.timeDisc = true then 0 else 1))) ∧
    (∀ org (v : Nat), v < 256 →
      (s.dev.accepts org [writeNum O.auMclk0Sel v] → Completes (.mclkSel org 0 v) s writeParts (among (O.auMclk0Sel :: writeObjs)) [126] (fun e =>
        e.nat O.auMclk0Sel = v ∧ e.mclk 0 = if s.dev.au.on = true then mclkHz v else 0)) ∧
      (s.dev.accepts org [writeNum O.auMclk1Sel v] → Completes (.mclkSel org 1 v) s writeParts (among (O.auMclk1Sel :: writeObjs)) [126] (fun e =>
        e.nat O.auMclk1Sel = v ∧ e.mclk 1 = if s.dev.au.on = true then mclkHz v else 0)))

/-- An occurrence that the router takes sets the latch, counts, and sets PEND_COUNT, T_FIRST, T_LAST and EV_ARG by Table 19.2 (events 13, 99
and 100, which notifications may raise in turn, where nobody subscribes); its Keeper line is pending when routed and unmasked; a KIND 5
subscription, whose windows that are over at its stamp end first, opens a window, counts it in the open one (until a notification's own
event comes after its end), or with EV_COALESCE_US 0 gets a frame. EV_ACK clears the latch and PEND_COUNT of each latched event written 1
and keeps its stamps and argument; a pin that the event drove and that another still needs is released, until HOSTIRQ_REASSERT. EV_MASK
holds what is written. At a window's end, while Harbour is clocked, its frame is queued or lost. (R520, R521, R522, R524, R525, R526, R527) -/
def Obligations.EventRouter : Prop :=
  ∀ s : State,
    let frame := fun (u : Sub) (body : List Byte) => ({ port := u.port, dest := u.req, opcode := 0x13, mflags := 0, body := body } : OutMsg)
    (∀ v t a, s.dev.canRaise v = false → Completes (.eventOccurrence v t a) s [] noObj [] (fun _ => True)) ∧
    (∀ v t a, s.dev.canRaise v = true → Completes (.eventOccurrence v t a) s [] noObj [v] (fun e =>
      e.latched v = true ∧
      (v ∉ notifyEvents ∨ s.dev.host.subs = [] →
        s.dev.counted e (O.evEvCount v) 1 ∧ e.nat (O.evEvTLast v) = t ∧
        e.nat (O.evEvPendCount v) = (if s.dev.latched v = true then min (s.dev.nat (O.evEvPendCount v) + 1) 65535 else 1) ∧
        e.nat (O.evEvTFirst v) = (if s.dev.latched v = true then s.dev.nat (O.evEvTFirst v) else t) ∧
        e.nat (O.evEvArg v) = (if s.dev.latched v = true then s.dev.nat (O.evEvArg v) else a)) ∧
      (∀ k l, s.dev.masked v = false → s.dev.nat (O.evEvLine v) = l → (s.dev.nat (O.evEvKeepers v)).testBit k = true → e.linePending k l = true) ∧
      (∀ id u, v ∉ notifyEvents → s.dev.asleep = false → s.dev.subById id = some u → u.windows.length ≤ 128 → u.kind = 5 → u.evmask.testBit v = true →
        let us := s.dev.nat (O.evEvCoalesceUs v)
        ∃ x, e.subById id = some x ∧ x.still = u.still ∧
          (us = 0 → u.lost < x.lost ∨ (u.session = 0 → s.dev.handed e (frame u (eventBody v 1 t a)))) ∧
          (us ≠ 0 → s.dev.islandTime (eventIsland 99) < t + us * 1000 → (∀ w, u.windows.find? (fun w => decide (w.ev = v)) = some w → w.tEnd ≤ t) → ∃ w, x.windows.find? (fun w => decide (w.ev = v)) = some w ∧
            (w.tEnd, w.tFirst, w.arg) = (t + us * 1000, t, a) ∧ 0 < w.count) ∧
          (us ≠ 0 → ∀ w, u.windows.find? (fun w => decide (w.ev = v)) = some w → t < w.tEnd → s.dev.islandTime (eventIsland 99) < w.tEnd → ∃ y, x.windows.find? (fun w => decide (w.ev = v)) = some y ∧
            (y.tEnd, y.tFirst, y.arg) = (w.tEnd, w.tFirst, w.arg) ∧ w.count < y.count)))) ∧
    (∀ org k (v : Nat), k < 2 → v < 2 ^ 64 → s.dev.accepts org [writeNum (O.evEvAck k) v] →
      let acked := ((List.range 64).filter v.testBit).map (64 * k + ·)
      Completes (.evAck org k v) s (.ev :: writeParts) (among writeObjs) (126 :: acked) (fun e =>
        (∀ b ∈ acked, b ≠ 126 → b ∉ notifyEvents →
          e.latched b = false ∧ e.nat (O.evEvPendCount b) = (if s.dev.latched b = true then 0 else s.dev.nat (O.evEvPendCount b)) ∧
          ∀ o ∈ [O.evEvCount b, O.evEvTFirst b, O.evEvTLast b, O.evEvArg b], e.get o = s.dev.get o) ∧
        (∀ n < 2,
          let drives := fun (b : Nat) => b < 128 ∧ s.dev.latched b = true ∧ s.dev.masked b = false ∧ (s.dev.nat (O.evEvHost b)).testBit n = true
          let pulse := fun (d : Dev) => if n = 0 then d.ev.reassert0 else d.ev.reassert1
          ((∃ b ∈ acked, drives b) → (pulse e = true ↔ ∃ b, b ∉ acked ∧ drives b)) ∧ ((¬ ∃ b ∈ acked, drives b) → pulse e = pulse s.dev)))) ∧
    (∀ pin < 2, Completes (.hostirqReassert pin) s [.ev] noObj [] (fun e =>
      (if pin = 0 then e.ev = { s.dev.ev with reassert0 := false } else e.ev = { s.dev.ev with reassert1 := false }) ∧
      (s.dev.pinWanted pin = true → (e.nat O.evEvHostirqState).testBit pin = true))) ∧
    (∀ org k (v : Nat), k < 2 → v < 2 ^ 64 → s.dev.accepts org [writeNum (O.evEvMask k) v] →
      Completes (.evMask org k v) s writeParts (among (O.evEvMask k :: writeObjs)) [126] (fun e => e.nat (O.evEvMask k) = v)) ∧
    (∀ id v, s.dev.harbourOn = false → Completes (.eventWindowEnd id v) s [] noObj [] (fun e => e.host.subs = s.dev.host.subs)) ∧
    (∀ id v u w, s.dev.harbourOn = true → s.dev.subById id = some u → u.windows.find? (fun x => decide (x.ev = v)) = some w → u.windows.all (fun x => w.before x) = true →
      Completes (.eventWindowEnd id v) s [.time] noObj [] (fun e =>
        w.tEnd ≤ e.now ∧ ∃ x, e.subById id = some x ∧ x.still = u.still ∧ (v ∉ notifyEvents → x.windows.find? (fun y => decide (y.ev = v)) = none) ∧
          (u.lost < x.lost ∨ (u.session = 0 → s.dev.handed e (frame u (eventBody v w.count w.tFirst w.arg))))))

/-- Where the router takes an occurrence of a latched event other than 13 whose PEND_COUNT is 65,534, PEND_COUNT becomes 65,535, event 13 is
latched and, if it was not latched before, its argument is the event's number; without subscriptions it is counted exactly once. An
occurrence that does not bring PEND_COUNT from 65,534 to 65,535 raises no event 13, and event 13 with PEND_COUNT 65,534 goes to 65,535 and
is counted once: it does not raise itself. (R523) -/
def Obligations.PendCountSaturates : Prop :=
  ∀ (s : State) (v t a : Nat), s.dev.canRaise v = true →
    (v ≠ 13 → s.dev.latched v = true → s.dev.nat (O.evEvPendCount v) = 65534 →
      Completes (.eventOccurrence v t a) s [] noObj [v] (fun e =>
        e.nat (O.evEvPendCount v) = 65535 ∧ e.latched 13 = true ∧ (s.dev.latched 13 = false → e.nat (O.evEvArg 13) = v) ∧
        (s.dev.host.subs = [] → Occurred s.dev e 13 v))) ∧
    (v ≠ 13 → s.dev.latched v = false ∨ s.dev.nat (O.evEvPendCount v) ≠ 65534 → s.dev.host.subs = [] →
      Completes (.eventOccurrence v t a) s [] noObj [v] (fun e => e.latched 13 = s.dev.latched 13 ∧ ∀ o ∈ eventObjs 13, e.get o = s.dev.get o)) ∧
    (s.dev.latched 13 = true → s.dev.nat (O.evEvPendCount 13) = 65534 → s.dev.host.subs = [] →
      Completes (.eventOccurrence 13 t a) s [] noObj [13] (fun e => e.nat (O.evEvPendCount 13) = 65535 ∧ s.dev.counted e (O.evEvCount 13) 1))

/-- FW_ACTIVATE names the area under check with FW_ACT_RESULT 1; FW_CHECKS_DONE ends it: a newer image that passes R534 schedules a reset
with cause FW_UPDATE after 10 ms (result 2), an older one gives 6, and a failing one 3, 4 or 5 with event 9 and its record. RECOVER_CMD 1
schedules a reset with cause RECOVERY. An accepted ROLLBACK_ADV names an image whose version is above its counter and raises the counter to
it, not above the maximum, with event 10 and a record. Keys and roots written once set their bit of KEY_STATE or ROOT_STATE, KEY_REVOKE and
ROOT_REVOKE set the revoked bits, each with its record. DEBUG_DISABLE 1 sets DEBUG_STATE to DISABLED. (R534, R535, R536, R540, R541, R542,
R544, R548) -/
def Obligations.FirmwareAndKeys : Prop :=
  ∀ s : State,
    (∀ org (v : Nat), v = 1 ∨ v = 2 → s.dev.accepts org [writeNum O.scFwActivate v] →
      Completes (.fwActivate org v) s (.sec :: writeParts) (among (O.scFwActResult :: writeObjs)) [126] (fun e =>
        e.sec = { s.dev.sec with checking := some v } ∧ e.nat O.scFwActResult = 1)) ∧
    (∀ a, s.dev.sec.checking = some a →
      let img := s.dev.flashArea (fwArea a)
      let c := s.dev.verify 1 0 img
      Completes .fwChecksDone s [.sec, .pw, .log, .nvm] (among [O.scFwActResult]) [9] (fun e =>
        e.sec = { s.dev.sec with checking := none } ∧
        (c = 0 → s.dev.sec.fwVersion < imageVersion 1 img → e.nat O.scFwActResult = 2 ∧ e.pw = { s.dev.pw with pendReset := some (8, 0, s.dev.mono + 10000000) }) ∧
        (c = 0 → imageVersion 1 img ≤ s.dev.sec.fwVersion → e.nat O.scFwActResult = 6 ∧ e.pw = s.dev.pw) ∧
        (c ≠ 0 → e.nat O.scFwActResult = (if c = 1 then 5 else if c = 4 then 4 else 3) ∧ e.pw = s.dev.pw ∧ s.dev.told e 9 1 ∧
          s.dev.recorded e 0x48 1 (c + 256 * a)))) ∧
    (s.dev.sec.checking = none → Completes .fwChecksDone s [] noObj [] (fun _ => True)) ∧
    (∀ org (v : Nat), v < 2 → s.dev.accepts org [writeNum O.scRecoverCmd v] →
      Completes (.recoverCmd org v) s (.pw :: writeParts) (among writeObjs) [126] (fun e =>
        e.pw = if v = 1 then { s.dev.pw with pendReset := some (9, 0, s.dev.mono) } else s.dev.pw)) ∧
    (∀ org (k : Nat), k < 256 → s.dev.accepts org [writeNum O.scRollbackAdv k] →
      Completes (.rollbackAdv org k) s writeParts (among (O.scRollback k :: writeObjs)) [10, 126] (fun e =>
        ∃ v, s.dev.rollbackVersion k = some v ∧ s.dev.nat (O.scRollback k) < v ∧
          e.nat (O.scRollback k) = max (s.dev.nat (O.scRollback k)) (min v (counterMax k)) ∧
          s.dev.told e 10 k ∧ s.dev.recorded e 0x47 k (e.nat (O.scRollback k)))) ∧
    (∀ org (m : Bool) k key, k < 4 →
      let o := if m = true then O.scMKey k else O.scNKey k
      let bit := (if m = true then 8 else 0) + 2 * k
      s.dev.accepts org [writeItem o key] →
      Completes (.keyWrite org o key) s writeParts (among (o :: O.scKeyState :: writeObjs)) [126] (fun e =>
        e.raw o = key ∧ (s.dev.nat O.scKeyState).testBit bit = false ∧
        (∀ b, (e.nat O.scKeyState).testBit b = (decide (b = bit) || (s.dev.nat O.scKeyState).testBit b)) ∧
        s.dev.recorded e 0x43 ((if m = true then Role.M.code else Role.N.code) + 256 * k) 0)) ∧
    (∀ org key, s.dev.accepts org [writeItem O.scDebugKey key] →
      Completes (.keyWrite org O.scDebugKey key) s writeParts (among (O.scDebugKey :: writeObjs)) [126] (fun e =>
        s.dev.raw O.scDebugKey = [] ∧ e.raw O.scDebugKey = key ∧ s.dev.recorded e 0x43 Role.D.code 0)) ∧
    (∀ org (v : Nat), v < 256 → s.dev.accepts org [writeNum O.scKeyRevoke v] →
      Completes (.keyRevoke org v) s writeParts (among (O.scKeyState :: writeObjs)) [126] (fun e =>
        (∀ b < 16, (e.nat O.scKeyState).testBit b = ((s.dev.nat O.scKeyState).testBit b || (decide (b % 2 = 1) && v.testBit (b / 2)))) ∧
        ∀ i < 8, v.testBit i = true → (s.dev.nat O.scKeyState).testBit (2 * i + 1) = false →
          s.dev.recorded e 0x44 ((if 4 ≤ i then Role.M.code else Role.N.code) + 256 * (i % 4)) 0)) ∧
    (∀ org k hash, k < 2 → s.dev.accepts org [writeItem (O.scCustRoot k) hash] →
      Completes (.custRoot org k hash) s writeParts (among (O.scCustRoot k :: O.scRootState :: writeObjs)) [126] (fun e =>
        e.raw (O.scCustRoot k) = hash ∧ (s.dev.nat O.scRootState).testBit (2 * k) = false ∧
        (∀ b, (e.nat O.scRootState).testBit b = (decide (b = 2 * k) || (s.dev.nat O.scRootState).testBit b)) ∧
        s.dev.recorded e 0x45 k 0)) ∧
    (∀ org (v : Nat), v < 256 → s.dev.accepts org [writeNum O.scRootRevoke v] →
      Completes (.rootRevoke org v) s writeParts (among (O.scRootState :: writeObjs)) [126] (fun e =>
        (∀ b, (e.nat O.scRootState).testBit b = ((s.dev.nat O.scRootState).testBit b || (decide (b = 1 ∨ b = 3) && v.testBit (b / 2)))) ∧
        ∀ k < 2, v.testBit k = true → (s.dev.nat O.scRootState).testBit (2 * k + 1) = false → s.dev.recorded e 0x46 k 0)) ∧
    (∀ org, s.dev.accepts org [writeNum O.scDebugDisable 1] →
      Completes (.debugDisable org 1) s writeParts (among (O.scDebugDisable :: O.scDebugState :: writeObjs)) [126] (fun e =>
        e.flag O.scDebugDisable = true ∧ e.nat O.scDebugState = 4))

/-- DEBUG_CHALLENGE gives a 32-byte challenge. DEBUG_RESPONSE at level 1 or 2 with the right HMAC, while debug is neither locked out nor
disabled and the key is programmed, sets DEBUG_STATE with event 11 argument 1; any other counts a failure with event 11 argument 0, and the
third wrong one locks out. ATTEST_GEN begins generation; ATTEST_GEN_DONE in its turn stores seed, identifier, a 60-byte public key, EPOCH
bit 0 and bank A with SEQ 1 and LIMIT 1,024, and READY. ATTEST_TREES_BUILT ends BUILDING. ATTEST_NONCE starts a quote; ATTEST_QUOTE_DONE
below LIMIT holds head and signature, advances INDEX, counts and raises event 12, and asks for a store near LIMIT; at LIMIT it waits. The
bytes drawn and signed are free values. (R544, R545, R546, R547, R548) -/
def Obligations.DebugAndAttestation : Prop :=
  ∀ s : State,
    (s.dev.fabricOn = true → Completes .debugChallenge s [.sec] noObj [] (fun e => ∃ c, c.length = 32 ∧ e.sec = { s.dev.sec with challenge := some c })) ∧
    (∀ l r, s.dev.fabricOn = false → Completes .debugChallenge s [] noObj [] (fun _ => True) ∧ Completes (.debugResponse l r) s [] noObj [] (fun _ => True)) ∧
    (∀ l r, s.dev.fabricOn = true →
      let st := s.dev.nat O.scDebugState
      let key := s.dev.raw O.scDebugKey
      let right := (l = 1 ∨ l = 2) ∧ st ≠ 3 ∧ st ≠ 4 ∧ s.dev.flag O.scDebugDisable = false ∧ key ≠ [] ∧ notOnes key = true ∧
        ∃ c, s.dev.sec.challenge = some c ∧ r = hmac key ([0x54, 0x4E, 0x44, 0x52, 0x2D, 0x47] ++ leBytes 1 l ++ c ++ leBytes 8 (s.dev.nat O.syDeviceId))
      let n := s.dev.sec.wrong + 1
      Completes (.debugResponse l r) s [.sec, .log, .nvm] (among [O.scDebugState, O.scDebugFails]) [11] (fun e =>
        (right → e.nat O.scDebugState = l ∧ e.sec = { s.dev.sec with unlocked := true } ∧ e.nat O.scDebugFails = s.dev.nat O.scDebugFails ∧
          s.dev.told e 11 1 ∧ s.dev.recorded e 0x49 l 0) ∧
        (¬ right → e.nat O.scDebugState = (if 3 ≤ n ∧ st ≠ 4 then 3 else st) ∧ e.sec = { s.dev.sec with wrong := n } ∧ s.dev.counted e O.scDebugFails 1 ∧
          s.dev.told e 11 0 ∧ s.dev.recorded e 0x4A l n))) ∧
    (∀ org, s.dev.accepts org [writeNum O.scAttestGen 1] →
      Completes (.attestGen org 1) s (.sec :: writeParts) (among (O.scAttestState :: writeObjs)) [126] (fun e =>
        s.dev.nat O.scAttestState = 0 ∧ e.nat O.scAttestState = 1 ∧ e.sec = { s.dev.sec with genAt := some s.dev.mono })) ∧
    (s.dev.nat O.scAttestState = 1 → s.dev.storeTurn .lms s.dev.mono = true →
      Completes .attestGenDone s [.sec, .log, .nvm] (among [O.scAttestPub, O.scAttestLimit, O.scAttestIndex, O.scAttestState]) [] (fun e =>
        (∃ seed ident, seed.length = 32 ∧ ident.length = 16 ∧
          e.sec = { s.dev.sec with seed := seed, ident := ident, epoch := 1, genAt := none, lmsSeq := 1, lmsBankA := true }) ∧
        (e.raw O.scAttestPub).length = 60 ∧ e.nvm.lmsA = lmsBank 1 1024 ∧ e.nvm.lmsB = s.dev.nvm.lmsB ∧
        e.nat O.scAttestLimit = 1024 ∧ e.nat O.scAttestIndex = 0 ∧ e.nat O.scAttestState = 3 ∧
        s.dev.recorded e 0x4B 0 0 ∧ s.dev.recorded e 0x4C 1 1024 ∧ s.dev.recorded e 0x4D 1 0)) ∧
    (s.dev.nat O.scAttestState ≠ 1 → Completes .attestGenDone s [] noObj [] (fun _ => True)) ∧
    Completes .attestTreesBuilt s [] (among [O.scAttestState]) [] (fun e =>
      e.nat O.scAttestState = if s.dev.nat O.scAttestState = 2 then 3 else s.dev.nat O.scAttestState) ∧
    (∀ org nonce, s.dev.accepts org [writeItem O.scAttestNonce nonce] →
      Completes (.attestNonce org nonce) s (.sec :: writeParts) (among (O.scAttestNonce :: writeObjs)) [126] (fun e =>
        s.dev.nat O.scAttestState = 3 ∧ s.dev.sec.quoteAt = none ∧ e.raw O.scAttestNonce = nonce ∧ e.sec = { s.dev.sec with quoteAt := some s.dev.mono })) ∧
    (∀ t, s.dev.sec.quoteAt = some t →
      let i := s.dev.nat O.scAttestIndex
      let limit := s.dev.nat O.scAttestLimit
      (i < limit → Completes .attestQuoteDone s [.sec, .store] (among [O.scAttestQuote, O.scAttestIndex, O.scAttestQseq, O.scAttestState]) [12] (fun e =>
        e.sec = { s.dev.sec with quoteAt := none } ∧ (∃ sig, sig.length = 4472 ∧ e.raw O.scAttestQuote = s.dev.quoteHead ++ sig) ∧
        e.nat O.scAttestIndex = i + 1 ∧ s.dev.counted e O.scAttestQseq 1 ∧ s.dev.told e 12 0 ∧
        e.nat O.scAttestState = (if i + 1 = 2 ^ 30 then 4 else s.dev.nat O.scAttestState) ∧
        (limit ≤ i + 65 → limit < 2 ^ 30 → (∀ j, s.dev.store.job = some j → j.kind ≠ .lms) → ∃ u, e.store.lmsDue = some u) ∧
        (i + 65 < limit → e.store = s.dev.store))) ∧
      (limit ≤ i → Completes .attestQuoteDone s [] noObj [] (fun _ => True))) ∧
    (s.dev.sec.quoteAt = none → Completes .attestQuoteDone s [] noObj [] (fun _ => True))

/-- On a core in stack mode each instruction of Table 18.1 from LIT to ZEQ takes the data stack (64 cells) and return stack (32 addresses)
to what the table says and moves PC past its operand bytes; no other core and nothing else in the device changes. Where a stack would
overflow or underflow, or PICK reaches below the stack, the device resets with the cause of a stack-mode fault. Shifts use the low 8 bits of
n: from 32 on SHL and SHR give 0 and SAR fills with the sign. Comparisons push 1 or 0. A core that is not running stack mode does nothing.
(R489) -/
def Obligations.StackCells : Prop :=
  ∀ (s : State) (k : Nat), k < 4 →
    let c := s.dev.core k
    let cells := fun (i : Instr) (len : Nat) (r : Option (List Word × List Word)) =>
      stackDoes i s k (r.map (fun p => { c with ds := p.1, rs := p.2, pc := c.pc + BitVec.ofNat 32 len }))
    let push := fun (l : List Word) => if l.length ≤ 64 then some (l, c.rs) else none
    let unary := fun (i : Instr) (f : Word → Word) => cells i 1 (match c.ds with | a :: t => some (f a :: t, c.rs) | _ => none)
    let binary := fun (i : Instr) (f : Word → Word → Word) => cells i 1 (match c.ds with | b :: a :: t => some (f a b :: t, c.rs) | _ => none)
    let flag := fun (p : Bool) => if p = true then (1 : Word) else 0
    (∀ n < 32, cells (.smLit k n) 1 (push (BitVec.ofNat 32 n :: c.ds))) ∧
    (∀ x : BitVec 8, cells (.push8 k x.toNat) 2 (push (x.signExtend 32 :: c.ds))) ∧
    (∀ x : BitVec 16, cells (.push16 k x.toNat) 3 (push (x.signExtend 32 :: c.ds))) ∧
    (∀ x : BitVec 32, cells (.push32 k x.toNat) 5 (push (x :: c.ds))) ∧
    cells (.smDup k) 1 (match c.ds with | a :: t => push (a :: a :: t) | _ => none) ∧
    cells (.smDrop k) 1 (match c.ds with | _ :: t => some (t, c.rs) | _ => none) ∧
    cells (.smSwap k) 1 (match c.ds with | b :: a :: t => some (a :: b :: t, c.rs) | _ => none) ∧
    cells (.smOver k) 1 (match c.ds with | b :: a :: t => push (a :: b :: a :: t) | _ => none) ∧
    cells (.smRot k) 1 (match c.ds with | x :: b :: a :: t => some (a :: x :: b :: t, c.rs) | _ => none) ∧
    cells (.smPick k) 1 (match c.ds with | n :: t => t[n.toNat]?.map (fun x => (x :: t, c.rs)) | _ => none) ∧
    cells (.tor k) 1 (match c.ds with | a :: t => if c.rs.length < 32 then some (t, a :: c.rs) else none | _ => none) ∧
    cells (.fromr k) 1 (match c.rs with | a :: t => if c.ds.length < 64 then some (a :: c.ds, t) else none | _ => none) ∧
    cells (.smDepth k) 1 (push (BitVec.ofNat 32 c.ds.length :: c.ds)) ∧
    binary (.smAdd k) (fun a b => a + b) ∧ binary (.smSub k) (fun a b => a - b) ∧ binary (.smMul k) (fun a b => a * b) ∧
    binary (.smAnd k) (fun a b => a &&& b) ∧ binary (.smOr k) (fun a b => a ||| b) ∧ binary (.smXor k) (fun a b => a ^^^ b) ∧
    unary (.smNot k) (fun a => ~~~a) ∧
    binary (.smShl k) (fun a n => a <<< (n.toNat % 256)) ∧ binary (.smShr k) (fun a n => a >>> (n.toNat % 256)) ∧
    binary (.smSar k) (fun a n => a.sshiftRight (n.toNat % 256)) ∧
    binary (.smEq k) (fun a b => flag (decide (a = b))) ∧ binary (.smLt k) (fun a b => flag (decide (a.toInt < b.toInt))) ∧
    binary (.ltu k) (fun a b => flag (decide (a.toNat < b.toNat))) ∧ unary (.zeq k) (fun a => flag (decide (a = 0)))

/-- Branch offsets are signed and count from the next instruction; calls push that address; a target outside the boot ROM faults. LDW, LDB,
STW, STB reach what R464 allows, the ROM readable; a store gives back what was stored, breaks reservations on its granule, and leaves every
other byte. MOVE copies in ascending order, repeating overlapped source bytes. SHA_INIT, SHA_DATA, SHA_FINAL hash. SIG_VERIFY pushes 1 and
sets the verified range, or 0, noting rejected firmware areas and halting K0 on a rejected recovery script. OTP_RD reads secrets as 0.
CTR_ADV never lowers a counter. OSPI_RD copies flash. ENTER.REG, only into the verified range, clears the core and starts register mode;
K0's first one settles the boot objects and clocks K1 to K3 at 400 MHz. (R464, R480, R488, R490, R491, R492, R493, R530) -/
def Obligations.StackMemoryAndEngines : Prop :=
  ∀ (s : State) (k : Nat), k < 4 →
    let c := s.dev.core k
    let next := fun (len : Nat) => c.pc + BitVec.ofNat 32 len
    let go := fun (t : Word) (x : Core) => if 0xF0000000 ≤ t.toNat ∧ t.toNat < 0xF0010000 then some { x with pc := t } else none
    let callTo := fun (len : Nat) (t : Word) (x : Core) => if c.rs.length < 32 then go t { x with rs := next len :: c.rs } else none
    let bz := fun (len : Nat) (off : Word) => match c.ds with
      | f :: t => if f = 0 then go (next len + off) { c with ds := t } else some { c with ds := t, pc := next len }
      | _ => none
    let popped := fun (t : List Word) => { c with ds := t, pc := next 1 }
    let on := s.dev.stackOn k = true
    let faults := fun (i : Instr) => Resets i s (s.dev.causeOf (6, k)) [(O.pwBootCount, 1)] (fun _ => True)
    let plain := fun (x : Core) (e : Dev) => s.dev.kpNow e k x s.dev.kp
    let ram := fun (a : Nat) => regionOf a = .imem ∨ regionOf a = .dmem ∨ regionOf a = .sram
    let stored := fun (x : Core) (a : Nat) (b : List Byte) (e : Dev) =>
      (∀ f, e.busBytes k false f a b.length = b) ∧
      (∀ j f y, ram y → ¬ (a ≤ y ∧ y < a + b.length ∧ (j = k ∨ regionOf y = .sram)) → e.busBytes j false f y 1 = s.dev.busBytes j false f y 1) ∧
      { e.core k with resv := none } = { x with resv := none } ∧ (∀ j, j ≠ k → { e.core j with resv := none } = { s.dev.core j with resv := none }) ∧
      (∀ j, (e.core j).resv = match (s.dev.core j).resv with
        | some g => if j < 4 ∧ b ≠ [] ∧ a / 32 ≤ g ∧ g ≤ (a + b.length - 1) / 32 ∧ (j = k ∨ regionOf a = .sram) then none else some g
        | none => none) ∧
      { e.kp with cores := [], lmem := [], sram := [], sha := none } = { s.dev.kp with cores := [], lmem := [], sram := [], sha := none }
    (∀ x : BitVec 8, stackDoes (.br8 k x.toNat) s k (go (next 2 + x.signExtend 32) c) ∧ stackDoes (.bz8 k x.toNat) s k (bz 2 (x.signExtend 32))) ∧
    (∀ x : BitVec 16, stackDoes (.br16 k x.toNat) s k (go (next 3 + x.signExtend 32) c) ∧ stackDoes (.bz16 k x.toNat) s k (bz 3 (x.signExtend 32)) ∧
      stackDoes (.call16 k x.toNat) s k (callTo 3 (next 3 + x.signExtend 32) c)) ∧
    stackDoes (.callx k) s k (match c.ds with | a :: t => callTo 1 a { c with ds := t } | _ => none) ∧
    stackDoes (.smRet k) s k (match c.rs with | a :: t => go a { c with rs := t } | _ => none) ∧
    (s.dev.stackOn k = false → ∀ i ∈ [Instr.ldw k, .stw k, .ldb k, .stb k, .smMove k, .shaInit k, .shaData k, .shaFinal k, .sigVerify k, .otpRd k, .ctrRd k, .ctrAdv k,
      .ospiRd k, .enterReg k], Completes i s [] noObj [] (fun _ => True)) ∧
    (∀ p ∈ [(Instr.ldw k, 4), (.ldb k, 1)], on →
      (∀ a t, c.ds = a :: t → s.dev.smLoadOk k a.toNat p.2 = true → Completes p.1 s [.kp] noObj [] (fun e =>
        ∃ f, plain (popped (BitVec.ofNat 32 (s.dev.busRead k false f a.toNat p.2) :: t)) e)) ∧
      (∀ a t, c.ds = a :: t → s.dev.smLoadOk k a.toNat p.2 = false → faults p.1) ∧ (c.ds = [] → faults p.1)) ∧
    (∀ p ∈ [(Instr.stw k, 4), (.stb k, 1)], on →
      (∀ a v t, c.ds = a :: v :: t → s.dev.smStoreOk k a.toNat p.2 = true →
        (ram a.toNat → Completes p.1 s [.kp] noObj [] (fun e => stored (popped t) a.toNat (leBytes p.2 v.toNat) e ∧ e.kp.sha = s.dev.kp.sha)) ∧
        (regionOf a.toNat = .stream → Completes p.1 s [.kp, .rings] noObj [] (plain (popped t))) ∧
        (regionOf a.toNat = .port → a.toNat ≠ 0x60007F04 → Completes p.1 s [.kp, .ports] noObj [] (fun e => plain (popped t) e ∧
          e.ports = (s.dev.portStore (2 * k) (a.toNat - 0x60000000) v.toNat).ports)) ∧
        (a.toNat = 0x60007F04 → Answers p.1 s (fun _ => True))) ∧
      (∀ a v t, c.ds = a :: v :: t → s.dev.smStoreOk k a.toNat p.2 = false → faults p.1) ∧ (c.ds.length < 2 → faults p.1)) ∧
    (on →
      let okAll := fun (src dst n : Nat) => ∀ i < n, s.dev.smLoadOk k (src + i) 1 = true ∧ s.dev.smStoreOk k (dst + i) 1 = true
      (∀ n dst src t, c.ds = n :: dst :: src :: t → okAll src.toNat dst.toNat n.toNat → Completes (.smMove k) s [.kp] noObj [] (fun e =>
        ∃ b f, b.length = n.toNat ∧ stored (popped t) dst.toNat b e ∧ e.kp.sha = s.dev.kp.sha ∧
          ∀ i < n.toNat, [b.getD i 0] = s.dev.busBytes k false f (if src.toNat < dst.toNat then src.toNat + i % (dst.toNat - src.toNat) else src.toNat + i) 1)) ∧
      (∀ n dst src t, c.ds = n :: dst :: src :: t → ¬ okAll src.toNat dst.toNat n.toNat → faults (.smMove k)) ∧ (c.ds.length < 3 → faults (.smMove k))) ∧
    (on → Completes (.shaInit k) s [.kp] noObj [] (fun e => s.dev.kpNow e k (popped c.ds) { s.dev.kp with sha := some [] })) ∧
    (on →
      (∀ n a t, c.ds = n :: a :: t → s.dev.smBlockIn k a.toNat n.toNat = true → Completes (.shaData k) s [.kp] noObj [] (fun e =>
        ∃ f, s.dev.kpNow e k (popped t) { s.dev.kp with sha := s.dev.kp.sha.map (fun m => m ++ s.dev.smBytes k f a.toNat n.toNat) })) ∧
      (∀ n a t, c.ds = n :: a :: t → s.dev.smBlockIn k a.toNat n.toNat = false → faults (.shaData k)) ∧ (c.ds.length < 2 → faults (.shaData k))) ∧
    (on →
      (∀ a t, c.ds = a :: t → s.dev.smBlockOut k a.toNat 32 = true →
        (ram a.toNat → Completes (.shaFinal k) s [.kp] noObj [] (fun e =>
          ∃ b, b.length = 32 ∧ stored (popped t) a.toNat b e ∧ e.kp.sha = none ∧ ∀ m, s.dev.kp.sha = some m → b = sha256 m)) ∧
        (¬ ram a.toNat → Answers (.shaFinal k) s (fun e => e.core k = popped t ∧ e.kp.sha = none))) ∧
      (∀ a t, c.ds = a :: t → s.dev.smBlockOut k a.toNat 32 = false → faults (.shaFinal k)) ∧ (c.ds = [] → faults (.shaFinal k))) ∧
    (on → (∀ a ty t, c.ds = a :: ty :: t →
        let img := s.dev.smImage k ty.toNat a.toNat
        let r := if 1 ≤ ty.toNat ∧ ty.toNat ≤ 5 then s.dev.verify ty.toNat (typeCounter ty.toNat) img else 1
        let x := popped ((if r = 0 then 1 else 0) :: t)
        let halts := r ≠ 0 ∧ k = 0 ∧ ty = 5
        Completes (.sigVerify k) s [.kp, .sec, .pw] (among [O.kpCoreState 0]) [] (fun e =>
          (r = 0 → e.sec = { s.dev.sec with range := some (a.toNat, (imageExtent ty.toNat img).2) }) ∧
          (r ≠ 0 → e.sec.range = s.dev.sec.range ∧ (k = 0 ∧ ty = 1 ∧ a = 0x80100000 → e.sec.rejects.testBit 0 = true ∧ e.sec.rejectA = r) ∧
            (k = 0 ∧ ty = 1 ∧ a = 0x80900000 → e.sec.rejects.testBit 1 = true ∧ e.sec.rejectB = r)) ∧
          (halts → plain { x with dead := true } e ∧ e.nat (O.kpCoreState 0) = 2 ∧ e.pw = { s.dev.pw with step5 := true }) ∧
          (¬ halts → plain x e ∧ e.nat (O.kpCoreState 0) = s.dev.nat (O.kpCoreState 0) ∧ e.pw = s.dev.pw))) ∧
      (c.ds.length < 2 → faults (.sigVerify k))) ∧
    (on → (∀ i t, c.ds = i :: t → Completes (.otpRd k) s [.kp] noObj [] (fun e => ∃ v, plain (popped (v :: t)) e ∧
        (0x30 ≤ i.toNat ∧ i.toNat < 0x78 ∨ 0x80 ≤ i.toNat ∧ i.toNat < 0x8C → v = 0) ∧
        (0x10 ≤ i.toNat ∧ i.toNat < 0x18 → v = BitVec.ofNat 32 (leAt (padTo 32 (s.dev.raw O.scSkenumRoot)) (4 * i.toNat - 0x40) 4)))) ∧
      (c.ds = [] → faults (.otpRd k))) ∧
    (on → (∀ i t, c.ds = i :: t → Completes (.ctrRd k) s [.kp] noObj [] (fun e => ∃ v, plain (popped (v :: t)) e ∧
        (counterExists i.toNat = true → v = BitVec.ofNat 32 (s.dev.nat (O.scRollback i.toNat))))) ∧
      (c.ds = [] → faults (.ctrRd k))) ∧
    (on → (∀ i v t, c.ds = i :: v :: t →
        let old := s.dev.nat (O.scRollback i.toNat)
        let ok := counterExists i.toNat = true ∧ old ≤ v.toNat ∧ v.toNat ≤ counterMax i.toNat
        Completes (.ctrAdv k) s [.kp] (among [O.scRollback i.toNat]) [] (fun e =>
          (ok → plain (popped (1 :: t)) e ∧ e.nat (O.scRollback i.toNat) = v.toNat) ∧ (¬ ok → plain (popped (0 :: t)) e ∧ e.nat (O.scRollback i.toNat) = old))) ∧
      (c.ds.length < 2 → faults (.ctrAdv k))) ∧
    (on →
      (∀ n dst a t, c.ds = n :: dst :: a :: t → s.dev.smBlockOut k dst.toNat n.toNat = true →
        (0x20000000 < a.toNat + n.toNat → Completes (.ospiRd k) s [.kp] noObj [] (plain (popped (0 :: t)))) ∧
        (a.toNat + n.toNat ≤ 0x20000000 → ram dst.toNat → Completes (.ospiRd k) s [.kp] noObj [] (fun e =>
          stored (popped (1 :: t)) dst.toNat (memBytes s.dev.flash a.toNat n.toNat) e ∧ e.kp.sha = s.dev.kp.sha)) ∧
        (a.toNat + n.toNat ≤ 0x20000000 → ¬ ram dst.toNat → Answers (.ospiRd k) s (fun _ => True))) ∧
      (∀ n dst a t, c.ds = n :: dst :: a :: t → s.dev.smBlockOut k dst.toNat n.toNat = false → faults (.ospiRd k)) ∧ (c.ds.length < 3 → faults (.ospiRd k))) ∧
    (on →
      (∀ t l a n, c.ds = t :: l → s.dev.sec.range = some (a, n) → a ≤ t.toNat → t.toNat < a + n →
        let first := k = 0 ∧ s.dev.pw.entered = false
        Completes (.enterReg k) s [.kp, .lflags, .sec, .pw] (among [O.kpCoreState k, O.scBootArea, O.scFwHash, O.syFwVersion, O.pwKeeperFreq 1, O.pwKeeperFreq 2, O.pwKeeperFreq 3]) [] (fun e =>
          e.core k = { stackMode := false, pc := t &&& 0xFFFFFFFC, a := [(15, 0x10040000)], dbg := c.dbg, brk := c.brk } ∧
          (∀ j, j ≠ k → e.core j = s.dev.core j) ∧ { e.kp with cores := [], wdtAt := [] } = { s.dev.kp with cores := [], wdtAt := [] } ∧
          e.nat (O.kpCoreState k) = 1 ∧ (∀ b < 0x400, e.bitRead k b = false) ∧ (∀ j b, j ≠ k → b < 0x400 → e.bitRead j b = s.dev.bitRead j b) ∧
          (¬ first → e.sec = s.dev.sec ∧ e.pw = s.dev.pw ∧
            ∀ o ∈ [O.scBootArea, O.scFwHash, O.syFwVersion, O.pwKeeperFreq 1, O.pwKeeperFreq 2, O.pwKeeperFreq 3], e.get o = s.dev.get o) ∧
          (first →
            let img := memBytes s.dev.flash (a - 0x80000000) n
            e.pw = { s.dev.pw with entered := true } ∧ e.sec.range = some (a, n) ∧ e.sec.fwVersion = leAt img 12 4 ∧
            e.nat O.scBootArea = (if a = 0x80100000 then 1 else if a = 0x80900000 then 2 else if a = 0x80000000 then 3 else 0) ∧
            e.raw O.scFwHash = sha256 img ∧ e.nat O.syFwVersion = leAt img 16 4 ∧ ∀ j ∈ [1, 2, 3], e.nat (O.pwKeeperFreq j) = 400))) ∧
      (∀ t l, c.ds = t :: l → (∀ a n, s.dev.sec.range = some (a, n) → ¬ (a ≤ t.toNat ∧ t.toNat < a + n)) → faults (.enterReg k)) ∧ (c.ds = [] → faults (.enterReg k)))

/-- On a Keeper that issues bundles, with the words of an ADD, SUB, ADDS or SUBS (Register, Immediate, or Immediate with EXT) or of a NEG or
NEGS at PC: DST receives the exact result wrapped, for ADDS, SUBS and NEGS on signed overflow 0x7FFF_FFFF or 0x8000_0000 by its sign; Z and
N follow the value written, C is the carry or borrow of the unsaturated operation, V the signed overflow, SAT is set by a saturation and
never cleared; PC passes the bundle, or goes back to LS at LE while LC is above 1; every other register, memory byte and object of the
device is unchanged. (R497, R498) -/
def Obligations.BundleArithmetic : Prop :=
  ∀ (s : State) (k : Nat), k < 4 → s.dev.coreIssues k = true → (s.dev.core k).inRep = false →
    let c := s.dev.core k
    let u := c.bit 13
    let at_ := fun (ws : List Nat) => ∀ i < ws.length, s.dev.fetchDetail k u ((c.pc.toNat + 4 * i) % 2 ^ 32) = 0 ∧
      s.dev.busRead k u 0 ((c.pc.toNat + 4 * i) % 2 ^ 32) 4 = ws.getD i 0
    let runs := fun (n dst : Nat) (exact : Int) (carry sat : Bool) =>
      let ovf := decide (exact < -2147483648) || decide (2147483647 < exact)
      let v : Word := if ovf = true ∧ sat = true then (if exact < 0 then 0x80000000 else 0x7FFFFFFF) else BitVec.ofInt 32 exact
      Completes (.bundle k) s [.kp] noObj [] (fun e =>
        let x := e.core k
        (∀ i, x.dr i = if i = dst then v else c.dr i) ∧
        (∀ i < 32, x.bit i = if i = 0 then decide (v = 0) else if i = 1 then v.msb else if i = 2 then carry else if i = 3 then ovf
          else if i = 5 then (c.bit 5 || (ovf && sat)) else c.bit i) ∧
        (x.pc = (if c.le = c.pc ∧ 1 < c.lc.toNat then c.ls else c.pc + BitVec.ofNat 32 (4 * n)) &&& 0xFFFFFFFC) ∧
        (x.lc = if c.le = c.pc ∧ 1 ≤ c.lc.toNat then c.lc - 1 else c.lc) ∧
        { x with d := [], psw := 0, pc := 0, lc := 0 } = { c with d := [], psw := 0, pc := 0, lc := 0 } ∧
        (∀ j, j ≠ k → e.core j = s.dev.core j) ∧ { e.kp with cores := [] } = { s.dev.kp with cores := [] })
    let head := fun (op dst a : Nat) => op * 2 ^ 22 + dst * 2 ^ 18 + a * 2 ^ 14
    let two := fun (op dst a : Nat) (b : Word) (n : Nat) =>
      let x := c.dr a
      (op = 1 ∨ op = 5 → runs n dst (x.toInt + b.toInt) (decide (2 ^ 32 ≤ x.toNat + b.toNat)) (decide (op = 5))) ∧
      (op = 3 ∨ op = 6 → runs n dst (x.toInt - b.toInt) (decide (x.toNat < b.toNat)) (decide (op = 6)))
    (∀ op dst a b, dst < 16 → a < 16 → b < 16 → op = 1 ∨ op = 3 ∨ op = 5 ∨ op = 6 →
      at_ [2 ^ 31 + head op dst a + b * 2 ^ 9] → two op dst a (c.dr b) 1) ∧
    (∀ op dst a (imm : BitVec 13), dst < 16 → a < 16 → op = 1 ∨ op = 3 ∨ op = 5 ∨ op = 6 →
      (at_ [2 ^ 31 + head op dst a + 2 ^ 13 + imm.toNat] → two op dst a (imm.signExtend 32) 1) ∧
      (∀ hi : BitVec 19, at_ [head op dst a + 2 ^ 13 + imm.toNat, 2 ^ 31 + 5 * 2 ^ 28 + hi.toNat * 2 ^ 9] → two op dst a (hi ++ imm) 2)) ∧
    (∀ op dst a, dst < 16 → a < 16 → op = 7 ∨ op = 8 →
      at_ [2 ^ 31 + head op dst a] → runs 1 dst (- (c.dr a).toInt) (decide (c.dr a ≠ 0)) (decide (op = 8)))

/-- An illegal or unfetchable bundle enters its exception: EPC the bundle, EPSW, ECAUSE, EXC set, IE and U clear, PC from the vector table;
with EXC set it is a double fault. A false predicate only passes the bundle. INTERRUPT_ENTRY takes the highest pending level above IPL,
lowest vector first, else nothing; with a bad table entry the core halts (K0 resets). REP_ELEMENT of a fill stores one element and counts SC
down; SC 0 passes. TIMER_COMPARE and WAIT_WAKE act when armed and pending. A program loads by Table 17.16, is freed when disabled, and an
abort counts, the third faulting it. At level CONTROL only, DEBUG_HALT holds or arms a core and DEBUG_SINGLE_STEP lets a held core issue one
bundle or instruction, no interrupt being due, and holds it again. (R469, R472, R473, R474, R476, R483, R484, R485, R509, R513, R516, R543) -/
def Obligations.KeeperCommands : Prop :=
  ∀ (s : State) (k : Nat), k < 4 →
    let c := s.dev.core k
    let u := c.bit 13
    let plain := fun (x : Core) (e : Dev) => s.dev.kpNow e k x s.dev.kp
    let alone := fun (e : Dev) => (∀ j, j ≠ k → e.core j = s.dev.core j) ∧ { e.kp with cores := [] } = { s.dev.kp with cores := [] }
    let cause := fun (vec slot detail : Nat) (rep : Bool) => detail * 65536 + (if rep = true then 2048 else 0) + slot * 256 + vec
    let vector := fun (vec : Nat) => (c.vbase.toNat + 4 * vec) % 2 ^ 32
    let good := fun (vec : Nat) => s.dev.loadDetail k false (vector vec) 4 = 0 ∧ ∀ f, s.dev.busRead k false f (vector vec) 4 % 4 = 0
    let entry := fun (vec slot detail : Nat) (rep : Bool) (lvl : Option Nat) (e : Dev) =>
      let x := e.core k
      x.epc = c.pc ∧ x.epsw = c.psw ∧ x.ecause = BitVec.ofNat 32 (cause vec slot detail rep) ∧
      (∀ i < 32, x.bit i = if i = 7 then true else if i = 9 ∨ i = 13 then false else
        match lvl with
        | some l => if 10 ≤ i ∧ i ≤ 12 then l.testBit (i - 10) else c.bit i
        | none => c.bit i) ∧
      (∃ f, x.pc = BitVec.ofNat 32 (s.dev.busRead k false f (vector vec) 4)) ∧
      { x with epc := 0, epsw := 0, ecause := 0, psw := 0, pc := 0, resv := none, waiting := false, inRep := false } =
        { c with epc := 0, epsw := 0, ecause := 0, psw := 0, pc := 0, resv := none, waiting := false, inRep := false } ∧
      x.resv = none ∧ x.waiting = false ∧ x.inRep = false
    let halted := fun (i : Instr) (cs : Nat) =>
      (k = 0 → Resets i s (s.dev.causeOf (5, 0)) [(O.pwBootCount, 1)] (fun _ => True)) ∧
      (k ≠ 0 → Completes i s [.kp, .pw] (among [O.kpCoreState k, O.kpHaltCause k]) [1] (fun e =>
        (e.core k).dead = true ∧ alone e ∧ e.nat (O.kpCoreState k) = 2 ∧ e.nat (O.kpHaltCause k) = cs ∧ s.dev.told e 1 k))
    let passes := fun (x : Core) (n : Nat) => x.finish x.pc (x.pc + BitVec.ofNat 32 (4 * n)) none
    let idle := fun (i : Instr) => Completes i s [] noObj [] (fun _ => True)
    let takes := fun (v : Nat) => v ∈ s.dev.pendingVecs k ∧ c.ipl < c.level v ∧ ∀ w ∈ s.dev.pendingVecs k, c.level w ≤ c.level v ∧ (c.level w = c.level v → v ≤ w)
    let control := s.dev.fabricOn = true ∧ s.dev.nat O.scDebugState = 2
    (s.dev.coreIssues k = false → idle (.bundle k) ∧ idle (.repElement k)) ∧
    (s.dev.coreIssues k = true → ∀ x, s.dev.bundleAt k = .error x → (u = false ∨ k ≠ 3) →
      (c.bit 7 = false → good x.vec → Completes (.bundle k) s [.kp] noObj [] (fun e => entry x.vec x.slot x.detail false none e ∧ alone e)) ∧
      (c.bit 7 = true → halted (.bundle k) (cause x.vec x.slot x.detail false))) ∧
    (s.dev.coreIssues k = true → ∀ ws p, s.dev.bundleAt k = .ok ws → pfxOf ws = some p → pfxPred p = true →
      s.dev.bitExc k u 6 (p % 2 ^ 15) true false = [] → s.dev.bitRead k (p % 2 ^ 15) = p.testBit 25 → c.inRep = false →
      Completes (.bundle k) s [.kp] noObj [] (plain (passes c ws.length))) ∧
    (s.dev.coreIssues k = true → ∀ ws p y, s.dev.bundleAt k = .ok ws → pfxOf ws = some p → pfxRep p = true → pfxPred p = false → sylIn ws 3 = some y →
      let a := (c.ar y.dst).toNat
      let z := 2 ^ (y.func % 4)
      (c.sc = 0 → Completes (.repElement k) s [.kp] noObj [] (plain (passes c ws.length))) ∧
      (c.sc ≠ 0 → y.op = 0x21 → u = false → s.dev.storeDetail k false a z = 0 → a % z = 0 → regionOf a = .dmem ∨ regionOf a = .sram →
        Completes (.repElement k) s [.kp] noObj [] (fun e =>
          (∀ f, e.busBytes k false f a z = leBytes z (c.dr y.srcb).toNat) ∧
          (∀ j f b, regionOf b = .imem ∨ regionOf b = .dmem ∨ regionOf b = .sram → ¬ (a ≤ b ∧ b < a + z ∧ (j = k ∨ regionOf b = .sram)) →
            e.busBytes j false f b 1 = s.dev.busBytes j false f b 1) ∧
          (e.core k).sc = c.sc - 1 ∧ (e.core k).ar y.dst = (if y.func.testBit 2 = true then c.ar y.dst - BitVec.ofNat 32 z else c.ar y.dst + BitVec.ofNat 32 z) ∧
          (∀ i, (e.core k).dr i = c.dr i) ∧ (∀ i, i ≠ y.dst → (e.core k).ar i = c.ar i) ∧ (e.core k).psw = c.psw ∧
          (c.sc ≠ 1 → (e.core k).pc = c.pc ∧ (e.core k).inRep = true) ∧ (c.sc = 1 → (e.core k).inRep = false)))) ∧
    (s.dev.coreIssues k = true → ∀ ws, s.dev.bundleAt k = .ok ws → pfxRep ((pfxOf ws).getD 0) = false → idle (.repElement k)) ∧
    (s.dev.wdtRuns k = true → c.bit 9 = true → ∀ v, takes v →
      (good v → Completes (.interruptEntry k) s [.kp] noObj [] (fun e => entry v 7 0 c.inRep (some (c.level v)) e ∧ alone e)) ∧
      (s.dev.loadDetail k false (vector v) 4 ≠ 0 ∨ (∀ f, s.dev.busRead k false f (vector v) 4 % 4 ≠ 0) → halted (.interruptEntry k) (cause 3 7 1 false))) ∧
    (s.dev.wdtRuns k = false ∨ c.bit 9 = false ∨ (∀ v ∈ s.dev.pendingVecs k, c.level v ≤ c.ipl) → idle (.interruptEntry k)) ∧
    (s.dev.wdtRuns k = true → c.waiting = true → (∃ v ∈ s.dev.pendingVecs k, c.ipl < c.level v) →
      Completes (.waitWake k) s [.kp] noObj [] (plain { c with waiting := false })) ∧
    (s.dev.wdtRuns k = false ∨ c.waiting = false ∨ (∀ v ∈ s.dev.pendingVecs k, c.level v ≤ c.ipl) → idle (.waitWake k)) ∧
    (s.dev.wdtRuns k = true → c.timer ≠ 0 → Completes (.timerCompare k) s [.kp, .time] noObj [] (fun e =>
      plain { c with timerOn := true } e ∧ c.timer ≤ e.now)) ∧
    (s.dev.wdtRuns k = false ∨ c.timer = 0 → idle (.timerCompare k)) ∧
    (∀ org i (v : Nat), i < 16 → v < 2 → s.dev.accepts org [writeNum (O.kpProgEnable i) v] →
      let st := s.dev.nat (O.kpProgState i)
      let now_ := s.dev.get (O.kpProgEnable i) ≠ .num v
      Completes (.progEnable org i v) s (.kp :: writeParts) (among ([O.kpProgEnable i, O.kpProgState i, O.kpCodePoolFree, O.kpDataPoolFree] ++ writeObjs)) [126] (fun e =>
        e.nat (O.kpProgEnable i) = v ∧
        (now_ → v = 1 → st = 0 → e.nat (O.kpProgState i) = 1 ∧ e.kp = { s.dev.kp with loading := s.dev.kp.loading.filter (fun x => decide (x ≠ i)) ++ [i] }) ∧
        (now_ → v = 0 → st ≠ 0 → s.dev.progRuns i = false → e.nat (O.kpProgState i) = 0 ∧ e.kp.progs = s.dev.kp.progs.filter (fun p => decide (p.1 ≠ i)) ∧
          i ∉ e.kp.loading ∧ i ∉ e.kp.leaving ∧ e.nat O.kpCodePoolFree = 65536 - (e.codeUsed.map Prod.snd).sum ∧
          e.nat O.kpDataPoolFree = 131072 - (e.dataUsed.map Prod.snd).sum) ∧
        (now_ → v = 0 → st ≠ 0 → s.dev.progRuns i = true → e.nat (O.kpProgState i) = st ∧
          e.kp = { s.dev.kp with leaving := s.dev.kp.leaving.filter (fun x => decide (x ≠ i)) ++ [i] }) ∧
        (¬ now_ ∨ v = 1 ∧ st ≠ 0 ∨ v = 0 ∧ st = 0 → e.nat (O.kpProgState i) = st ∧ e.kp = s.dev.kp))) ∧
    (∀ i < 16,
      let src := s.dev.nat (O.kpProgSrc i)
      let b := s.dev.progImage src
      let r := if b = [] then 1 else s.dev.verify 4 (16 + i) b
      let n := 64 + 12 * leAt b 5 1
      let flash := leAt b 6 1 = 1
      let len := (leAt b 20 4 + leAt b 24 4 + leAt b 28 4 + 63) / 64 * 64
      let place := if flash then some 0 else firstFit 0x10000 65536 (leAt b 16 4) s.dev.codeUsed
      let room := firstFit 0x10020000 131072 len s.dev.dataUsed
      let rejected := fun (x : Nat) (e : Dev) => e.nat (O.kpProgState i) = 4 ∧ e.nat (O.kpProgResult i) = x ∧ e.kp.progs = s.dev.kp.progs
      (s.dev.nat (O.kpProgState i) ≠ 1 → idle (.progLoadDone i)) ∧
      (s.dev.nat (O.kpProgState i) = 1 → Completes (.progLoadDone i) s [.kp, .log, .nvm]
        (among [O.kpProgState i, O.kpProgResult i, O.kpCodePoolFree, O.kpDataPoolFree, O.kpProgId i, O.kpProgVersion i]) [9] (fun e =>
        i ∉ e.kp.loading ∧
        (r ≠ 0 → rejected (if r = 4 then 2 else 1) e ∧ s.dev.told e 9 4 ∧ s.dev.recorded e 0x48 4 r) ∧
        (r = 0 → progFormOk b src = false → rejected 3 e) ∧
        (r = 0 → progFormOk b src = true → progCapsOk b = false → rejected 5 e) ∧
        (r = 0 → progFormOk b src = true → progCapsOk b = true → place = none ∨ room = none → rejected 4 e) ∧
        (r = 0 → progFormOk b src = true → progCapsOk b = true → ∀ ca da, place = some ca → room = some da →
          e.nat (O.kpProgState i) = 2 ∧ e.nat (O.kpProgResult i) = 0 ∧ e.nat (O.kpProgId i) = leAt b 8 4 ∧ e.nat (O.kpProgVersion i) = leAt b 12 4 ∧
          Tab.get {} e.kp.progs i = { codeAt := if flash then 0x80000000 + src + n else ca, codeLen := leAt b 16 4, inFlash := decide flash, dataAt := da,
                                      dataLen := len, entry := leAt b 32 4, caps := progCaps b } ∧
          (∀ f, ¬ flash → e.busBytes 3 false f ca (slice b n (leAt b 16 4)).length = slice b n (leAt b 16 4)) ∧
          (∀ f, let data := slice b (n + leAt b 16 4) (leAt b 20 4) ++ zeroBytes (leAt b 24 4)
            e.busBytes 3 false f da data.length = data))))) ∧
    (∀ i j t, k = 3 → s.dev.kp.running = some (i, j, t) → c.stackMode = false →
      let p := Tab.get ({} : Prog) s.dev.kp.progs i
      good 16 → s.dev.kp.leaving.all (fun x => decide (x ≠ i)) = true →
      Completes .progRunAbort s [.kp, .time] (among [O.kpProgAborts i, O.kpProgState i, O.kpProgFaults i, O.kpProgLastCause i]) [] (fun e =>
        t + 1000 * p.maxRun ≤ e.mono ∧ e.kp.running = none ∧ s.dev.counted e (O.kpProgAborts i) 1 ∧ entry 16 7 0 c.inRep (some (c.level 16)) e ∧
        (p.aborts < 2 → e.nat (O.kpProgState i) = s.dev.nat (O.kpProgState i)) ∧
        (2 ≤ p.aborts → e.nat (O.kpProgState i) = 3 ∧ e.nat (O.kpProgLastCause i) = 0x10 ∧ s.dev.counted e (O.kpProgFaults i) 1))) ∧
    (s.dev.kp.running = none → idle .progRunAbort) ∧
    (∀ arm, control → Completes (.debugHalt k arm) s [.kp] noObj [] (plain (if arm = true then { c with brk := true } else { c with dbg := true }))) ∧
    (∀ arm, ¬ control → idle (.debugHalt k arm)) ∧
    (control → c.dbg = true →
      Answers (.debugSingleStep k) s (fun e => e.fabricOn = true → (e.core k).dbg = true) ∧
      (c.stackMode = false → c.dead = false → c.waiting = false → k = 0 ∨ s.dev.asleep = false → s.dev.intDue k = false → ∀ ws p, s.dev.bundleAt k = .ok ws → pfxOf ws = some p →
        pfxPred p = true → s.dev.bitExc k u 6 (p % 2 ^ 15) true false = [] → s.dev.bitRead k (p % 2 ^ 15) = p.testBit 25 → c.inRep = false →
        Completes (.debugSingleStep k) s [.kp] noObj [] (plain (passes c ws.length)))) ∧
    (¬ control ∨ c.dbg = false → idle (.debugSingleStep k))
end

