-- ==== Sys2Proof/Laws/Tab.lean ====
section
/-! SUPPORT. Sparse tables: reading after writing, and that writing keeps the canonical form. -/

namespace Sys2Proof.Machine

variable {α : Type}

theorem Tab.get_erase_self (f : α) (t : List (Nat × α)) (k : Nat) : Tab.get f (Tab.erase t k) k = f := by
  induction t with
  | nil => rfl
  | cons p t ih =>
    obtain ⟨j, v⟩ := p
    by_cases h : k = j <;> simp [Tab.erase, Tab.get, h] <;> simpa [h] using ih

theorem Tab.get_erase_ne (f : α) (t : List (Nat × α)) {k i : Nat} (h : i ≠ k) : Tab.get f (Tab.erase t k) i = Tab.get f t i := by
  induction t with
  | nil => rfl
  | cons p t ih =>
    obtain ⟨j, v⟩ := p
    by_cases hk : k = j
    · subst hk; simp [Tab.erase, Tab.get, h, ih]
    · by_cases hi : i = j <;> simp [Tab.erase, Tab.get, hk, hi, ih]

theorem Tab.get_insert_self (f : α) (t : List (Nat × α)) (k : Nat) (v : α) (h : ∀ p ∈ t, p.1 ≠ k) : Tab.get f (Tab.insert k v t) k = v := by
  induction t with
  | nil => simp [Tab.insert, Tab.get]
  | cons p t ih =>
    obtain ⟨j, w⟩ := p
    have hj : k ≠ j := fun e => h (j, w) (by simp) e.symm
    by_cases hk : k < j
    · simp [Tab.insert, Tab.get, hk]
    · simp [Tab.insert, Tab.get, hk, hj, ih (fun p hp => h p (by simp [hp]))]

theorem Tab.get_insert_ne (f : α) (t : List (Nat × α)) {k i : Nat} (v : α) (h : i ≠ k) : Tab.get f (Tab.insert k v t) i = Tab.get f t i := by
  induction t with
  | nil => simp [Tab.insert, Tab.get, h]
  | cons p t ih =>
    obtain ⟨j, w⟩ := p
    by_cases hk : k < j
    · simp [Tab.insert, Tab.get, hk, h]
    · simp [Tab.insert, Tab.get, hk, ih]

theorem Tab.mem_erase {t : List (Nat × α)} {k : Nat} {p : Nat × α} (h : p ∈ Tab.erase t k) : p ∈ t ∧ p.1 ≠ k := by
  induction t with
  | nil => simp [Tab.erase] at h
  | cons q t ih =>
    obtain ⟨j, v⟩ := q
    by_cases hk : k = j
    · simp only [Tab.erase, hk, if_true] at h
      rw [← hk] at h
      exact ⟨List.mem_cons_of_mem _ (ih h).1, (ih h).2⟩
    · simp only [Tab.erase, hk, if_false, List.mem_cons] at h
      rcases h with h | h
      · subst h; exact ⟨List.mem_cons_self .., fun e => hk e.symm⟩
      · exact ⟨List.mem_cons_of_mem _ (ih h).1, (ih h).2⟩

theorem Tab.mem_insert {t : List (Nat × α)} {k : Nat} {v : α} {p : Nat × α} (h : p ∈ Tab.insert k v t) : p = (k, v) ∨ p ∈ t := by
  induction t with
  | nil => simpa [Tab.insert] using h
  | cons q t ih =>
    obtain ⟨j, w⟩ := q
    simp only [Tab.insert] at h
    split at h <;> simp only [List.mem_cons] at h ⊢
    · exact h
    · rcases h with h | h
      · exact .inr (.inl h)
      · rcases ih h with h | h
        · exact .inl h
        · exact .inr (.inr h)

/-- Reading a table after a write. -/
@[simp] theorem Tab.get_set [DecidableEq α] (f : α) (t : List (Nat × α)) (k i : Nat) (v : α) :
    Tab.get f (Tab.set f t k v) i = if i = k then v else Tab.get f t i := by
  unfold Tab.set
  by_cases hi : i = k
  · subst hi
    by_cases hv : v = f
    · simp [hv, Tab.get_erase_self]
    · simp only [hv, if_false, if_true]
      exact Tab.get_insert_self f _ i v (fun p hp => (Tab.mem_erase hp).2)
  · by_cases hv : v = f
    · simp [hv, hi, Tab.get_erase_ne f t hi]
    · simp [hv, hi, Tab.get_insert_ne f _ v hi, Tab.get_erase_ne f t hi]

/-! ### The canonical form -/

theorem Tab.rising_weaken (t : List (Nat × α)) {lo hi : Nat} (h : lo ≤ hi) (w : Tab.rising (some hi) t = true) : Tab.rising (some lo) t = true := by
  cases t with
  | nil => rfl
  | cons p t =>
    simp only [Tab.rising, Bool.and_eq_true, decide_eq_true_eq] at w ⊢
    exact ⟨Nat.lt_of_le_of_lt h w.1, w.2⟩

theorem Tab.rising_none (t : List (Nat × α)) {lo : Nat} (w : Tab.rising (some lo) t = true) : Tab.rising none t = true := by
  cases t with
  | nil => rfl
  | cons p t => simp only [Tab.rising, Bool.and_eq_true] at w ⊢; exact w.2

theorem Tab.rising_erase (t : List (Nat × α)) (k : Nat) : ∀ lo, Tab.rising (some lo) t = true → Tab.rising (some lo) (Tab.erase t k) = true := by
  induction t with
  | nil => intro _ _; rfl
  | cons p t ih =>
    obtain ⟨j, v⟩ := p
    intro lo w
    simp only [Tab.rising, Bool.and_eq_true, decide_eq_true_eq] at w
    simp only [Tab.erase]
    split
    · exact ih lo (Tab.rising_weaken t (Nat.le_of_lt w.1) w.2)
    · simp only [Tab.rising, Bool.and_eq_true, decide_eq_true_eq]
      exact ⟨w.1, ih j w.2⟩

theorem Tab.rising_insert (t : List (Nat × α)) (k : Nat) (v : α) (hne : ∀ p ∈ t, p.1 ≠ k) :
    ∀ lo, lo < k → Tab.rising (some lo) t = true → Tab.rising (some lo) (Tab.insert k v t) = true := by
  induction t with
  | nil => intro lo h _; simp [Tab.insert, Tab.rising, h]
  | cons p t ih =>
    obtain ⟨j, w⟩ := p
    intro lo h r
    simp only [Tab.rising, Bool.and_eq_true, decide_eq_true_eq] at r
    have hj : j ≠ k := hne (j, w) (by simp)
    simp only [Tab.insert]
    split
    · rename_i hk
      simp only [Tab.rising, Bool.and_eq_true, decide_eq_true_eq]
      exact ⟨h, hk, r.2⟩
    · rename_i hk
      simp only [Tab.rising, Bool.and_eq_true, decide_eq_true_eq]
      exact ⟨r.1, ih (fun p hp => hne p (by simp [hp])) j (by omega) r.2⟩

theorem Tab.rising_set [DecidableEq α] (f : α) (t : List (Nat × α)) (k : Nat) (v : α) (w : Tab.rising none t = true) :
    Tab.rising none (Tab.set f t k v) = true := by
  have e : Tab.rising none (Tab.erase t k) = true := by
    cases t with
    | nil => rfl
    | cons p t =>
      obtain ⟨j, x⟩ := p
      simp only [Tab.rising] at w
      simp only [Tab.erase]
      split
      · exact Tab.rising_none _ (Tab.rising_erase t k j w)
      · simpa only [Tab.rising] using Tab.rising_erase t k j w
  unfold Tab.set
  split
  · exact e
  · have hne : ∀ p ∈ Tab.erase t k, p.1 ≠ k := fun p hp => (Tab.mem_erase hp).2
    revert hne e
    generalize Tab.erase t k = u
    intro e hne
    cases u with
    | nil => rfl
    | cons p u =>
      obtain ⟨j, x⟩ := p
      simp only [Tab.rising] at e
      have hj : j ≠ k := hne (j, x) (by simp)
      simp only [Tab.insert]
      split
      · rename_i hk
        simp only [Tab.rising, Bool.and_eq_true, decide_eq_true_eq]
        exact ⟨hk, e⟩
      · rename_i hk
        simp only [Tab.rising]
        exact Tab.rising_insert u k v (fun p hp => hne p (by simp [hp])) j (by omega) e

/-- A write keeps the canonical form. -/
theorem Tab.wf_set [DecidableEq α] (f : Nat → α) (t : List (Nat × α)) (k : Nat) (v : α) (w : Tab.wf f t = true) : Tab.wf f (Tab.set (f k) t k v) = true := by
  unfold Tab.wf at w ⊢
  simp only [Bool.and_eq_true, List.all_eq_true, decide_eq_true_eq] at w ⊢
  refine ⟨Tab.rising_set (f k) t k v w.1, fun p hp => ?_⟩
  unfold Tab.set at hp
  split at hp
  · exact w.2 p (Tab.mem_erase hp).1
  · rename_i hv
    rcases Tab.mem_insert hp with h | h
    · subst h; exact hv
    · exact w.2 p (Tab.mem_erase h).1

end Sys2Proof.Machine
end

