-- ==== Sys2Proof/Laws/State.lean ====
section
/-! SUPPORT. Reading State after an update, and the frame of each shared operation: `Frame.x` extends a frame by one operation. -/

namespace Sys2Proof.Machine

/-! ### Objects -/

@[simp] theorem Dev.get_put (d : Dev) (o : Nat) (v : Val) (x : Nat) : (d.put o v).get x = if x = o then v else d.get x := by
  simp only [Dev.get, Dev.put]
  rw [show Tab.get (Dict.dflt x) (Tab.set (Dict.dflt o) d.objs o v) x = if x = o then v else Tab.get (Dict.dflt x) d.objs x by
    by_cases h : x = o
    · subst h; simp
    · simp only [h, if_false]
      unfold Tab.set
      split
      · exact Tab.get_erase_ne _ _ h
      · rw [Tab.get_insert_ne _ _ _ h, Tab.get_erase_ne _ _ h]]

theorem Dev.get_setN (d : Dev) (o : Nat) (n : Int) (x : Nat) : (d.setN o n).get x = if x = o then .num n else d.get x := Dev.get_put ..
theorem Dev.get_setB (d : Dev) (o : Nat) (b : Bool) (x : Nat) : (d.setB o b).get x = if x = o then .num (if b then 1 else 0) else d.get x := Dev.get_put ..
theorem Dev.get_setRaw (d : Dev) (o : Nat) (b : List Byte) (x : Nat) : (d.setRaw o b).get x = if x = o then .bytes b else d.get x := Dev.get_put ..
@[simp] theorem Dev.num_setN (d : Dev) (o : Nat) (n : Int) (x : Nat) : (d.setN o n).num x = if x = o then n else d.num x := by
  simp only [Dev.num, Dev.get_setN]; split <;> rfl
@[simp] theorem Dev.num_setB (d : Dev) (o : Nat) (b : Bool) (x : Nat) : (d.setB o b).num x = if x = o then (if b then 1 else 0) else d.num x := by
  simp only [Dev.num, Dev.get_setB]; split <;> rfl
@[simp] theorem Dev.nat_setN (d : Dev) (o : Nat) (n : Int) (x : Nat) : (d.setN o n).nat x = if x = o then n.toNat else d.nat x := by
  simp only [Dev.nat, Dev.num_setN]; split <;> rfl
@[simp] theorem Dev.flag_setN (d : Dev) (o : Nat) (n : Int) (x : Nat) : (d.setN o n).flag x = if x = o then decide (n ≠ 0) else d.flag x := by
  simp only [Dev.flag, Dev.num_setN]; split <;> rfl
@[simp] theorem Dev.raw_setRaw (d : Dev) (o : Nat) (b : List Byte) (x : Nat) : (d.setRaw o b).raw x = if x = o then b else d.raw x := by
  simp only [Dev.raw, Dev.get_setRaw]; split <;> rfl
@[simp] theorem Dev.raw_setN (d : Dev) (o : Nat) (n : Int) (x : Nat) (h : x ≠ o) : (d.setN o n).raw x = d.raw x := by
  simp only [Dev.raw, Dev.get_setN, if_neg h]
@[simp] theorem Dev.num_setRaw (d : Dev) (o : Nat) (b : List Byte) (x : Nat) (h : x ≠ o) : (d.setRaw o b).num x = d.num x := by
  simp only [Dev.num, Dev.get_setRaw, if_neg h]
/-- A counter short of its width rises by what it counts. -/
theorem Dev.nat_count (d : Dev) (w o k : Nat) (h : d.nat o + k < 2 ^ w) : (d.count w o k).nat o = d.nat o + k := by
  simp only [Dev.count, h, if_true, Dev.nat_setN, Int.toNat_natCast]
theorem Dev.nat_count_ne (d : Dev) (w o k x : Nat) (h : x ≠ o) : (d.count w o k).nat x = d.nat x := by
  simp only [Dev.count, Dev.nat_setN, if_neg h]

@[simp] theorem Dev.put_now (d : Dev) (o : Nat) (v : Val) : (d.put o v).now = d.now := rfl
@[simp] theorem Dev.put_mono (d : Dev) (o : Nat) (v : Val) : (d.put o v).mono = d.mono := rfl
@[simp] theorem Dev.put_free (d : Dev) (o : Nat) (v : Val) : (d.put o v).free = d.free := rfl
@[simp] theorem Dev.put_ticks (d : Dev) (o : Nat) (v : Val) : (d.put o v).ticks = d.ticks := rfl
@[simp] theorem Dev.put_udef (d : Dev) (o : Nat) (v : Val) : (d.put o v).udef = d.udef := rfl
@[simp] theorem Dev.put_log (d : Dev) (o : Nat) (v : Val) : (d.put o v).log = d.log := rfl
@[simp] theorem Dev.put_store (d : Dev) (o : Nat) (v : Val) : (d.put o v).store = d.store := rfl
@[simp] theorem Dev.put_nvm (d : Dev) (o : Nat) (v : Val) : (d.put o v).nvm = d.nvm := rfl
@[simp] theorem Dev.put_host (d : Dev) (o : Nat) (v : Val) : (d.put o v).host = d.host := rfl
@[simp] theorem Dev.put_tm (d : Dev) (o : Nat) (v : Val) : (d.put o v).tm = d.tm := rfl
@[simp] theorem Dev.put_ev (d : Dev) (o : Nat) (v : Val) : (d.put o v).ev = d.ev := rfl
@[simp] theorem Dev.put_pw (d : Dev) (o : Nat) (v : Val) : (d.put o v).pw = d.pw := rfl
@[simp] theorem Dev.put_tw (d : Dev) (o : Nat) (v : Val) : (d.put o v).tw = d.tw := rfl
@[simp] theorem Dev.put_rings (d : Dev) (o : Nat) (v : Val) : (d.put o v).rings = d.rings := rfl
@[simp] theorem Dev.put_ports (d : Dev) (o : Nat) (v : Val) : (d.put o v).ports = d.ports := rfl
@[simp] theorem Dev.put_lflags (d : Dev) (o : Nat) (v : Val) : (d.put o v).lflags = d.lflags := rfl
@[simp] theorem Dev.put_rf (d : Dev) (o : Nat) (v : Val) : (d.put o v).rf = d.rf := rfl
@[simp] theorem Dev.put_lens (d : Dev) (o : Nat) (v : Val) : (d.put o v).lens = d.lens := rfl
@[simp] theorem Dev.put_cx (d : Dev) (o : Nat) (v : Val) : (d.put o v).cx = d.cx := rfl
@[simp] theorem Dev.put_wt (d : Dev) (o : Nat) (v : Val) : (d.put o v).wt = d.wt := rfl
@[simp] theorem Dev.put_cal (d : Dev) (o : Nat) (v : Val) : (d.put o v).cal = d.cal := rfl
@[simp] theorem Dev.put_sd (d : Dev) (o : Nat) (v : Val) : (d.put o v).sd = d.sd := rfl
@[simp] theorem Dev.put_ll (d : Dev) (o : Nat) (v : Val) : (d.put o v).ll = d.ll := rfl
@[simp] theorem Dev.put_mf (d : Dev) (o : Nat) (v : Val) : (d.put o v).mf = d.mf := rfl
@[simp] theorem Dev.put_bl (d : Dev) (o : Nat) (v : Val) : (d.put o v).bl = d.bl := rfl
@[simp] theorem Dev.put_sec (d : Dev) (o : Nat) (v : Val) : (d.put o v).sec = d.sec := rfl
@[simp] theorem Dev.put_au (d : Dev) (o : Nat) (v : Val) : (d.put o v).au = d.au := rfl
@[simp] theorem Dev.put_kp (d : Dev) (o : Nat) (v : Val) : (d.put o v).kp = d.kp := rfl
@[simp] theorem Dev.put_flash (d : Dev) (o : Nat) (v : Val) : (d.put o v).flash = d.flash := rfl
@[simp] theorem Dev.setN_now (d : Dev) (o : Nat) (n : Int) : (d.setN o n).now = d.now := rfl
@[simp] theorem Dev.setN_mono (d : Dev) (o : Nat) (n : Int) : (d.setN o n).mono = d.mono := rfl
@[simp] theorem Dev.setN_free (d : Dev) (o : Nat) (n : Int) : (d.setN o n).free = d.free := rfl
@[simp] theorem Dev.setN_ticks (d : Dev) (o : Nat) (n : Int) : (d.setN o n).ticks = d.ticks := rfl
@[simp] theorem Dev.setN_udef (d : Dev) (o : Nat) (n : Int) : (d.setN o n).udef = d.udef := rfl
@[simp] theorem Dev.setN_log (d : Dev) (o : Nat) (n : Int) : (d.setN o n).log = d.log := rfl
@[simp] theorem Dev.setN_store (d : Dev) (o : Nat) (n : Int) : (d.setN o n).store = d.store := rfl
@[simp] theorem Dev.setN_nvm (d : Dev) (o : Nat) (n : Int) : (d.setN o n).nvm = d.nvm := rfl
@[simp] theorem Dev.setN_host (d : Dev) (o : Nat) (n : Int) : (d.setN o n).host = d.host := rfl
@[simp] theorem Dev.setN_tm (d : Dev) (o : Nat) (n : Int) : (d.setN o n).tm = d.tm := rfl
@[simp] theorem Dev.setN_ev (d : Dev) (o : Nat) (n : Int) : (d.setN o n).ev = d.ev := rfl
@[simp] theorem Dev.setN_pw (d : Dev) (o : Nat) (n : Int) : (d.setN o n).pw = d.pw := rfl
@[simp] theorem Dev.setN_tw (d : Dev) (o : Nat) (n : Int) : (d.setN o n).tw = d.tw := rfl
@[simp] theorem Dev.setN_rings (d : Dev) (o : Nat) (n : Int) : (d.setN o n).rings = d.rings := rfl
@[simp] theorem Dev.setN_ports (d : Dev) (o : Nat) (n : Int) : (d.setN o n).ports = d.ports := rfl
@[simp] theorem Dev.setN_lflags (d : Dev) (o : Nat) (n : Int) : (d.setN o n).lflags = d.lflags := rfl
@[simp] theorem Dev.setN_rf (d : Dev) (o : Nat) (n : Int) : (d.setN o n).rf = d.rf := rfl
@[simp] theorem Dev.setN_lens (d : Dev) (o : Nat) (n : Int) : (d.setN o n).lens = d.lens := rfl
@[simp] theorem Dev.setN_cx (d : Dev) (o : Nat) (n : Int) : (d.setN o n).cx = d.cx := rfl
@[simp] theorem Dev.setN_wt (d : Dev) (o : Nat) (n : Int) : (d.setN o n).wt = d.wt := rfl
@[simp] theorem Dev.setN_cal (d : Dev) (o : Nat) (n : Int) : (d.setN o n).cal = d.cal := rfl
@[simp] theorem Dev.setN_sd (d : Dev) (o : Nat) (n : Int) : (d.setN o n).sd = d.sd := rfl
@[simp] theorem Dev.setN_ll (d : Dev) (o : Nat) (n : Int) : (d.setN o n).ll = d.ll := rfl
@[simp] theorem Dev.setN_mf (d : Dev) (o : Nat) (n : Int) : (d.setN o n).mf = d.mf := rfl
@[simp] theorem Dev.setN_bl (d : Dev) (o : Nat) (n : Int) : (d.setN o n).bl = d.bl := rfl
@[simp] theorem Dev.setN_sec (d : Dev) (o : Nat) (n : Int) : (d.setN o n).sec = d.sec := rfl
@[simp] theorem Dev.setN_au (d : Dev) (o : Nat) (n : Int) : (d.setN o n).au = d.au := rfl
@[simp] theorem Dev.setN_kp (d : Dev) (o : Nat) (n : Int) : (d.setN o n).kp = d.kp := rfl
@[simp] theorem Dev.setN_flash (d : Dev) (o : Nat) (n : Int) : (d.setN o n).flash = d.flash := rfl
@[simp] theorem Dev.setB_now (d : Dev) (o : Nat) (b : Bool) : (d.setB o b).now = d.now := rfl
@[simp] theorem Dev.setB_mono (d : Dev) (o : Nat) (b : Bool) : (d.setB o b).mono = d.mono := rfl
@[simp] theorem Dev.setB_free (d : Dev) (o : Nat) (b : Bool) : (d.setB o b).free = d.free := rfl
@[simp] theorem Dev.setB_ticks (d : Dev) (o : Nat) (b : Bool) : (d.setB o b).ticks = d.ticks := rfl
@[simp] theorem Dev.setB_udef (d : Dev) (o : Nat) (b : Bool) : (d.setB o b).udef = d.udef := rfl
@[simp] theorem Dev.setB_log (d : Dev) (o : Nat) (b : Bool) : (d.setB o b).log = d.log := rfl
@[simp] theorem Dev.setB_store (d : Dev) (o : Nat) (b : Bool) : (d.setB o b).store = d.store := rfl
@[simp] theorem Dev.setB_nvm (d : Dev) (o : Nat) (b : Bool) : (d.setB o b).nvm = d.nvm := rfl
@[simp] theorem Dev.setB_host (d : Dev) (o : Nat) (b : Bool) : (d.setB o b).host = d.host := rfl
@[simp] theorem Dev.setB_tm (d : Dev) (o : Nat) (b : Bool) : (d.setB o b).tm = d.tm := rfl
@[simp] theorem Dev.setB_ev (d : Dev) (o : Nat) (b : Bool) : (d.setB o b).ev = d.ev := rfl
@[simp] theorem Dev.setB_pw (d : Dev) (o : Nat) (b : Bool) : (d.setB o b).pw = d.pw := rfl
@[simp] theorem Dev.setB_tw (d : Dev) (o : Nat) (b : Bool) : (d.setB o b).tw = d.tw := rfl
@[simp] theorem Dev.setB_rings (d : Dev) (o : Nat) (b : Bool) : (d.setB o b).rings = d.rings := rfl
@[simp] theorem Dev.setB_ports (d : Dev) (o : Nat) (b : Bool) : (d.setB o b).ports = d.ports := rfl
@[simp] theorem Dev.setB_lflags (d : Dev) (o : Nat) (b : Bool) : (d.setB o b).lflags = d.lflags := rfl
@[simp] theorem Dev.setB_rf (d : Dev) (o : Nat) (b : Bool) : (d.setB o b).rf = d.rf := rfl
@[simp] theorem Dev.setB_lens (d : Dev) (o : Nat) (b : Bool) : (d.setB o b).lens = d.lens := rfl
@[simp] theorem Dev.setB_cx (d : Dev) (o : Nat) (b : Bool) : (d.setB o b).cx = d.cx := rfl
@[simp] theorem Dev.setB_wt (d : Dev) (o : Nat) (b : Bool) : (d.setB o b).wt = d.wt := rfl
@[simp] theorem Dev.setB_cal (d : Dev) (o : Nat) (b : Bool) : (d.setB o b).cal = d.cal := rfl
@[simp] theorem Dev.setB_sd (d : Dev) (o : Nat) (b : Bool) : (d.setB o b).sd = d.sd := rfl
@[simp] theorem Dev.setB_ll (d : Dev) (o : Nat) (b : Bool) : (d.setB o b).ll = d.ll := rfl
@[simp] theorem Dev.setB_mf (d : Dev) (o : Nat) (b : Bool) : (d.setB o b).mf = d.mf := rfl
@[simp] theorem Dev.setB_bl (d : Dev) (o : Nat) (b : Bool) : (d.setB o b).bl = d.bl := rfl
@[simp] theorem Dev.setB_sec (d : Dev) (o : Nat) (b : Bool) : (d.setB o b).sec = d.sec := rfl
@[simp] theorem Dev.setB_au (d : Dev) (o : Nat) (b : Bool) : (d.setB o b).au = d.au := rfl
@[simp] theorem Dev.setB_kp (d : Dev) (o : Nat) (b : Bool) : (d.setB o b).kp = d.kp := rfl
@[simp] theorem Dev.setB_flash (d : Dev) (o : Nat) (b : Bool) : (d.setB o b).flash = d.flash := rfl
@[simp] theorem Dev.setRaw_now (d : Dev) (o : Nat) (b : List Byte) : (d.setRaw o b).now = d.now := rfl
@[simp] theorem Dev.setRaw_mono (d : Dev) (o : Nat) (b : List Byte) : (d.setRaw o b).mono = d.mono := rfl
@[simp] theorem Dev.setRaw_free (d : Dev) (o : Nat) (b : List Byte) : (d.setRaw o b).free = d.free := rfl
@[simp] theorem Dev.setRaw_ticks (d : Dev) (o : Nat) (b : List Byte) : (d.setRaw o b).ticks = d.ticks := rfl
@[simp] theorem Dev.setRaw_udef (d : Dev) (o : Nat) (b : List Byte) : (d.setRaw o b).udef = d.udef := rfl
@[simp] theorem Dev.setRaw_log (d : Dev) (o : Nat) (b : List Byte) : (d.setRaw o b).log = d.log := rfl
@[simp] theorem Dev.setRaw_store (d : Dev) (o : Nat) (b : List Byte) : (d.setRaw o b).store = d.store := rfl
@[simp] theorem Dev.setRaw_nvm (d : Dev) (o : Nat) (b : List Byte) : (d.setRaw o b).nvm = d.nvm := rfl
@[simp] theorem Dev.setRaw_host (d : Dev) (o : Nat) (b : List Byte) : (d.setRaw o b).host = d.host := rfl
@[simp] theorem Dev.setRaw_tm (d : Dev) (o : Nat) (b : List Byte) : (d.setRaw o b).tm = d.tm := rfl
@[simp] theorem Dev.setRaw_ev (d : Dev) (o : Nat) (b : List Byte) : (d.setRaw o b).ev = d.ev := rfl
@[simp] theorem Dev.setRaw_pw (d : Dev) (o : Nat) (b : List Byte) : (d.setRaw o b).pw = d.pw := rfl
@[simp] theorem Dev.setRaw_tw (d : Dev) (o : Nat) (b : List Byte) : (d.setRaw o b).tw = d.tw := rfl
@[simp] theorem Dev.setRaw_rings (d : Dev) (o : Nat) (b : List Byte) : (d.setRaw o b).rings = d.rings := rfl
@[simp] theorem Dev.setRaw_ports (d : Dev) (o : Nat) (b : List Byte) : (d.setRaw o b).ports = d.ports := rfl
@[simp] theorem Dev.setRaw_lflags (d : Dev) (o : Nat) (b : List Byte) : (d.setRaw o b).lflags = d.lflags := rfl
@[simp] theorem Dev.setRaw_rf (d : Dev) (o : Nat) (b : List Byte) : (d.setRaw o b).rf = d.rf := rfl
@[simp] theorem Dev.setRaw_lens (d : Dev) (o : Nat) (b : List Byte) : (d.setRaw o b).lens = d.lens := rfl
@[simp] theorem Dev.setRaw_cx (d : Dev) (o : Nat) (b : List Byte) : (d.setRaw o b).cx = d.cx := rfl
@[simp] theorem Dev.setRaw_wt (d : Dev) (o : Nat) (b : List Byte) : (d.setRaw o b).wt = d.wt := rfl
@[simp] theorem Dev.setRaw_cal (d : Dev) (o : Nat) (b : List Byte) : (d.setRaw o b).cal = d.cal := rfl
@[simp] theorem Dev.setRaw_sd (d : Dev) (o : Nat) (b : List Byte) : (d.setRaw o b).sd = d.sd := rfl
@[simp] theorem Dev.setRaw_ll (d : Dev) (o : Nat) (b : List Byte) : (d.setRaw o b).ll = d.ll := rfl
@[simp] theorem Dev.setRaw_mf (d : Dev) (o : Nat) (b : List Byte) : (d.setRaw o b).mf = d.mf := rfl
@[simp] theorem Dev.setRaw_bl (d : Dev) (o : Nat) (b : List Byte) : (d.setRaw o b).bl = d.bl := rfl
@[simp] theorem Dev.setRaw_sec (d : Dev) (o : Nat) (b : List Byte) : (d.setRaw o b).sec = d.sec := rfl
@[simp] theorem Dev.setRaw_au (d : Dev) (o : Nat) (b : List Byte) : (d.setRaw o b).au = d.au := rfl
@[simp] theorem Dev.setRaw_kp (d : Dev) (o : Nat) (b : List Byte) : (d.setRaw o b).kp = d.kp := rfl
@[simp] theorem Dev.setRaw_flash (d : Dev) (o : Nat) (b : List Byte) : (d.setRaw o b).flash = d.flash := rfl
@[simp] theorem Dev.count_now (d : Dev) (w o k : Nat) : (d.count w o k).now = d.now := rfl
@[simp] theorem Dev.count_mono (d : Dev) (w o k : Nat) : (d.count w o k).mono = d.mono := rfl
@[simp] theorem Dev.count_free (d : Dev) (w o k : Nat) : (d.count w o k).free = d.free := rfl
@[simp] theorem Dev.count_ticks (d : Dev) (w o k : Nat) : (d.count w o k).ticks = d.ticks := rfl
@[simp] theorem Dev.count_udef (d : Dev) (w o k : Nat) : (d.count w o k).udef = d.udef := rfl
@[simp] theorem Dev.count_log (d : Dev) (w o k : Nat) : (d.count w o k).log = d.log := rfl
@[simp] theorem Dev.count_store (d : Dev) (w o k : Nat) : (d.count w o k).store = d.store := rfl
@[simp] theorem Dev.count_nvm (d : Dev) (w o k : Nat) : (d.count w o k).nvm = d.nvm := rfl
@[simp] theorem Dev.count_host (d : Dev) (w o k : Nat) : (d.count w o k).host = d.host := rfl
@[simp] theorem Dev.count_tm (d : Dev) (w o k : Nat) : (d.count w o k).tm = d.tm := rfl
@[simp] theorem Dev.count_ev (d : Dev) (w o k : Nat) : (d.count w o k).ev = d.ev := rfl
@[simp] theorem Dev.count_pw (d : Dev) (w o k : Nat) : (d.count w o k).pw = d.pw := rfl
@[simp] theorem Dev.count_tw (d : Dev) (w o k : Nat) : (d.count w o k).tw = d.tw := rfl
@[simp] theorem Dev.count_rings (d : Dev) (w o k : Nat) : (d.count w o k).rings = d.rings := rfl
@[simp] theorem Dev.count_ports (d : Dev) (w o k : Nat) : (d.count w o k).ports = d.ports := rfl
@[simp] theorem Dev.count_lflags (d : Dev) (w o k : Nat) : (d.count w o k).lflags = d.lflags := rfl
@[simp] theorem Dev.count_rf (d : Dev) (w o k : Nat) : (d.count w o k).rf = d.rf := rfl
@[simp] theorem Dev.count_lens (d : Dev) (w o k : Nat) : (d.count w o k).lens = d.lens := rfl
@[simp] theorem Dev.count_cx (d : Dev) (w o k : Nat) : (d.count w o k).cx = d.cx := rfl
@[simp] theorem Dev.count_wt (d : Dev) (w o k : Nat) : (d.count w o k).wt = d.wt := rfl
@[simp] theorem Dev.count_cal (d : Dev) (w o k : Nat) : (d.count w o k).cal = d.cal := rfl
@[simp] theorem Dev.count_sd (d : Dev) (w o k : Nat) : (d.count w o k).sd = d.sd := rfl
@[simp] theorem Dev.count_ll (d : Dev) (w o k : Nat) : (d.count w o k).ll = d.ll := rfl
@[simp] theorem Dev.count_mf (d : Dev) (w o k : Nat) : (d.count w o k).mf = d.mf := rfl
@[simp] theorem Dev.count_bl (d : Dev) (w o k : Nat) : (d.count w o k).bl = d.bl := rfl
@[simp] theorem Dev.count_sec (d : Dev) (w o k : Nat) : (d.count w o k).sec = d.sec := rfl
@[simp] theorem Dev.count_au (d : Dev) (w o k : Nat) : (d.count w o k).au = d.au := rfl
@[simp] theorem Dev.count_kp (d : Dev) (w o k : Nat) : (d.count w o k).kp = d.kp := rfl
@[simp] theorem Dev.count_flash (d : Dev) (w o k : Nat) : (d.count w o k).flash = d.flash := rfl
@[simp] theorem Dev.inc_now (d : Dev) (o : Nat) : (d.inc o).now = d.now := rfl
@[simp] theorem Dev.inc_mono (d : Dev) (o : Nat) : (d.inc o).mono = d.mono := rfl
@[simp] theorem Dev.inc_free (d : Dev) (o : Nat) : (d.inc o).free = d.free := rfl
@[simp] theorem Dev.inc_ticks (d : Dev) (o : Nat) : (d.inc o).ticks = d.ticks := rfl
@[simp] theorem Dev.inc_udef (d : Dev) (o : Nat) : (d.inc o).udef = d.udef := rfl
@[simp] theorem Dev.inc_log (d : Dev) (o : Nat) : (d.inc o).log = d.log := rfl
@[simp] theorem Dev.inc_store (d : Dev) (o : Nat) : (d.inc o).store = d.store := rfl
@[simp] theorem Dev.inc_nvm (d : Dev) (o : Nat) : (d.inc o).nvm = d.nvm := rfl
@[simp] theorem Dev.inc_host (d : Dev) (o : Nat) : (d.inc o).host = d.host := rfl
@[simp] theorem Dev.inc_tm (d : Dev) (o : Nat) : (d.inc o).tm = d.tm := rfl
@[simp] theorem Dev.inc_ev (d : Dev) (o : Nat) : (d.inc o).ev = d.ev := rfl
@[simp] theorem Dev.inc_pw (d : Dev) (o : Nat) : (d.inc o).pw = d.pw := rfl
@[simp] theorem Dev.inc_tw (d : Dev) (o : Nat) : (d.inc o).tw = d.tw := rfl
@[simp] theorem Dev.inc_rings (d : Dev) (o : Nat) : (d.inc o).rings = d.rings := rfl
@[simp] theorem Dev.inc_ports (d : Dev) (o : Nat) : (d.inc o).ports = d.ports := rfl
@[simp] theorem Dev.inc_lflags (d : Dev) (o : Nat) : (d.inc o).lflags = d.lflags := rfl
@[simp] theorem Dev.inc_rf (d : Dev) (o : Nat) : (d.inc o).rf = d.rf := rfl
@[simp] theorem Dev.inc_lens (d : Dev) (o : Nat) : (d.inc o).lens = d.lens := rfl
@[simp] theorem Dev.inc_cx (d : Dev) (o : Nat) : (d.inc o).cx = d.cx := rfl
@[simp] theorem Dev.inc_wt (d : Dev) (o : Nat) : (d.inc o).wt = d.wt := rfl
@[simp] theorem Dev.inc_cal (d : Dev) (o : Nat) : (d.inc o).cal = d.cal := rfl
@[simp] theorem Dev.inc_sd (d : Dev) (o : Nat) : (d.inc o).sd = d.sd := rfl
@[simp] theorem Dev.inc_ll (d : Dev) (o : Nat) : (d.inc o).ll = d.ll := rfl
@[simp] theorem Dev.inc_mf (d : Dev) (o : Nat) : (d.inc o).mf = d.mf := rfl
@[simp] theorem Dev.inc_bl (d : Dev) (o : Nat) : (d.inc o).bl = d.bl := rfl
@[simp] theorem Dev.inc_sec (d : Dev) (o : Nat) : (d.inc o).sec = d.sec := rfl
@[simp] theorem Dev.inc_au (d : Dev) (o : Nat) : (d.inc o).au = d.au := rfl
@[simp] theorem Dev.inc_kp (d : Dev) (o : Nat) : (d.inc o).kp = d.kp := rfl
@[simp] theorem Dev.inc_flash (d : Dev) (o : Nat) : (d.inc o).flash = d.flash := rfl
@[simp] theorem Dev.clockTo_free (d : Dev) (m : Nat) : (d.clockTo m).free = d.free := by unfold Dev.clockTo; split <;> rfl
@[simp] theorem Dev.clockTo_ticks (d : Dev) (m : Nat) : (d.clockTo m).ticks = d.ticks := by unfold Dev.clockTo; split <;> rfl
@[simp] theorem Dev.clockTo_udef (d : Dev) (m : Nat) : (d.clockTo m).udef = d.udef := by unfold Dev.clockTo; split <;> rfl
@[simp] theorem Dev.clockTo_log (d : Dev) (m : Nat) : (d.clockTo m).log = d.log := by unfold Dev.clockTo; split <;> rfl
@[simp] theorem Dev.clockTo_store (d : Dev) (m : Nat) : (d.clockTo m).store = d.store := by unfold Dev.clockTo; split <;> rfl
@[simp] theorem Dev.clockTo_nvm (d : Dev) (m : Nat) : (d.clockTo m).nvm = d.nvm := by unfold Dev.clockTo; split <;> rfl
@[simp] theorem Dev.clockTo_host (d : Dev) (m : Nat) : (d.clockTo m).host = d.host := by unfold Dev.clockTo; split <;> rfl
@[simp] theorem Dev.clockTo_tm (d : Dev) (m : Nat) : (d.clockTo m).tm = d.tm := by unfold Dev.clockTo; split <;> rfl
@[simp] theorem Dev.clockTo_ev (d : Dev) (m : Nat) : (d.clockTo m).ev = d.ev := by unfold Dev.clockTo; split <;> rfl
@[simp] theorem Dev.clockTo_pw (d : Dev) (m : Nat) : (d.clockTo m).pw = d.pw := by unfold Dev.clockTo; split <;> rfl
@[simp] theorem Dev.clockTo_tw (d : Dev) (m : Nat) : (d.clockTo m).tw = d.tw := by unfold Dev.clockTo; split <;> rfl
@[simp] theorem Dev.clockTo_rings (d : Dev) (m : Nat) : (d.clockTo m).rings = d.rings := by unfold Dev.clockTo; split <;> rfl
@[simp] theorem Dev.clockTo_ports (d : Dev) (m : Nat) : (d.clockTo m).ports = d.ports := by unfold Dev.clockTo; split <;> rfl
@[simp] theorem Dev.clockTo_lflags (d : Dev) (m : Nat) : (d.clockTo m).lflags = d.lflags := by unfold Dev.clockTo; split <;> rfl
@[simp] theorem Dev.clockTo_rf (d : Dev) (m : Nat) : (d.clockTo m).rf = d.rf := by unfold Dev.clockTo; split <;> rfl
@[simp] theorem Dev.clockTo_lens (d : Dev) (m : Nat) : (d.clockTo m).lens = d.lens := by unfold Dev.clockTo; split <;> rfl
@[simp] theorem Dev.clockTo_cx (d : Dev) (m : Nat) : (d.clockTo m).cx = d.cx := by unfold Dev.clockTo; split <;> rfl
@[simp] theorem Dev.clockTo_wt (d : Dev) (m : Nat) : (d.clockTo m).wt = d.wt := by unfold Dev.clockTo; split <;> rfl
@[simp] theorem Dev.clockTo_cal (d : Dev) (m : Nat) : (d.clockTo m).cal = d.cal := by unfold Dev.clockTo; split <;> rfl
@[simp] theorem Dev.clockTo_sd (d : Dev) (m : Nat) : (d.clockTo m).sd = d.sd := by unfold Dev.clockTo; split <;> rfl
@[simp] theorem Dev.clockTo_ll (d : Dev) (m : Nat) : (d.clockTo m).ll = d.ll := by unfold Dev.clockTo; split <;> rfl
@[simp] theorem Dev.clockTo_mf (d : Dev) (m : Nat) : (d.clockTo m).mf = d.mf := by unfold Dev.clockTo; split <;> rfl
@[simp] theorem Dev.clockTo_bl (d : Dev) (m : Nat) : (d.clockTo m).bl = d.bl := by unfold Dev.clockTo; split <;> rfl
@[simp] theorem Dev.clockTo_sec (d : Dev) (m : Nat) : (d.clockTo m).sec = d.sec := by unfold Dev.clockTo; split <;> rfl
@[simp] theorem Dev.clockTo_au (d : Dev) (m : Nat) : (d.clockTo m).au = d.au := by unfold Dev.clockTo; split <;> rfl
@[simp] theorem Dev.clockTo_kp (d : Dev) (m : Nat) : (d.clockTo m).kp = d.kp := by unfold Dev.clockTo; split <;> rfl
@[simp] theorem Dev.clockTo_flash (d : Dev) (m : Nat) : (d.clockTo m).flash = d.flash := by unfold Dev.clockTo; split <;> rfl
@[simp] theorem Dev.clockTo_get (d : Dev) (m o : Nat) : (d.clockTo m).get o = d.get o := by unfold Dev.clockTo; split <;> rfl
@[simp] theorem Dev.clockTo_num (d : Dev) (m o : Nat) : (d.clockTo m).num o = d.num o := by simp only [Dev.num, Dev.clockTo_get]
@[simp] theorem Dev.clockTo_nat (d : Dev) (m o : Nat) : (d.clockTo m).nat o = d.nat o := by simp only [Dev.nat, Dev.clockTo_num]
@[simp] theorem Dev.clockTo_flag (d : Dev) (m o : Nat) : (d.clockTo m).flag o = d.flag o := by simp only [Dev.flag, Dev.clockTo_num]
theorem Dev.clockTo_mono_max (d : Dev) (m : Nat) : (d.clockTo m).mono = max d.mono m := by
  unfold Dev.clockTo
  split
  · omega
  · show m = max d.mono m
    omega

/-! ### Frames -/

theorem Part.same_refl (d : Dev) (p : Part) : p.same d d := by cases p <;> simp [Part.same]

theorem Part.same_trans {a b c : Dev} {p : Part} (h : p.same a b) (k : p.same b c) : p.same a c := by
  cases p <;> simp only [Part.same] at h k ⊢ <;> first
    | exact k.trans h
    | exact ⟨k.1.trans h.1, k.2.trans h.2⟩
    | exact ⟨k.1.trans h.1, h.2.1.trans k.2.1, h.2.2.trans k.2.2⟩
    | exact fun q => (k q).trans (h q)

variable {d x y : Dev} {ps : List Part} {os : Nat → Prop} {es : List Nat}

theorem Frame.refl (d : Dev) (ps : List Part) (os : Nat → Prop) (es : List Nat) : Frame d d ps os es :=
  ⟨fun p _ => Part.same_refl d p, fun _ _ _ _ => rfl, fun _ _ _ _ => rfl⟩

theorem Frame.trans (h : Frame d x ps os es) (k : Frame x y ps os es) : Frame d y ps os es :=
  ⟨fun p hp => Part.same_trans (h.parts p hp) (k.parts p hp), fun o q n v => (k.objs o q n v).trans (h.objs o q n v),
   fun v l a b => (k.latches v l a b).trans (h.latches v l a b)⟩

theorem Frame.weaken {ps' : List Part} {os' : Nat → Prop} {es' : List Nat} (h : Frame d x ps os es) (hp : ∀ p ∈ ps, p ∈ ps') (ho : ∀ o, os o → os' o)
    (he : ∀ v ∈ es, v ∈ es') : Frame d x ps' os' es' :=
  ⟨fun p n => h.parts p (fun m => n (hp p m)), fun o q n v => h.objs o q (fun m => n (ho o m)) (fun w m => v w (he w m)),
   fun v l a b => h.latches v l (fun m => a (he v m)) b⟩

/-- A frame stands if objects and latches do and every part outside it is untouched. -/
theorem Frame.of_parts (ho : ∀ o, y.get o = x.get o) (hp : ∀ p, p ∉ ps → p.same x y) : Frame x y ps os es :=
  ⟨hp, fun o _ _ _ => ho o, fun v _ _ _ => by simp only [Dev.latched, Dev.nat, Dev.num, ho]⟩

theorem Frame.set_clock (h : Frame d x ps os es) (hp : Part.time ∈ ps) (a b : Nat) : Frame d { x with now := a, mono := b } ps os es :=
  h.trans (Frame.of_parts (fun _ => rfl) (fun p n => by cases p <;> first | exact absurd hp n | exact rfl | exact ⟨rfl, rfl⟩ | exact ⟨rfl, List.prefix_refl _, List.prefix_refl _⟩ | exact fun _ => rfl))
theorem Frame.set_free (h : Frame d x ps os es) (a : Nat) : Frame d { x with free := a } ps os es :=
  h.trans (Frame.of_parts (fun _ => rfl) (fun p _ => by cases p <;> first | exact rfl | exact ⟨rfl, rfl⟩ | exact ⟨rfl, List.prefix_refl _, List.prefix_refl _⟩ | exact fun _ => rfl))
theorem Frame.set_ticks (h : Frame d x ps os es) (hp : Part.ticks ∈ ps) (a : List (Nat × Nat)) : Frame d { x with ticks := a } ps os es :=
  h.trans (Frame.of_parts (fun _ => rfl) (fun p n => by cases p <;> first | exact absurd hp n | exact rfl | exact ⟨rfl, rfl⟩ | exact ⟨rfl, List.prefix_refl _, List.prefix_refl _⟩ | exact fun _ => rfl))
theorem Frame.set_udef (h : Frame d x ps os es) (hp : Part.udef ∈ ps) (a : List (Nat × Val)) : Frame d { x with udef := a } ps os es :=
  h.trans (Frame.of_parts (fun _ => rfl) (fun p n => by cases p <;> first | exact absurd hp n | exact rfl | exact ⟨rfl, rfl⟩ | exact ⟨rfl, List.prefix_refl _, List.prefix_refl _⟩ | exact fun _ => rfl))
theorem Frame.set_log (h : Frame d x ps os es) (hp : Part.log ∈ ps) (a : LogState) : Frame d { x with log := a } ps os es :=
  h.trans (Frame.of_parts (fun _ => rfl) (fun p n => by cases p <;> first | exact absurd hp n | exact rfl | exact ⟨rfl, rfl⟩ | exact ⟨rfl, List.prefix_refl _, List.prefix_refl _⟩ | exact fun _ => rfl))
theorem Frame.set_store (h : Frame d x ps os es) (hp : Part.store ∈ ps) (a : StoreState) : Frame d { x with store := a } ps os es :=
  h.trans (Frame.of_parts (fun _ => rfl) (fun p n => by cases p <;> first | exact absurd hp n | exact rfl | exact ⟨rfl, rfl⟩ | exact ⟨rfl, List.prefix_refl _, List.prefix_refl _⟩ | exact fun _ => rfl))
theorem Frame.set_nvm (h : Frame d x ps os es) (hp : Part.nvm ∈ ps) (a : Nvm) : Frame d { x with nvm := a } ps os es :=
  h.trans (Frame.of_parts (fun _ => rfl) (fun p n => by cases p <;> first | exact absurd hp n | exact rfl | exact ⟨rfl, rfl⟩ | exact ⟨rfl, List.prefix_refl _, List.prefix_refl _⟩ | exact fun _ => rfl))
theorem Frame.set_host (h : Frame d x ps os es) (hp : Part.host ∈ ps) (a : HostState) : Frame d { x with host := a } ps os es :=
  h.trans (Frame.of_parts (fun _ => rfl) (fun p n => by cases p <;> first | exact absurd hp n | exact rfl | exact ⟨rfl, rfl⟩ | exact ⟨rfl, List.prefix_refl _, List.prefix_refl _⟩ | exact fun _ => rfl))
theorem Frame.set_tm (h : Frame d x ps os es) (hp : Part.tm ∈ ps) (a : TimeState) : Frame d { x with tm := a } ps os es :=
  h.trans (Frame.of_parts (fun _ => rfl) (fun p n => by cases p <;> first | exact absurd hp n | exact rfl | exact ⟨rfl, rfl⟩ | exact ⟨rfl, List.prefix_refl _, List.prefix_refl _⟩ | exact fun _ => rfl))
theorem Frame.set_ev (h : Frame d x ps os es) (hp : Part.ev ∈ ps) (a : EvState) : Frame d { x with ev := a } ps os es :=
  h.trans (Frame.of_parts (fun _ => rfl) (fun p n => by cases p <;> first | exact absurd hp n | exact rfl | exact ⟨rfl, rfl⟩ | exact ⟨rfl, List.prefix_refl _, List.prefix_refl _⟩ | exact fun _ => rfl))
theorem Frame.set_pw (h : Frame d x ps os es) (hp : Part.pw ∈ ps) (a : PowerState) : Frame d { x with pw := a } ps os es :=
  h.trans (Frame.of_parts (fun _ => rfl) (fun p n => by cases p <;> first | exact absurd hp n | exact rfl | exact ⟨rfl, rfl⟩ | exact ⟨rfl, List.prefix_refl _, List.prefix_refl _⟩ | exact fun _ => rfl))
theorem Frame.set_tw (h : Frame d x ps os es) (hp : Part.tw ∈ ps) (a : List (Nat × TwPort)) : Frame d { x with tw := a } ps os es :=
  h.trans (Frame.of_parts (fun _ => rfl) (fun p n => by cases p <;> first | exact absurd hp n | exact rfl | exact ⟨rfl, rfl⟩ | exact ⟨rfl, List.prefix_refl _, List.prefix_refl _⟩ | exact fun _ => rfl))
theorem Frame.set_rings (h : Frame d x ps os es) (hp : Part.rings ∈ ps) (a : List (Nat × Ring)) : Frame d { x with rings := a } ps os es :=
  h.trans (Frame.of_parts (fun _ => rfl) (fun p n => by cases p <;> first | exact absurd hp n | exact rfl | exact ⟨rfl, rfl⟩ | exact ⟨rfl, List.prefix_refl _, List.prefix_refl _⟩ | exact fun _ => rfl))
theorem Frame.set_ports (h : Frame d x ps os es) (hp : Part.ports ∈ ps) (a : List (Nat × DictPort)) : Frame d { x with ports := a } ps os es :=
  h.trans (Frame.of_parts (fun _ => rfl) (fun p n => by cases p <;> first | exact absurd hp n | exact rfl | exact ⟨rfl, rfl⟩ | exact ⟨rfl, List.prefix_refl _, List.prefix_refl _⟩ | exact fun _ => rfl))
theorem Frame.set_lflags (h : Frame d x ps os es) (hp : Part.lflags ∈ ps) (a : List (Nat × Bool)) : Frame d { x with lflags := a } ps os es :=
  h.trans (Frame.of_parts (fun _ => rfl) (fun p n => by cases p <;> first | exact absurd hp n | exact rfl | exact ⟨rfl, rfl⟩ | exact ⟨rfl, List.prefix_refl _, List.prefix_refl _⟩ | exact fun _ => rfl))
theorem Frame.set_rf (h : Frame d x ps os es) (hp : Part.rf ∈ ps) (a : RfState) : Frame d { x with rf := a } ps os es :=
  h.trans (Frame.of_parts (fun _ => rfl) (fun p n => by cases p <;> first | exact absurd hp n | exact rfl | exact ⟨rfl, rfl⟩ | exact ⟨rfl, List.prefix_refl _, List.prefix_refl _⟩ | exact fun _ => rfl))
theorem Frame.set_lens (h : Frame d x ps os es) (hp : Part.lens ∈ ps) (a : LensState) : Frame d { x with lens := a } ps os es :=
  h.trans (Frame.of_parts (fun _ => rfl) (fun p n => by cases p <;> first | exact absurd hp n | exact rfl | exact ⟨rfl, rfl⟩ | exact ⟨rfl, List.prefix_refl _, List.prefix_refl _⟩ | exact fun _ => rfl))
theorem Frame.set_cx (h : Frame d x ps os es) (hp : Part.cx ∈ ps) (a : CxState) : Frame d { x with cx := a } ps os es :=
  h.trans (Frame.of_parts (fun _ => rfl) (fun p n => by cases p <;> first | exact absurd hp n | exact rfl | exact ⟨rfl, rfl⟩ | exact ⟨rfl, List.prefix_refl _, List.prefix_refl _⟩ | exact fun _ => rfl))
theorem Frame.set_wt (h : Frame d x ps os es) (hp : Part.wt ∈ ps) (a : WatchState) : Frame d { x with wt := a } ps os es :=
  h.trans (Frame.of_parts (fun _ => rfl) (fun p n => by cases p <;> first | exact absurd hp n | exact rfl | exact ⟨rfl, rfl⟩ | exact ⟨rfl, List.prefix_refl _, List.prefix_refl _⟩ | exact fun _ => rfl))
theorem Frame.set_cal (h : Frame d x ps os es) (hp : Part.cal ∈ ps) (a : CalState) : Frame d { x with cal := a } ps os es :=
  h.trans (Frame.of_parts (fun _ => rfl) (fun p n => by cases p <;> first | exact absurd hp n | exact rfl | exact ⟨rfl, rfl⟩ | exact ⟨rfl, List.prefix_refl _, List.prefix_refl _⟩ | exact fun _ => rfl))
theorem Frame.set_sd (h : Frame d x ps os es) (hp : Part.sd ∈ ps) (a : SdState) : Frame d { x with sd := a } ps os es :=
  h.trans (Frame.of_parts (fun _ => rfl) (fun p n => by cases p <;> first | exact absurd hp n | exact rfl | exact ⟨rfl, rfl⟩ | exact ⟨rfl, List.prefix_refl _, List.prefix_refl _⟩ | exact fun _ => rfl))
theorem Frame.set_ll (h : Frame d x ps os es) (hp : Part.ll ∈ ps) (a : LlState) : Frame d { x with ll := a } ps os es :=
  h.trans (Frame.of_parts (fun _ => rfl) (fun p n => by cases p <;> first | exact absurd hp n | exact rfl | exact ⟨rfl, rfl⟩ | exact ⟨rfl, List.prefix_refl _, List.prefix_refl _⟩ | exact fun _ => rfl))
theorem Frame.set_mf (h : Frame d x ps os es) (hp : Part.mf ∈ ps) (a : MfState) : Frame d { x with mf := a } ps os es :=
  h.trans (Frame.of_parts (fun _ => rfl) (fun p n => by cases p <;> first | exact absurd hp n | exact rfl | exact ⟨rfl, rfl⟩ | exact ⟨rfl, List.prefix_refl _, List.prefix_refl _⟩ | exact fun _ => rfl))
theorem Frame.set_bl (h : Frame d x ps os es) (hp : Part.bl ∈ ps) (a : BlState) : Frame d { x with bl := a } ps os es :=
  h.trans (Frame.of_parts (fun _ => rfl) (fun p n => by cases p <;> first | exact absurd hp n | exact rfl | exact ⟨rfl, rfl⟩ | exact ⟨rfl, List.prefix_refl _, List.prefix_refl _⟩ | exact fun _ => rfl))
theorem Frame.set_sec (h : Frame d x ps os es) (hp : Part.sec ∈ ps) (a : SecState) : Frame d { x with sec := a } ps os es :=
  h.trans (Frame.of_parts (fun _ => rfl) (fun p n => by cases p <;> first | exact absurd hp n | exact rfl | exact ⟨rfl, rfl⟩ | exact ⟨rfl, List.prefix_refl _, List.prefix_refl _⟩ | exact fun _ => rfl))
theorem Frame.set_au (h : Frame d x ps os es) (hp : Part.au ∈ ps) (a : AuState) : Frame d { x with au := a } ps os es :=
  h.trans (Frame.of_parts (fun _ => rfl) (fun p n => by cases p <;> first | exact absurd hp n | exact rfl | exact ⟨rfl, rfl⟩ | exact ⟨rfl, List.prefix_refl _, List.prefix_refl _⟩ | exact fun _ => rfl))
theorem Frame.set_kp (h : Frame d x ps os es) (hp : Part.kp ∈ ps) (a : KpState) : Frame d { x with kp := a } ps os es :=
  h.trans (Frame.of_parts (fun _ => rfl) (fun p n => by cases p <;> first | exact absurd hp n | exact rfl | exact ⟨rfl, rfl⟩ | exact ⟨rfl, List.prefix_refl _, List.prefix_refl _⟩ | exact fun _ => rfl))
theorem Frame.set_flash (h : Frame d x ps os es) (hp : Part.flash ∈ ps) (a : List (Nat × Byte)) : Frame d { x with flash := a } ps os es :=
  h.trans (Frame.of_parts (fun _ => rfl) (fun p n => by cases p <;> first | exact absurd hp n | exact rfl | exact ⟨rfl, rfl⟩ | exact ⟨rfl, List.prefix_refl _, List.prefix_refl _⟩ | exact fun _ => rfl))

end Sys2Proof.Machine
end

