-- ==== Sys2Proof/Laws/Frame.lean ====
section
/-! SUPPORT. What each shared operation can do, said once: a frame that holds before the operation holds after it. -/

namespace Sys2Proof.Machine

variable {d x y : Dev} {ps : List Part} {os : Nat → Prop} {es : List Nat}

/-- What holds of both branches holds of the choice. -/
theorem ite_both {α : Sort _} {P : α → Prop} {c : Prop} [Decidable c] {a b : α} (ha : P a) (hb : P b) : P (if c then a else b) := by
  split
  · exact ha
  · exact hb

/-- An object that a frame with `os` and `es` lets change: named, derived or of an event, and no latch word. -/
def frees (os : Nat → Prop) (es : List Nat) (o : Nat) : Prop :=
  (os o ∨ quiet o = false ∨ ∃ v ∈ es, o ∈ eventObjs v) ∧ o ≠ O.evEvLatched 0 ∧ o ≠ O.evEvLatched 1

theorem frees_of_mem {o : Nat} (h : os o) (a : O.area o ≠ 4) : frees os es o := by
  refine ⟨.inl h, ?_, ?_⟩ <;> rintro rfl <;> exact a (by decide)

theorem frees_of_noisy {o : Nat} (h : quiet o = false) (a : O.area o ≠ 4) : frees os es o := by
  refine ⟨.inr (.inl h), ?_, ?_⟩ <;> rintro rfl <;> exact a (by decide)

theorem Dev.latched_congr {v : Nat} (h : y.get (O.evEvLatched (v / 64)) = x.get (O.evEvLatched (v / 64))) : y.latched v = x.latched v := by
  simp only [Dev.latched, Dev.nat, Dev.num, h]

theorem Dev.latched_put {o : Nat} (v : Val) (h0 : o ≠ O.evEvLatched 0) (h1 : o ≠ O.evEvLatched 1) {e : Nat} (he : e < 128) :
    (x.put o v).latched e = x.latched e := by
  refine Dev.latched_congr ?_
  have : e / 64 = 0 ∨ e / 64 = 1 := by omega
  rw [Dev.get_put, if_neg]
  rcases this with h | h <;> rw [h]
  · exact fun c => h0 c.symm
  · exact fun c => h1 c.symm

theorem Frame.put (h : Frame d x ps os es) {o : Nat} (v : Val) (ho : frees os es o) : Frame d (x.put o v) ps os es := by
  refine h.trans ⟨fun p _ => ?_, fun a q n w => ?_, fun e l _ _ => Dev.latched_put v ho.2.1 ho.2.2 l⟩
  · cases p <;> first | exact rfl | exact ⟨rfl, rfl⟩ | exact ⟨rfl, List.prefix_refl _, List.prefix_refl _⟩ | exact fun _ => rfl
  · rw [Dev.get_put, if_neg]
    rintro rfl
    rcases ho.1 with k | k | ⟨v, hv, k⟩
    · exact n k
    · rw [k] at q; exact absurd q (by decide)
    · exact w v hv k

theorem Frame.setN (h : Frame d x ps os es) {o : Nat} (n : Int) (ho : frees os es o) : Frame d (x.setN o n) ps os es := h.put _ ho
theorem Frame.setB (h : Frame d x ps os es) {o : Nat} (b : Bool) (ho : frees os es o) : Frame d (x.setB o b) ps os es := h.put _ ho
theorem Frame.setRaw (h : Frame d x ps os es) {o : Nat} (b : List Byte) (ho : frees os es o) : Frame d (x.setRaw o b) ps os es := h.put _ ho
theorem Frame.count (h : Frame d x ps os es) {o : Nat} (w k : Nat) (ho : frees os es o) : Frame d (x.count w o k) ps os es := h.put _ ho
theorem Frame.inc (h : Frame d x ps os es) {o : Nat} (ho : frees os es o) : Frame d (x.inc o) ps os es := h.put _ ho

theorem Frame.fresh (h : Frame d x ps os es) : Frame d x.fresh.2 ps os es := h.set_free _

/-! ### Time -/

theorem Frame.clockTo (h : Frame d x ps os es) (hp : Part.time ∈ ps) (m : Nat) : Frame d (x.clockTo m) ps os es := by
  unfold Dev.clockTo
  split
  · exact h
  · exact h.set_clock hp _ _

theorem Frame.after (h : Frame d x ps os es) (hp : Part.time ∈ ps) (t ms : Nat) : Frame d (x.after t ms) ps os es := h.clockTo hp _
theorem Frame.timeTo (h : Frame d x ps os es) (hp : Part.time ∈ ps) (t : Nat) : Frame d (x.timeTo t) ps os es := h.clockTo hp _
theorem Frame.tick (h : Frame d x ps os es) (hp : Part.time ∈ ps) (ht : Part.ticks ∈ ps) (u n p : Nat) : Frame d (x.tick u n p) ps os es :=
  (h.timeTo hp _).set_ticks ht _

/-! ### The log -/

theorem Frame.issueSeq (h : Frame d x ps os es) (hl : Part.log ∈ ps) (hn : Part.nvm ∈ ps) : Frame d x.issueSeq.2 ps os es := by
  unfold Dev.issueSeq
  have k : ∀ l n, Frame d { x with log := l, nvm := n } ps os es := fun l n => by
    refine h.trans (Frame.of_parts (fun _ => rfl) (fun p m => ?_))
    cases p <;> first | exact absurd hl m | exact absurd hn m | exact rfl | exact ⟨rfl, rfl⟩ |
      exact ⟨rfl, List.prefix_refl _, List.prefix_refl _⟩ | exact fun _ => rfl
  refine ite_both (P := fun r : Nat × Dev => Frame d r.2 ps os es) ?_ (h.set_log hl _)
  apply k

theorem Frame.logPut (h : Frame d x ps os es) (hl : Part.log ∈ ps) (hn : Part.nvm ∈ ps) (e : LogEntry) (nv : Bool) :
    Frame d (x.logPut e nv).2 ps os es := by
  unfold Dev.logPut
  split
  · exact h.set_log hl _
  · exact (h.issueSeq hl hn).set_log hl _

theorem Frame.record (h : Frame d x ps os es) (hl : Part.log ∈ ps) (hn : Part.nvm ∈ ps) (c a b : Nat) : Frame d (x.record c a b) ps os es :=
  h.logPut hl hn _ _
theorem Frame.recordBy (h : Frame d x ps os es) (hl : Part.log ∈ ps) (hn : Part.nvm ∈ ps) (g : Origin) (c a b : Nat) :
    Frame d (x.recordBy g c a b) ps os es := h.logPut hl hn _ _
theorem Frame.logSuper (h : Frame d x ps os es) (hl : Part.log ∈ ps) (hn : Part.nvm ∈ ps) (g : Origin) (o n l : Nat) :
    Frame d (x.logSuper g o n l) ps os es := h.logPut hl hn _ _

/-! ### What is sent -/

/-- Changing what the host links have sent, what waits at the SPI target and what sending counts leaves every frame. -/
theorem Frame.set_sent (h : Frame d x ps os es) (a : HostState) (hs : a.still = x.host.still) (h1 : x.host.sent <+: a.sent)
    (h2 : x.host.spi <+: a.spi) : Frame d { x with host := a } ps os es :=
  h.trans (Frame.of_parts (fun _ => rfl) (fun p _ => by
    cases p <;> first | exact rfl | exact ⟨rfl, rfl⟩ | exact ⟨hs, h1, h2⟩ | exact fun _ => rfl))

theorem Frame.sessSent (h : Frame d x ps os es) (n q : Nat) : Frame d (x.sessSent n q) ps os es := by
  refine h.set_sent _ ?_ (List.prefix_refl _) (List.prefix_refl _)
  simp only [HostState.still, List.map_map]
  congr 1
  refine List.map_congr_left fun s _ => ?_
  simp only [Function.comp]
  split <;> rfl

theorem Frame.setSub (h : Frame d x ps os es) (s : Sub) : Frame d (x.setSub s) ps os es := by
  refine h.set_sent _ ?_ (List.prefix_refl _) (List.prefix_refl _)
  simp only [HostState.still, List.map_map]
  congr 1
  refine List.map_congr_left fun s _ => ?_
  simp only [Function.comp]
  split <;> rfl

theorem Frame.compose (h : Frame d x ps os es) (port dest opcode mflags session tag : Nat) (body : List Byte) :
    Frame d (x.compose port dest opcode mflags session tag body).2 ps os es := by
  unfold Dev.compose
  split
  · split
    · exact h.sessSent _ _
    · exact h
  · exact h

theorem Frame.hand (h : Frame d x ps os es) (m : OutMsg) : Frame d (x.hand m).1 ps os es := by
  unfold Dev.hand
  split
  · exact h.set_sent _ rfl (List.prefix_refl _) (List.prefix_append _ _)
  · split
    · refine h.trans (Frame.of_parts (fun _ => rfl) (fun p _ => ?_))
      cases p <;> first | exact rfl | exact ⟨rfl, rfl⟩ | exact ⟨rfl, List.prefix_refl _, List.prefix_refl _⟩ | skip
      intro p
      simp only [Dev.twp, Tab.get_set]
      split
      · rename_i e
        subst e
        split <;> rfl
      · rfl
    · exact h.set_sent _ rfl (List.prefix_append _ _) (List.prefix_refl _)

theorem Frame.offer (h : Frame d x ps os es) (i op : Nat) (b : List Byte) :
    Frame d (x.offer i op b).1 ps os es ∧ ∀ p ∈ (x.offer i op b).2, p.1 ∈ notifyEvents := by
  unfold Dev.offer
  split
  · exact ⟨h, by simp⟩
  · dsimp only
    refine ite_both (P := fun r : Dev × List (Nat × Nat) => Frame d r.1 ps os es ∧ ∀ p ∈ r.2, p.1 ∈ notifyEvents) ⟨h.fresh.setSub _, ?_⟩
      ⟨((h.fresh.setSub _).compose ..).hand _, ?_⟩
    · exact ite_both (P := fun l : List (Nat × Nat) => ∀ p ∈ l, p.1 ∈ notifyEvents) (by simp) (by simp [notifyEvents])
    · exact ite_both (P := fun l : List (Nat × Nat) => ∀ p ∈ l, p.1 ∈ notifyEvents) (by simp [notifyEvents]) (by simp)

/-! ### Events -/

theorem withBit_testBit (v i j : Nat) (b : Bool) : (withBit v i b).testBit j = if j = i then b else v.testBit j := by
  unfold withBit
  split
  · split
    · rename_i h k; rw [k, h]
    · rfl
  · rename_i h
    rw [Nat.testBit_xor, Nat.testBit_two_pow]
    split
    · rename_i k
      subst k
      cases hv : v.testBit j <;> cases b <;> simp_all
    · rename_i k
      have : decide (i = j) = false := by simp; omega
      rw [this, Bool.xor_false]

theorem eventObjs_frees {v o : Nat} (he : v ∈ es ∨ v ∈ notifyEvents) (h : o ∈ eventObjs v) (hv : v < 128) : frees os es o := by
  refine ⟨?_, ?_⟩
  · rcases he with k | k
    · exact .inr (.inr ⟨v, k, h⟩)
    · refine .inr (.inl ?_)
      simp only [quiet, noisy, Bool.not_eq_eq_eq_not, Bool.not_false, List.contains_iff_mem, List.mem_append, List.mem_flatMap]
      exact .inr ⟨v, k, h⟩
  · simp only [eventObjs, List.mem_cons, List.not_mem_nil, or_false, O.evEvCount, O.evEvPendCount, O.evEvTFirst, O.evEvTLast, O.evEvArg,
      O.mk] at h
    simp only [O.evEvLatched, O.mk]
    omega

theorem Frame.latchEvent (h : Frame d x ps os es) {e : Nat} (t arg : Nat) (he : e ∈ es ∨ e ∈ notifyEvents) (hb : e < 128) :
    Frame d (x.latchEvent e t arg).1 ps os es := by
  have fr : ∀ o, o ∈ eventObjs e → frees os es o := fun o m => eventObjs_frees he m hb
  have h1 := (h.inc (fr (O.evEvCount e) (by simp [eventObjs]))).setN (t : Int) (fr (O.evEvTLast e) (by simp [eventObjs]))
  have wl : ∀ z : Dev, Frame d z ps os es →
      Frame d (z.setN (O.evEvLatched (e / 64)) (withBit (z.nat (O.evEvLatched (e / 64))) (e % 64) true : Nat)) ps os es := by
    intro z hz
    refine hz.trans ⟨fun p _ => ?_, fun a q _ _ => ?_, fun v l n m => ?_⟩
    · cases p <;> first | exact rfl | exact ⟨rfl, rfl⟩ | exact ⟨rfl, List.prefix_refl _, List.prefix_refl _⟩ | exact fun _ => rfl
    · rw [Dev.get_setN, if_neg]
      rintro rfl
      have : e / 64 = 0 ∨ e / 64 = 1 := by omega
      rcases this with k | k <;> rw [k] at q <;> exact absurd q (by decide)
    · simp only [Dev.latched, Dev.nat_setN]
      split
      · rename_i k
        have k2 : v / 64 = e / 64 := by simpa only [O.evEvLatched, O.mk, Nat.add_left_cancel_iff] using k
        rw [Int.toNat_natCast, withBit_testBit, if_neg, k2]
        intro k3
        have : v = e := by omega
        rcases he with w | w
        · exact n (this ▸ w)
        · exact m (this ▸ w)
      · rfl
  unfold Dev.latchEvent
  dsimp only
  split
  · exact h1.setN _ (fr _ (by simp [eventObjs]))
  · exact (((wl _ h1).setN _ (fr _ (by simp [eventObjs]))).setN _ (fr _ (by simp [eventObjs]))).setN _ (fr _ (by simp [eventObjs]))

theorem Frame.windowFrame (h : Frame d x ps os es) (s : Sub) (w : EvWindow) :
    Frame d (x.windowFrame s w).1 ps os es ∧ ∀ p ∈ (x.windowFrame s w).2, p.1 ∈ notifyEvents := (h.setSub _).offer _ _ _

theorem Frame.windowsPast (n i t : Nat) : ∀ {x : Dev}, Frame d x ps os es →
    Frame d (Dev.windowsPast n i t x).1 ps os es ∧ ∀ p ∈ (Dev.windowsPast n i t x).2, p.1 ∈ notifyEvents := by
  induction n with
  | zero => exact fun h => ⟨h, by simp [Dev.windowsPast]⟩
  | succ n ih =>
    intro x h
    unfold Dev.windowsPast
    split
    · exact ⟨h, by simp⟩
    · split
      · split
        · rename_i s _ _ w _ _
          have k := h.windowFrame s w
          exact ⟨(ih k.1).1, fun p m => (List.mem_append.1 m).elim (k.2 p) ((ih k.1).2 p)⟩
        · exact ⟨h, by simp⟩
      · exact ⟨h, by simp⟩

theorem Frame.windowOccur (h : Frame d x ps os es) (e t arg : Nat) (s : Sub) :
    Frame d (x.windowOccur e t arg s).1 ps os es ∧ ∀ p ∈ (x.windowOccur e t arg s).2, p.1 ∈ notifyEvents := by
  unfold Dev.windowOccur
  dsimp only
  split
  · have k := Frame.windowsPast 128 s.id t h
    split
    · have q := k.1.offer (((Dev.windowsPast 128 s.id t x).1.subById s.id).getD s).id 0x13 (eventBody e 1 t arg)
      exact ⟨q.1, fun p m => (List.mem_append.1 m).elim (k.2 p) (q.2 p)⟩
    · split
      · exact ⟨k.1.setSub _, k.2⟩
      · exact ⟨k.1.setSub _, k.2⟩
  · exact ⟨h, by simp⟩

theorem Frame.windowsOccur (e t arg : Nat) (l : List Nat) : ∀ {x : Dev}, Frame d x ps os es →
    Frame d (x.windowsOccur e t arg l).1 ps os es ∧ ∀ p ∈ (x.windowsOccur e t arg l).2, p.1 ∈ notifyEvents := by
  induction l with
  | nil => exact fun h => ⟨h, by simp [Dev.windowsOccur]⟩
  | cons i l ih =>
    intro x h
    unfold Dev.windowsOccur
    dsimp only
    have k : Frame d (match x.subById i with | some s => x.windowOccur e t arg s | none => (x, [])).1 ps os es ∧
        ∀ p ∈ (match x.subById i with | some s => x.windowOccur e t arg s | none => (x, [])).2, p.1 ∈ notifyEvents := by
      split
      · exact h.windowOccur _ _ _ _
      · exact ⟨h, by simp⟩
    refine ⟨(ih k.1).1, fun p m => ?_⟩
    rcases List.mem_append.1 m with m | m
    · exact k.2 p m
    · exact (ih k.1).2 p m

theorem Dev.canRaise_lt {e : Nat} (h : x.canRaise e = true) : e < 128 := by
  simp only [Dev.canRaise, eventNever, Bool.and_eq_true, Bool.not_eq_eq_eq_not, Bool.not_true, Bool.or_eq_false_iff, decide_eq_false_iff_not] at h
  omega

theorem Frame.route (f t : Nat) : ∀ (l : List (Nat × Nat)) {x : Dev}, Frame d x ps os es → (∀ p ∈ l, p.1 ∈ es ∨ p.1 ∈ notifyEvents) →
    Frame d (Dev.route f t l x) ps os es := by
  induction f with
  | zero => exact fun _ _ h _ => h
  | succ f ih =>
    intro l x h hl
    cases l with
    | nil => exact h
    | cons p l =>
      obtain ⟨e, arg⟩ := p
      have hr : ∀ q ∈ l, q.1 ∈ es ∨ q.1 ∈ notifyEvents := fun q m => hl q (List.mem_cons_of_mem _ m)
      unfold Dev.route
      split
      · rename_i c
        have k := (h.latchEvent t arg (hl _ List.mem_cons_self) (Dev.canRaise_lt c)).windowsOccur e t arg
          ((x.latchEvent e t arg).1.host.subs.map (·.id))
        refine ih _ k.1 fun q m => ?_
        simp only [List.mem_append] at m
        rcases m with (m | m) | m
        · exact hr q m
        · split at m
          · simp only [List.mem_singleton] at m
            subst m
            exact .inr (by simp [notifyEvents])
          · cases m
        · exact .inr (k.2 q m)
      · exact ih _ h hr

/-- Raising an event keeps every frame that lets the event occur. -/
theorem Frame.raise (h : Frame d x ps os es) {e : Nat} (arg : Nat) (he : e ∈ es ∨ e ∈ notifyEvents) : Frame d (x.raise e arg) ps os es :=
  Frame.route _ _ _ h (by simpa using he)

/-! ### Folds -/

theorem Frame.foldl {α : Type} (f : Dev → α → Dev) (l : List α) : ∀ {x : Dev}, Frame d x ps os es →
    (∀ y : Dev, ∀ a ∈ l, Frame d y ps os es → Frame d (f y a) ps os es) → Frame d (l.foldl f x) ps os es := by
  induction l with
  | nil => exact fun h _ => h
  | cons a l ih => exact fun h k => ih (k _ a List.mem_cons_self h) (fun y b m => k y b (List.mem_cons_of_mem _ m))

/-! ### Completing -/

theorem Frame.settle (h : Frame d x ps os es) : Frame d x.settle ps os es := by
  unfold Dev.settle
  refine Frame.foldl _ _ h fun y p m k => k.setN _ ?_
  refine ⟨.inr (.inl ?_), ?_⟩
  · have : p.1 ∈ derivedOids := by
      have := List.mem_map_of_mem (f := Prod.fst) m
      simpa only [Dev.derived, derivedOids, List.map] using this
    simp only [quiet, noisy, Bool.not_eq_eq_eq_not, Bool.not_false, List.contains_iff_mem, List.mem_append]
    exact .inl (.inl this)
  · have : p.1 ∈ derivedOids := by
      have := List.mem_map_of_mem (f := Prod.fst) m
      simpa only [Dev.derived, derivedOids, List.map] using this
    revert this
    generalize p.1 = o
    revert o
    decide

theorem Frame.notifyOne (h : Frame d x ps os es) (s : Sub) (b : List Byte) (q : Nat) : Frame d (x.notifyOne s b q) ps os es := by
  unfold Dev.notifyOne
  have k := (h.setSub { s with lastVal := b, lastT := x.mono }).offer s.id 0x14
    (leBytes 4 s.oid ++ leBytes 2 b.length ++ leBytes 2 0 ++ leBytes 8 x.now ++ leBytes 8 q ++ b)
  exact Frame.route _ _ _ k.1 fun p m => .inr (k.2 p m)

theorem Frame.notifySub (h : Frame d x ps os es) (q : Nat → Nat) (i : Nat) : Frame d (x.notifySub q i) ps os es := by
  unfold Dev.notifySub
  split
  · split
    · dsimp only
      split
      · exact h
      · exact h.notifyOne _ _ _
    · exact h
  · exact h

theorem Frame.notify (h : Frame d x ps os es) (q : Nat → Nat) : Frame d (x.notify q) ps os es := by
  unfold Dev.notify
  split
  · exact Frame.foldl _ _ h fun y i _ k => k.notifySub q i
  · exact h

end Sys2Proof.Machine
end

