-- ==== Sys2Proof/Laws/Upd.lean ====
section
/-! SUPPORT. How a meaning completes: settling puts every derived object in place, and the state after `State.upd` differs from what its
function gives only in what notifications and derived objects may change. -/

namespace Sys2Proof.Machine

/-! ### Settling -/

theorem foldl_setN_objs (l : List (Nat × Int)) : ∀ d : Dev, ∃ b, l.foldl (fun x p => x.setN p.1 p.2) d = { d with objs := b } := by
  induction l with
  | nil => exact fun d => ⟨d.objs, rfl⟩
  | cons p l ih =>
    intro d
    obtain ⟨b, h⟩ := ih (d.setN p.1 p.2)
    exact ⟨b, h⟩

theorem foldl_setN_get (l : List (Nat × Int)) : ∀ (d : Dev) (o : Nat), o ∉ l.map Prod.fst →
    (l.foldl (fun x p => x.setN p.1 p.2) d).get o = d.get o := by
  induction l with
  | nil => exact fun _ _ _ => rfl
  | cons p l ih =>
    intro d o h
    simp only [List.map_cons, List.mem_cons, not_or] at h
    show (l.foldl (fun x p => x.setN p.1 p.2) (d.setN p.1 p.2)).get o = d.get o
    rw [ih _ _ h.2, Dev.get_setN, if_neg h.1]

theorem foldl_setN_num (l : List (Nat × Int)) : ∀ (d : Dev), (l.map Prod.fst).Nodup → ∀ p ∈ l,
    (l.foldl (fun x p => x.setN p.1 p.2) d).num p.1 = p.2 := by
  induction l with
  | nil => exact fun _ _ _ h => by cases h
  | cons q l ih =>
    intro d h p m
    simp only [List.map_cons, List.nodup_cons] at h
    show (l.foldl (fun x p => x.setN p.1 p.2) (d.setN q.1 q.2)).num p.1 = p.2
    rcases List.mem_cons.1 m with k | k
    · subst k
      rw [Dev.num, foldl_setN_get _ _ _ h.1]
      simp only [Dev.get_setN, if_true]
      rfl
    · exact ih _ h.2 p k

theorem Dev.derived_keys (d : Dev) : d.derived.map Prod.fst = derivedOids := rfl

theorem Dev.settle_objs (d : Dev) : ∃ b, d.settle = { d with objs := b } := foldl_setN_objs _ _

theorem Dev.settle_get (d : Dev) {o : Nat} (h : o ∉ derivedOids) : d.settle.get o = d.get o :=
  foldl_setN_get _ _ _ (by rw [Dev.derived_keys]; exact h)

theorem Dev.pinWord_congr {d e : Dev} (h : ∀ o, o ∉ derivedOids → e.get o = d.get o) (i k : Nat) (hk : k < 2) : e.pinWord i k = d.pinWord i k := by
  have h1 : e.nat (O.evEvLatched k) = d.nat (O.evEvLatched k) := by
    simp only [Dev.nat, Dev.num]; rw [h]
    have : k = 0 ∨ k = 1 := by omega
    rcases this with c | c <;> subst c <;> decide
  have h2 : e.nat (O.evEvMask k) = d.nat (O.evEvMask k) := by
    simp only [Dev.nat, Dev.num]; rw [h]
    have : k = 0 ∨ k = 1 := by omega
    rcases this with c | c <;> subst c <;> decide
  have h3 : ∀ b, b < 64 → e.nat (O.evEvHost (64 * k + b)) = d.nat (O.evEvHost (64 * k + b)) := by
    intro b hb
    simp only [Dev.nat, Dev.num]; rw [h]
    simp only [derivedOids, O.evEvHost, O.mk, List.mem_cons, List.not_mem_nil, or_false, O.evEvHostirqState, O.lgLogSeq, O.lgLogRamFirst,
      O.lgLogNvFirst, O.lgLogNvPending, O.ntSessions, O.ntSubs, O.pwPwState, O.caCalState, O.cxDecUsed, O.cxDecWaiting]
    omega
  simp only [Dev.pinWord, h1, h2]
  split
  · rfl
  · rw [Bool.eq_iff_iff, List.any_eq_true, List.any_eq_true]
    refine exists_congr fun b => and_congr_right fun hb => ?_
    rw [h3 b (List.mem_range.1 hb)]

/-- The derived values depend on no derived object. -/
theorem Dev.derived_congr {d e : Dev} (h : ∀ o, o ∉ derivedOids → e.get o = d.get o) (h1 : e.log = d.log) (h2 : e.nvm = d.nvm)
    (h3 : e.host = d.host) (h4 : e.pw = d.pw) (h5 : e.cal = d.cal) (h6 : e.cx = d.cx) (h7 : e.ev = d.ev) : e.derived = d.derived := by
  have n : ∀ o, o ∉ derivedOids → e.nat o = d.nat o := fun o k => by simp only [Dev.nat, Dev.num, h o k]
  have hp : e.pins = d.pins := by
    unfold Dev.pins Dev.pinWanted
    rw [Dev.pinWord_congr h 0 0 (by omega), Dev.pinWord_congr h 0 1 (by omega), Dev.pinWord_congr h 1 0 (by omega),
      Dev.pinWord_congr h 1 1 (by omega), h7]
  have hc : e.calStateNow = d.calStateNow := by
    simp only [Dev.calStateNow, h5, n O.cpLanegStage (by decide), n O.cpLanegChain (by decide), n O.caRefState (by decide)]
  simp only [Dev.derived, hp, hc, h1, h2, h3, h4, h6]

theorem Dev.settle_derived (d : Dev) : d.settle.derived = d.derived := by
  obtain ⟨b, hb⟩ := d.settle_objs
  exact Dev.derived_congr (fun o h => Dev.settle_get d h) (by rw [hb]) (by rw [hb]) (by rw [hb]) (by rw [hb]) (by rw [hb]) (by rw [hb])
    (by rw [hb])

/-- After settling, every derived object is in place. -/
theorem Dev.settle_settled (d : Dev) : d.settle.Settled := by
  intro p m
  rw [Dev.settle_derived] at m
  exact foldl_setN_num _ _ (by rw [Dev.derived_keys]; decide) p m

/-! ### Completing -/

theorem Dev.Alike.finish (d : Dev) (q : Nat → Nat) : d.Alike (d.settle.notify q).settle := (((Frame.refl d [] noObj []).settle).notify q).settle

/-- Everything a meaning can do once its function has run: it answers a next state with the queue as it was, settled, and like what the
function gives. -/
theorem upd_spec (s : State) (f : Dev → Dev) :
    ∃ t, s.upd f = .next t ∧ t.pending = s.pending ∧ t.dev.Settled ∧ (f s.dev).Alike t.dev :=
  ⟨_, rfl, rfl, Dev.settle_settled _, Dev.Alike.finish _ _⟩

/-- A command completes within a frame when its function stays in the frame and what is said of its result is kept by notifications. -/
theorem completes_of {i : Instr} {s : State} {f : Dev → Dev} {ps : List Part} {os : Nat → Prop} {es : List Nat} {P : Dev → Prop}
    (h : exec i s = s.upd f) (hf : Frame s.dev (f s.dev) ps os es) (hP : ∀ e, (f s.dev).Alike e → P e) : Completes i s ps os es P := by
  obtain ⟨t, h1, h2, h3, h4⟩ := upd_spec s f
  exact ⟨t, h.trans h1, h2, h3, hf.trans (h4.weaken (by simp) (by simp [noObj]) (by simp)), hP _ h4⟩

/-! ### What stays through notifications -/

theorem Dev.Alike.get {d e : Dev} (h : d.Alike e) {o : Nat} (q : quiet o = true) : e.get o = d.get o := h.objs o q (fun k => k) (by simp)
theorem Dev.Alike.num {d e : Dev} (h : d.Alike e) {o : Nat} (q : quiet o = true) : e.num o = d.num o := by simp only [Dev.num, h.get q]
theorem Dev.Alike.nat {d e : Dev} (h : d.Alike e) {o : Nat} (q : quiet o = true) : e.nat o = d.nat o := by simp only [Dev.nat, h.num q]
theorem Dev.Alike.flag {d e : Dev} (h : d.Alike e) {o : Nat} (q : quiet o = true) : e.flag o = d.flag o := by simp only [Dev.flag, h.num q]
theorem Dev.Alike.raw {d e : Dev} (h : d.Alike e) {o : Nat} (q : quiet o = true) : e.raw o = d.raw o := by simp only [Dev.raw, h.get q]
theorem Dev.Alike.part {d e : Dev} (h : d.Alike e) (p : Part) : p.same d e := h.parts p (by simp)
theorem Dev.Alike.latched {d e : Dev} (h : d.Alike e) {v : Nat} (a : v < 128) (n : v ∉ notifyEvents) : e.latched v = d.latched v :=
  h.latches v a (by simp) n

end Sys2Proof.Machine
end

