-- ==== Sys2Proof/Laws/Event.lean ====
section
/-! SUPPORT. An event raised while it can be reaches its latch and its objects (Table 19.2), whatever its notifications raise in turn. -/

namespace Sys2Proof.Machine

variable {d x y : Dev} {ps : List Part} {os : Nat → Prop} {es : List Nat}

theorem eventObjs_quiet {v o : Nat} (h : o ∈ eventObjs v) (n : v ∉ notifyEvents) (b : v < 128) : quiet o = true := by
  simp only [notifyEvents, List.mem_cons, List.not_mem_nil, or_false, not_or] at n
  simp only [eventObjs, List.mem_cons, List.not_mem_nil, or_false, O.evEvCount, O.evEvPendCount, O.evEvTFirst, O.evEvTLast, O.evEvArg, O.mk] at h
  simp only [quiet, Bool.not_eq_eq_eq_not, Bool.not_true, List.contains_eq_mem, decide_eq_false_iff_not, noisy, notifyEvents, derivedOids, eventObjs,
    List.flatMap_cons, List.flatMap_nil, List.append_nil, List.mem_append, List.mem_cons, List.not_mem_nil, or_false, O.evEvLatched,
    O.evEvCount, O.evEvPendCount, O.evEvTFirst, O.evEvTLast, O.evEvArg, O.mk, O.evEvHostirqState, O.lgLogSeq, O.lgLogRamFirst,
    O.lgLogNvFirst, O.lgLogNvPending, O.ntSessions, O.ntSubs, O.pwPwState, O.caCalState, O.cxDecUsed, O.cxDecWaiting]
  omega

/-- The objects and the latch of an event that a frame does not name are as they were. -/
theorem Frame.event (h : Frame d x ps os es) {v : Nat} (b : v < 128) (n : v ∉ notifyEvents) (ne : v ∉ es) (hb : ∀ w ∈ es, w < 256) (ho : ∀ o ∈ eventObjs v, ¬ os o) :
    x.latched v = d.latched v ∧ ∀ o ∈ eventObjs v, x.get o = d.get o := by
  refine ⟨h.latches v b ne n, fun o m => h.objs o (eventObjs_quiet m n b) (ho o m) fun w hw k => ?_⟩
  have : w = v := by
    simp only [eventObjs, List.mem_cons, List.not_mem_nil, or_false, O.evEvCount, O.evEvPendCount, O.evEvTFirst, O.evEvTLast, O.evEvArg, O.mk] at m k
    have c := hb w hw
    omega
  exact ne (this ▸ hw)

/-- One occurrence at the router. -/
theorem latchEvent_occurred (d : Dev) {e : Nat} (t arg : Nat) (b : e < 128) :
    (d.latchEvent e t arg).1.latched e = true ∧
    (d.nat (O.evEvCount e) + 1 < 2 ^ 32 → (d.latchEvent e t arg).1.nat (O.evEvCount e) = d.nat (O.evEvCount e) + 1) ∧
    (d.latched e = false → (d.latchEvent e t arg).1.nat (O.evEvArg e) = arg ∧ (d.latchEvent e t arg).1.nat (O.evEvPendCount e) = 1) := by
  have n1 : O.evEvCount e ≠ O.evEvTLast e := by simp only [O.evEvCount, O.evEvTLast, O.mk]; omega
  have n2 : O.evEvCount e ≠ O.evEvPendCount e := by simp only [O.evEvCount, O.evEvPendCount, O.mk]; omega
  have n3 : O.evEvCount e ≠ O.evEvTFirst e := by simp only [O.evEvCount, O.evEvTFirst, O.mk]; omega
  have n4 : O.evEvCount e ≠ O.evEvArg e := by simp only [O.evEvCount, O.evEvArg, O.mk]; omega
  have n5 : O.evEvCount e ≠ O.evEvLatched (e / 64) := by simp only [O.evEvCount, O.evEvLatched, O.mk]; omega
  have n6 : O.evEvPendCount e ≠ O.evEvTFirst e := by simp only [O.evEvPendCount, O.evEvTFirst, O.mk]; omega
  have n7 : O.evEvPendCount e ≠ O.evEvArg e := by simp only [O.evEvPendCount, O.evEvArg, O.mk]; omega
  have n8 : O.evEvLatched (e / 64) ≠ O.evEvPendCount e := by simp only [O.evEvLatched, O.evEvPendCount, O.mk]; omega
  have n9 : O.evEvLatched (e / 64) ≠ O.evEvTFirst e := by simp only [O.evEvLatched, O.evEvTFirst, O.mk]; omega
  have n10 : O.evEvLatched (e / 64) ≠ O.evEvArg e := by simp only [O.evEvLatched, O.evEvArg, O.mk]; omega
  have n11 : O.evEvLatched (e / 64) ≠ O.evEvTLast e := by simp only [O.evEvLatched, O.evEvTLast, O.mk]; omega
  have n12 : O.evEvLatched (e / 64) ≠ O.evEvCount e := fun h => n5 h.symm
  unfold Dev.latchEvent
  dsimp only
  cases hl : d.latched e
  · simp only [Bool.false_eq_true, if_false]
    refine ⟨?_, fun h => ?_, fun _ => ⟨?_, ?_⟩⟩
    · simp only [Dev.latched, Dev.nat_setN, n8, n9, n10, if_false, if_true, Int.toNat_natCast, withBit_testBit]
    · simp only [Dev.nat_setN, n1, n2, n3, n4, n5, if_false]
      exact Dev.nat_count d 32 _ 1 h
    · simp only [Dev.nat_setN, if_true, Int.toNat_natCast]
    · simp only [Dev.nat_setN, n6, n7, if_false, if_true]; rfl
  · simp only [if_true]
    refine ⟨?_, fun h => ?_, fun h => by cases h⟩
    · have : ∀ z : Dev, z.nat (O.evEvLatched (e / 64)) = d.nat (O.evEvLatched (e / 64)) → z.latched e = true := fun z k => by
        rw [← hl]; simp only [Dev.latched, k]
      apply this
      simp only [Dev.nat_setN, n8, n11, if_false]
      exact Dev.nat_count_ne d 32 _ 1 _ n12
    · simp only [Dev.nat_setN, n1, n2, if_false]
      exact Dev.nat_count d 32 _ 1 h

/-- An event that can be raised occurs. -/
theorem raise_occurred (d : Dev) {e : Nat} (arg : Nat) (c : d.canRaise e = true) (n : e ∉ notifyEvents) : Occurred d (d.raise e arg) e arg := by
  have b := Dev.canRaise_lt c
  have h0 := latchEvent_occurred d (d.islandTime (eventIsland e)) arg b
  have h13 : e ≠ 13 := fun k => n (by simp [k, notifyEvents])
  have k : Frame (d.latchEvent e (d.islandTime (eventIsland e)) arg).1 (d.raise e arg) [] noObj [] := by
    show Frame _ (Dev.route 200 (d.islandTime (eventIsland e)) [(e, arg)] d) [] noObj []
    unfold Dev.route
    simp only [c, if_true]
    have w := (Frame.refl (d.latchEvent e (d.islandTime (eventIsland e)) arg).1 [] noObj []).windowsOccur e (d.islandTime (eventIsland e)) arg ((d.latchEvent e (d.islandTime (eventIsland e)) arg).1.host.subs.map (·.id))
    refine Frame.route _ _ _ w.1 fun q m => ?_
    simp only [List.nil_append, List.mem_append] at m
    rcases m with m | m
    · split at m
      · simp only [List.mem_singleton] at m
        subst m
        exact .inr (by simp [notifyEvents])
      · cases m
    · exact .inr (w.2 q m)
  have kk := k.event b n (by simp) (by simp) (by simp [noObj])
  have g : ∀ o ∈ eventObjs e, (d.raise e arg).nat o = (d.latchEvent e (d.islandTime (eventIsland e)) arg).1.nat o := fun o m => by
    simp only [Dev.nat, Dev.num, kk.2 o m]
  refine ⟨kk.1.trans h0.1, fun h => ?_, fun h => ⟨?_, ?_⟩⟩
  · rw [g _ (by simp [eventObjs])]; exact h0.2.1 h
  · rw [g _ (by simp [eventObjs])]; exact (h0.2.2 h).1
  · rw [g _ (by simp [eventObjs])]; exact (h0.2.2 h).2

/-- An occurrence is kept by what leaves the event alone afterwards, and is one of an earlier device that differed elsewhere. -/
theorem Occurred.frame {a b : Dev} {v arg : Nat} (h : Occurred x y v arg) (b128 : v < 128) (n : v ∉ notifyEvents)
    (ha : Frame a x ps os es) (hb : Frame y b ps os es) (ne : v ∉ es) (hes : ∀ w ∈ es, w < 256) (ho : ∀ o ∈ eventObjs v, ¬ os o) :
    Occurred a b v arg := by
  have ka := ha.event b128 n ne hes ho
  have kb := hb.event b128 n ne hes ho
  have ga : ∀ o ∈ eventObjs v, x.nat o = a.nat o := fun o m => by simp only [Dev.nat, Dev.num, ka.2 o m]
  have gb : ∀ o ∈ eventObjs v, b.nat o = y.nat o := fun o m => by simp only [Dev.nat, Dev.num, kb.2 o m]
  have m1 : O.evEvCount v ∈ eventObjs v := by simp [eventObjs]
  have m2 : O.evEvArg v ∈ eventObjs v := by simp [eventObjs]
  have m3 : O.evEvPendCount v ∈ eventObjs v := by simp [eventObjs]
  refine ⟨kb.1.trans h.1, fun q => ?_, fun q => ?_⟩
  · rw [gb _ m1, ← ga _ m1]
    exact h.2.1 (by rw [ga _ m1]; exact q)
  · rw [gb _ m2, gb _ m3]
    exact h.2.2 (ka.1.trans q)

end Sys2Proof.Machine
end

