-- ==== Sys2Proof/Laws/Memory.lean ====
section
/-! SUPPORT. Memories: what a load reads after a store, that a store leaves every other byte alone, and that it keeps the canonical form. -/

namespace Sys2Proof.Machine

/-- Reading one byte after a store: the stored bytes from `a` on, every other byte as before. -/
theorem memStore_get (b : List Byte) : ∀ (m : List (Nat × Byte)) (a i : Nat),
    Tab.get 0 (memStore m a b) i = if a ≤ i ∧ i < a + b.length then b.getD (i - a) 0 else Tab.get 0 m i := by
  induction b with
  | nil => intro m a i; rw [if_neg (by simp only [List.length_nil]; omega)]; rfl
  | cons x b ih =>
    intro m a i
    simp only [memStore, ih, Tab.get_set, List.length_cons]
    by_cases h : i = a
    · subst h; rw [if_neg (by omega), if_pos rfl, if_pos (by omega), Nat.sub_self]; rfl
    · by_cases h1 : a + 1 ≤ i ∧ i < a + 1 + b.length
      · rw [if_pos h1, if_pos (by omega), show i - a = i - (a + 1) + 1 by omega]; rfl
      · rw [if_neg h1, if_neg h, if_neg (by omega)]

/-- Other bytes are unchanged. -/
theorem memStore_other (m : List (Nat × Byte)) (a : Nat) (b : List Byte) {i : Nat} (h : i < a ∨ a + b.length ≤ i) :
    Tab.get 0 (memStore m a b) i = Tab.get 0 m i := by rw [memStore_get, if_neg (by omega)]

/-- A read of what was stored gives what was stored. -/
theorem memBytes_memStore (m : List (Nat × Byte)) (a : Nat) (b : List Byte) : memBytes (memStore m a b) a b.length = b := by
  refine List.ext_getElem (by simp [memBytes]) fun i h1 h2 => ?_
  have h : i < b.length := h2
  simp only [memBytes, List.getElem_map, List.getElem_range, memStore_get]
  rw [if_pos (by omega), Nat.add_sub_cancel_left, List.getD_eq_getElem?_getD, List.getElem?_eq_getElem h]
  rfl

/-- A read of bytes that a store does not touch. -/
theorem memBytes_memStore_disjoint (m : List (Nat × Byte)) (a : Nat) (b : List Byte) {i n : Nat} (h : i + n ≤ a ∨ a + b.length ≤ i) :
    memBytes (memStore m a b) i n = memBytes m i n := by
  refine List.map_congr_left fun j hj => memStore_other m a b ?_
  have := List.mem_range.1 hj
  omega

/-- A store keeps the canonical form. -/
theorem memStore_wf (b : List Byte) : ∀ (m : List (Nat × Byte)) (a : Nat), Memory.wf m = true → Memory.wf (memStore m a b) = true := by
  induction b with
  | nil => exact fun _ _ h => h
  | cons x b ih => exact fun m a h => ih _ _ (Tab.wf_set (fun _ => (0 : Byte)) m a x h)

theorem sramStore_wf (d : Dev) (a : Nat) (b : List Byte) (h : Memory.wf d.kp.sram = true) : Memory.wf (d.sramStore a b).kp.sram = true :=
  memStore_wf b d.kp.sram a h

theorem sramStore_byte (d : Dev) (a : Nat) (b : List Byte) (i : Nat) :
    Tab.get 0 (d.sramStore a b).kp.sram i = if a ≤ i ∧ i < a + b.length then b.getD (i - a) 0 else Tab.get 0 d.kp.sram i :=
  memStore_get b d.kp.sram a i

theorem lmemStore_wf (d : Dev) (k a : Nat) (b : List Byte) (h : Memory.wf d.kp.lmem = true) : Memory.wf (d.lmemStore k a b).kp.lmem = true :=
  memStore_wf b d.kp.lmem (k * 2 ^ 32 + a) h

theorem lmemStore_byte (d : Dev) (k a : Nat) (b : List Byte) (i : Nat) :
    Tab.get 0 (d.lmemStore k a b).kp.lmem i =
      if k * 2 ^ 32 + a ≤ i ∧ i < k * 2 ^ 32 + a + b.length then b.getD (i - (k * 2 ^ 32 + a)) 0 else Tab.get 0 d.kp.lmem i :=
  memStore_get b d.kp.lmem (k * 2 ^ 32 + a) i

end Sys2Proof.Machine
end

