-- ==== Sys2Proof/Laws/Txn.lean ====
section
/-! SUPPORT. An accepted write of one object (R368): its value is in place, the log and the stores have been told, and then its unit reacts. -/

namespace Sys2Proof.Machine

variable {d x y : Dev} {ps : List Part} {os : Nat → Prop} {es : List Nat}

theorem Frame.wantHb (h : Frame d x ps os es) (hp : Part.host ∈ ps) : Frame d x.wantHb ps os es := by
  unfold Dev.wantHb
  split
  · exact h
  · exact h.set_host hp _

theorem Frame.dmJudge (h : Frame d x ps os es) (h1 : Part.host ∈ ps) (h2 : Part.log ∈ ps) (h3 : Part.nvm ∈ ps)
    (ho : ∀ o ∈ [O.lgDmState, O.lgDmMismatches], os o) (he : 126 ∈ es) : Frame d x.dmJudge ps os es := by
  unfold Dev.dmJudge
  dsimp only
  split
  · exact h
  · have k := h.setN (x.dmNow : Int) (frees_of_mem (ho O.lgDmState (by simp)) (by decide))
    refine Frame.wantHb (Frame.raise (Frame.record ?_ h2 h3 _ _ _) _ (.inl he)) h1
    split
    · exact k.inc (frees_of_mem (ho O.lgDmMismatches (by simp)) (by decide))
    · exact k

theorem Frame.daymarksChanged (h : Frame d x ps os es) (b : Bool) (h1 : Part.host ∈ ps) (h2 : Part.log ∈ ps) (h3 : Part.nvm ∈ ps)
    (ho : ∀ o ∈ [O.lgDmT, O.lgDmState, O.lgDmMismatches], os o) (he : 126 ∈ es) : Frame d (x.daymarksChanged b) ps os es := by
  unfold Dev.daymarksChanged
  refine Frame.dmJudge ?_ h1 h2 h3 (fun o m => ho o (List.mem_cons_of_mem _ m)) he
  split
  · exact (h.setN _ (frees_of_mem (ho O.lgDmT (by simp)) (by decide))).wantHb h1
  · exact h

theorem Frame.cfgChanged (h : Frame d x ps os es) (h1 : Part.store ∈ ps) (ho : os O.lgCfgDirty) : Frame d x.cfgChanged ps os es :=
  (h.set_store h1 _).setB _ (frees_of_mem ho (by decide))

theorem Frame.logWrite (h : Frame d x ps os es) (h1 : Part.log ∈ ps) (h2 : Part.nvm ∈ ps) (org : Origin) (txn idx items o : Nat) (res : RC)
    (vf : Nat) (old new : List Byte) : Frame d (x.logWrite org txn idx items o res vf old new).2 ps os es := by
  unfold Dev.logWrite
  refine ite_both (P := fun r : Nat × Dev => Frame d r.2 ps os es) h ?_
  refine Frame.logPut ?_ h1 h2 _ _
  refine ite_both (P := fun r : Dev => Frame d r ps os es) ?_ h
  exact h.set_log h1 _

/-- An object that the law of one write speaks of: quiet, not one that any write may change, neither of the commands of R371 and R372, and no
REQUEST, which may create a context. -/
def plainOid (o : Nat) : Bool :=
  decide (o ≠ O.syDefaultsCmd) && decide (o ≠ O.syStatsClear) && !writeObjs.contains o && quiet o && !(eventObjs 126).contains o &&
  (match cxOf o with | some c => decide (o ≠ O.cxRequest c) | none => true)

theorem writeItem_write (o : Nat) (b : List Byte) : (writeItem o b).write = true := by show Nat.testBit 1 0 = true; decide
theorem writeItem_user (o : Nat) (b : List Byte) : (writeItem o b).user = false := by show Nat.testBit 1 1 = false; decide
theorem writeItem_clear (o : Nat) (b : List Byte) : (writeItem o b).clear = false := by show Nat.testBit 1 2 = false; decide
theorem writeItem_restore (o : Nat) (b : List Byte) : (writeItem o b).restore = false := by show Nat.testBit 1 3 = false; decide
theorem writeItem_onValue (o : Nat) (b : List Byte) : (writeItem o b).onValue = true := by
  simp only [TItem.onValue, TItem.onUser, writeItem_write, writeItem_user, writeItem_clear]; rfl

/-- Logging an accepted transaction touches the log alone. -/
theorem Frame.txnLog (d z : Dev) (t : Txn) (n : Nat) : Frame z (d.txnLog z t n).1 [.log, .nvm] noObj [] := by
  unfold Dev.txnLog
  have step : ∀ {α : Type} (f : Dev × List (Nat × Nat) → α → Dev × List (Nat × Nat)),
      (∀ a b, Frame z a.1 [.log, .nvm] noObj [] → Frame z (f a b).1 [.log, .nvm] noObj []) →
      ∀ (l : List α) (a : Dev × List (Nat × Nat)), Frame z a.1 [.log, .nvm] noObj [] → Frame z (l.foldl f a).1 [.log, .nvm] noObj [] := by
    intro α f hf l
    induction l with
    | nil => exact fun a h => h
    | cons b l ih => exact fun a h => ih _ (hf a b h)
  refine step _ (fun a p h => ?_) _ _ (Frame.refl _ _ _ _)
  dsimp only
  split
  · exact h
  · split
    · exact step _ (fun a p h => h.logWrite (by simp) (by simp) _ _ _ _ _ _ _ _ _) _ _ (h.logWrite (by simp) (by simp) _ _ _ _ _ _ _ _ _)
    · exact h.logWrite (by simp) (by simp) _ _ _ _ _ _ _ _ _

theorem txnDefaults_one (org : Origin) {o : Nat} (b : List Byte) (h : o ≠ O.syDefaultsCmd) : (writeTxn org [writeItem o b]).defaults = none := by
  simp only [Txn.defaults, writeTxn, writeItem, List.findIdx?_cons, List.findIdx?_nil, h, decide_false, Bool.and_false, Bool.false_eq_true,
    if_false, Option.map_none]

theorem txnValues_one (d : Dev) (org : Origin) {o : Nat} (b : List Byte) (h : o ≠ O.syDefaultsCmd) (k : o ≠ O.syStatsClear) :
    d.txnValues (writeTxn org [writeItem o b]) = d.store_ o ((Dict.ty o).decode b) := by
  unfold Dev.txnValues
  rw [txnDefaults_one org b h]
  have : (writeTxn org [writeItem o b]).items.find? (fun i => i.carries && decide (i.oid = O.syStatsClear)) = none := by
    simp only [writeTxn, writeItem, List.find?_cons, List.find?_nil, k, decide_false, Bool.and_false]
  rw [this]
  show d.itemPut (writeItem o b) = _
  simp only [Dev.itemPut, writeItem_write, writeItem_user, writeItem_clear, writeItem_restore, Bool.not_true, Bool.false_eq_true, if_false]
  rfl

theorem txnNew_one (d : Dev) (org : Origin) {o : Nat} (b : List Byte) (h : ∀ c, cxOf o = some c → o ≠ O.cxRequest c) :
    d.txnNew (writeTxn org [writeItem o b]) = [] := by
  unfold Dev.txnNew
  simp only [writeTxn, writeItem, List.filterMap_cons, List.filterMap_nil]
  cases hc : cxOf o with
  | none => rfl
  | some c => simp only [h c hc, false_and, and_false, if_false]; rfl

/-- What steps 7 to 9 pass for a transaction that creates no context is the values it leaves. -/
theorem checkLate_ok {t : Txn} {z : Dev} (n : d.txnNew t = []) (h : d.checkLate t = .ok z) : z = d.txnValues t := by
  unfold Dev.checkLate at h
  dsimp only at h
  have a : (d.txnValues t).admitCtx [] t.org.role = .ok (d.txnValues t) := rfl
  split at h
  · cases h
  · simp only [n, a] at h
    cases hs : d.step8 (d.txnValues t) t with
    | some k => simp only [hs] at h; cases h
    | none =>
      simp only [hs] at h
      split at h
      · split at h
        · cases h
        · exact (Except.ok.inj h).symm
      · exact (Except.ok.inj h).symm

theorem txnCheck_ok {t : Txn} {z : Dev} (n : d.txnNew t = []) (h : d.txnCheck t = .ok z) : z = d.txnValues t := by
  unfold Dev.txnCheck at h
  split at h
  · cases h
  · exact checkLate_ok n h

theorem Frame.txnOpen (h : Frame d x ps os es) (h1 : Part.log ∈ ps) (ho : os O.syTxnCount) : Frame d x.txnOpen ps os es :=
  (h.set_log h1 _).inc (frees_of_mem ho (by decide))

theorem Frame.store_ (h : Frame d x ps os es) (o : Nat) (v : Val) (ho : frees os es o) : Frame d (x.store_ o v) ps os es := by
  unfold Dev.store_
  split
  · exact h
  · split
    · exact h.setN _ ho
    · exact h.put _ ho

theorem txnHooks_one (d z : Dev) (o : Nat) (v : Val) (org : Origin) :
    d.txnHooks z [(o, v)] [] org = (z.hook o (d.get o) v org).hookGroups [(o, v)] org := by
  unfold Dev.txnHooks
  simp only [List.foldl_cons, List.foldl_nil]
  cases cxOf o <;> rfl

/-- An accepted write of one object: what is there when its unit reacts (`x`), and that it reacts. -/
theorem writes_one {d : Dev} {org : Origin} {o : Nat} {b : List Byte} (p : plainOid o = true) (h : d.accepts org [writeItem o b]) :
    ∃ x q, Frame d x writeParts (among (o :: writeObjs)) [126] ∧
      x.get o = (d.store_ o ((Dict.ty o).decode b)).get o ∧
      d.writes org [writeItem o b] =
        ((((x.hook o (d.get o) ((Dict.ty o).decode b) org).hookGroups [(o, (Dict.ty o).decode b)] org).settle).notify q).hookLast
          [(o, (Dict.ty o).decode b)] := by
  obtain ⟨hs, z, hz⟩ := h
  simp only [plainOid, Bool.and_eq_true, decide_eq_true_eq, Bool.not_eq_eq_eq_not, Bool.not_true, List.contains_eq_mem, decide_eq_false_iff_not] at p
  obtain ⟨⟨⟨⟨⟨p1, p2⟩, p3⟩, p4⟩, p5⟩, p6⟩ := p
  have hn : ∀ c, cxOf o = some c → o ≠ O.cxRequest c := by
    intro c k
    rw [k] at p6
    simpa using p6
  have fo : ∀ {e : List Nat}, frees (among (o :: writeObjs)) e o := ⟨.inl (by simp [among]), by rintro rfl; exact absurd p4 (by decide),
    by rintro rfl; exact absurd p4 (by decide)⟩
  have z1 := txnCheck_ok (txnNew_one d.txnOpen org b hn) hz
  rw [txnValues_one _ org b p1 p2] at z1
  -- what the commit leaves before the unit reacts
  obtain ⟨x, f, gx, hx, hwr⟩ : ∃ x, Frame d x writeParts (among (o :: writeObjs)) [126] ∧ x.get o = z.get o ∧
      (d.txnOpen.txnCommit z (writeTxn org [writeItem o b]) ((d.log.txn + 1) % 2 ^ 32)).dev =
        (x.hook o (d.txnOpen.get o) ((Dict.ty o).decode b) org).hookGroups [(o, (Dict.ty o).decode b)] org ∧
      (d.txnOpen.txnCommit z (writeTxn org [writeItem o b]) ((d.log.txn + 1) % 2 ^ 32)).writes = [(o, (Dict.ty o).decode b)] := by
    have f0 : Frame d z writeParts (among (o :: writeObjs)) [126] := by
      rw [z1]
      exact (((Frame.refl d _ _ _).txnOpen (by simp [writeParts]) (by simp [among, writeObjs])).store_ o _ fo)
    have step : ∀ (c1 c2 : Prop) [Decidable c1] [Decidable c2] (m : Bool) (w : Dev), Frame z w [.log, .nvm] noObj [] →
        Frame z (if c2 then (if c1 then w.cfgChanged else w).daymarksChanged m else (if c1 then w.cfgChanged else w)) writeParts (among writeObjs) [126] := by
      intro c1 c2 _ _ m w hw
      have hw2 : Frame z w writeParts (among writeObjs) [126] := hw.weaken (by simp [writeParts]) (fun _ k => k.elim) (by simp)
      have k1 : Frame z (if c1 then w.cfgChanged else w) writeParts (among writeObjs) [126] := by
        split
        · exact hw2.cfgChanged (by simp [writeParts]) (by simp [among, writeObjs])
        · exact hw2
      refine ite_both (P := fun r : Dev => Frame z r writeParts (among writeObjs) [126]) ?_ k1
      exact k1.daymarksChanged _ (by simp [writeParts]) (by simp [writeParts]) (by simp [writeParts])
        (fun a m => by simp only [among, writeObjs]; simp only [List.mem_cons, List.not_mem_nil, or_false] at m ⊢; omega) (by simp)
    have key : ∀ x, Frame z x writeParts (among writeObjs) [126] → Frame d x writeParts (among (o :: writeObjs)) [126] ∧ x.get o = z.get o := by
      intro x k
      refine ⟨f0.trans (k.weaken (by simp) (fun a m => List.mem_cons_of_mem _ m) (by simp)), k.objs o p4 (fun m => p3 m) (fun v m => ?_)⟩
      simp only [List.mem_singleton] at m
      subst m
      exact p5
    have hd : d.txnOpen.defaultsChanged z (writeTxn org [writeItem o b]) = [] := by
      unfold Dev.defaultsChanged
      rw [txnDefaults_one org b p1]
    have hv : d.txnOpen.defaultsMoved (writeTxn org [writeItem o b]) = [] := by
      unfold Dev.defaultsMoved
      rw [txnDefaults_one org b p1]
    have hw : ((writeTxn org [writeItem o b]).items.filter (fun i => i.onValue && !(i.restore && isCommand i.oid))).map
        (fun i => (i.oid, if i.restore then z.get i.oid else i.value)) = [(o, (Dict.ty o).decode b)] := by
      simp only [writeTxn, List.filter_cons, List.filter_nil, writeItem_onValue, writeItem_restore, Bool.false_and, Bool.not_false, Bool.and_true,
        if_true, List.map_cons, List.map_nil, Bool.false_eq_true, if_false]
      rfl
    obtain ⟨k1, k2⟩ := key _ (step (d.txnOpen.changed z .P [o] = true) (d.txnOpen.changed z .P [o] = true ∨ d.txnOpen.changed z .C [o] = true)
      (List.any [o] (fun o => daymarked o && (d.txnOpen.changed z .P [o] || d.txnOpen.changed z .C [o]))) _ (Frame.txnLog d.txnOpen z (writeTxn org [writeItem o b])
        ((d.log.txn + 1) % 2 ^ 32)))
    refine ⟨_, k1, k2, ?_, ?_⟩
    rotate_left
    · unfold Dev.txnCommit
      simp only [hd, hv, hw, List.filter_nil, List.map_nil, List.append_nil]
    have ho : ((writeTxn org [writeItem o b]).items.filter (·.write)).map (·.oid) = [o] := by
      simp only [writeTxn, List.filter_cons, List.filter_nil, writeItem_write, if_true, List.map_cons, List.map_nil]
      rfl
    unfold Dev.txnCommit
    simp only [hd, hv, hw, ho, List.filter_nil, List.map_nil, List.append_nil, txnNew_one d.txnOpen org b hn]
    exact txnHooks_one _ _ _ _ _
  have go : d.txnOpen.get o = d.get o := by
    simp only [Dev.txnOpen, Dev.inc, Dev.count, Dev.get_setN]
    rw [if_neg (fun k => p3 (by simp [writeObjs, k]))]
    rfl
  have gz : z.get o = (d.store_ o ((Dict.ty o).decode b)).get o := by
    rw [z1]
    unfold Dev.store_
    split
    · exact go
    · split
      · simp only [Dev.get_setN, if_true, Dev.nat, Dev.num, go]
      · simp only [Dev.get_put, if_true]
  refine ⟨x, seqOf (d.txnOpen.txnCommit z (writeTxn org [writeItem o b]) ((d.log.txn + 1) % 2 ^ 32)).seqs, f, gx.trans gz, ?_⟩
  rw [go] at hx
  rw [← hx]
  have hr : d.txnRun (writeTxn org [writeItem o b]) = d.txnOpen.txnCommit z (writeTxn org [writeItem o b]) ((d.log.txn + 1) % 2 ^ 32) := by
    unfold Dev.txnRun
    dsimp only
    have : ∀ r, r = Except.ok z → (match r with
        | .ok z => d.txnOpen.txnCommit z (writeTxn org [writeItem o b]) ((d.log.txn + 1) % 2 ^ 32)
        | .error e => d.txnOpen.txnRefuse (writeTxn org [writeItem o b]) ((d.log.txn + 1) % 2 ^ 32) e) =
        d.txnOpen.txnCommit z (writeTxn org [writeItem o b]) ((d.log.txn + 1) % 2 ^ 32) := by
      intro r hr
      rw [hr]
    exact this _ hz
  unfold Dev.writes
  rw [if_pos hs]
  show d.txnQuiet (writeTxn org [writeItem o b]) = _
  unfold Dev.txnQuiet
  simp only [hr, hwr]

end Sys2Proof.Machine
end

