-- ==== Sys2Proof/Machine/Board.lean ====
section
/-! DEFINITION. What the board sees: supplies and their monitors (R558, R559, R577), the reference clock and the PLLs (R562, R564), the ball map
(R598 to R605, R611) and what each signal ball shows in a state (R525, R561, R600 to R603, R608, R609). -/

namespace Sys2Proof.Machine

/-! ### Supplies (Tables 21.4 and 22.2), in mV -/

/-- The supplies, in the order of Table 21.4. -/
inductive Supply where
  | core | ana | rf18 | io18 | io33 | ao
  deriving DecidableEq, Repr

/-- Index of a supply (Table 21.4). -/
def Supply.index (v : Supply) : Nat :=
  match v with
  | .core => 0 | .ana => 1 | .rf18 => 2 | .io18 => 3 | .io33 => 4 | .ao => 5

/-- Brown-out threshold, falling. -/
def supplyBrownMv (v : Nat) : Nat := ([690, 920, 1620, 1620, 2900, 2500] : List Nat).getD v 0
/-- Good threshold, rising. -/
def supplyGoodMv (v : Nat) : Nat := ([700, 935, 1650, 1650, 2970, 2600] : List Nat).getD v 0
/-- Recommended range (Table 22.2). -/
def supplyRangeMv (v : Nat) : Nat × Nat := ([(720, 780), (960, 1040), (1710, 1890), (1710, 1890), (3135, 3465), (3000, 3600)] : List (Nat × Nat)).getD v (0, 0)

/-! ### Clocks -/

/-- Frequency of REFCLK that STRAP[2:0] selects, in kHz (R562): codes 6 and 7 are taken as code 0. -/
def refclkKhz (straps : Nat) : Nat :=
  match straps % 8 with
  | 1 => 12288 | 2 => 19200 | 3 => 26000 | 4 => 38400 | 5 => 49152 | _ => 24576

/-- The converter and RF PLLs multiply by an integer (R562). -/
def refclkInteger (straps : Nat) : Bool := decide (straps % 8 ≠ 2) && decide (straps % 8 ≠ 3) && decide (straps % 8 ≠ 4)

/-- The PLLs of Table 21.5a. -/
inductive Pll where
  | system | converter | rf | network | audio | keeper (k : Nat)
  deriving DecidableEq, Repr

/-- Whether a PLL runs (Table 21.5a). -/
def Dev.pllRuns (d : Dev) (p : Pll) : Bool :=
  let sentry := d.asleep
  let ready := decide (d.pw.phase = .ready) && !d.pw.rising
  let boot := decide (d.pw.phase = .starting) && !d.pw.entered
  d.fabricOn &&
    (match p with
     | .system => true
     | .converter | .rf => !ready
     | .network | .audio => !sentry && !boot
     | .keeper k => decide (k = 0) || (!sentry && !boot))

/-- Output of a PLL in kHz: a Keeper's is KEEPER_FREQ; of the audio PLL the core clock. -/
def Dev.pllKhz (d : Dev) (p : Pll) : Nat :=
  match p with
  | .system => 600000
  | .converter => 393216
  | .rf => 786432
  | .network => 250000
  | .audio => 49152
  | .keeper k => 1000 * d.nat (O.pwKeeperFreq k)

/-! ### Signal balls (Tables 23.3 and 23.4) -/

/-- The signal balls; `n` is a chain, `p` a port, `x` 0 TX and 1 RX. -/
inductive Ball where
  | refinN | refinP | refclkP | refclkN | ospiClk | ospiDqs | ospiIo (i : Nat) | ospiCs (i : Nat) | ospiReset | mclk (i : Nat)
  | t1P | t1N | t1Rbias | t1sP | t1sN | canTx | canRx | spiCs | spiSclk | spiIo (i : Nat) | scl (p : Nat) | sda (p : Nat)
  | gpio (i : Nat) | resetN | wake (i : Nat) | strap (i : Nat) | hostirq (i : Nat) | tck | tms | tdi | tdo | trst
  | rfinHv (n : Nat) | rfinC (n : Nat) | feedEn (n : Nat) | feedSns (n : Nat) | audio (p x : Nat) (pin : AudioPin)
  deriving DecidableEq, Repr

/-- All signal balls. -/
def signalBalls : List Ball :=
  [.refinN, .refinP, .refclkP, .refclkN, .ospiClk, .ospiDqs, .ospiReset, .t1P, .t1N, .t1Rbias, .t1sP, .t1sN, .canTx, .canRx, .spiCs, .spiSclk,
   .resetN, .tck, .tms, .tdi, .tdo, .trst] ++
  (List.range 8).map .ospiIo ++ (List.range 2).flatMap (fun i => [.ospiCs i, .mclk i, .scl i, .sda i, .wake i, .hostirq i]) ++
  (List.range 4).flatMap (fun i => [.spiIo i, .strap i]) ++ (List.range 16).map .gpio ++
  (List.range 6).flatMap (fun n => [.rfinHv n, .rfinC n, .feedEn n, .feedSns n]) ++
  (List.range 8).flatMap (fun p => (List.range 2).flatMap (fun x => [.audio p x .bclk, .audio p x .ws, .audio p x .sd]))

/-- Letters of a row by its index 1–32 (R598). -/
def rowName (r : Nat) : String :=
  (["A", "B", "C", "D", "E", "F", "G", "H", "J", "K", "L", "M", "N", "P", "T", "U", "V", "W", "Y", "AA", "AB", "AC", "AD", "AE", "AF", "AG", "AH", "AJ",
    "AK", "AL", "AM", "AN"] : List String).getD (r - 1) ""

/-- Row index and column of a signal ball. -/
def Ball.place (b : Ball) : Nat × Nat :=
  match b with
  | .refinN => (1, 31) | .refinP => (1, 32) | .refclkP => (5, 4) | .refclkN => (5, 5)
  | .ospiClk => (5, 1) | .ospiDqs => (6, 1) | .ospiIo i => (7 + i, 1) | .ospiCs i => (5 + i, 2) | .ospiReset => (7, 2)
  | .mclk i => (21, 32 - i)
  | .t1P => (32, 3) | .t1N => (32, 4) | .t1Rbias => (31, 3) | .t1sP => (32, 7) | .t1sN => (32, 8)
  | .canTx => (30, 10) | .canRx => (30, 11) | .spiCs => (30, 13) | .spiSclk => (30, 14) | .spiIo i => (30, 15 + i)
  | .scl p => (31, 11 + 2 * p) | .sda p => (31, 12 + 2 * p)
  | .gpio i => if i = 15 then (24, 4) else (31, 17 + i)
  | .resetN => (24, 1) | .wake i => (24, 2 + i) | .strap i => (25, 1 + i) | .hostirq i => (26, 1 + i)
  | .tck => (28, 1) | .tms => (28, 2) | .tdi => (29, 1) | .tdo => (29, 2) | .trst => (30, 1)
  | .rfinHv n => (1, 3 + 5 * n) | .rfinC n => (1, 5 + 5 * n) | .feedEn n => (4, 3 + 5 * n) | .feedSns n => (4, 5 + 5 * n)
  | .audio p x pin => (5 + 2 * p + x, match pin with | .bclk => 32 | .ws => 31 | .sd => 30)

/-- Supply domain of a signal ball. -/
def Ball.domain (b : Ball) : Supply :=
  match b with
  | .refinN | .refinP | .rfinHv _ | .rfinC _ | .feedSns _ => .rf18
  | .refclkP | .refclkN | .t1P | .t1N | .t1Rbias | .t1sP | .t1sN => .ana
  | .ospiClk | .ospiDqs | .ospiIo _ | .ospiCs _ | .ospiReset | .mclk _ | .audio _ _ _ => .io18
  | .canTx | .canRx | .spiCs | .spiSclk | .spiIo _ | .scl _ | .sda _ | .hostirq _ | .tck | .tms | .tdi | .tdo | .trst | .feedEn _ => .io33
  | .gpio i => if i = 15 then .ao else .io33
  | .resetN | .wake _ | .strap _ => .ao

/-! ### Supply balls (Table 23.5) -/

/-- What a ball of the array is. -/
inductive BallUse where
  | signal (b : Ball)
  | supply (v : Supply)
  | vss
  | dnc
  deriving DecidableEq, Repr

/-- The supply that has the ball at a row index and column, where one has (Table 23.5, R604). -/
def supplyAt (r c : Nat) : Option Supply :=
  if 11 ≤ r ∧ r ≤ 26 ∧ 9 ≤ c ∧ c ≤ 24 then (if (r + c) % 2 = 0 then some .core else none)
  else if 5 ≤ r ∧ r ≤ 9 ∧ 9 ≤ c ∧ c ≤ 24 then (if (r + c) % 2 = 0 then some .ana else none)
  else if (r = 2 ∨ r = 3) ∧ c % 2 = 0 then some .rf18
  else if c = 3 ∧ r ∈ ([5, 7, 9, 11, 13] : List Nat) then some .io18
  else if c = 29 ∧ r ∈ ([5, 7, 9, 11, 13, 15, 17, 19, 21] : List Nat) then some .io18
  else if r = 29 ∧ 10 ≤ c ∧ c ≤ 24 ∧ c % 2 = 0 then some .io33
  else if r = 4 ∧ c % 5 = 4 then some .io33
  else if (r = 22 ∨ r = 23) ∧ c ≤ 2 then some .ao
  else none

/-- The ball at a row index and column (R599): a signal, supply or do-not-connect ball, else VSS. -/
def ballAt (r c : Nat) : BallUse :=
  match signalBalls.find? (fun b => decide (b.place = (r, c))) with
  | some b => .signal b
  | none =>
    match supplyAt r c with
    | some v => .supply v
    | none => if 15 ≤ r ∧ r ≤ 18 ∧ c ≤ 2 then .dnc else .vss

/-! ### What a signal ball shows -/

/-- What the device does at a ball: the codes of R600, the 50 Ω of an RF input, and a ball that its unit drives or receives by its own protocol. -/
inductive Drive where
  | input | inPd | inPu | low | high | hiZ | ohm50 | unit
  deriving DecidableEq, Repr

/-- Reset state (Tables 23.3 and 23.4). -/
def Ball.resetDrive (b : Ball) : Drive :=
  match b with
  | .refinN | .refclkP | .refclkN | .wake _ | .feedSns _ => .input
  | .gpio i => if i = 15 then .input else .inPd
  | .ospiDqs | .ospiIo _ | .spiSclk | .strap _ | .tck | .trst | .audio _ _ _ => .inPd
  | .spiIo i => if i = 1 then .hiZ else .inPd
  | .canRx | .spiCs | .resetN | .tms | .tdi => .inPu
  | .ospiClk | .ospiReset | .mclk _ | .feedEn _ => .low
  | .ospiCs _ | .canTx => .high
  | .t1P | .t1N | .t1sP | .t1sN | .scl _ | .sda _ | .hostirq _ | .tdo => .hiZ
  | .rfinHv _ | .rfinC _ => .ohm50
  | .refinP | .t1Rbias => .unit

/-- A level driven. -/
def driveLevel (b : Bool) : Drive := if b then .high else .low

/-- A GPIO ball once the configuration is restored (R608). -/
def Dev.gpioDrive (d : Dev) (i : Nat) : Drive :=
  let out := (d.nat O.syGpioOut).testBit i
  if (d.nat O.syGpioDir).testBit i then (if (d.nat O.syGpioOdrain).testBit i && out then .hiZ else driveLevel out)
  else if d.gpioPull i then .inPd else .input

/-- What signal ball `b` shows: in STANDBY the AO island's balls alone are powered (R608); while the device is held in reset the reset states, which the balls
of the configuration keep until it is restored (R600, R608); then as the owning unit says. On the ZF9463-AQ the feed balls of chains E and F are at high
impedance (R611). -/
def Dev.ball (d : Dev) (b : Ball) : Drive :=
  match b with
  | .feedEn n => if d.chains ≤ n then .hiZ else if d.fabricOn then driveLevel (d.chain n).feedEn else if d.pw.phase = .standby then .hiZ else .low
  | .gpio i =>
    if i = 15 then
      (match d.pw.supplyEn with
       | some v => driveLevel v
       | none => if d.pw.phase = .standby then (match d.pw.gpio15 with | some v => driveLevel v | none => .input)
                 else if d.serverUp then d.gpioDrive 15 else .input)
    else if d.pw.phase = .standby then .hiZ
    else if d.serverUp then d.gpioDrive i else .inPd
  | .resetN | .wake _ | .strap _ => b.resetDrive
  | .hostirq i => if d.fabricOn ∧ d.pins.testBit i then .low else if d.fabricOn ∧ (d.nat O.evEvHostirqMode).testBit i then .high else .hiZ
  | .audio p x pin =>
    if d.pw.phase = .standby then .hiZ
    else if d.audioPull p x pin then .inPd
    else if d.sideSt p x = 0 ∧ pin ≠ .sd then driveLevel (d.audioHeld p x pin) else .unit
  | .scl _ | .sda _ => if d.harbourOn then .unit else .hiZ
  | .ospiReset => if d.pw.phase = .standby then .hiZ else driveLevel d.fabricOn
  | _ => if d.pw.phase = .standby then .hiZ else if d.fabricOn then .unit else b.resetDrive

end Sys2Proof.Machine
end

