-- ==== Sys2Proof/Tests/Slice0.lean ====
section
/-! SUPPORT. Tests. For each statement, `witness_<its name>` shows states and operands that meet the hypotheses of its clauses, in their order; `takes`
decides the hypothesis `accepts`. Worked examples of the spec and ill-formed commands follow. -/

namespace Sys2Proof.Tests

open Sys2Proof.Machine

-- one proof at a time: many evaluations side by side exhaust the threads that checking may use
set_option Elab.async false
set_option maxRecDepth 100000

/-- Objects set. -/
def set (d : Dev) (l : List (Nat × Int)) : Dev := l.foldl (fun x p => x.setN p.1 p.2) d

/-- A device in a power state, one second after reset, with its configuration restored. -/
def at_ (p : Phase) : Dev :=
  { State.reset.dev with
    now := 1000000000, mono := 1000000000, pw := { State.reset.dev.pw with phase := p, entered := true, restored := true },
    kp := { State.reset.dev.kp with cores := (List.range 4).map (fun k => (k, ({ stackMode := false } : Core))) } }

/-- A device in RUN, with objects set. -/
def on (l : List (Nat × Int) := []) : Dev := set (at_ .run) l

/-- A sender of role N on 1000BASE-T1, outside a session, and one of role M. -/
def N : Origin := { role := .N, port := 1, session := 0, source := 0 }
def M : Origin := { role := .M, port := 1, session := 1, source := 0 }

/-- Whether the dictionary server accepts writes. -/
def takes (d : Dev) (org : Origin) (l : List TItem) : Bool :=
  d.serverUp && (match d.txnOpen.txnCheck (writeTxn org l) with | .ok _ => true | .error _ => false)

theorem takes_iff (d : Dev) (org : Origin) (l : List TItem) : takes d org l = true ↔ d.accepts org l := by
  unfold takes Dev.accepts
  simp only [Bool.and_eq_true]
  refine and_congr_right fun _ => ?_
  split
  · next z h => exact ⟨fun _ => ⟨z, h⟩, fun _ => rfl⟩
  · next e h => exact ⟨fun c => Bool.noConfusion c, fun ⟨z, hz⟩ => by rw [h] at hz; cases hz⟩

/-- The device that a command leaves. -/
def after (i : Instr) (d : Dev) : Dev :=
  match exec i { dev := d } with
  | .next t => t.dev
  | .fault _ => d
  | .refused _ => d


/-! ### Power, reset and start -/

def standby : Dev := { at_ .standby with pw := { (at_ .standby).pw with aoWake0 := 2, aoTimer := 5 } }
def hotStandby : Dev := { at_ .standby with pw := { (at_ .standby).pw with thermal := some 8, aoThermRestart := true } }
def sentry : Dev := { at_ .sentry with pw := { (at_ .sentry).pw with aoWake1 := 1 } }
def bootRom : Dev := { at_ .starting with pw := { (at_ .starting).pw with entered := false, restored := false } }
def firmware : Dev := { at_ .starting with pw := { (at_ .starting).pw with restored := false } }
def halted : Dev := let d := on [(O.pwHaltResetMs, 1)]; { d with pw := { d.pw with haltAt := [(3, 5)], pendReset := some (14, 0, 1000000500) } }
def ready : Dev := let d := at_ .starting; set { d with wt := { d.wt with selected := true } } [(O.wtActResult, 3), (O.cpChainState 0, 2), (O.cpChainState 1, 2), (O.cpChainState 2, 2), (O.cpChainState 3, 2), (O.cpChainState 4, 2), (O.cpChainState 5, 2), (O.ntT1Link, 1), (O.ntT1sStatus, 1), (O.ntCanState, 1)]

theorem witness_ResetSources :
    (on []).pw.phase ≠ .standby ∧ (on []).pw.refclkLost = false ∧ ((on []).wdtRuns 3 = true ∧ (on []).wdtRuns 0 = true) ∧
    (bootRom.pw.phase = .starting ∧ bootRom.pw.entered = false ∧ bootRom.pw.step5 = false ∧ (bootRom.core 0).dbg = false) ∧
    (halted.pw.haltAt.find? (fun p => decide (p.1 = 3)) = some (3, 5) ∧ halted.nat O.pwHaltResetMs ≠ 0) ∧
    halted.pw.pendReset = some (14, 0, 1000000500) ∧ (on [(O.scDebugState, 2)]).nat O.scDebugState = 2 := by decide +kernel

theorem witness_ResetRelease : State.reset.dev.pw.phase = .held ∧ State.reset.dev.pw.refclkLost = false ∧ State.reset.dev.nvm.calA.valid = false ∧
    State.reset.dev.nvm.calB.valid = false := by decide +kernel

theorem witness_SuppliesAndWatchdogWarning : ((on []).fabricOn = true ∧ 0 < supplyWarnMv 5) ∧
    ((on [(O.pwWake1Pfail, 1)]).flag O.pwWake1Pfail = true ∧ (on []).pw.wake1Low = false) ∧ (on []).wdtRuns 3 = true := by decide +kernel

theorem witness_Wakes : (standby.pw.aoWake0 ≠ 0 ∧ standby.pw.phase = .standby) ∧ (standby.pw.aoTimer ≠ 0 ∧ standby.pw.thermal = none) ∧
    (sentry.pw.aoWake1 ≠ 0 ∧ sentry.pw.aoPfail = false ∧ sentry.pw.phase = .sentry ∧ sentry.pw.waking = none) ∧ (at_ .sentryEntry).pw.phase = .sentryEntry ∧
    (hotStandby.pw.phase = .standby ∧ hotStandby.pw.thermal = some 8 ∧ hotStandby.pw.aoThermRestart = true) := by decide +kernel

theorem witness_SentryAndStandbyReached : ((at_ .sentryEntry).pw.phase = .sentryEntry ∧ (at_ .sentryEntry).pw.latched = none) ∧
    ((at_ .standbyEntry).pw.phase = .standbyEntry ∧ (at_ .standbyEntry).storesIdle = true ∧ (at_ .standbyEntry).pfail = false) := by decide +kernel

def hot : Dev := on [(O.pwTemp 8, 14000), (O.wtThermRank, 255)]

theorem witness_TemperatureAndThermalRank : ((on []).fabricOn = true ∧ [(0 : Int), 1, 2, 3, 4, 5, 6, 7, 14999].getD (hottest [0, 1, 2, 3, 4, 5, 6, 7, 14999]) 0 = 14999) ∧
    15000 ≤ [(0 : Int), 1, 2, 3, 4, 5, 6, 7, 15000].getD (hottest [0, 1, 2, 3, 4, 5, 6, 7, 15000]) 0 ∧ 14000 ≤ hot.dieTemp ∧
    ((on [(O.wtThermRank, 1)]).dieTemp < 13500 ∧ (on [(O.wtThermRank, 1)]).nat O.wtThermRank = 1) := by decide +kernel

theorem witness_StartUp :
    (firmware.pw.phase = .starting ∧ firmware.pw.entered = true ∧ firmware.pw.restored = false ∧ ∀ k < 8, (Tab.get ({} : DictPort) firmware.ports k).busy = false) ∧
    ((on []).serverUp = true ∧ (on []).wt.checking = none) ∧
    (ready.pw.phase = .starting ∧ ready.pw.restored = true ∧ (∀ n < ready.chains, ready.flag (O.cpChainEnable n) = true → ready.nat (O.cpChainState n) = 2) ∧
      (ready.wt.selected = true ∧ ready.wt.checking = none ∧ ready.wt.next = none ∧ 3 ≤ ready.nat O.wtActResult) ∧ ready.ll.checking = none ∧ ready.ll.next = none ∧
      (ready.flag O.ntT1Enable = true → ready.nat O.ntT1Link = 1) ∧ (ready.flag O.ntT1sEnable = true → ready.nat O.ntT1sStatus ≠ 0) ∧
      (ready.flag O.ntCanEnable = true → ready.nat O.ntCanState = 1 ∨ ready.nat O.ntCanState = 2)) := by decide +kernel

def watching : Dev := { on [] with wt := { (on []).wt with img := some {} } }

def listening : Dev := on [(O.cxState 63, 3), (O.cxType 63, 11)]

theorem witness_PowerRequests :
    (takes watching N [writeNum O.pwPwRequest 1] = true ∧ watching.wt.img.isSome = true) ∧ (takes (on []) N [writeNum O.pwPwRequest 1] = true ∧ (on []).wt.img = none) ∧
    (takes (at_ .ready) N [writeNum O.pwPwRequest 2] = true ∧ (at_ .ready).wt.checking = none) ∧ takes listening N [writeNum O.pwPwRequest 3] = true ∧
    takes (on []) N [writeNum O.pwPwRequest 4] = true ∧ takes (on []) N [writeNum O.pwPwRequest 5] = true := by decide +kernel


/-! ### RF capture -/

def chainOn (n : Nat) (c : ChainSt) (l : List (Nat × Int)) : Dev := (on l).setChain n c
def deferred : Dev := (on [(O.cpChainState 5, 2), (O.cpDoorEnable 5 2, 1)]).setDoor 5 2 { g := 12, deferred := some 24, lastStep := some 999999000 }
def clipping : Dev := chainOn 5 { lastDecl := some 999000000, at55 := some 990000000, armed := true }
  [(O.cpChainState 5, 2), (O.cpOvlEnable 5, 1), (O.cpOvlClipCount 5, 2), (O.cpDoorEnable 5 0, 1)]
def quietPath : Dev := on [(O.cpChainState 0, 2), (O.cpOvlEnable 0, 0)]
def feed (st : Int) : Dev := on [(O.cpFeedState 5, st), (O.cpIOpen 5, 10), (O.cpFeedEnable 5, 1)]

theorem witness_GainControl : deferred.doorLive 5 2 = true ∧ (deferred.door 5 2).deferred = some 24 ∧ (deferred.door 5 2).lastStep = some 999999000 ∧
    deferred.chains = 6 := by decide +kernel

theorem witness_OverloadPath :
    (clipping.chainUp 5 = true ∧ clipping.flag (O.cpOvlEnable 5) = true ∧
      (clipping.lanesClipped 5 [8191, -8192] []).any (fun x => decide (clipping.nat (O.cpOvlClipCount 5) ≤ x.length)) = true) ∧
    (quietPath.chainUp 0 = true ∧ quietPath.flag (O.cpOvlEnable 0) = false) ∧
    (clipping.chainUp 5 = true ∧ ∀ x ∈ clipping.lanesClipped 5 [8191, 8158, -8159] [], x.length < clipping.nat (O.cpOvlClipCount 5)) ∧
    (on []).chainUp 0 = false ∧ ((clipping.chain 5).at55 = some 990000000 ∧ (clipping.chain 5).armed = true ∧ clipping.canRaise 37 = true) ∧
    (clipping.chain 5).lastDecl = some 999000000 := by decide +kernel

theorem witness_FeedProtection : (feed 1).nat (O.cpFeedState 5) = 1 ∧ ((feed 2).nat (O.cpFeedState 5) = 2 ∧ (feed 2).nat (O.cpIOpen 5) ≠ 0) ∧
    (feed 3).nat (O.cpFeedState 5) = 3 ∧ (on [(O.cpIOpen 0, 0)]).nat (O.cpIOpen 0) = 0 ∧ (feed 5).nat (O.cpFeedState 5) = 5 := by decide +kernel

theorem witness_FeedAndChainWrites :
    takes (on []) N [writeNum (O.cpFeedEnable 5) 1] = true ∧ takes (feed 2) N [writeNum (O.cpFeedEnable 5) 0] = true ∧
    (takes (feed 6) N [writeNum (O.cpFeedReset 5) 1] = true ∧ (feed 6).nat (O.cpFeedState 5) = 6) ∧ takes (feed 6) N [writeNum (O.cpFeedReset 5) 0] = true ∧
    (let d := on [(O.cpChainEnable 5, 0)]
     takes d N [writeNum (O.cpChainEnable 5) 1] = true ∧ d.num (O.cpChainEnable 5) = 0 ∧ d.lanesOn = true ∧ d.nat (O.cpChainState 5) = 0) ∧
    (takes (on [(O.cpChainEnable 0, 1)]) N [writeNum (O.cpChainEnable 0) 0] = true ∧ (on [(O.cpChainEnable 0, 1)]).num (O.cpChainEnable 0) ≠ 0) := by decide +kernel

def lband (st : Int) (k : Nat) : Dev :=
  let d := on [(O.cpLsynState, st), (O.cpDoorCBand 5, 1), (O.cpDoorEnable 5 2, 1), (O.cpChainEnable 5, 1)]
  { d with rf := { d.rf with lsyn := { attempts := k } } }
def switching : Dev := chainOn 5 { bandMute := true } [(O.cpBandSwitching 5, 1), (O.cpChainEnable 5, 0)]

theorem witness_LbandSynthesiser :
    ((lband 0 0).nat O.cpLsynState = 0 ∧ (lband 0 0).lsynUsers = 32) ∧
    ((lband 3 3).nat O.cpLsynState = 3 ∧ clearBits (lband 3 3).lsynUsers (lband 3 3).rf.lsyn.users ≠ 0) ∧
    ((lband 1 2).nat O.cpLsynState = 1 ∧ (lband 1 2).rf.lsyn.attempts < 3) ∧ 3 ≤ (lband 1 3).rf.lsyn.attempts ∧ (lband 2 0).nat O.cpLsynState = 2 ∧
    ((on [(O.cpLsynState, 2)]).lsynUsers = 0 ∧ (on [(O.cpLsynState, 2)]).nat O.cpLsynState ≠ 0) ∧
    takes (lband 2 0) N [writeNum O.cpLsynCalCmd 1] = true ∧ takes (lband 1 0) N [writeNum O.cpLsynCalCmd 1] = true ∧
    (takes (lband 0 0) N [writeNum (O.cpDoorCBand 5) 0] = true ∧ (lband 0 0).num (O.cpDoorCBand 5) ≠ 0) ∧
    ((switching.chain 5).bandMute = true ∧ switching.lsynUsers.testBit 5 = false) := by decide +kernel


/-! ### The Watch -/

def plan : WatchImg := { periodUs := 10000, slots := [{ start := 0, est := 100, budget := 12, kind := 1 }, { start := 200, est := 50, kind := 3, track := 4, job := 3 },
  { start := 300, est := 50, budget := 2, kind := 2, job := 2 }] }
def watch (w : WatchState) (l : List (Nat × Int) := []) : Dev := { on l with wt := w }
def grid : WatchState := { img := some plan, grid := 990000000, doneAt := 999000000, kept := [(0, .done), (1, .done)] }

theorem witness_PeriodOnTheGrid :
    (let d := watch grid
     d.serverUp = true ∧ d.periodDone = true ∧ d.wt.img = some plan ∧ d.wt.next = none ∧ d.wt.resume = false ∧ d.wt.stopping = false ∧ d.wt.resync = false ∧
     d.wt.storm = false ∧ d.wt.stormExit = false ∧ d.inSentry = false ∧ d.wt.run < 16) ∧
    (let d := watch { grid with run := 16, doneAt := 1000000001 }
     d.periodDone = true ∧ 16 ≤ d.wt.run ∧ d.wt.grid + plan.periodUs * 1000 < d.wt.doneAt) ∧
    (let d := watch { next := some (plan, 2) }
     d.serverUp = true ∧ d.periodDone = true ∧ d.wt.img = none ∧ d.wt.next = some (plan, 2) ∧ d.wt.stopping = false ∧ d.wt.resume = false ∧ d.inSentry = false) ∧
    (let d := watch { grid with stopping := true }; d.serverUp = true ∧ d.periodDone = true ∧ d.wt.img = some plan ∧ d.wt.stopping = true) ∧
    State.reset.dev.serverUp = false ∧ (watch { grid with kept := [(0, .waiting)] }).periodDone = false := by decide +kernel

def slots : Dev := watch { grid with kept := [(0, .running 990000000), (1, .waiting)] }
def slotsHalted : Dev := slots.setCore 3 { dead := true }

theorem witness_SlotRuns : (slots.serverUp = true ∧ slots.slotWaits 1 = true ∧ slots.slotHalted (slots.planSlots.getD 1 {}) = false) ∧
    (slotsHalted.slotWaits 1 = true ∧ slotsHalted.slotHalted (slotsHalted.planSlots.getD 1 {}) = true) ∧
    (slots.slotHeld 0 = false ∧ slots.wt.kept.find? (fun q => decide (q.1 = 0)) = some (0, .running 990000000) ∧ slots.bl.entry = none) := by decide +kernel

def storming : Dev := watch { grid with storm := true }
def early : Dev := { (on [(O.wtEarlyTrack, 1), (O.cxState 63, 3), (O.cxType 63, 2), (O.cxRf 63, 1000000), (O.cxAntCount 63, 1), (O.cxAntChain 63 0, 5)]).setRoute 0
  { layers := [({ src := 0x0100003F }, 0, 0)] } with now := 20000000000, mono := 20000000000 }

theorem witness_ActivationAndMask :
    takes (on []) N [writeNum O.wtActivate 2] = true ∧
    (watch { checking := some 1 }).wt.bootTry = [] ∧ (watch { checking := some 1, bootTry := [2, 0] }).wt.bootTry = 2 :: [0] ∧
    (watch { checking := some 2, bootTry := [0] }).wt.bootTry = 0 :: [] ∧
    takes (on []) N [writeNum (O.wtSlotMask 3) (2 ^ 64 - 1 : Nat)] = true ∧ takes storming N [writeNum O.wtStormExit 1] = true ∧
    (early.serverUp = true ∧ early.flag O.wtEarlyTrack = true ∧ early.feeder = some (63, 0) ∧ early.cxLive 63 = true ∧ early.nat (O.cxType 63) = 2 ∧
      early.nat (O.cxDoor 63) < 2 ∧ max (max (early.nat (O.auRouteTApplied 0)) (early.nat (O.cxTLock 63))) 0 + 10000000000 ≤ early.now ∧
      early.wt.earlyWriteAt = none ∧
      takes { early with wt := { early.wt with earlyWriteAt := some early.mono } } { Machine.firmware with source := 0xFF00 }
        [writeNum O.wtEarlyType (early.nat (O.cxType 63)), writeNum O.wtEarlyRf (early.nat (O.cxRf 63)), writeNum O.wtEarlyDoor (early.nat (O.cxDoor 63)),
          writeNum O.wtEarlyChains (((early.cxChains 63).eraseDups.map (fun n => 2 ^ n)).sum : Nat)] = true) := by decide +kernel

/-! ### Contexts -/

def ctx (c : Nat) (x : CtxSt) (l : List (Nat × Int)) : Dev := (on l).setCtx c x
def det : HypDet := { entry := 0, mode := 0, offset := 60000, timing := 0, sample := 100, peak := 600, depth := 0, len := 0 }
def hyp (p k : Nat) : Hyp := { slot := 3, det := det, verifying := true, saved := 0, checked := k, passed := p }
/-- An FM context on one tap of chain 5. -/
def fm (st : Int) (x : CtxSt) (l : List (Nat × Int) := []) : Dev :=
  ctx 63 x ([(O.cxState 63, st), (O.cxType 63, 1), (O.cxRequest 63, 1), (O.cxAntCount 63, 1), (O.cxAntChain 63 0, 5), (O.cxTap 63 0, 127), (O.lnTapState 127, 2),
    (O.lnTapContext 127, 63), (O.lnTapChain 127, 5), (O.lnTapRate 127, 4), (O.cpChainState 5, 2), (O.cpDoorEnable 5 0, 1)] ++ l)
def confirm : Confirm := { entry := 0, at_ := 0, ok := true, fac := ⟨0, 0, 0, 0, 0, 0⟩, delays := [0] }

theorem witness_ContextStates :
    (let d := fm 2 { hyps := [hyp 8 10] }
     d.nat (O.cxAntCount 63) ≤ 6 ∧ d.cxSt 63 = 2 ∧ (d.ctx 63).hyps.find? (·.verifying) = some (hyp 8 10) ∧ d.hypPassed 63 (hyp 8 10) confirm = true) ∧
    (let d := fm 3 { ana := { loss := 300 } }; d.cxSt 63 = 3 ∧ d.cxLost 63 = true) ∧
    (let d := fm 5 { again := [(0, [true, true, true, true, true, true, true, true, false, false])] }; d.cxSt 63 = 5 ∧ d.heldFound 63 confirm = true) ∧
    (let d := fm 5 {}; d.cxSt 63 = 5 ∧ (d.cxEff 63 (O.cxHoldTimeoutMs 63)).toNat ≠ 0) ∧
    (let d := fm 5 {} [(O.cxHoldTimeoutMs 63, 0)]; d.cxSt 63 = 5 ∧ (d.cxEff 63 (O.cxHoldTimeoutMs 63)).toNat = 0) ∧
    (let d := fm 2 {} [(O.cxAcqTimeoutMs 63, 1)]; d.cxSt 63 = 2 ∧ (d.cxEff 63 (O.cxAcqTimeoutMs 63)).toNat ≠ 0) := by decide +kernel

theorem witness_AcquisitionHypotheses :
    (let d := fm 2 { hyps := [{ hyp 1 1 with det := { det with offset := -60000 } }] }
     d.cxSt 63 = 2 ∧ d.detectionOk 63 det = true ∧ det.entry < d.nat (O.cxAntCount 63) ∧
     (∀ y ∈ (d.ctx 63).hyps, sameSignal (d.cxKind 63) (d.nat (O.cxType 63)) y.det det = false) ∧ ∀ y ∈ (d.ctx 63).dets, y.sample ≠ det.sample) ∧
    (let d := fm 2 { hyps := [hyp 0 3, { hyp 0 0 with slot := 0, verifying := false, saved := 2 }, { hyp 0 0 with slot := 1, verifying := false, saved := 1 }] }
     (d.ctx 63).hyps.find? (·.verifying) = some (hyp 0 3) ∧ d.hypFailed 63 (hyp 0 3) = true) := by decide +kernel

def asked : Dev := on [(O.cxType 63, 1), (O.cxRf 63, 98500000), (O.cxDoor 63, 1), (O.cxAntCount 63, 1), (O.cxAntChain 63 0, 5), (O.cxSlot 63, 2), (O.cpDoorEnable 5 0, 1), (O.cpChainEnable 5, 1)]
def placed : Dev := { asked with wt := grid }
def selecting : Dev := fm 3 { ahead := [(1, 0)] } [(O.cxAntCount 63, 2), (O.cxCmbMode 63, 1), (O.cxIncluded 63, 3), (O.cxSwitchHoldMs 63, 1000)]

theorem witness_ContextRequestsAndRuns :
    (placed.cxSt 63 = 0 ∧ takes placed N [writeNum (O.cxRequest 63) 2] = true) ∧ ((fm 3 { owner := .N } [(O.cxOwner 63, 1)]).cxSt 63 ≠ 0 ∧ takes (fm 3 { owner := .N } [(O.cxOwner 63, 1)]) N [writeNum (O.cxRequest 63) 0] = true) ∧
    (let d := fm 1 {} [(O.lnTapState 127, 1)]; d.nat (O.lnTapState 127) = 1 ∧ d.nat (O.lnTapContext 127) = 63) ∧
    (let d := fm 1 {} [(O.lnTapState 127, 1), (O.cxType 63, 10), (O.cxIqRate 63, 4)]
     d.nat (O.lnTapState 127) = 1 ∧ typeDirect (d.nat (O.cxType 63)) (d.nat (O.cxSubject 63)) = true ∧ d.cxSt 63 = 1) ∧
    (selecting.cxMode 63 = 1 ∧ selecting.cxSt 63 = 3 ∧ (((selecting.ctx 63).ahead.filter (fun p =>
      decide (p.2 + (selecting.cxEff 63 (O.cxSwitchHoldMs 63)).toNat * 1000000 ≤ selecting.mono) && (selecting.nat (O.cxIncluded 63)).testBit p.1)).map (·.1)).head? = some 1) ∧
    (let d := fm 3 { running := true }; (d.ctx 63).running = true ∧ d.nat (O.cxAntCount 63) ≤ 6 ∧ ∀ i < 6, d.nat (O.cxTap 63 i) < 256) := by decide +kernel


/-! ### Reception, the Sweep, side data and warnings -/

/-- The chips of an RDS block (R183). -/
def chips (w : Nat) : Nat :=
  ((List.range 26).foldl (fun (p : Bool × Nat) k => let b := w.testBit (25 - k) != p.1; (b, 4 * p.2 + (if b then 2 else 1))) (false, 0)).2
def am (st : Int) (a : AnaSt) (l : List (Nat × Int) := []) : Dev := fm st { ana := a } ((O.cxType 63, 2) :: l)
def digital (ty : Int) (x : CtxSt := {}) : Dev := fm 3 x [(O.cxType 63, ty)]
def noSig : SigInfo := ⟨1, 0, 0, 0, 0, 0⟩

theorem witness_AnalogueReception :
    (let d := fm 5 {}; d.cxAnalogue 63 = true ∧ d.cxWorks 63 = true ∧ d.nat (O.cxType 63) = 1 ∧ d.cxSt 63 = 5) ∧
    (let d := fm 3 { bw := 3 }; d.cxAnalogue 63 = true ∧ d.cxWorks 63 = true ∧ d.cxSt 63 = 3 ∧ d.bwAuto 63 = true) ∧
    (let d := fm 4 { ana := { pilotHi := 100 } }; d.nat (O.cxType 63) = 1 ∧ d.cxWorks 63 = true ∧ 100 ≤ (d.ctx 63).ana.pilotHi) ∧
    (let d := fm 3 { ana := { pilotLo := 100 } } [(O.cxStereo 63, 1)]; d.cxWorks 63 = true ∧ 100 ≤ (d.ctx 63).ana.pilotLo) ∧
    (let d := am 3 { phLow := 50 }; d.cxAm 63 = true ∧ 50 ≤ (d.ctx 63).ana.phLow) ∧
    (let d := am 3 { phHigh := 20 } [(O.cxSyncLock 63, 1), (O.cxAmSideband 63, 3)]; d.cxAm 63 = true ∧ 20 ≤ (d.ctx 63).ana.phHigh) ∧
    (let d := am 4 { sides := (600, 0) } [(O.cxSyncLock 63, 1)]
     d.cxAm 63 = true ∧ d.cxEff 63 (O.cxAmMode 63) = 0 ∧ d.flag (O.cxSyncLock 63) = true ∧ (d.ctx 63).ana.detWants = some 2) := by decide +kernel

def rds (x : RdsSync) : Dev := fm 3 { rds := [(3, x)] } [(O.cxRdsEnable 63, 15)]

theorem witness_RdsAndMeasurement :
    ((rds { prev := some 4 }).rdsOn 63 3 = true ∧ Tab.get {} ((rds { prev := some 4 }).ctx 63).rds 3 = { prev := some 4 } ∧ 0 ∈ rdsNext 4 ∧
      rdsRem 16 (rdsWord false (chips 0x0FC)).2 = rdsOffsets.getD 0 0) ∧
    (∀ k < 6, rdsRem 16 (rdsWord false (chips 0x0FD)).2 ≠ rdsOffsets.getD k 0) ∧
    ((Tab.get {} ((rds { sync := true, expect := 4 }).ctx 63).rds 3).sync = true ∧ 0 ∈ rdsNext 4) ∧
    (∀ k ∈ rdsNext 4, rdsFix (rdsWord false (chips 0x3FFFC0F)).2 (rdsOffsets.getD k 0) ((rds {}).cxEff 63 (O.cxRdsErrMax 63)).toNat = none) ∧
    (let d := fm 3 {} [(O.cxType 63, 9)]; d.nat (O.cxType 63) = 9 ∧ d.cxWorks 63 = true) := by decide +kernel

theorem witness_DigitalReception :
    (let d := digital 5; d.cxAnalogue 63 = false ∧ d.cxKind 63 = 2 ∧ d.nat (O.cxType 63) ≠ 0 ∧ d.cxWorks 63 = true ∧ d.cxDigital 63 = true) ∧
    (let d := digital 5 { info := true }; d.cxDigital 63 = true ∧ d.cxKind 63 = 2 ∧ (d.ctx 63).info = true ∧ d.nat (O.cxEid 63) ≠ 0xC221) ∧
    (let d := digital 3; d.cxDigital 63 = true ∧ d.cxKind 63 = 3) ∧ (let d := digital 8; d.cxDigital 63 = true ∧ d.cxKind 63 = 4) ∧
    (let d := digital 5 { sels := [(4, { state := 2 })] }; (d.sel 63 4).state = 2) := by decide +kernel

def sweep (ints : List (Nat × SweepInt)) (due : List (Nat × SweepSeg × SweepInt)) : Dev :=
  let d := on [(O.cpChainState 5, 2)]
  { d with lens := { d.lens with plan := [{ chainMask := 32, interval := 100 }], ints := ints, due := due } }

theorem witness_SweepIntervals :
    (let d := sweep [(5, { tStart := 950000000, mStart := 950000000, up := true })] []
     d.fabricOn = true ∧ d.lens.due.find? (fun c => decide (c.1 = 5)) = none ∧ Tab.has d.lens.ints 5 = true ∧ ∀ p ∈ d.lens.ints, d.now ≤ p.2.tEnd (d.lens.plan.getD (p.1 / 8) {})) ∧
    (let d := sweep [] [(5, {}, { cutAt := some 999000000, up := true })]; d.lens.due.find? (fun c => decide (c.1 = 5)) = some (5, {}, { cutAt := some 999000000, up := true })) ∧
    (let d := sweep [] []; d.lens.due.find? (fun c => decide (c.1 = 511)) = none ∧ Tab.has d.lens.ints 511 = false) := by decide +kernel

def sd (x : SdState) (l : List (Nat × Int) := []) : Dev := { on l with sd := x }
def mot : MotObj := { ctx := 63, sub := 2, tid := 7, sid := 0xD210, app := 0, since := 5 }
def aged : Dev := sd { svcs := [(2, { std := 0, sid := 0xD210, noSrc := some 5 })] } [(O.sdSvcAgeS, 1)]
def stalled : Dev := sd { full := [(7, 0)] } [(O.sdSdStreamEnable 7, 1)]

theorem witness_SideData :
    (let d := sd { mots := [mot] }
     d.sd.mots.find? (fun m => decide (m.ctx = 63) && decide (m.sub = 2) && decide (m.tid = 7)) = some mot ∧ d.keeperUp 1 = true) ∧
    (aged.sd.svcs.find? (fun p => decide (p.1 = 2)) = some (2, { std := 0, sid := 0xD210, noSrc := some 5 }) ∧ aged.nat O.sdSvcAgeS ≠ 0 ∧ aged.keeperUp 1 = true) ∧
    takes aged N [writeNum O.sdSvcDump 1] = true ∧ aged.sd.out = [] ∧
    (stalled.sd.full.find? (fun p => decide (p.1 = 7)) = some (7, 0) ∧ 0 + 1000000000 ≤ stalled.mono ∧
      takes stalled { Machine.firmware with source := 0xFF01 } [writeNum (O.sdSdStreamEnable 7) 0] = true) := by decide +kernel

def ind : FhInd := { cls := 0, ctx := 63, sid := 0xD210, present := true, ended := false, at_ := 999999999 }
/-- An FM context that a warning of class 0 stands on. -/
def fog (w : FhSlot) (l : List (Nat × Int)) (x : SdState := {}) : Dev :=
  { fm 3 {} ([(O.sdFhAction 0, 2), (O.sdWarnContext 7, 63)] ++ l) with sd := { x with warns := [(7, w)] } }
def unconfirmed : Dev := fog { cls := 0, sid := 0xD210, srcs := [63], seen := [(63, 9)] } [(O.sdWarnState 7, 1), (O.sdFhConfirm, 3)] { inds := [ind] }
def selected : Dev := fog { cls := 0, sid := 0xD210, srcs := [63], started := true, last := 5, own := some 63 } [(O.sdWarnState 7, 2)]
def routed : Dev := fog { cls := 0, sid := 0xD210, srcs := [63], started := true, last := 5 } [(O.sdWarnState 7, 3), (O.cxState 63, 5)]

theorem witness_Foghorn :
    (let d := fog {} [(O.sdFhConfirm, 2)] { inds := [ind] }
     d.sd.inds = ind :: [] ∧ d.serverUp = true ∧ d.fhFits 63 0 = true ∧ (ind.cls, ind.sid) ∉ d.sd.quiet ∧ (∀ v < 8, d.fhMeans ind v = false) ∧ d.fhAction 0 ≠ 0 ∧
     (List.range 8).find? (fun v => decide (d.warnSt v = 0)) = some 0 ∧ 1 < d.nat O.sdFhConfirm ∧ ∀ w < 8, d.nat (O.sdWarnContext w) < 64) ∧
    (unconfirmed.sd.inds = ind :: [] ∧ unconfirmed.serverUp = true ∧ unconfirmed.fhFits 63 0 = true ∧ ((List.range 8).filter (unconfirmed.fhMeans ind)).head? = some 7 ∧
      unconfirmed.warnSt 7 = 1 ∧ unconfirmed.nat O.sdFhConfirm ≤ Tab.get 0 (unconfirmed.warn 7).seen 63 + 1 ∧ unconfirmed.inSentry = false) ∧
    (on []).sd.inds = [] ∧ ((fog { cls := 2 } [(O.sdWarnState 7, 1)]).warnSt 7 = 1 ∧ ((fog { cls := 2 } [(O.sdWarnState 7, 1)]).warn 7).cls = 2) ∧
    (selected.warnSt 7 = 2 ∧ selected.fhAction (selected.warn 7).cls = 2 ∧ selected.fhReady 7 = true ∧ selected.fhSilent (selected.warn 7) = some 5 ∧
      ∀ w < 8, (selected.warn w).own = none ∨ (selected.warn w).own = some 63) ∧
    (routed.warnSt 7 = 3 ∧ (routed.warn 7).srcs.filter (fun c => routed.fhAlive (routed.warn 7) c) = [63] ∧ routed.cxSt 63 = 5) ∧
    takes routed N [writeNum (O.sdWarnDismiss 7) 1] = true := by decide +kernel


/-! ### Light List, following and measurement filters -/

def list_ (w : LlImg) (l : List (Nat × Int) := []) : Dev := let d := on l; { d with ll := { d.ll with img := some w } }
/-- A list whose one block is empty, with the leaf of an empty block. -/
def emptyBlock : LlImg := { blocks := 1, leaves := ([0x6e, 0x34, 0x0b, 0x9c, 0xff, 0xb3, 0x7a, 0x98, 0x9c, 0xa5, 0x44, 0xe6, 0xbb, 0x78, 0x0a, 0x2c, 0x78, 0x90,
  0x1d, 0x3f, 0xb3, 0x37, 0x38, 0x76, 0x85, 0x11, 0xa3, 0x06, 0x17, 0xaf, 0xa0, 0x1d] : List Byte) }

theorem witness_LightList :
    takes (on []) N [writeNum O.llLlActivate 2] = true ∧
    (let d := { on [] with ll := { checking := some 2 } }; d.ll.checking = some 2 ∧ d.keeperUp 0 = true) ∧
    (let d := list_ { blocks := 1, cache := [(0, [])] }
     d.keeperUp 2 = true ∧ 0 < 1 ∧ 0 ∉ ({ blocks := 1, cache := [(0, [])] } : LlImg).bad ∧ ([(0, [])] : List (Nat × List Byte)).find? (fun x => decide (x.1 = 0)) = some (0, [])) ∧
    (emptyBlock.cache.find? (fun x => decide (x.1 = 0)) = none ∧ (list_ emptyBlock).llBlockOk emptyBlock 0 = true) ∧
    (list_ { blocks := 1 }).llBlockOk { blocks := 1 } 0 = false ∧
    takes (on []) N [writeNum O.llPosLat (-2147483648), writeNum O.llPosLon 1800000000] = true ∧
    ((on [(O.llPosState, 1)]).nat O.llPosState = 1 ∧ (on []).keeperUp 2 = true) := by decide +kernel

def follow (x : LlSlot) (st : Int) (l : List (Nat × Int) := []) : Dev := (on ((O.llFollowState 1, st) :: (O.llFollowEnable 1, 1) :: l)).setLl 1 x
def shadow : LlCtx := { ctx := 62, cand := { rf := 98500000, ty := 1, ident := 0xD210 }, armed := 5 }
def switchTo : Dev := follow { active := some { ctx := 63, known := true }, others := [shadow], target := some (62, 100, 48), lineB := { ctx := 62, d := 1, held := [(0, 0)] } } 3
  [(O.cxState 62, 3), (O.cxState 63, 3)]
def switched : Dev := follow { active := some { ctx := 63 }, others := [shadow], target := some (62, 100, 48), fade := some { start := 48000, len := 4800 } } 3

theorem witness_ServiceFollowing :
    (takes (on [(O.llFollowId 1, 0xD210)]) N [writeNum (O.llFollowEnable 1) 1] = true ∧ (on [(O.llFollowId 1, 0xD210)]).nat (O.llFollowState 1) = 0) ∧
    (takes switchTo N [writeNum (O.llFollowEnable 1) 0] = true ∧ switchTo.nat (O.llFollowState 1) ≠ 0 ∧
      ∀ y ∈ (switchTo.llSlot 1).others ++ (switchTo.llSlot 1).active.toList, y.ctx < 64) ∧
    ((switchTo.llSlot 1).others.find? (fun y => decide (y.ctx = 62) && !y.known) = some shadow ∧ switchTo.keeperUp 2 = true) ∧
    ((switchTo.llSlot 1).others.find? (fun y => decide (y.ctx = 62)) = some shadow ∧ (switchTo.llSlot 1).active.isSome = true ∧ switchTo.cxSt 62 = 3) ∧
    ((switchTo.llSlot 1).target = some (62, 100, 48) ∧ (switchTo.llSlot 1).fade = none ∧ (switchTo.llSlot 1).useB = false ∧ (switchTo.llSlot 1).lineB.ctx = 62 ∧
      (switchTo.llSlot 1).lineB.d ≤ (switchTo.llSlot 1).lineB.held.length) ∧
    ((switched.llSlot 1).target = some (62, 100, 48) ∧ (switched.llSlot 1).fade = some { start := 48000, len := 4800 } ∧ switched.nat (O.llFollowState 1) = 3 ∧
      switched.keeperUp 2 = true) := by decide +kernel

def filters (x : MfState) (l : List (Nat × Int) := []) : Dev := { on l with mf := x }
def inputs : Dev := filters { inq := [(504, { t := 1000000000, v := some 5 })] }
def holding : Dev := filters { chans := [(523, { live := true, held := [(5, 0)], heldAt := 5 })] } [(O.mk 12 0x205 (8 * 5 + 1), 128), (O.lnStreamEnable 7, 1)]

theorem witness_MeasurementFilters :
    (let d := filters {} [(O.cpChainState 5, 2), (O.mk 12 0x205 8, 0), (O.mk 12 0x205 9, 0), (O.mk 12 0x205 16, 1), (O.mk 12 0x205 17, 0)]
     (d.mfChan 522 = {} ∧ d.mfSet 522 0 ≤ 1 ∧ d.mfSet 522 1 = 0 ∧ d.mfSet 522 2 ≤ 1 ∧ d.mfSet 522 4 ≠ 1 ∧ d.nat (O.cpChainState ((522 - 512) / 2)) = 2) ∧
     (d.mfChan 523 = {} ∧ d.mfSet 523 0 ≤ 1 ∧ d.mfSet 523 1 = 0 ∧ d.mfSet 523 2 ≤ 1 ∧ d.mfSet 523 4 ≠ 1)) ∧
    (inputs.mfBlock 504 ≠ none ∧ inputs.mf.inq.find? (fun p => decide (p.1 = 504)) = some (504, { t := 1000000000, v := some 5 })) ∧
    (holding.mfChan 523).held ≠ [] ∧ takes holding N [writeNum (O.mk 12 0x205 9) 4] = true ∧ takes holding N [writeNum (O.mk 12 0x205 (8 * 2 + 1)) 1] = true ∧
    takes (on []) N [writeNum (O.mfThrChannel 255) 65535] = true := by decide +kernel


/-! ### Calibration and stores -/

def ramp (n : Nat) : Ramp := { a := List.replicate n 0, b := List.replicate n 100, ms := 10, step := 255, running := true, since := 5 }
def cal (x : CalState) (l : List (Nat × Int) := []) : Dev := { on l with cal := x }
def laneG (stage : Int) (x : CalState := { ramps := [(0, ramp 7)] }) (l : List (Nat × Int) := []) : Dev :=
  cal x ([(O.cpLanegChain, 5), (O.cpLanegStage, stage), (O.cpChainState 5, 2)] ++ l)
def align : Align := { delay := 0, gains := [0, 0, 0], phases := [0, 0, 0] }

theorem witness_LampChanger :
    ((laneG 1).nat O.cpLanegStage = 1 ∧ (laneG 1).nat O.cpLanegChain = 5 ∧ (laneG 1).keeperUp 3 = true ∧ (laneG 1).nat (O.caLaneDue 6) = 0) ∧
    (laneG 1 {} [(O.caLaneDue 6, 1)]).nat (O.caLaneDue 6) ≠ 0 ∧ (laneG 2).nat O.cpLanegStage = 2 ∧
    ((laneG 3).nat O.cpLanegStage = 3 ∧ alignWithin align = true ∧
      ((laneG 3).after 0 2).overlapUsable 5 (((laneG 3).after 0 2).sampleIndex - 786432) ((laneG 3).after 0 2).sampleIndex = true) ∧
    alignWithin { align with delay := 32767 } = false ∧ (laneG 4).nat O.cpLanegStage = 4 ∧ (laneG 5).nat O.cpLanegStage = 5 ∧ (laneG 6).nat O.cpLanegStage = 6 ∧
    ((laneG 7).nat O.cpLanegStage = 7 ∧ (Tab.get {} (laneG 7).cal.ramps 0).running = true) ∧ (Tab.get {} (laneG 7 {}).cal.ramps 0).running = false ∧
    (laneG 8).nat O.cpLanegStage = 8 ∧ ((on [(O.cpLanegStage, 2), (O.cpLanegChain, 255)]).nat O.cpLanegChain = 255 ∧ (on []).keeperUp 3 = true) := by decide +kernel

def referenced : Dev := cal { measuring := some (17, 55, 5), targets := 0 } [(O.caRefState, 2), (O.cpChainState 5, 2)]
def linkDue : Dev := cal { linkDue := 128 }

theorem witness_CalibrationRuns :
    (cal { runs := [(33, 5)] } [(O.cpChainEnable 5, 1)]).cal.runs = (33, 5) :: [] ∧
    (let d := cal {} [(O.caIntervalS, 1)]; 6 ∈ d.laneList ∧ d.keeperUp 3 = true ∧ d.nat O.caIntervalS ≠ 0 ∧ (d.dueBits 6).testBit 0 = false) ∧
    (6 ∈ (cal {}).laneList ∧ takes (cal {}) N [writeNum (O.caLaneCalCmd 6) 1] = true) ∧
    (let d := cal { ramps := [(0, ramp 7), (24, ramp 1)] }
     Tab.get {} d.cal.ramps 0 = ramp 7 ∧ (ramp 7).b.length = 7 ∧ Tab.get {} d.cal.ramps 24 = ramp 1 ∧ (ramp 1).running = true) ∧
    (takes (on [(O.caRefTargets, 0x20000), (O.cpChainState 5, 2), (O.cpChainEnable 5, 1), (O.cpDoorEnable 5 2, 1), (O.caRefFreq, 200000000)]) N [writeNum O.caRefCmd 1] = true) ∧
    (referenced.cal.measuring = some (17, 55, 5) ∧ referenced.keeperUp 3 = true) ∧ takes (on []) N [writeNum O.caLinkCalCmd 1] = true ∧
    (linkDue.harbourOn = true ∧ linkDue.cal.linkDue.testBit 7 = true ∧ linkDue.bl.calHeld = false ∧ linkDue.bl.calWait = false) ∧
    (on []).cal.linkDue.testBit 7 = false := by decide +kernel

def storing (x : StoreState) (l : List (Nat × Int) := []) : Dev := { on l with store := x }
def job (k : StoreKind) : StoreJob := { kind := k, toA := false }

theorem witness_BankStores :
    ((storing { cfgDue := some 5 }).store.cfgDue = some 5 ∧ ((storing { cfgDue := some 5 }).clockTo 5).storeTurn .cfg 5 = true) ∧
    ((storing { calDue := some 5 }).store.calDue = some 5 ∧ ((storing { calDue := some 5 }).clockTo 5).storeTurn .cal 5 = true) ∧
    ((storing { lmsDue := some 5 }).store.lmsDue = some 5 ∧ ((storing { lmsDue := some 5 }).clockTo 5).storeTurn .lms 5 = true) ∧
    ((storing {}).store.cfgDue = none ∧ ((storing { cfgDue := some 5, calDue := some 4, lmsDue := some 5, job := some (job .stats) }).clockTo 5).storeTurn .cfg 5 = false ∧
      ((storing { cfgDue := some 3, calDue := some 4 }).clockTo 4).storeTurn .cal 4 = false ∧ ((storing { calDue := some 4, lmsDue := some 5 }).clockTo 5).storeTurn .lms 5 = false) ∧
    ((storing { job := some (job .cfg) }).store.job = some (job .cfg) ∧ (∀ w ∈ (storing {}).host.left, False) ∧ ∀ r ∈ (storing {}).host.durable, False) ∧
    (storing { job := some (job .cal) }).store.job = some (job .cal) ∧ (storing { job := some (job .lms) }).store.job = some (job .lms) ∧
    (let d := storing { ckptAt := 5 } [(O.lgCkptS, 1)]; (d.clockTo (5 + 1000000000)).storeTurn .stats (5 + 1000000000) = true) ∧
    (let d := storing { ckptAt := 5, job := some (job .cfg) }; (d.clockTo 5).storeTurn .stats 5 = false) := by decide +kernel

def logging (x : LogState) (l : List (Nat × Int) := []) : Dev := { on l with log := x }

theorem witness_LogAndHeartbeats :
    ((logging { pend := [{ seq := 7 }], ram := [{ seq := 7 }] }).log.pend = { seq := 7 } :: [] ∧ (logging { pend := [{ seq := 7 }] }).pfail = false) ∧
    ((on [(O.pwSupplyWarn, 32)]).pfail = true ∧ (on []).log.pend = []) ∧
    ((on [(O.lgSummaryMax, 0)]).serverUp = true ∧ (on [(O.lgSummaryMax, 0)]).nat O.lgSummaryMax = 0 ∧ (on [(O.lgSummaryMax, 1)]).nat O.lgSummaryMax ≠ 0) ∧
    (let d := on [(O.lgHbEnable, 1), (O.lgHbOnChange, 1)]
     d.linksUp = true ∧ d.flag O.lgHbEnable = true ∧ d.flag O.lgHbOnChange = true ∧ { d with host := { d.host with hbWanted := some 5 } }.host.hbWanted.isSome = true ∧
     d.host.hbWanted = none) := by decide +kernel

/-! ### The dictionary -/

theorem witness_NineChecks :
    4096 < (List.replicate 4097 (0 : Byte)).length ∧ Dict.row 0 0xFFFFFFFF = none ∧ Dict.row 2 (O.cpChainEnable 4) = none ∧
    ((Dict.row 0 (O.pwPwState)).map (fun r => r.mayWrite .N) = some false) ∧
    (let d := on [(O.syCfgLock, 1)]; d.flag O.syCfgLock = true ∧ (Dict.row 0 (O.cpChainEnable 0)).map (fun r => decide (r.cls = .P)) = some true) ∧
    ((on []).step4 (writeTxn N [writeItem (O.cpChainEnable 0) [1, 0]]) (writeItem (O.cpChainEnable 0) [1, 0]) = none ∧
      (Dict.row 0 (O.cpChainEnable 0)).map (fun r => r.lenOk 2) = some false) ∧
    (Dict.row 0 (O.cpChainEnable 0)).map (fun r => r.lenOk 1 && !r.valueOk 0 ((Dict.ty (O.cpChainEnable 0)).decode [2])) = some true ∧
    ((on []).stateRefuse O.pwPwRequest ((Dict.ty O.pwPwRequest).decode [2]) = some .state) := by decide +kernel

theorem witness_DictionaryWrites :
    (inert (O.evEvCoalesceUs 127) = true ∧ takes (on []) N [writeItem (O.evEvCoalesceUs 127) [1, 0]] = true) ∧ inert O.lgSummaryMax = true ∧
    ((on []).serverUp = true ∧ takes (on []) N [writeItem (O.evEvCoalesceUs 127) [1]] = false) ∧ State.reset.dev.serverUp = false ∧
    takes (on []) N [writeNum O.syDefaultsCmd 1, writeNum O.syDefaultsAreas ((2 : Int) ^ 31)] = true ∧
    takes (on []) N [writeNum O.syDefaultsCmd 2, writeNum O.syDefaultsAreas ((2 : Int) ^ 31)] = true ∧
    takes (on []) N [writeNum O.syStatsClear (2 ^ 32 - 1)] = true := by decide +kernel


/-! ### The Tender -/

def linked (x : HostState := {}) (l : List (Nat × Int) := []) : Dev :=
  { on ([(O.ntT1Link, 1), (O.ntT1sStatus, 2), (O.ntCanState, 1), (O.ntSpiEnable, 1)] ++ l) with host := x }
def msg (op : Nat) (b : List Byte := []) : TMsg :=
  { port := 1, src := 1, source := 0, opcode := op, mflags := 0, session := 0, tag := 7, seq := 0, body := b, mac := [] }
def sess (open_ : Bool) : Session :=
  { num := 3, slot := 0, open_ := open_, role := .N, port := 1, req := 1, source := 0, keySlot := 0, hostNonce := List.replicate 16 1, devNonce := List.replicate 16 2, tLast := 1000 }

/-- A message in a session, with its MAC (R404). -/
def signed (y : Session) (op : Nat) (b : List Byte := []) : TMsg :=
  { port := y.port, src := y.req, source := y.source, opcode := op, mflags := 2, session := y.num, tag := 7, seq := y.rxSeq + 1, body := b,
    mac := hmac y.sk (headerBytes op 2 y.num 7 b.length (y.rxSeq + 1) ++ b) }

/-- A signed message of an open session is taken. -/
theorem takes_signed (d : Dev) (y : Session) (op : Nat) (b : List Byte) (up : d.tenderUp y.port = true) (here : d.sessionByNum y.num = some y)
    (opened : y.open_ = true) (some_ : y.num ≠ 0) : d.takes (signed y op b) (some y) := by
  refine ⟨up, ?_, some_⟩
  unfold Dev.sessCheck signed
  simp only [some_, false_and, if_false, here, opened]
  simp [Nat.testBit]

def item (o flags : Nat) (b : List Byte) : List Byte := leBytes 4 o ++ leBytes 1 flags ++ leBytes 1 0 ++ leBytes 2 b.length ++ b
def inSession : Dev := linked { sessions := [sess true] }

theorem witness_TenderTransactions :
    (linked.tenderUp 1 = true ∧ linked.sessCheck (msg 1 [0]) = .outside ∧ tmsgSize (msg 1 [0]) ≤ largestMsg 1 ∧ parseItems 1 [(0 : Byte)] = none) ∧
    (let m := msg 1 (item O.pwPwState 0 [])
     linked.sessCheck m = .outside ∧ ∃ l ∈ parseItems m.body.length m.body,
       (match (linked.taken m none).txnOpen.txnCheck { org := tmsgOrigin m none, opcode := 1, items := l, limit := tmsgReplyLimit m none } with
        | .ok _ => true | .error _ => false) = true) ∧
    (let m := msg 2 (item O.pwPwState 1 [1])
     linked.sessCheck m = .outside ∧ ∃ l ∈ parseItems m.body.length m.body, (∀ i ∈ l, i.oid ≠ O.scRollbackAdv) ∧
       (match (linked.taken m none).txnOpen.txnCheck { org := tmsgOrigin m none, opcode := 2, items := l, limit := tmsgReplyLimit m none } with
        | .ok _ => false | .error _ => true) = true) := by
  refine ⟨by decide +kernel, ⟨by decide +kernel, _, rfl, by decide +kernel⟩, by decide +kernel, _, rfl, by decide +kernel, by decide +kernel⟩

/-- The third clause of TenderTransactions, with and without DURABLE. -/
theorem witness_TenderTransactions_write (f : Nat) (hf : f = 0x81 ∨ f = 1) :
    let b := item (O.evEvCoalesceUs 127) f [1, 0]
    let m := signed (sess true) 2 b
    inSession.takes m (some (sess true)) ∧ tmsgSize m ≤ largestMsg m.port ∧ ∃ l, parseItems m.body.length m.body = some l ∧
      (∀ i ∈ l, i.write = true ∧ inert i.oid = true) ∧
      ∃ z, (inSession.taken m (some (sess true))).txnOpen.txnCheck { org := tmsgOrigin m (some (sess true)), opcode := 2, items := l, limit := tmsgReplyLimit m (some (sess true)) } =
        .ok z := by
  refine ⟨takes_signed inSession (sess true) 2 _ (by decide +kernel) (by decide +kernel) rfl (by decide), ?_⟩
  rcases hf with rfl | rfl <;> exact ⟨by decide +kernel, _, rfl, by decide +kernel, _, rfl⟩

theorem witness_TenderErrors :
    (linked.tenderUp 1 = true ∧ linked.sessCheck { msg 2 with session := 9 } = .unknown ∧ deviceOpcode 2 = false) ∧
    (inSession.sessCheck { msg 2 with session := 3 } = .discard 0) ∧
    (linked.sessCheck (msg 0x3F) = .outside ∧ tmsgSize (msg 0x3F) ≤ largestMsg 1 ∧ (msg 0x3F).body.length ≤ 64 ∧ 64 < (msg 0x3F (List.replicate 65 0)).body.length) ∧
    largestMsg 3 < tmsgSize { msg 1 (List.replicate 15400 0) with port := 3 } ∧ (linked.sessCheck (msg 4) = .outside ∧ knownOpcode 4 = false) ∧
    (deviceOpcode 0x12 = true ∧ inSession.sessCheck { msg 0x12 with session := 3 } = .discard 0 ∧ linked.sessCheck (msg 0x12) = .outside) := by decide +kernel

theorem witness_TenderErrors_session : inSession.takes (signed (sess true) 0x3F []) (some (sess true)) :=
  takes_signed inSession (sess true) 0x3F [] (by decide +kernel) (by decide +kernel) rfl (by decide)

def hello : TMsg := msg 0x30 ([(1 : Byte), 0, 0, 0] ++ List.replicate 16 9)
def proving : Dev := { linked { sessions := [sess false], fails := [{ port := 1, req := 1, times := List.replicate 4 1000000000, lockedUntil := none }] }
  [(O.scKeyState, 1)] with }
def keyed : Dev := proving.setRaw (O.scNKey 0) (List.replicate 32 5)
def locked : AuthFail := { port := 1, req := 1, times := [], lockedUntil := some 2000000000 }

theorem witness_TenderSessions :
    (linked.sessCheck hello = .outside ∧ tmsgSize hello ≤ largestMsg 1 ∧ hello.body.length = 20 ∧ leAt hello.body 0 1 = 1 ∧ leAt hello.body 1 1 ≤ 3 ∧
      linked.lockedOut hello = false ∧ linked.host.sessions.length < 8) ∧ (linked { fails := [locked] }).lockedOut hello = true ∧
    (keyed.tenderUp 1 = true ∧ keyed.sessionByNum 3 = some (sess false) ∧ keyed.sessionKey false 0 = some (List.replicate 32 5) ∧
      keyed.mono ≤ (sess false).tLast + 5000000000) ∧
    (proving.sessionKey false 0 = none ∧ 4 ≤ ((List.replicate 4 1000000000).filter (fun t => decide (proving.mono < t + 60000000000))).length) ∧
    (sess true).slot < 8 ∧ inSession.sessionByNum 3 = some (sess true) ∧
    ((linked { fails := [locked] }).host.fails.find? (fun f => decide (f.port = 1) && decide (f.req = 1)) = some locked) := by decide +kernel

/-- The proof that AUTH_PROVE must carry has 32 bytes. -/
theorem witness_TenderSessions_proof : (hmac (List.replicate 32 5) (keyed.proofMsg (sess false) 0x48)).length = 32 := by decide +kernel

theorem witness_TenderSessions_close : inSession.takes (signed (sess true) 0x32 []) (some (sess true)) :=
  takes_signed inSession (sess true) 0x32 [] (by decide +kernel) (by decide +kernel) rfl (by decide)

def sub (id kind index oid : Nat) : Sub := { id := id, kind := kind, index := index, minMs := 10, oid := oid, evmask := 0, port := 1, req := 1, session := 0, role := .H }
def subBody (kind index oid : Nat) : List Byte := leBytes 1 kind ++ leBytes 1 index ++ leBytes 2 10 ++ leBytes 4 oid ++ leBytes 16 0
def subbed (n : Nat) : Dev := linked { subs := (List.range n).map (fun k => sub k 0 0 O.pwPwState) }
def streaming : Dev := { linked { subs := [sub 0 1 2 0] } with rings := [(2, { head := 8, recs := [{ endPos := 8, seq := 0, shadow := false, waits := [256], bytes := [1, 2, 3, 4] }] })] }

theorem witness_TenderSubscriptions :
    (let m := msg 0x10 (subBody 0 0 O.pwPwState)
     linked.sessCheck m = .outside ∧ tmsgSize m ≤ largestMsg 1 ∧ m.body.length = 24 ∧ linked.subCheck .H m.body = .ok ∧ (subbed 63).host.subs.length < 64 ∧
       64 ≤ (subbed 64).host.subs.length ∧ (subbed 64).subCheck .H m.body = .ok) ∧
    linked.subCheck .H (subBody 6 0 0) ≠ .ok ∧
    ((msg 0x11 (leBytes 4 0)).body.length = 4 ∧ (subbed 1).subById 0 = some (sub 0 0 0 O.pwPwState) ∧ (sub 0 0 0 0).session = sessNum none) ∧
    ((sub 0 0 0 O.pwPwState).kind = 0 ∧ (subbed 1).linksUp = true ∧ quiet (O.evEvCoalesceUs 3) = true) ∧
    (streaming.harbourOn = true ∧ streaming.subById 0 = some (sub 0 1 2 0) ∧ subRing 1 2 = some 2 ∧
      (streaming.ring 2).nextFor 256 = some { endPos := 8, seq := 0, shadow := false, waits := [256], bytes := [1, 2, 3, 4] }) ∧
    (let m := msg 0x20 (leBytes 1 0 ++ leBytes 1 16 ++ leBytes 2 0 ++ leBytes 8 0)
     m.body.length = 12 ∧ leAt m.body 0 1 ≤ 1 ∧ 1 ≤ leAt m.body 1 1 ∧ leAt m.body 1 1 ≤ 16) ∧
    (let m := msg 0x21 (leBytes 4 1)
     m.body.length = 4 ∧ leAt m.body 0 1 ≤ 1) := by decide +kernel

/-- EV_COALESCE_US has no computed reading: the last hypothesis of the CHANGE clause. -/
theorem witness_TenderSubscriptions_plain (d : Dev) : d.read (O.evEvCoalesceUs 3) = d.get (O.evEvCoalesceUs 3) := by rfl

def seg (no k f : Nat) (b : List Byte) : List Byte := leBytes 2 no ++ leBytes 1 k ++ leBytes 1 f ++ b
def part (port src no next : Nat) : Partial_ := { port := port, src := src, msgno := no, next := next, t0 := 950000000, source := 0, bytes := [1, 2] }
def whole : List Byte := headerBytes 0x3F 0 0 7 2 0 ++ [1, 2]

theorem witness_Segments :
    (linked.portUp 1 = true ∧ linked.linkAccepts 1 (2 ^ 50) 0 = true ∧ 4 ≤ (seg 9 0 0 whole).length ∧ (seg 9 0 0 whole).length ≤ segPayload 1 + 4 ∧ linked.partialOf 1 1 = none ∧
      leAt (seg 9 0 0 whole) 2 1 = 0 ∧ (leAt (seg 9 0 0 whole) 3 1).testBit 0 = false ∧ (leAt (seg 9 0 1 whole) 3 1).testBit 0 = true ∧ leAt (seg 9 1 0 whole) 2 1 ≠ 0) ∧
    (16 ≤ whole.length ∧ leAt whole 0 1 = 0xD7 ∧ leAt whole 1 1 = 1 ∧ leAt whole 8 4 ≤ 65536 ∧ whole.length = headerLength whole ∧ linked.rxUsed 1 + whole.length ≤ rxQueue 1) ∧
    (let d := linked { partials := [part 1 1 9 1] }
     d.partialOf 1 1 = some (part 1 1 9 1) ∧ d.mono < (part 1 1 9 1).t0 + 100000000 ∧ leAt (seg 9 1 0 []) 0 2 = 9 ∧ leAt (seg 9 1 0 []) 2 1 = 1 ∧ leAt (seg 8 1 0 []) 0 2 ≠ 9) ∧
    (linked.portUp 4 = true ∧ linked.partialOf 4 0 = none ∧ linked.host.spi = [] ∧ (linked { spi := [[1], [2]] }).host.spi = [1] :: [[2]]) := by decide +kernel

theorem witness_LinksAndPlca :
    (linked.linksUp = true ∧ (∀ y ∈ inSession.host.sessions, y.slot < 8) ∧ linked.flag O.ntT1Enable = true ∧ linked.nat O.ntT1Link ≠ 0) ∧
    (linked {} [(O.ntCanEnable, 0)]).flag O.ntCanEnable = false ∧
    (let d := linked {} [(O.ntPlcaEnable, 1), (O.ntPlcaNodeId, 3)]
     d.portUp 2 = true ∧ d.flag O.ntPlcaEnable = true ∧ d.nat O.ntPlcaNodeId ≠ 0) ∧
    (linked {} [(O.ntPlcaEnable, 1), (O.ntPlcaNodeId, 0)]).nat O.ntPlcaNodeId = 0 ∧ (linked { beacon := some 5 }).host.beacon = some 5 ∧
    linked.portUp 1 = true ∧ (on []).portUp 1 = false := by decide +kernel

def ptp (st : Nat) (x : TimeState := {}) : Dev := { linked {} [(O.tmTimeState, st), (O.tmStepNs, 100)] with tm := x }

theorem witness_DeviceTime :
    (∀ st < 4, (ptp st).portUp 1 = true ∧ (ptp st).flag O.tmPtpEnable = true ∧ (ptp st).nat O.tmTimeState = st) ∧
    ((ptp 1 { offsets := 1, gm := 5 }).tm.gm = 5 ∧ (ptp 1 { offsets := 1, gm := 5 }).tm.offsets ≠ 0 ∧ (ptp 1).tm.offsets = 0 ∧
      (ptp 1).nat O.tmStepNs < ((2000000000 : Int) - (ptp 1).now).natAbs ∧ ((1000000050 : Int) - (ptp 1).now).natAbs ≤ (ptp 1).nat O.tmStepNs) ∧
    takes (ptp 2) N [writeNum O.tmPtpEnable 0] = true ∧ takes (ptp 2) N [writeNum O.tmPtpEnable 1] = true ∧ takes (ptp 0) N [writeNum O.tmTimeSet (2 ^ 64 - 1)] = true := by
  decide +kernel

/-! ### The Buoy link -/

/-- A state of the modem in RUN, beside a Watch whose slot 1 runs. -/
def modem (x : BlState) (l : List (Nat × Int) := []) : Dev := { watch { grid with kept := [(0, .done), (1, .running 1000000000)] } ([(O.blLinkEnable 2, 1), (O.blBuoyState 9, 2)] ++ l) with bl := x }
def poll : PollEnt := { group := 4, chain := 2, buoy := 1, channel := 3 }
def due : BlState := { todo := [(1, poll)] }
def sent (u : BlUse) (q : Option Nat) : BlTx := { use := u, chain := 2, channel := 0, slot := 1, msg := { ty := 3, body := [7], seq := q }, rate := 1, level := -2000 }
def waiting (u : BlUse) : BlState :=
  { entry := some { wslot := 1, poll := poll, left := 1, closed := true }, wait := some { tx := sent u (some 4), deadline := 1000000100 } }
def reply : BlAck := { chain := 2, slot := some 1, at_ := 1000000100, rate := 0, level := 0 }

theorem witness_BuoyExchanges :
    (at_ .standby).harbourOn = false ∧
    (let d := modem due
     d.harbourOn = true ∧ d.keeperUp 3 = true ∧ d.bl.entry = none ∧ d.bl.todo.find? (fun q => decide (q.1 = 1)) = some (1, poll) ∧
     d.wt.kept.find? (fun q => decide (q.1 = 1)) = some (1, .running 1000000000) ∧ d.now < 1000000000 + (d.planSlots.getD 1 {}).est * 1000 ∧
     ¬ (d.chains ≤ 2 ∨ d.flag (O.blLinkEnable 2) = false ∨ (poll.kind ≠ 2 ∧ (d.nat (O.blBuoyState 9) = 0 ∨ d.nat (O.blBuoyState 9) = 3))) ∧
     (d.buoy 9).due = none ∧ (d.buoy 9).queue = [] ∧ d.bl.acks = [] ∧ d.bl.hop = none ∧ d.cal.linkDue = 0 ∧ d.bl.cur = none ∧ d.bl.wait = none ∧ d.bl.assigns = [] ∧
     ¬ (d.nat O.blChannelNow = 3 ∧ d.bl.settled = true)) ∧
    (modem due [(O.blChannelNow, 3)]).nat O.blChannelNow = 3 ∧ (modem due [(O.blBuoyState 9, 3)]).nat (O.blBuoyState 9) = 3 ∧
    (let d := modem (waiting .close)
     d.bl.wait = some { tx := sent .close (some 4), deadline := 1000000100 } ∧ (sent .close (some 4)).use = .close ∧ d.bl.entry.isSome = true ∧ d.nat (O.blBuoyState 9) = 2 ∧
     d.nat (O.blMisses 9) + 1 < d.nat O.blMissLimit) ∧
    (let d := modem (waiting .close) [(O.blMissLimit, 1)]; d.nat O.blMissLimit ≤ d.nat (O.blMisses 9) + 1) ∧
    (let d := modem (waiting .down)
     (sent .down (some 4)).tries < d.nat O.blDlRetries ∧ (sent .down (some 4)).msg.seq = some 4 ∧ d.nat O.blChannelNow = 0 ∧ d.bl.settled = true ∧
     d.flag (O.blLinkEnable 2) = true) ∧
    (let d := modem { hop := some 999999000, cur := some (sent .down none), settled := false }
     d.bl.hop = some 999999000 ∧ d.nat O.blChannelNow < 8 ∧ d.bl.cur = some (sent .down none) ∧ d.bl.entry = none) ∧
    (let d := modem { acks := [reply] }
     d.bl.acks.find? (fun a => decide (a.chain = 2)) = some reply ∧ d.bl.txEnd ≤ reply.at_) ∧
    (let d := modem { acks := [reply], txEnd := 1000000200, txChain := 0 }; reply.at_ < d.bl.txEnd ∧ d.bl.txChain ≠ 2) := by decide +kernel

def sync (k : Nat) : BlDet := { kind := k, start := 1000000000, strength := -7000 }
def head (ty len : Nat) : BlHdr := { len := len, ty := ty, slot := 1, seq := 4, ackReq := true, word := 65536 * len + 256 * ty + 0x49 }
def receiving (x : BlRx) (l : List (Nat × Int) := []) : Dev := modem { rx := [(2, x)] } l
def packet (k ty : Nat) : Dev := receiving { cur := some (sync k), hdr := some (head ty 2) }
def headWord (ty len : Nat) : Nat := 256 * (head ty len).word + gfskHcrc (head ty len).word

/-- A point of QPSK. -/
def qpsk : List Bool → List (Int × Int)
  | a :: b :: t => (if a then 4096 else -4096, if b then 4096 else -4096) :: qpsk t
  | _ => []
def mapped : Dev := modem { rx := [(2, { cur := some (sync 6), hdr := some (head 0x0E 2) })], buoys := [(9, { map := List.replicate 52 2, mapCh := some 0 })] }
def points : List (List (Int × Int)) := [qpsk ([9, 8].flatMap (fun b : Byte => bitsOf 8 b.toNat) ++ bitsOf 32 (crc32 [9, 8]) ++ List.replicate 56 false)]

theorem witness_BuoyReception :
    (let d := receiving {}; d.harbourOn = true ∧ 2 < d.chains ∧ d.linksUp = true ∧ d.flag (O.blLinkEnable 2) = true) ∧
    (modem { txEnd := 2000000000, txChain := 2 }).bl.txChain = 2 ∧ (Tab.get {} (receiving { cur := some (sync 1) }).bl.rx 2).cur = some (sync 1) ∧
    (let d := receiving { cur := some (sync 1), hdr := some (head 0x0A 2) } [(O.blCaptureDb, 600)]
     (Tab.get {} d.bl.rx 2).hdr.isSome = true ∧ d.num O.blCaptureDb ≠ 0 ∧ (sync 1).strength + d.num O.blCaptureDb ≤ -6400 ∧ -7000 < (sync 1).strength + d.num O.blCaptureDb) ∧
    (gfskHeader (headWord 0x0A 2)).isSome = true ∧ gfskHeader 1 = none ∧
    (let d := receiving { cur := some (sync 1), saved := [sync 2] }
     ((Tab.get {} d.bl.rx 2).saved.filter (fun x => decide (1000000192 ≤ x.start + 2000000))).reverse = sync 2 :: []) ∧
    ((packet 1 0x0A).bl.rx = [(2, { cur := some (sync 1), hdr := some (head 0x0A 2) })] ∧ (packet 1 0x0A).nat (O.blBuoyState 9) ≠ 0 ∧
      ((packet 1 0x0A).buoy 9).rxSeq ≠ some 4 ∧ ((modem { buoys := [(9, { rxSeq := some 4 })] }).buoy 9).rxSeq = some 4) ∧
    (((mapped.blMapOf 9 0).getD []).sum = 104 ∧ ofdmRead (List.replicate 52 2) 2 points = some ([9, 8], crc32 [9, 8])) ∧
    (let d := receiving {}
     (Tab.get {} d.bl.rx 2).cur = none ∧ (Tab.get {} d.bl.rx 2).saved = [] ∧ d.bl.settled = true ∧ d.bl.txEnd ≤ max d.mono (Tab.get 0 d.bl.noiseAt 2 + 40000)) ∧
    (let d := modem {} [(O.cpFeedState 2, 2), (O.blBuoyState 10, 3)]; d.nat (O.cpFeedState 2) = 2 ∧ d.nat (O.blBuoyState 10) = 3) ∧
    takes (modem {}) N [writeNum (O.blLinkEnable 2) 0] = true ∧ takes (modem {} [(O.cpFeedState 3, 2)]) N [writeNum (O.blLinkEnable 3) 1] = true ∧
    takes (modem {}) N [writeItem (O.blDlMsg 9) [0x10, 7]] = true ∧
    (let d := modem {} [(O.blFwTarget, 9), (O.blFwLen, 256)]; takes d N [writeNum O.blFwCmd 1] = true ∧ d.nat O.blFwTarget < 24) := by decide +kernel

/-! ### The two-wire ports -/

def bus (w : TwPort) (l : List (Nat × Int) := []) : Dev := { on ([(O.twPortState 1, if w.role = 0 then 0 else 1)] ++ l) with tw := [(1, w)] }
def moving (active : Bool) : TwXfer := { addr := 0x22, write := [1, 2], read := 2, quick := 0, started := true, active := active, at_ := 999999000 }
def wanted : List (Nat × Int) := [(O.twXAddr 1, 0x22), (O.twXReadLen 1, 2)]

theorem witness_TwoWireController :
    (let d := bus { role := 1, free := true } [(O.twRole 1, 1)]
     takes (d.twLine 1 0) N [writeNum (O.twRole 1) 2] = true ∧ (d.twp 1).xfer = none ∧ d.nat (O.twPortState 1) ≠ 6 ∧ (d.twp 1).free = true ∧
     takes (d.twLine 1 0) N [writeNum (O.twSpeed 1) 2] = true) ∧
    (let d := bus { role := 2 }; takes (d.twLine 1 0) N [writeNum (O.twRole 1) 3] = true ∧ (d.twp 1).free = false) ∧
    (let d := bus { role := 2, free := true } wanted; takes d N [writeNum (O.twXGo 1) 1] = true ∧ twController (d.twp 1).role = true ∧ (d.twp 1).free = true) ∧
    (let d := bus { role := 2 } wanted; takes d N [writeNum (O.twXGo 1) 1] = true ∧ (d.twp 1).free = false) ∧ (at_ .standby).harbourOn = false ∧
    (let d := bus { role := 2 }
     d.harbourOn = true ∧ d.linksUp = true ∧ (d.twp 1).free = false ∧ (d.twp 1).sclLow = none ∧ d.nat (O.twPortState 1) ≠ 6 ∧ (d.twp 1).xfer = none) ∧
    (((bus { role := 2, xfer := some (moving false) }).twp 1).xfer = some (moving false) ∧ (moving false).active = false ∧ (moving false).started = true) ∧
    (((bus { role := 2, xfer := some (moving true) }).twp 1).xfer = some (moving true) ∧ (moving true).active = true ∧
      (moving true).retries < (bus {} [(O.twArbRetries 1, 3)]).nat (O.twArbRetries 1) ∧ (bus {} [(O.twArbRetries 1, 0)]).nat (O.twArbRetries 1) ≤ (moving true).retries) ∧
    ((bus { role := 2, sclLow := some 5 }).twp 1).sclLow = some 5 ∧
    (let d := bus { role := 2, free := true } [(O.twPortState 1, 6)]
     takes (d.twLine 1 0) N [writeNum (O.twRecover 1) 1] = true ∧ takes (d.twLine 1 9) N [writeNum (O.twRecover 1) 1] = true ∧
     takes (d.twLine 1 10) N [writeNum (O.twRecover 1) 1] = true ∧ twController (d.twp 1).role = true) := by decide +kernel

def target (x : TwPort := {}) (l : List (Nat × Int) := []) : Dev := bus { x with role := 3 } ([(O.twWindowEnable 1, 1), (O.twTgtTimeoutMs 1, 25)] ++ l)
def asking : TwPort := { ibr := true, ibrAt := 999000000, pulses := 1, out := [(16, [1, 2, 3, 4])] }

theorem witness_TwoWireTarget :
    (target.harbourOn = true ∧ target.twWindow 1 16 = true ∧ ((target asking).twp 1).nextOut 16 = some [1, 2, 3, 4] ∧ (target.twp 1).nextOut 16 = none ∧
      target.partialOf 6 16 = none) ∧ target.twWindow 1 4 = false ∧
    (target.linksUp = true ∧ twTarget (target.twp 1).role = true ∧ target.nat (O.twTgtTimeoutMs 1) ≠ 0 ∧ (target.twp 1).running = none ∧ target.nat (O.twPortState 1) = 1) ∧
    (let d := target { free := true } [(O.twCensusEnable 1, 1)]
     twController (d.twp 1).role = true ∧ d.flag (O.twCensusEnable 1) = true ∧ (d.twp 1).free = true) ∧
    (((target asking).twp 1).ibr = true ∧ (target asking [(O.twIbrEnable 1, 1)]).flag (O.twIbrEnable 1) = true) := by decide +kernel

/-! ### The audio island -/

def audio (x : AuState) (l : List (Nat × Int) := []) : Dev := { on l with au := { x with on := true, k := 48000, kAt := 1000000000 } }
/-- Side TX (0) or RX (1) of port 3 in a state. -/
def side (x : Nat) (st : Int) (w : AuSide := {}) (l : List (Nat × Int) := []) : Dev :=
  audio { sides := [(sideNo 3 x, w)] } ([(O.auSideState 3 x, st), (O.auGroup 3 x, 0)] ++ l)
def slaved (x : Nat) (l : List (Nat × Int) := []) : List (Nat × Int) := [(O.auClkRole 3 x, 1)] ++ l
def leading : AuSide := { lead := 32, t0 := some 1000000000, e0 := 1000000000, lastEdge := 999990000 }

theorem witness_AudioSides :
    (let d := side 0 0; d.au.on = true ∧ takes d N [writeNum (O.auEnable 3 0) 1] = true ∧ d.sideSt 3 0 = 0 ∧ d.sideOk 3 0 = true ∧ d.nat (O.auGroup 3 0) = 0) ∧
    (side 0 0 {} [(O.auBufFrames 3 0, 0)]).sideOk 3 0 = false ∧ (side 0 0 {} [(O.auGroup 3 0, 2)]).nat (O.auGroup 3 0) ≠ 0 ∧
    (let d := side 0 0 {} (slaved 0 [(O.auRateClass 3 0, 0)]); d.nat (O.auClkRole 3 0) = 1 ∧ d.nat (O.auRateClass 3 0) = 0) ∧
    (∀ st : Nat, st < 7 → takes (side 0 st) N [writeNum (O.auEnable 3 0) 0] = true) ∧ takes (side 0 0) N [writeNum (O.auSlotMask 3 0) 255] = true ∧
    (let d := side 0 1 {} [(O.auGroup 3 0, 2)]
     takes d N [writeNum O.auGroupGo 15] = true ∧ d.sideSt 3 0 = 1 ∧ d.nat (O.auGroup 3 0) = 1 + 1 ∧ (d.side 3 0).role = 0) ∧
    (let d := side 1 3 leading; d.sideSt 3 1 = 3 ∧ (d.side 3 1).clk = false ∧ (d.side 3 1).t0 = some 1000000000 ∧ (d.side 3 1).masks = []) ∧
    (let d := side 0 4 { fifo := [(1, [5, 6])] }
     d.sideSt 3 0 = 4 ∧ (d.side 3 0).role = 0 ∧ (d.side 3 0).reacq ≤ d.mono ∧ (d.side 3 0).fifo.find? (fun f => decide (f.1 = 1)) = some (1, [5, 6])) ∧
    (let d := side 1 4 { buf := 1, fifo := [(1, [5, 6])] }; (d.side 3 1).buf ≤ (d.side 3 1).fifo.length) ∧ (side 1 4 {}).sideSt 3 1 = 4 ∧
    (let d := side 0 4 { role := 1 } (slaved 0 [(O.auRateClass 3 0, 48000)])
     (d.side 3 0).role = 1 ∧ (63 : Nat) ≠ (d.side 3 0).slots * (d.side 3 0).slotBits ∧ d.nat (O.auRateClass 3 0) ≠ 0) ∧
    (let d := side 1 2 { leading with role := 1, begun := true } (slaved 1 [(O.auRateClass 3 1, 0)])
     d.nat (O.auClkRole 3 1) = 1 ∧ d.nat (O.auRateClass 3 1) = 0 ∧ rateClass (edgesMhz (lastSecond [0, 500000000, 1000000000])) = 0 ∧
     rateClass 48000000 ≠ 0 ∧ d.sideSt 3 1 = 2 ∧ (d.side 3 1).begun = true) := by decide +kernel

def entry4 (x : RouteSt) (l : List (Nat × Int) := []) : Dev := audio { routes := [(4, x)] } l

theorem witness_AudioPaths :
    (audio {}).au.on = true ∧ (on []).au.on = false ∧ takes (audio {}) N [writeItem (O.auRouteGain 4) [0, 0]] = true ∧
    (let d := entry4 { pending := true } [(O.auRouteSrc 4, 0x0100003F)]
     d.keeperUp 2 = true ∧ (d.route_ 4).pending = true ∧ d.dstHeld (d.route_ 4).cfg.dst = false ∧ d.dstHeld (d.routeObjs 4).dst = false) ∧
    (let d := audio {} [(O.auRingCh 2, 2)]
     takes d N [writeNum (O.auRingFrames 2) 100] = true ∧ takes d N [writeNum (O.auRingFrames 2) 0] = true ∧ takes d N [writeNum (O.auRingWr 2) 5] = true) ∧
    takes (audio {}) N [writeNum (O.auAvtpEnable 62) 1] = true ∧ takes (audio {}) N [writeNum (O.auAvtpEnable 62) 0] = true ∧
    (let d := audio { avtp := [(62, List.replicate 6 (7, [1, 2]))] } [(O.auAvtpEnable 62, 1)]
     d.flag (O.auAvtpEnable 62) = true ∧ d.nat (O.auAvtpClass 62) = 0 ∧ 6 ≤ (Tab.get [] d.au.avtp 62).length) ∧
    takes (audio {}) N [writeNum O.auMclk0Sel 4] = true ∧ takes (audio {}) N [writeNum O.auMclk1Sel 4] = true := by decide +kernel

/-! ### Events -/

def window (t : Nat) : EvWindow := { ev := 40, tEnd := t, tFirst := 5, arg := 6, count := 2 }
def evSub (w : List EvWindow) : Sub :=
  { id := 9, kind := 5, index := 0, minMs := 0, oid := 0, evmask := 2 ^ 128 - 1, port := 1, req := 1, session := 0, role := .H, windows := w }
def heard (w : List EvWindow) (l : List (Nat × Int) := []) : Dev := linked { subs := [evSub w] } ([(O.evEvHost 40, 1), (O.evEvKeepers 40, 8), (O.evEvLine 40, 5)] ++ l)
def raised : Dev := after (.eventOccurrence 40 7 6) (heard [])

theorem witness_EventRouter :
    State.reset.dev.canRaise 127 = false ∧ (∃ v < 128, State.reset.dev.canRaise v = false) ∧
    (let d := heard []
     d.canRaise 40 = true ∧ 40 ∉ notifyEvents ∧ d.asleep = false ∧ d.subById 9 = some (evSub []) ∧ (evSub []).evmask.testBit 40 = true ∧
     d.masked 40 = false ∧ d.nat (O.evEvLine 40) = 5 ∧ (d.nat (O.evEvKeepers 40)).testBit 3 = true ∧ d.nat (O.evEvCoalesceUs 40) ≠ 0) ∧
    (heard [] [(O.evEvCoalesceUs 40, 0)]).nat (O.evEvCoalesceUs 40) = 0 ∧
    ((evSub [window 2000000000]).windows.find? (fun w => decide (w.ev = 40)) = some (window 2000000000) ∧ (1000000000 : Nat) < (window 2000000000).tEnd ∧
      (window 5).tEnd ≤ 1000000000) ∧
    (takes raised N [writeNum (O.evEvAck 0) (2 ^ 40 : Nat)] = true ∧ raised.latched 40 = true ∧ raised.masked 40 = false ∧ (raised.nat (O.evEvHost 40)).testBit 0 = true ∧
      raised.pinWanted 0 = true) ∧ takes raised N [writeNum (O.evEvMask 1) (2 ^ 64 - 1 : Nat)] = true ∧ (at_ .standby).harbourOn = false ∧
    (let d := heard [window 2000000000]
     d.harbourOn = true ∧ d.subById 9 = some (evSub [window 2000000000]) ∧
       (evSub [window 2000000000]).windows.all (fun x => (window 2000000000).before x) = true) := by decide +kernel

def pended (v : Nat) (n : Int) : Dev := set (after (.eventOccurrence v 7 0) (on [])) [(O.evEvPendCount v, n)]

theorem witness_PendCountSaturates :
    (let d := pended 40 65534; d.canRaise 40 = true ∧ d.latched 40 = true ∧ d.nat (O.evEvPendCount 40) = 65534 ∧ d.host.subs = [] ∧ d.latched 13 = false) ∧
    ((on []).latched 40 = false ∧ (pended 40 3).nat (O.evEvPendCount 40) ≠ 65534) ∧
    (let d := pended 13 65534; d.canRaise 13 = true ∧ d.latched 13 = true ∧ d.nat (O.evEvPendCount 13) = 65534) := by decide +kernel

/-! ### Security -/

def secure (x : SecState := {}) (l : List (Nat × Int) := []) : Dev := { on l with sec := x }

/-- An image that passes R534 is not shown: its signature takes some ten thousand SHA-256 blocks. -/
theorem witness_FirmwareAndKeys :
    takes secure N [writeNum O.scFwActivate 2] = true ∧ (secure { checking := some 1 }).sec.checking = some 1 ∧
    secure.sec.checking = none ∧ takes secure N [writeNum O.scRecoverCmd 1] = true ∧
    takes (secure { fwVersion := 9 } [(O.scBootArea, 1)]) N [writeNum O.scRollbackAdv 0] = true ∧
    takes secure M [writeItem (O.scNKey 3) (List.replicate 32 7)] = true ∧ takes secure M [writeItem (O.scMKey 0) (List.replicate 32 7)] = true ∧
    takes secure M [writeItem O.scDebugKey (List.replicate 32 7)] = true ∧ takes secure M [writeNum O.scKeyRevoke 0xFF] = true ∧
    takes secure M [writeItem (O.scCustRoot 0) (List.replicate 32 7)] = true ∧ takes secure M [writeItem (O.scCustRoot 1) (List.replicate 32 7)] = true ∧ takes secure M [writeNum O.scRootRevoke 3] = true ∧
    takes secure M [writeNum O.scDebugDisable 1] = true := by decide +kernel

def unlockKey : List Byte := List.replicate 32 7
def challenged : Dev := (secure { challenge := some [1, 2] }).setRaw O.scDebugKey unlockKey

theorem witness_DebugAndAttestation :
    challenged.fabricOn = true ∧ (at_ .standby).fabricOn = false ∧
    (challenged.nat O.scDebugState = 0 ∧ challenged.flag O.scDebugDisable = false ∧ challenged.raw O.scDebugKey ≠ [] ∧ notOnes (challenged.raw O.scDebugKey) = true ∧
      challenged.sec.challenge = some [1, 2]) ∧ (secure {}).raw O.scDebugKey = [] ∧
    takes secure M [writeNum O.scAttestGen 1] = true ∧
    (let d := secure {} [(O.scAttestState, 1)]; d.nat O.scAttestState = 1 ∧ d.storeTurn .lms d.mono = true) ∧ secure.nat O.scAttestState ≠ 1 ∧
    takes (secure {} [(O.scAttestState, 3), (O.scAttestLimit, 1024)]) N [writeItem O.scAttestNonce (List.replicate 32 1)] = true ∧
    (let d := secure { quoteAt := some 5 } [(O.scAttestState, 3), (O.scAttestIndex, 959), (O.scAttestLimit, 1024)]
     d.sec.quoteAt = some 5 ∧ d.nat O.scAttestIndex < d.nat O.scAttestLimit ∧ d.nat O.scAttestLimit ≤ 959 + 65 ∧ d.nat O.scAttestLimit < 2 ^ 30 ∧ d.store.job = none) ∧
    (let d := secure { quoteAt := some 5 } [(O.scAttestIndex, 3), (O.scAttestLimit, 1024)]; 3 + 65 < d.nat O.scAttestLimit) ∧
    (let d := secure { quoteAt := some 5 } [(O.scAttestIndex, 1024), (O.scAttestLimit, 1024)]; d.nat O.scAttestLimit ≤ d.nat O.scAttestIndex) ∧
    secure.sec.quoteAt = none := by decide +kernel

/-! ### Stack mode -/

/-- A device whose core 2 runs stack mode with these cells. -/
def stacked (ds : List Word := []) (rs : List Word := []) (x : KpState := {}) : Dev :=
  { at_ .run with kp := { x with cores := [(2, { ds := ds, rs := rs, pc := 0xF0000100 })] } }

theorem witness_StackCells : stacked.stackOn 2 = true ∧ (on []).stackOn 2 = false ∧ (stacked [1, 2]).core 2 = { ds := [1, 2], pc := 0xF0000100 } := by decide +kernel

theorem witness_StackMemoryAndEngines :
    stacked.stackOn 2 = true ∧ (on []).stackOn 2 = false ∧
    ((stacked [0x10000000]).smLoadOk 2 0x10000000 4 = true ∧ stacked.smLoadOk 2 0xF0000000 4 = true ∧ stacked.smLoadOk 2 2 4 = false ∧ (stacked.core 2).ds = []) ∧
    (stacked.smStoreOk 2 0x20000000 4 = true ∧ regionOf 0x20000000 = .sram ∧ stacked.smStoreOk 2 0x60000000 4 = true ∧ regionOf 0x60000000 = .port ∧
      stacked.smStoreOk 2 0x40000004 4 = true ∧ regionOf 0x40000004 = .stream ∧ stacked.smStoreOk 2 0xF0000000 4 = false ∧ stacked.smStoreOk 2 0x60007F04 4 = true) ∧
    ((∀ i < 3, stacked.smLoadOk 2 (0x10000000 + i) 1 = true ∧ stacked.smStoreOk 2 (0x10000002 + i) 1 = true) ∧ stacked.smLoadOk 2 0 1 = false) ∧
    (stacked.smBlockIn 2 0x10000000 8 = true ∧ stacked.smBlockIn 2 1 8 = false ∧ stacked.smBlockOut 2 0x20000000 32 = true ∧ stacked.smBlockOut 2 0x60000000 32 = true ∧
      stacked.smBlockOut 2 0xF0000000 32 = false ∧ ¬ (regionOf 0x60000000 = .imem ∨ regionOf 0x60000000 = .dmem ∨ regionOf 0x60000000 = .sram)) ∧
    (counterExists 0 = true ∧ (0 : Nat) + 9 ≤ counterMax 0 ∧ counterExists 9 = false) ∧
    (let d := { stacked [0x80100040] with sec := { range := some (0x80100000, 64 * 64) } }
     d.sec.range = some (0x80100000, 4096) ∧ (0x80100000 : Nat) ≤ (0x80100040 : Word).toNat ∧ (0x80100040 : Word).toNat < 0x80100000 + 4096) ∧
    (stacked [5]).sec.range = none ∧ (State.reset.dev.core 0).stackMode = true ∧ State.reset.dev.pw.entered = false := by decide +kernel

/-! ### The Keepers -/

/-- A core with a vector table at the start of its data memory. -/
def reg : Core := { stackMode := false, pc := 0x100, vbase := 0x10000000, vlevel := [(2, 5)], psw := 0x200 }
/-- Words at PC of core 2, in register mode. -/
def coded (ws : List Nat) (c : Core := reg) (x : KpState := {}) (l : List (Nat × Int) := []) : Dev :=
  ({ on l with kp := { x with cores := [(2, c)] } }).lmemStore 2 0x100 (ws.flatMap (leBytes 4))
def addWord : Nat := 2 ^ 31 + 1 * 2 ^ 22 + 3 * 2 ^ 18 + 4 * 2 ^ 14 + 5 * 2 ^ 9

theorem witness_BundleArithmetic :
    (let d := coded [addWord]
     d.coreIssues 2 = true ∧ (d.core 2).inRep = false ∧ d.fetchDetail 2 false 0x100 = 0 ∧ d.busRead 2 false 0 0x100 4 = addWord) ∧
    (let d := coded [addWord - 2 ^ 31 + 2 ^ 13, 2 ^ 31 + 5 * 2 ^ 28 + 7 * 2 ^ 9]
     d.fetchDetail 2 false 0x104 = 0 ∧ d.busRead 2 false 0 0x104 4 = 2 ^ 31 + 5 * 2 ^ 28 + 7 * 2 ^ 9) ∧
    (coded [2 ^ 31 + 7 * 2 ^ 22]).busRead 2 false 0 0x100 4 = 2 ^ 31 + 7 * 2 ^ 22 := by decide +kernel

/-- Local memory reads as stored, whatever free bytes other regions read as. -/
theorem busRead_dmem (d : Dev) (k f g a n : Nat) (h : regionOf a = .dmem) : d.busRead k false f a n = d.busRead k false g a n := by
  unfold Dev.busRead Dev.busBytes
  simp only [h]

/-- What core 2 finds at PC. -/
def bundleIs (d : Dev) (ws : List Nat) : Bool := match d.bundleAt 2 with | .ok l => decide (l = ws) | .error _ => false
def vecIs (d : Dev) (v : Nat) : Bool := match d.bundleAt 2 with | .ok _ => false | .error x => decide (x.vec = v)
/-- The bundle of Table 17.11, which runs only when bit 0x12 is set; and PFX with REP, and a fill of words. -/
def predicated : List Nat := [0x64000012, 0x004C7456, 0x50012200, 0x907FFFF0]
def repeated : List Nat := [6 * 2 ^ 28 + 2 ^ 27, 2 ^ 31 + 3 * 2 ^ 28 + 0x21 * 2 ^ 22 + 6 * 2 ^ 18 + 7 * 2 ^ 9 + 2]
def counting (n : Word) : Core := { reg with sc := n, a := [(6, 0x20000040)] }
def service : Dev := { on [(O.kpProgState 4, 1)] with kp := { (on []).kp with running := some (4, 1, 999000000) } }

theorem witness_KeeperCommands :
    (stacked.coreIssues 2 = false) ∧
    (let d := coded [2 ^ 31 + 0x3F * 2 ^ 22]
     d.coreIssues 2 = true ∧ vecIs d 1 = true ∧ (d.core 2).bit 13 = false ∧ (d.core 2).bit 7 = false ∧
     d.loadDetail 2 false 0x10000004 4 = 0 ∧ d.busRead 2 false 0 0x10000004 4 % 4 = 0) ∧
    (coded [2 ^ 31 + 0x3F * 2 ^ 22] { reg with psw := 0x80 }).core 2 = { reg with psw := 0x80 } ∧
    (let d := coded predicated
     bundleIs d predicated = true ∧ pfxOf predicated = some 0x64000012 ∧ pfxPred 0x64000012 = true ∧
     d.bitExc 2 false 6 0x12 true false = [] ∧ d.bitRead 2 0x12 = Nat.testBit 0x64000012 25) ∧
    (let d := coded repeated (counting 2)
     d.coreIssues 2 = true ∧ bundleIs d repeated = true ∧ pfxRep (repeated.getD 0 0) = true ∧ (sylIn repeated 3).map (fun y => (y.op, y.dst, y.srcb, y.func)) = some (0x21, 6, 7, 2) ∧
     d.storeDetail 2 false 0x20000040 4 = 0 ∧ regionOf 0x20000040 = .sram ∧ (d.core 2).sc ≠ 0) ∧ ((coded repeated (counting 0)).core 2).sc = 0 ∧
    (let d := coded [] { reg with timerOn := true }
     d.wdtRuns 2 = true ∧ (d.core 2).bit 9 = true ∧ d.pendingVecs 2 = [16] ∧ (d.core 2).ipl < (d.core 2).level 16 ∧ d.loadDetail 2 false (0x10000000 + 64) 4 = 0) ∧
    (coded [] { reg with timerOn := true, vbase := 0x10010001 }).loadDetail 2 false 0x30000000 4 ≠ 0 ∧
    (coded [] { reg with waiting := true, timerOn := true, timer := 5 }).wdtRuns 2 = true ∧ reg.timer = 0 ∧ reg.waiting = false ∧
    takes (on []) N [writeNum (O.kpProgEnable 15) 1] = true ∧ takes (on [(O.kpProgEnable 15, 1), (O.kpProgState 15, 2)]) N [writeNum (O.kpProgEnable 15) 0] = true ∧
    (service.nat (O.kpProgState 4) = 1 ∧ service.kp.running = some (4, 1, 999000000) ∧ (service.core 3).stackMode = false ∧ service.progRuns 4 = true ∧
      service.kp.leaving.all (fun x => decide (x ≠ 4)) = true ∧ (service.progImage 1).length = 0) ∧ (on []).kp.running = none ∧
    (let d := coded predicated { reg with dbg := true } {} [(O.scDebugState, 2)]
     d.fabricOn = true ∧ d.nat O.scDebugState = 2 ∧ (d.core 2).dbg = true ∧ d.intDue 2 = false ∧ (d.core 2).waiting = false ∧ bundleIs d predicated = true) := by decide +kernel

theorem witness_HostPinsFollowEvents : ∃ t, exec .pfailClear State.reset = .next t := ⟨_, rfl⟩

theorem witness_StepsKeepSound : State.reset.pending = [] := rfl

/-! ### Ill-formed commands

One operand out of range for each check of `WellFormed.lean`. -/

def org0 : Origin := { role := .N, port := 0, session := 0, source := 0 }
def det0 : HypDet := { entry := 0, mode := 0, offset := 0, timing := 0, sample := 0, peak := 0, depth := 0, len := 0 }
def info0 : SigInfo := { mode := 0, param := 0, interleave := 0, mscMap := 0, services := 0, smode := 0 }
def confirm0 : Confirm := { entry := 0, at_ := 0, ok := true, fac := info0, delays := List.replicate 6 0 }
def lane0 (k : Nat) : LaneReport := { figs := List.replicate k [0], elems := [], margins := [0] }
def cal0 : CalReport := { noTone := 0, us := 0, lanes := List.replicate 7 (lane0 11), corners := List.replicate 6 [0, 0, 0], synth := 0 }
def run0 : RunReport := { snr := List.replicate 6 0, weights := List.replicate 6 0, iq := [], dig := { entries := [], counter := 0, alfn := 0, sync := [], audio := [] } }
def ent0 : DigEnt := { ety := 0, src := 0, bad := false, err := 0, counter := 0, sample := 0, span := 0, content := [] }
def sig0 : SigIn := { taps := List.replicate 6 [], level := none, snr := none, multipath := none, cn := List.replicate 6 (0, 0), lo := 0, hi := 0 }
def meas0 : MeasRep := { rdsDev := List.replicate 4 0, errRate := 0, doppler := 0, wmer := 0, tii := [] }
def svc0 : SvcEnt := { sid := 0, comp := 0, codec := 1, fs := 48000, start := 0, size := 0, prot := 0 }

/-- The terms that the tests below spoil are well-formed. -/
theorem test_wellFormed_sound :
    hypDetOk det0 = true ∧ sigInfoOk info0 = true ∧ confirmOk confirm0 = true ∧ laneReportOk 4 (lane0 4) = true ∧ calReportOk cal0 = true ∧ runReportOk run0 = true ∧
    digEntOk ent0 = true ∧ sigInOk sig0 = true ∧ digInOk { vals := List.replicate 6 none, guard := [] } = true ∧ measRepOk meas0 = true ∧ svcEntOk svc0 = true ∧
    alignOk align = true ∧ msgOk (msg 1) = true ∧ orgOk org0 = true := by decide +kernel

theorem test_wellFormed_numbers :
    (Instr.pwRequestRun { org0 with session := 65536 }).wf = false ∧ (Instr.pwRequestRun { org0 with port := 8 }).wf = false ∧ (Instr.resetRelease 256).wf = false ∧
    (Instr.supplyWarning 0 65536).wf = false ∧ (Instr.slotStart 0 (2 ^ 32)).wf = false ∧ (Instr.ptpAnnounce (2 ^ 64)).wf = false ∧
    (Instr.thermalRestartCheck 32768).wf = false ∧ (Instr.positionWrite org0 (2 ^ 31) 0).wf = false ∧ (Instr.ptpSync 0 0 (-(2 ^ 31) - 1)).wf = false ∧
    (Instr.hypDetection 1 { det0 with timing := 2 ^ 63 }).wf = false := by decide +kernel

theorem test_wellFormed_units :
    (Instr.feedTrip 6).wf = false ∧ (Instr.laneDueTime 7).wf = false ∧ (Instr.gainStepDeferred 0 3).wf = false ∧ (Instr.signalLoss 0).wf = false ∧
    (Instr.signalLoss 64).wf = false ∧ (Instr.slotRunDone 256 0).wf = false ∧ (Instr.watchdogExpiry 4).wf = false ∧ (Instr.brownOut 6).wf = false ∧
    (Instr.tapFillDone 128).wf = false ∧ (Instr.sdStreamStall 8).wf = false ∧ (Instr.wakePin 2).wf = false ∧ (Instr.progLoadDone 16).wf = false ∧
    (Instr.eventOccurrence 128 0 0).wf = false ∧ (Instr.selectSwitch 1 6).wf = false ∧ (Instr.sweepIntervalEnd 64 0 []).wf = false ∧ (Instr.calRampStep 25).wf = false ∧
    (Instr.rdsBlock 1 4 0 0 0).wf = false ∧ (Instr.rdsBlock 1 0 (2 ^ 52) 0 0).wf = false ∧ (Instr.amDetectorChange 1 4).wf = false ∧ (Instr.codedFrameFailed 1 5).wf = false ∧
    (Instr.dabReconfig 1 5000 { eid := 0, info := info0, services := [] }).wf = false ∧ (Instr.fhIndication 1001).wf = false ∧
    (Instr.linkChange 4 0).wf = false ∧ (Instr.segmentRx 4 0 0 []).wf = false ∧ (Instr.reassemblyTimeout 1 (2 ^ 144)).wf = false ∧ (Instr.dlMsg org0 24 []).wf = false ∧
    (Instr.blDetection 0 7 0 0).wf = false ∧ (Instr.blHeaderEnd 0 (2 ^ 52)).wf = false ∧ (Instr.blPacketEnd 0 (.bytes []) 0 101 (List.replicate 64 0)).wf = false ∧
    (Instr.role org0 0 0 0 11).wf = false ∧ (Instr.twStretchTimeout { port := 0, acked := 65 }).wf = false ∧ (Instr.twWindowStatus 0 7).wf = false ∧
    (Instr.audioRxFrame 0 0 (List.replicate 258 true)).wf = false ∧ (Instr.routeApply 32).wf = false ∧ (Instr.avtpPacket 63).wf = false ∧ (Instr.smLit 0 32).wf = false := by
  decide +kernel

theorem test_wellFormed_reports :
    (Instr.hypDetection 1 { det0 with entry := 6 }).wf = false ∧ (Instr.hypConfirmed 1 { confirm0 with delays := [] }).wf = false ∧
    (Instr.drmReconfig 1 [] { info0 with mscMap := 5 }).wf = false ∧ (Instr.lanegSelfCalDone { lane0 4 with figs := [[], [], [], []] }).wf = false ∧
    (Instr.lanegSelfCalDone { lane0 4 with margins := [101] }).wf = false ∧ (Instr.powerupCalDone { cal0 with lanes := [] }).wf = false ∧
    (Instr.overlapInDone { align with gains := [0] }).wf = false ∧ (Instr.contextRunEnd 1 { run0 with weights := 1 :: List.replicate 5 0 }).wf = false ∧
    (Instr.contextRunEnd 1 { run0 with iq := [(2 ^ 31, 0)] }).wf = false ∧
    (Instr.contextRunEnd 1 { run0 with dig := { run0.dig with entries := [{ ent0 with ety := 256 }] } }).wf = false ∧
    (Instr.contextRunEnd 1 { run0 with dig := { run0.dig with audio := [{ sel := 5, mono := true, pcm := [] }] } }).wf = false ∧
    (Instr.contextRunEnd 1 { run0 with dig := { run0.dig with audio := [{ sel := 0, mono := true, pcm := [(8388608, 0)] }] } }).wf = false ∧
    (Instr.indicatorInterval 1 { sig0 with level := some (2 ^ 31) }).wf = false ∧ (Instr.digitalIndicatorInterval 1 { vals := [none], guard := [] }).wf = false ∧
    (Instr.measWindowEnd 1 { meas0 with tii := [(70, 1, 0, 0)] }).wf = false ∧ (Instr.serviceInfoComplete 1 { eid := 0, info := info0, services := [{ svc0 with codec := 6 }] }).wf = false ∧
    (Instr.audioInternalFrame { arr := [(2 ^ 32, 0)] }).wf = false ∧ (Instr.blPacketEnd 0 (.bytes (List.replicate 256 0)) 0 0 (List.replicate 64 0)).wf = false ∧
    (Instr.blPacketEnd 0 (.points [[]]) 0 0 (List.replicate 64 0)).wf = false ∧ (Instr.sweepIntervalEnd 0 0 [(0, [(0, [])])]).wf = false ∧
    (Instr.overloadDeclared 0 ([8192], []) [0, 0, 0]).wf = false ∧ (Instr.tempSample [0]).wf = false ∧ (Instr.read { msg 1 with port := 7 }).wf = false ∧
    (Instr.corrRefresh 0 1 [0] [] [] []).wf = false := by decide +kernel

/-! ### Worked examples of the spec -/

/-- Chapter 0: element 3 of the base item of chain C, and the blocks of context 17 and Buoy 7. -/
theorem test_oid_of_chain_C : O.cpDoorCBand 2 = 0x00514003 ∧ O.cxType 17 / 256 % 4096 = 0x210 ∧ O.blUid 7 / 256 % 4096 = 0x170 := by decide

/-- Chapter 3: the NCO words of the FM and the NRSC-5 request at 98.500 MHz. -/
theorem test_tap_nco : tapNco 98500000 4 = 0x082AAAAB ∧ tapNco 98500000 5 = 0xF82AAAAB - 2 ^ 32 := by decide

/-- Chapter 3: channel 490 of raster 4 has two half bins around 39 whole ones. -/
theorem test_channel_bins :
    rasterCentre 4 490 = 88500000 ∧ (channelBins 4 490).length = 41 ∧ (channelBins 4 490).head? = some (29480, 1500) ∧ (channelBins 4 490).getLast? = some (29520, 1500) ∧
    ((channelBins 4 490).map (·.2)).sum = 120000 ∧ (binPlace 29480).1 = 115 ∧ (binPlace 29520).1 = 115 := by decide +kernel

/-- R253: the cell, square and directory index of a position. -/
theorem test_cell_of_position : cellOf 472813000 89371000 = (1513, 285) := by decide

/-- R402: identifiers of CAN FD frames, and the padding of a 13-byte one. -/
theorem test_can_frames : canId 2 0x5A 0x21 0x01 = 0x105A2101 ∧ canId 1 0x5A 0x01 0x21 = 0x085A0121 ∧ (canPad (List.replicate 13 0)).length = 16 := by decide

/-- R421, R423: a CONTROL of six bytes and an ACK at rate code 2, and an uplink of 200 bytes under a map with B = 208. -/
theorem test_packet_times : gfskTime 2 6 = 176000 ∧ gfskTime 2 0 = 128000 ∧ ofdmTime 208 200 = 550000 := by decide

def contending : TwXfer := { addr := 0x3A, write := [0x10, 0x4C], read := 0, quick := 0, started := true, active := true, at_ := 1000000000 }

/-- Table 16.4: the loss at byte 2, bit 2 comes 59.4 µs after the START, and the whole transfer lasts 70.0 µs. -/
theorem test_arbitration_timeline :
    (twTimes 1).2.2.1 + (twTimes 1).1 + (9 * 2 + (7 - 2)) * twBit 1 = 59400 ∧ ((contending.tokens true true 2 []).map (TwTok.time 1)).sum = 70000 := by decide +kernel

/-- Table 17.11: with bit 0x12 set the bundle runs both syllables, with it clear it only passes. -/
theorem test_bundle_of_the_spec :
    ((after (.bundle 2) (coded predicated { reg with d := [(1, 5)], a := [(15, 0x10000020)] })).core 2).pc = 0x110 ∧
    ((after (.bundle 2) (coded predicated { reg with d := [(1, 5)], a := [(15, 0x10000020)] })).core 2).dr 3 = 0 ∧
    (let d := { coded predicated { reg with d := [(1, 5)], a := [(15, 0x10000020)] } with lflags := [(2 * 1024 + 0x12, true)] }
     d.bitRead 2 0x12 = true ∧ ((after (.bundle 2) d).core 2).dr 3 = 0x0012345B ∧ ((after (.bundle 2) d).core 2).ar 15 = 0x10000010) := by decide +kernel

/-- Table 18.9: the cause of an interrupt of vector 40 inside a repeat, and the word of the MOVS. -/
theorem test_interrupted_repeat : ecauseOf 40 7 0 true = 0x0F28 ∧ sylIn [0x68000000, 0xB80C8002] 3 =
    some { slot := 3, op := 0x20, dst := 3, srca := 2, func := 2, imm := 2, low := 2 } := by decide +kernel

/-- Chapter 23: three balls. -/
theorem test_balls : (Ball.audio 5 1 .ws).place = (16, 31) ∧ rowName 16 = "U" ∧ ballAt 11 9 = .supply .core ∧ ballAt 11 10 = .vss ∧ ballAt 5 9 = .supply .ana := by decide +kernel

end Sys2Proof.Tests
end

section
/-! Hypothesis slots (R122, Table 4.5): what one detection and one failed verification make of them, and O23, which a HYP_PREEMPTED below 0
refutes. -/

namespace Sys2Proof.Machine

variable {d x e : Dev} {ps : List Part} {os : Nat → Prop} {es : List Nat} {c : Nat}

/-! ### The list of slots -/

/-- A fold that keeps the better of two by a preorder ends, from `z`, with one of the elements that is as good as every other. -/
theorem foldl_best {α : Type} {f : Option α → α → Option α} {r : α → α → Prop} (hr : ∀ a, r a a) (ht : ∀ {a b c}, r a b → r b c → r a c)
    (hf : ∀ z y, (f (some z) y = some z ∧ r y z) ∨ (f (some z) y = some y ∧ r z y)) (l : List α) :
    ∀ z, ∃ n ∈ z :: l, l.foldl f (some z) = some n ∧ ∀ m ∈ z :: l, r m n := by
  induction l with
  | nil => exact fun z => ⟨z, by simp, rfl, by simpa using hr z⟩
  | cons y l ih =>
    intro z
    rcases hf z y with ⟨k, ho⟩ | ⟨k, ho⟩
    · obtain ⟨n, hn, he, hm⟩ := ih z
      have hz := hm z List.mem_cons_self
      refine ⟨n, List.mem_cons.2 ((List.mem_cons.1 hn).imp_right (List.mem_cons_of_mem _)), by rw [List.foldl_cons, k, he], ?_⟩
      rw [List.forall_mem_cons, List.forall_mem_cons]
      exact ⟨hz, ht ho hz, fun m w => hm m (List.mem_cons_of_mem _ w)⟩
    · obtain ⟨n, hn, he, hm⟩ := ih y
      refine ⟨n, List.mem_cons_of_mem _ hn, by rw [List.foldl_cons, k, he], ?_⟩
      exact List.forall_mem_cons.2 ⟨ht ho (hm y List.mem_cons_self), hm⟩

/-- Such a fold over the SAVED slots, where there is one, picks one of them. -/
theorem foldl_saved_best {f : Option Hyp → Hyp → Option Hyp} {r : Hyp → Hyp → Prop} (hr : ∀ a, r a a) (ht : ∀ {a b c}, r a b → r b c → r a c)
    (h0 : ∀ y, f none y = some y) (hf : ∀ z y, (f (some z) y = some z ∧ r y z) ∨ (f (some z) y = some y ∧ r z y)) {l : List Hyp}
    (h : ∃ y ∈ l, y.verifying = false) :
    ∃ n ∈ l, n.verifying = false ∧ (l.filter (fun y => !y.verifying)).foldl f none = some n ∧ ∀ m ∈ l, m.verifying = false → r m n := by
  obtain ⟨y, hy, hv⟩ := h
  have mem : ∀ m, m ∈ l.filter (fun y => !y.verifying) ↔ m ∈ l ∧ m.verifying = false := by simp
  cases hl : l.filter (fun y => !y.verifying) with
  | nil => exact absurd ((mem y).2 ⟨hy, hv⟩) (by simp [hl])
  | cons z t =>
    rw [hl] at mem
    obtain ⟨n, hn, he, hm⟩ := foldl_best hr ht hf t z
    obtain ⟨nl, nv⟩ := (mem n).1 hn
    exact ⟨n, nl, nv, by rw [List.foldl_cons, h0, he], fun m ml mv => hm m ((mem m).2 ⟨ml, mv⟩)⟩

/-- Where a slot is SAVED, the newest one is a SAVED slot that no other was saved after. -/
theorem hypNewest_eq_some {l : List Hyp} (h : ∃ y ∈ l, y.verifying = false) :
    ∃ n ∈ l, n.verifying = false ∧ hypNewest l = some n ∧ ∀ m ∈ l, m.verifying = false → m.saved ≤ n.saved :=
  foldl_saved_best (r := fun m n => m.saved ≤ n.saved) (fun _ => Nat.le_refl _) Nat.le_trans (fun _ => rfl)
    (fun z y => by
      dsimp only
      split
      · exact .inr ⟨rfl, by omega⟩
      · exact .inl ⟨rfl, by omega⟩) h

/-- Where a slot is SAVED, the oldest one is a SAVED slot that no other was saved before. -/
theorem hypOldest_eq_some {l : List Hyp} (h : ∃ y ∈ l, y.verifying = false) :
    ∃ n ∈ l, n.verifying = false ∧ hypOldest l = some n ∧ ∀ m ∈ l, m.verifying = false → n.saved ≤ m.saved :=
  foldl_saved_best (r := fun m n => n.saved ≤ m.saved) (fun _ => Nat.le_refl _) (fun a b => Nat.le_trans b a) (fun _ => rfl)
    (fun z y => by
      dsimp only
      split
      · exact .inr ⟨rfl, by omega⟩
      · exact .inl ⟨rfl, by omega⟩) h

/-- A detection of a signal that no slot holds becomes the one hypothesis under verification (Table 4.5). -/
theorem hypEnter_verifying {kind ty n : Nat} {l : List Hyp} {p : Int} {det : HypDet} (h : ∀ y ∈ l, sameSignal kind ty y.det det = false) :
    (∃ y ∈ (hypEnter kind ty (l, n, p) det).1, y.verifying = true ∧ y.det = det) ∧
    ∀ y ∈ (hypEnter kind ty (l, n, p) det).1, y.verifying = true → y.det = det := by
  have new : l.any (fun y => sameSignal kind ty y.det det) = false := by simpa using h
  simp only [hypEnter, new, Bool.false_eq_true, if_false]
  -- the slots once the one under verification is saved
  generalize hk : l.map (fun y => if y.verifying then { y with verifying := false, saved := n + 1 } else y) = k
  have hs : ∀ y ∈ k, y.verifying = false := by
    rw [← hk, List.forall_mem_map]
    intro y _
    split
    · rfl
    · rename_i v
      exact eq_false_of_ne_true v
  cases hf : hypFree k with
  | some i =>
    simp only [List.mem_append, List.mem_singleton]
    refine ⟨⟨_, .inr rfl, rfl, rfl⟩, fun y m v => ?_⟩
    rcases m with m | rfl
    · exact absurd v (by simp [hs y m])
    · rfl
  | none =>
    obtain ⟨z, hz⟩ : ∃ z, z ∈ k := List.exists_mem_of_ne_nil k (by rintro rfl; exact absurd hf (by decide))
    obtain ⟨o, ho, -, he, -⟩ := hypOldest_eq_some ⟨z, hz, hs z hz⟩
    simp only [he]
    refine ⟨⟨_, List.mem_map_of_mem ho, by simp⟩, List.forall_mem_map.2 fun y m => ?_⟩
    split
    · exact fun _ => rfl
    · exact fun v => absurd v (by simp [hs y m])

/-- It counts one hypothesis as pre-empted where one was under verification. -/
theorem hypEnter_preempted {kind ty n : Nat} {l : List Hyp} {p : Int} {det : HypDet} (h : ∀ y ∈ l, sameSignal kind ty y.det det = false) :
    (hypEnter kind ty (l, n, p) det).2.2 = if l.any (·.verifying) then p + 1 else p := by
  have new : l.any (fun y => sameSignal kind ty y.det det) = false := by simpa using h
  simp only [hypEnter, new, Bool.false_eq_true, if_false]

/-! ### Objects of a context's hypotheses -/

theorem area_cxHypState {h : Nat} (hc : c < 64) (hh : h < 4) : O.area (O.cxHypState c h) = 8 := by
  simp only [O.area, O.cxHypState, O.mk]; omega
theorem area_cxHypPreempted (hc : c < 64) : O.area (O.cxHypPreempted c) = 8 := by
  simp only [O.area, O.cxHypPreempted, O.mk]; omega
theorem area_cxHypRejected (hc : c < 64) : O.area (O.cxHypRejected c) = 8 := by
  simp only [O.area, O.cxHypRejected, O.mk]; omega

theorem cxHypPreempted_not_shown (c : Nat) : ¬ each 4 (O.cxHypState c) (O.cxHypPreempted c) := by
  rintro ⟨h, -, k⟩
  simp only [O.cxHypPreempted, O.cxHypState, O.mk] at k
  omega
theorem cxHypRejected_not_shown (c : Nat) : ¬ each 4 (O.cxHypState c) (O.cxHypRejected c) := by
  rintro ⟨h, -, k⟩
  simp only [O.cxHypRejected, O.cxHypState, O.mk] at k
  omega

/-- Objects of the contexts' area are quiet, but for the decoder pool's two. -/
theorem quiet_of_area_cx {o : Nat} (h : O.area o = 8) (h1 : o ≠ O.cxDecUsed) (h2 : o ≠ O.cxDecWaiting) : quiet o = true := by
  have k : ∀ n ∈ noisy, n = O.cxDecUsed ∨ n = O.cxDecWaiting ∨ O.area n ≠ 8 := by decide
  simp only [quiet, Bool.not_eq_eq_eq_not, Bool.not_true, List.contains_eq_mem, decide_eq_false_iff_not]
  intro m
  rcases k o m with w | w | w
  · exact h1 w
  · exact h2 w
  · exact w h

theorem quiet_cxHypPreempted (hc : c < 64) : quiet (O.cxHypPreempted c) = true :=
  quiet_of_area_cx (area_cxHypPreempted hc) (by simp only [O.cxHypPreempted, O.cxDecUsed, O.mk]; omega)
    (by simp only [O.cxHypPreempted, O.cxDecWaiting, O.mk]; omega)
theorem quiet_cxHypRejected (hc : c < 64) : quiet (O.cxHypRejected c) = true :=
  quiet_of_area_cx (area_cxHypRejected hc) (by simp only [O.cxHypRejected, O.cxDecUsed, O.mk]; omega)
    (by simp only [O.cxHypRejected, O.cxDecWaiting, O.mk]; omega)

/-! ### Context state and HYP_STATE -/

theorem Dev.ctx_setCtx (d : Dev) (c m : Nat) (v : CtxSt) : (d.setCtx c v).ctx m = if m = c then v else d.ctx m := Tab.get_set ..

theorem Dev.hypObjs_cx (d : Dev) (c : Nat) : (d.hypObjs c).cx = d.cx :=
  List.foldlRecOn (motive := fun x : Dev => x.cx = d.cx) _ _ rfl fun _ h _ _ => h

theorem Dev.hypObjs_get (d : Dev) {o : Nat} (h : ¬ each 4 (O.cxHypState c) o) : (d.hypObjs c).get o = d.get o :=
  List.foldlRecOn (motive := fun x : Dev => x.get o = d.get o) _ _ rfl fun x hx i hi => by
    rw [Dev.get_setN, if_neg (fun k => h ⟨i, List.mem_range.1 hi, k⟩), hx]

/-- Replacing the state of a context and showing its hypotheses. -/
theorem Frame.setHyps (h : Frame d x ps os es) (hc : c < 64) (hp : Part.cx ∈ ps) (ho : ∀ o, each 4 (O.cxHypState c) o → os o) (v : CtxSt) :
    Frame d ((x.setCtx c v).hypObjs c) ps os es := by
  refine Frame.foldl _ _ (h.set_cx hp _) fun y i m k => k.setN _ ?_
  have hi := List.mem_range.1 m
  exact frees_of_mem (ho _ ⟨i, hi, rfl⟩) (by rw [area_cxHypState hc hi]; decide)

theorem Dev.hypObjs_setCtx_ctx (d : Dev) (c m : Nat) (v : CtxSt) : ((d.setCtx c v).hypObjs c).ctx m = if m = c then v else d.ctx m := by
  rw [← Dev.ctx_setCtx]
  simp only [Dev.ctx, Dev.hypObjs_cx]

theorem Dev.hypObjs_setCtx_num (d : Dev) {o : Nat} (v : CtxSt) (h : ¬ each 4 (O.cxHypState c) o) : ((d.setCtx c v).hypObjs c).num o = d.num o := by
  simp only [Dev.num, Dev.hypObjs_get _ h]; rfl

theorem Dev.Alike.ctx {d e : Dev} (h : d.Alike e) (m : Nat) : e.ctx m = d.ctx m := by
  simp only [Dev.ctx, show e.cx = d.cx from h.part .cx]

/-! ### HYP_DETECTION -/

/-- What the words of O23 ask of a detection on context `c` of `d`: ACQUIRING, by the criterion of its type, of a signal that no slot holds,
at a sample of its own. -/
structure Dev.HypNew (d : Dev) (c : Nat) (det : HypDet) : Prop where
  acquiring : d.cxSt c = 2
  ok : d.detectionOk c det = true
  entry : det.entry < d.nat (O.cxAntCount c)
  signal : ∀ y ∈ (d.ctx c).hyps, sameSignal (d.cxKind c) (d.nat (O.cxType c)) y.det det = false
  sample : ∀ y ∈ (d.ctx c).dets, y.sample ≠ det.sample

/-- The slots, their order and HYP_PREEMPTED once `det` is taken up alone. -/
def Dev.hypEntered (d : Dev) (c : Nat) (det : HypDet) : List Hyp × Nat × Int :=
  hypEnter (d.cxKind c) (d.nat (O.cxType c)) ((d.ctx c).hyps, (d.ctx c).hypOrder, d.num (O.cxHypPreempted c)) det

/-- What HYP_PREEMPTED reads after such a detection. -/
def Dev.preemptedNext (d : Dev) (c : Nat) : Int :=
  let n := d.num (O.cxHypPreempted c) + 1
  if (d.ctx c).hyps.any (·.verifying) then (if n < 2 ^ 32 then n else Config.counterPast (O.cxHypPreempted c) n.toNat)
  else d.num (O.cxHypPreempted c)

theorem Dev.preemptedNext_of_verifying (h : ∃ y ∈ (d.ctx c).hyps, y.verifying = true) (w : d.num (O.cxHypPreempted c) + 1 < 2 ^ 32) :
    d.preemptedNext c = d.num (O.cxHypPreempted c) + 1 := by
  have v : (d.ctx c).hyps.any (·.verifying) = true := by simpa using h
  simp only [Dev.preemptedNext, v, w, if_true]

theorem Dev.preemptedNext_of_saved (h : ∀ y ∈ (d.ctx c).hyps, y.verifying = false) :
    d.preemptedNext c = d.num (O.cxHypPreempted c) := by
  have v : (d.ctx c).hyps.any (·.verifying) = false := by simpa using h
  simp only [Dev.preemptedNext, v, Bool.false_eq_true, if_false]

/-- Such a detection is entered, and HYP_PREEMPTED is written where a hypothesis was pre-empted. -/
theorem Dev.HypNew.hypDetect_eq {det : HypDet} (h : d.HypNew c det) :
    ∃ v : CtxSt, v.hyps = (d.hypEntered c det).1 ∧
      d.hypDetect c det = if (d.ctx c).hyps.any (·.verifying) then ((d.setCtx c v).hypObjs c).setN (O.cxHypPreempted c) (d.preemptedNext c)
        else (d.setCtx c v).hypObjs c := by
  have go : ¬ (d.cxSt c ≠ 2 ∨ (!d.detectionOk c det) = true ∨ d.nat (O.cxAntCount c) ≤ det.entry) := by
    simp [h.acquiring, h.ok, h.entry]
  have alone : (d.ctx c).dets.any (fun y => decide (y.sample = det.sample)) = false := by simpa using h.sample
  refine ⟨{ d.ctx c with
    hyps := (d.hypEntered c det).1, hypOrder := (d.hypEntered c det).2.1, dets := [det],
    detBase := ((d.ctx c).hyps, (d.ctx c).hypOrder, d.num (O.cxHypPreempted c)) }, rfl, ?_⟩
  unfold Dev.hypDetect
  simp only [go, alone, Bool.false_eq_true, if_false, detInsert, List.foldl_cons, List.foldl_nil, hypEnter_preempted h.signal]
  cases hv : (d.ctx c).hyps.any (·.verifying)
  · simp only [Bool.false_eq_true, if_false, if_true]; rfl
  · rw [if_neg (by rw [if_pos rfl]; omega)]
    simp only [if_true, Dev.preemptedNext, hv]; rfl

theorem Dev.HypNew.hypDetect_preempted {det : HypDet} (h : d.HypNew c det) :
    (d.hypDetect c det).num (O.cxHypPreempted c) = d.preemptedNext c := by
  obtain ⟨v, -, he⟩ := h.hypDetect_eq
  rw [he]
  split
  · simp only [Dev.num_setN, if_true]
  · rename_i k
    rw [Dev.hypObjs_setCtx_num _ _ (cxHypPreempted_not_shown c)]
    simp only [Dev.preemptedNext, k, Bool.false_eq_true, if_false]

theorem Dev.HypNew.hypDetect_ctx {det : HypDet} (h : d.HypNew c det) :
    ((d.hypDetect c det).ctx c).hyps = (d.hypEntered c det).1 ∧ d.ctxOnly (d.hypDetect c det) c := by
  obtain ⟨v, hv, he⟩ := h.hypDetect_eq
  have k : ∀ m, (d.hypDetect c det).ctx m = if m = c then v else d.ctx m := by
    intro m
    rw [← Dev.hypObjs_setCtx_ctx, he]
    split <;> rfl
  exact ⟨by rw [k, if_pos rfl, hv], fun m hm => by rw [k, if_neg hm]⟩

theorem Dev.HypNew.hypDetect_frame {det : HypDet} (h : d.HypNew c det) (hc : c < 64) :
    Frame d (d.hypDetect c det) [.cx] (setsOf [O.cxHypPreempted c] [each 4 (O.cxHypState c)]) [] := by
  obtain ⟨v, -, he⟩ := h.hypDetect_eq
  have k : Frame d ((d.setCtx c v).hypObjs c) [.cx] (setsOf [O.cxHypPreempted c] [each 4 (O.cxHypState c)]) [] :=
    (Frame.refl d _ _ _).setHyps hc (by simp) (fun o m => .inr ⟨_, List.mem_singleton_self _, m⟩) v
  rw [he]
  exact ite_both (P := fun z => Frame d z _ _ _) (k.setN _ (frees_of_mem (.inl (by simp)) (by rw [area_cxHypPreempted hc]; decide))) k

/-- The part of O23 on HYP_DETECTION, with the one condition that it lacks: the count holds where HYP_PREEMPTED, a U32, is not below 0. -/
theorem hypDetection_completes (s : State) {det : HypDet} (hc : c < 64) (h : s.dev.HypNew c det) :
    Completes (.hypDetection c det) s [.cx] (setsOf [O.cxHypPreempted c] [each 4 (O.cxHypState c)]) [] (fun e =>
      (∃ y ∈ (e.ctx c).hyps, y.verifying = true ∧ y.det = det) ∧ (∀ y ∈ (e.ctx c).hyps, y.verifying = true → y.det = det) ∧ s.dev.ctxOnly e c ∧
      (0 ≤ s.dev.num (O.cxHypPreempted c) → (∃ y ∈ (s.dev.ctx c).hyps, y.verifying = true) → s.dev.counted e (O.cxHypPreempted c) 1) ∧
      ((∀ y ∈ (s.dev.ctx c).hyps, y.verifying = false) → e.nat (O.cxHypPreempted c) = s.dev.nat (O.cxHypPreempted c))) := by
  refine completes_of (f := fun d => d.hypDetect c det) rfl (h.hypDetect_frame hc) fun e ha => ?_
  obtain ⟨hh, ho⟩ := h.hypDetect_ctx
  have hn : e.nat (O.cxHypPreempted c) = (s.dev.preemptedNext c).toNat := by
    rw [ha.nat (quiet_cxHypPreempted hc), Dev.nat, h.hypDetect_preempted]
  obtain ⟨hex, hall⟩ := hypEnter_verifying (n := (s.dev.ctx c).hypOrder) (p := s.dev.num (O.cxHypPreempted c)) h.signal
  rw [ha.ctx, hh]
  refine ⟨hex, hall, fun m hm => (ha.ctx m).trans (ho m hm), fun h0 hv hw => ?_, fun hv => ?_⟩
  · rw [hn, Dev.preemptedNext_of_verifying hv (by rw [Dev.nat] at hw; omega), Dev.nat]
    omega
  · rw [hn, Dev.preemptedNext_of_saved hv]
    rfl

/-! ### HYP_VERIFY_FAIL -/

/-- A frame that keeps the power state and PART keeps what events can be raised. -/
theorem Frame.canRaise (h : Frame d x ps os es) (hp : Part.pw ∉ ps) (ho : ¬ os O.syPart) (he : ∀ v ∈ es, O.syPart ∉ eventObjs v) (v : Nat) :
    x.canRaise v = d.canRaise v := by
  have hpw : x.pw = d.pw := h.parts .pw hp
  have hpart : x.part = d.part := by
    simp only [Dev.part, Dev.nat, Dev.num, h.objs O.syPart (by decide) ho he]
  simp only [Dev.canRaise, Dev.fabricOn, Dev.asleep, hpw, hpart]

/-- An object of the contexts' area is none of the router's. -/
theorem not_eventObjs_of_area_cx {o v : Nat} (h : O.area o = 8) (hv : v < 128) : o ∉ eventObjs v := by
  intro m
  simp only [eventObjs, List.mem_cons, List.not_mem_nil, or_false, O.evEvCount, O.evEvPendCount, O.evEvTFirst, O.evEvTLast, O.evEvArg, O.mk] at m
  simp only [O.area] at h
  omega

/-- A context event is told after what changes no more than objects of the contexts' area and not the power state. -/
theorem told_cxEvent {k : Nat} (hf : Frame d x ps os []) (hp : Part.pw ∉ ps) (ho : os (O.cxEventContexts k)) (ha : ∀ o, os o → O.area o = 8)
    (hk : k < 32) (hx : (x.cxEvent k c).Alike e) : d.told e (64 + k) c := by
  intro hr
  have hb := hf.setN (withBit (x.nat (O.cxEventContexts k)) c true : Nat) (frees_of_mem (es := []) ho (by rw [ha _ ho]; decide))
  have hn : 64 + k ∉ notifyEvents := by simp only [notifyEvents, List.mem_cons, List.not_mem_nil, or_false]; omega
  rw [← hb.canRaise hp (fun m => absurd (ha _ m) (by decide)) (by simp)] at hr
  exact (raise_occurred _ c hr hn).frame (by omega) hn hb (hx.weaken (by simp) (fun _ m => m.elim) (by simp)) (by simp) (by simp)
    fun o m w => not_eventObjs_of_area_cx (ha o w) (by omega) m

/-- An object of the contexts' area other than the mask of event 64 + `k` is kept by raising that event. -/
theorem Dev.cxEvent_get {k o : Nat} (hk : k < 32) (q : quiet o = true) (ha : O.area o = 8) (ho : o ≠ O.cxEventContexts k) :
    (x.cxEvent k c).get o = x.get o := by
  have h := (Frame.refl (x.setN (O.cxEventContexts k) (withBit (x.nat (O.cxEventContexts k)) c true : Nat)) [] noObj [64 + k]).raise c
    (.inl (List.mem_singleton_self _))
  refine (h.objs o q (fun m => m) fun v hv => not_eventObjs_of_area_cx ha ?_).trans (by rw [Dev.get_setN, if_neg ho])
  rw [List.mem_singleton.1 hv]
  omega

theorem Dev.cxEvent_ctx (x : Dev) (k c m : Nat) : (x.cxEvent k c).ctx m = x.ctx m := by
  have h := (Frame.refl (x.setN (O.cxEventContexts k) (withBit (x.nat (O.cxEventContexts k)) c true : Nat)) [] noObj [64 + k]).raise c
    (.inl (List.mem_singleton_self _))
  simp only [Dev.ctx, Dev.cxEvent, show (Dev.raise _ _ _).cx = _ from h.parts .cx (by simp), Dev.setN_cx]

/-- The slots after the hypothesis under verification has failed. -/
def Dev.hypsLeft (d : Dev) (c : Nat) : List Hyp :=
  let l := (d.ctx c).hyps.filter (fun y => !y.verifying)
  match hypNewest l with
  | some n => l.map (fun y => if y.slot = n.slot then d.hypResume c y else y)
  | none => l

/-- A failed verification shows the slots left, counts and raises event 75. -/
theorem Dev.hypFail_eq {z : Hyp} (ha : d.cxSt c = 2) (hz : (d.ctx c).hyps.find? (·.verifying) = some z) (hf : d.hypFailed c z = true) :
    d.hypFail c = (((d.setCtx c { d.ctx c with hyps := d.hypsLeft c, dets := [] }).hypObjs c).inc (O.cxHypRejected c)).cxEvent 11 c := by
  simp only [Dev.hypFail, ha, if_true, hz, hf, Bool.not_true, Bool.false_eq_true, if_false]
  rfl

theorem Dev.hypsLeft_of_verifying (h : ∀ y ∈ (d.ctx c).hyps, y.verifying = true) : d.hypsLeft c = [] := by
  have e : (d.ctx c).hyps.filter (fun y => !y.verifying) = [] := by simpa using h
  simp only [Dev.hypsLeft, e]
  rfl

/-- Of the slots that were SAVED, the one saved last is put under verification. -/
theorem Dev.hypsLeft_of_saved (h : ∃ y ∈ (d.ctx c).hyps, y.verifying = false) :
    ∃ n ∈ (d.ctx c).hyps, n.verifying = false ∧ (∀ m ∈ (d.ctx c).hyps, m.verifying = false → m.saved ≤ n.saved) ∧
      ∃ y ∈ d.hypsLeft c, y.verifying = true ∧ y.det = n.det := by
  have mem : ∀ m, m ∈ (d.ctx c).hyps.filter (fun y => !y.verifying) ↔ m ∈ (d.ctx c).hyps ∧ m.verifying = false := by simp
  obtain ⟨y, hy, hv⟩ := h
  obtain ⟨n, hn, nv, he, hm⟩ := hypNewest_eq_some ⟨y, (mem y).2 ⟨hy, hv⟩, hv⟩
  refine ⟨n, ((mem n).1 hn).1, nv, fun m ml mv => hm m ((mem m).2 ⟨ml, mv⟩) mv, d.hypResume c n, ?_, rfl, rfl⟩
  simp only [Dev.hypsLeft, he]
  exact List.mem_map.2 ⟨n, hn, if_pos rfl⟩

/-- The part of O23 on HYP_VERIFY_FAIL. -/
theorem hypVerifyFail_completes (s : State) {z : Hyp} (hc : c < 64) (ha : s.dev.cxSt c = 2)
    (hz : (s.dev.ctx c).hyps.find? (·.verifying) = some z) (hf : s.dev.hypFailed c z = true) :
    Completes (.hypVerifyFail c) s [.cx] (setsOf [O.cxHypRejected c, O.cxEventContexts 11] [each 4 (O.cxHypState c)]) [75] (fun e =>
      s.dev.counted e (O.cxHypRejected c) 1 ∧ s.dev.told e 75 c ∧ s.dev.ctxOnly e c ∧
      ((∀ y ∈ (s.dev.ctx c).hyps, y.verifying = true) → (e.ctx c).hyps = []) ∧
      ((∃ y ∈ (s.dev.ctx c).hyps, y.verifying = false) →
        ∃ n ∈ (s.dev.ctx c).hyps, n.verifying = false ∧ (∀ m ∈ (s.dev.ctx c).hyps, m.verifying = false → m.saved ≤ n.saved) ∧
          ∃ y ∈ (e.ctx c).hyps, y.verifying = true ∧ y.det = n.det)) := by
  have hq := Dev.hypFail_eq ha hz hf
  generalize hv : ({ s.dev.ctx c with hyps := s.dev.hypsLeft c, dets := [] } : CtxSt) = v at hq
  have h1 : ∀ es, Frame s.dev (((s.dev.setCtx c v).hypObjs c).inc (O.cxHypRejected c)) [.cx]
      (setsOf [O.cxHypRejected c, O.cxEventContexts 11] [each 4 (O.cxHypState c)]) es := fun es =>
    ((Frame.refl _ _ _ _).setHyps hc (by simp) (fun o m => .inr ⟨_, List.mem_singleton_self _, m⟩) v).inc
      (frees_of_mem (.inl (by simp)) (by rw [area_cxHypRejected hc]; decide))
  have ho : ∀ o, setsOf [O.cxHypRejected c, O.cxEventContexts 11] [each 4 (O.cxHypState c)] o → O.area o = 8 := by
    rintro o (m | ⟨p, hp, m⟩)
    · simp only [List.mem_cons, List.not_mem_nil, or_false] at m
      rcases m with rfl | rfl
      · exact area_cxHypRejected hc
      · decide
    · obtain ⟨h, hh, rfl⟩ := List.mem_singleton.1 hp ▸ m
      exact area_cxHypState hc hh
  have he : setsOf [O.cxHypRejected c, O.cxEventContexts 11] [each 4 (O.cxHypState c)] (O.cxEventContexts 11) := .inl (by simp)
  refine completes_of (f := fun d => d.hypFail c) rfl ?_ fun e hx => ?_
  · simp only [hq]
    exact ((h1 _).setN _ (frees_of_mem he (by decide))).raise c (.inl (by simp))
  · rw [hq] at hx
    have hctx : ∀ m, e.ctx m = if m = c then v else s.dev.ctx m := fun m => by
      rw [hx.ctx, Dev.cxEvent_ctx, ← Dev.hypObjs_setCtx_ctx]
      rfl
    have hhyps : (e.ctx c).hyps = s.dev.hypsLeft c := by rw [hctx, if_pos rfl, ← hv]
    refine ⟨fun w => ?_, told_cxEvent (h1 []) (by simp) he ho (by omega) hx, fun m hm => by rw [hctx, if_neg hm], fun h => ?_, fun h => ?_⟩
    · have hn : ((s.dev.setCtx c v).hypObjs c).nat (O.cxHypRejected c) = s.dev.nat (O.cxHypRejected c) := by
        rw [Dev.nat, Dev.hypObjs_setCtx_num _ _ (cxHypRejected_not_shown c), Dev.nat]
      have q := quiet_cxHypRejected hc
      rw [← hn, ← Dev.nat_count _ 32 _ 1 (by rw [hn]; exact w), hx.nat q, Dev.nat, Dev.num,
        Dev.cxEvent_get (by omega) q (area_cxHypRejected hc) (by simp only [O.cxHypRejected, O.cxEventContexts, O.mk]; omega)]
      rfl
    · rw [hhyps, Dev.hypsLeft_of_verifying h]
    · rw [hhyps]
      exact Dev.hypsLeft_of_saved h

/-! ### The refutation -/

/-- An FM context 1 in ACQUIRING on one antenna whose HYP_PREEMPTED, a U32, holds -1; a signal at -60 kHz is under verification. -/
def preemptedBelowZero : Dev :=
  let found : HypDet := { entry := 0, mode := 0, offset := -60000, timing := 0, sample := 50, peak := 600, depth := 0, len := 0 }
  ((((State.reset.dev.setN (O.cxState 1) 2).setN (O.cxType 1) 1).setN (O.cxAntCount 1) 1).setN (O.cxHypPreempted 1) (-1)).setCtx 1
    { hyps := [{ slot := 0, det := found, verifying := true, saved := 0 }] }

/-- A detection of a second signal, at 60 kHz. -/
def secondSignal : HypDet := { entry := 0, mode := 0, offset := 60000, timing := 0, sample := 100, peak := 600, depth := 0, len := 0 }

theorem hypNew_secondSignal : preemptedBelowZero.HypNew 1 secondSignal where
  acquiring := by decide +kernel
  ok := by decide +kernel
  entry := by decide +kernel
  signal := by decide +kernel
  sample := by decide +kernel

/-- HYP_PREEMPTED goes from -1 to 0 there, which as a count is no rise. -/
theorem preemptedNext_belowZero : preemptedBelowZero.preemptedNext 1 = 0 ∧ preemptedBelowZero.nat (O.cxHypPreempted 1) = 0 := by
  decide +kernel

/-- Refutes O23: the statement ranges over every state, and a state may hold any integer in an object, also one that no U32 takes. HYP_DETECTION
counts from that integer, so where HYP_PREEMPTED holds -1 the hypothesis pre-empted takes it to 0, and the count read is 0 before and after.
Every other clause holds in every state (`hypDetection_completes`, `hypVerifyFail_completes`), and this one wherever HYP_PREEMPTED is not
below 0. -/
theorem not_acquisitionHypotheses : ¬ Obligations.AcquisitionHypotheses := by
  unfold Obligations.AcquisitionHypotheses
  intro h
  have new := hypNew_secondSignal
  obtain ⟨t, hex, -, -, -, hP⟩ :=
    (h { dev := preemptedBelowZero } 1 (by decide) (by decide) new.acquiring).1 secondSignal new.ok new.entry new.signal new.sample
  obtain ⟨-, -, -, hcount, -⟩ := hP
  -- the state that the command answers is the one of `upd_spec`
  obtain ⟨u, hu, -, -, alike⟩ := upd_spec { dev := preemptedBelowZero } (fun d => d.hypDetect 1 secondSignal)
  obtain rfl : u = t := Host.Outcome.next.inj (hu.symm.trans hex)
  have rises := hcount (by decide +kernel) (by rw [preemptedNext_belowZero.2]; decide)
  rw [alike.nat (quiet_cxHypPreempted (by decide)), Dev.nat, new.hypDetect_preempted, preemptedNext_belowZero.1, preemptedNext_belowZero.2] at rises
  exact absurd rises (by decide)

end Sys2Proof.Machine
end

section
/-! Reading rules that the statements on one context share: its objects, what it holds, and what a tick changes. -/

namespace Sys2Proof.Machine

variable {d x e : Dev} {ps : List Part} {os : Nat → Prop} {es : List Nat} {c : Nat}

/-! ### Objects of one context -/

theorem area_cxItem {i j : Nat} (hi : i < 4096 := by omega) (hj : j < 256 := by omega) : O.area (O.mk 8 i j) = 8 := by
  simp only [O.area, O.mk]
  omega

/-- An object of a context's block is quiet (its items begin at 100 hex). -/
theorem quiet_cxItem {i j : Nat} (h : 256 ≤ i := by omega) (hi : i < 4096 := by omega) (hj : j < 256 := by omega) : quiet (O.mk 8 i j) = true :=
  quiet_of_area_cx area_cxItem (by simp only [O.cxDecUsed, O.mk]; omega) (by simp only [O.cxDecWaiting, O.mk]; omega)

theorem frees_cxItem {i j : Nat} (ho : os (O.mk 8 i j)) (hi : i < 4096 := by omega) (hj : j < 256 := by omega) : frees os es (O.mk 8 i j) :=
  frees_of_mem ho (by rw [area_cxItem]; decide)

/-- Objects of the contexts' area differ as their items or elements do. -/
theorem cxItem_ne {i j k l : Nat} (hj : j < 256 := by omega) (hl : l < 256 := by omega) (h : i ≠ k ∨ j ≠ l := by omega) :
    O.mk 8 i j ≠ O.mk 8 k l := by
  simp only [O.mk]
  omega

/-! ### What a context holds -/

@[simp] theorem Dev.ctx_setN (d : Dev) (o : Nat) (n : Int) (m : Nat) : (d.setN o n).ctx m = d.ctx m := rfl
@[simp] theorem Dev.ctx_count (d : Dev) (w o k m : Nat) : (d.count w o k).ctx m = d.ctx m := rfl
@[simp] theorem Dev.ctx_inc (d : Dev) (o m : Nat) : (d.inc o).ctx m = d.ctx m := rfl

theorem Dev.ctx_setCtx_same (d : Dev) (c : Nat) (v : CtxSt) : (d.setCtx c v).ctx c = v := by rw [Dev.ctx_setCtx, if_pos rfl]

theorem Dev.ctxOnly_refl (d : Dev) (c : Nat) : d.ctxOnly d c := fun _ _ => rfl

theorem Dev.ctxOnly.setCtx (h : d.ctxOnly x c) (v : CtxSt) : d.ctxOnly (x.setCtx c v) c := fun m hm => by
  rw [Dev.ctx_setCtx, if_neg hm, h m hm]

theorem Dev.ctxOnly.alike (h : d.ctxOnly x c) (ha : x.Alike e) : d.ctxOnly e c := fun m hm => (ha.ctx m).trans (h m hm)

theorem Frame.setCtx (h : Frame d x ps os es) (hp : Part.cx ∈ ps) (c : Nat) (v : CtxSt) : Frame d (x.setCtx c v) ps os es := h.set_cx hp _

/-! ### Ticks -/

/-- The device at another instant, with other notes of the last ticks: what a tick makes of it, and all that a tick changes. -/
def Dev.clocked (d : Dev) (a m : Nat) (t : List (Nat × Nat)) : Dev := { d with now := a, mono := m, ticks := t }

theorem Dev.clockTo_eq (d : Dev) (k : Nat) : ∃ a m, d.clockTo k = { d with now := a, mono := m } := by
  unfold Dev.clockTo
  split
  · exact ⟨_, _, rfl⟩
  · exact ⟨_, _, rfl⟩

theorem Dev.tick_eq (d : Dev) (u n p : Nat) : ∃ a m t, d.tick u n p = d.clocked a m t := by
  unfold Dev.tick Dev.timeTo
  dsimp only
  generalize d.mono + _ = k
  obtain ⟨a, m, h⟩ := d.clockTo_eq k
  exact ⟨a, m, _, by rw [h]; rfl⟩

theorem Dev.sampleTick_eq (d : Dev) (u n : Nat) : ∃ a m t, (d.sampleTick u n).1 = d.clocked a m t := d.tick_eq ..

theorem Frame.clocked (h : Frame d x ps os es) (hp : Part.time ∈ ps) (ht : Part.ticks ∈ ps) (a m : Nat) (t : List (Nat × Nat)) :
    Frame d (x.clocked a m t) ps os es := (h.set_clock hp a m).set_ticks ht t

/-! ### Completing -/

theorem Completes.imp {i : Instr} {s : State} {P Q : Dev → Prop} (h : Completes i s ps os es P) (k : ∀ e, P e → Q e) :
    Completes i s ps os es Q := by
  obtain ⟨t, h1, h2, h3, h4, h5⟩ := h
  exact ⟨t, h1, h2, h3, h4, k _ h5⟩

end Sys2Proof.Machine
end

section
/-! FM and AM reception (chapter 6): what each command of O25 does to a context, and O25. -/

namespace Sys2Proof.Machine

variable {d x e : Dev} {ps : List Part} {os : Nat → Prop} {es : List Nat} {c : Nat}

/-! ### STEREO_CHANGE -/

theorem stereoChange_completes (s : State) (v : Bool) (hc : c < 64) (h1 : s.dev.nat (O.cxType c) = 1) (h2 : s.dev.cxWorks c = true)
    (h3 : 100 ≤ (if v then (s.dev.ctx c).ana.pilotHi else (s.dev.ctx c).ana.pilotLo)) :
    Completes (.stereoChange c v) s [] (only (O.cxStereo c)) [] (fun e => e.flag (O.cxStereo c) = v) := by
  have hq : s.dev.stereoSet c v = s.dev.setB (O.cxStereo c) v := if_pos ⟨h1, h2, h3⟩
  refine completes_of (f := fun d => d.stereoSet c v) rfl ?_ fun e ha => ?_
  · simp only [hq]
    exact (Frame.refl _ _ _ _).setB v (frees_cxItem rfl)
  · rw [ha.flag quiet_cxItem, hq]
    cases v <;> simp [Dev.flag]

/-! ### The detector (R187, R188) -/

/-- What asking context `c` for detector `v` makes of `d`: outside a crossfade the detector changes at once, by a crossfade of its own; in one
the change waits. -/
structure Dev.DetAsked (d x : Dev) (c v : Nat) : Prop where
  frame : Frame d x [.cx] (only (O.cxAmSideband c)) []
  others : d.ctxOnly x c
  idle : (d.ctx c).ana.detWas = none → x.nat (O.cxAmSideband c) = v ∧
    (x.ctx c).ana.detWas = if d.nat (O.cxAmSideband c) = v then none else some (d.nat (O.cxAmSideband c), 0)
  fading : (d.ctx c).ana.detWas.isSome = true → x.nat (O.cxAmSideband c) = d.nat (O.cxAmSideband c) ∧
    (x.ctx c).ana.detNext = if v = d.nat (O.cxAmSideband c) then none else some v

theorem Dev.detSet_asked (d : Dev) (hc : c < 64) (v : Nat) : d.DetAsked (d.detSet c v) c v := by
  unfold Dev.detSet
  dsimp only
  split
  case isTrue fading =>
    refine ⟨(Frame.refl _ _ _ _).setCtx (by simp) c _, (d.ctxOnly_refl c).setCtx _, fun h => ?_, fun _ => ⟨rfl, ?_⟩⟩
    · rw [h] at fading
      cases fading
    · rw [Dev.ctx_setCtx_same]
  case isFalse idle =>
    split
    case isTrue same => exact ⟨Frame.refl _ _ _ _, d.ctxOnly_refl c, fun h => ⟨same, by rw [if_pos same, h]⟩, fun h => absurd h idle⟩
    case isFalse other =>
      refine ⟨((Frame.refl _ _ _ _).setCtx (by simp) c _).setN _ (frees_cxItem rfl), (d.ctxOnly_refl c).setCtx _,
        fun _ => ⟨?_, ?_⟩, fun h => absurd h idle⟩
      · rw [Dev.nat_setN, if_pos rfl, Int.toNat_natCast]
      · rw [if_neg other]
        exact congrArg (·.ana.detWas) (Dev.ctx_setCtx_same d c _)

/-- SYNC_LOCK set to `b`, and the detector that AM_MODE then gives asked for: AM_PLL_LOCK and AM_PLL_UNLOCK alike. -/
theorem pll_completes {i : Instr} {s : State} {f : Dev → Dev} (b : Bool) (hc : c < 64) (hi : exec i s = s.upd f)
    (hf : f s.dev = (s.dev.setB (O.cxSyncLock c) b).detSet c ((s.dev.setB (O.cxSyncLock c) b).detNow c)) :
    Completes i s [.cx] (among [O.cxSyncLock c, O.cxAmSideband c]) [] (fun e =>
      e.flag (O.cxSyncLock c) = b ∧ s.dev.ctxOnly e c ∧
      ((s.dev.ctx c).ana.detWas = none → e.nat (O.cxAmSideband c) = (s.dev.setB (O.cxSyncLock c) b).detNow c) ∧
      ((s.dev.ctx c).ana.detWas.isSome = true → e.nat (O.cxAmSideband c) = s.dev.nat (O.cxAmSideband c))) := by
  have hk := (s.dev.setB (O.cxSyncLock c) b).detSet_asked hc ((s.dev.setB (O.cxSyncLock c) b).detNow c)
  rw [← hf] at hk
  have ne : O.cxAmSideband c ≠ O.cxSyncLock c := cxItem_ne
  have side : quiet (O.cxAmSideband c) = true := quiet_cxItem
  have lock : quiet (O.cxSyncLock c) = true := quiet_cxItem
  refine completes_of hi ?_ fun e ha => ⟨?_, ?_, fun h => ?_, fun h => ?_⟩
  · refine ((Frame.refl s.dev _ _ _).setB b (frees_cxItem (by simp [among]))).trans (hk.frame.weaken (by simp) ?_ (by simp))
    rintro o rfl
    simp [among]
  · rw [ha.flag lock, Dev.flag, Dev.num, hk.frame.objs _ lock (fun h => ne h.symm) (by simp), ← Dev.num, Dev.num_setB, if_pos rfl]
    cases b <;> rfl
  · exact hk.others.alike ha
  · rw [ha.nat side, (hk.idle h).1]
  · rw [ha.nat side, (hk.fading h).1, Dev.nat, Dev.num_setB, if_neg ne, Dev.nat]

theorem Dev.detNow_eq (d : Dev) (c : Nat) : d.detNow c =
    if (d.cxEff c (O.cxAmMode c)).toNat = 0 then (if d.flag (O.cxSyncLock c) then max 1 (d.nat (O.cxAmSideband c)) else 0)
    else (d.cxEff c (O.cxAmMode c)).toNat - 1 := by
  unfold Dev.detNow
  split
  · rename_i h
    rw [if_pos h]
  · rename_i h
    rw [h]
    rfl
  · rename_i h0 h1
    rw [if_neg h0]

/-- The detector that AM_MODE gives with SYNC_LOCK at `b`, every other object being as it was. -/
theorem Dev.detNow_setB (d : Dev) (c : Nat) (b : Bool) : (d.setB (O.cxSyncLock c) b).detNow c =
    if (d.cxEff c (O.cxAmMode c)).toNat = 0 then (if b then max 1 (d.nat (O.cxAmSideband c)) else 0)
    else (d.cxEff c (O.cxAmMode c)).toNat - 1 := by
  have n1 : O.cxAmMode c ≠ O.cxSyncLock c := cxItem_ne
  have n2 : O.cxAmSideband c ≠ O.cxSyncLock c := cxItem_ne
  have h1 : (d.setB (O.cxSyncLock c) b).cxEff c (O.cxAmMode c) = d.cxEff c (O.cxAmMode c) := by
    simp only [Dev.cxEff, Dev.num_setB, n1, if_false]
    rfl
  have h2 : (d.setB (O.cxSyncLock c) b).flag (O.cxSyncLock c) = b := by
    simp only [Dev.flag, Dev.num_setB, if_true]
    cases b <;> rfl
  have h3 : (d.setB (O.cxSyncLock c) b).nat (O.cxAmSideband c) = d.nat (O.cxAmSideband c) := by
    simp only [Dev.nat, Dev.num_setB, n2, if_false]
  rw [Dev.detNow_eq, h1, h2, h3]

theorem amPllLock_completes (s : State) (hc : c < 64) (ham : s.dev.cxAm c = true) (hl : 50 ≤ (s.dev.ctx c).ana.phLow) :
    Completes (.amPllLock c) s [.cx] (among [O.cxSyncLock c, O.cxAmSideband c]) [] (fun e =>
      e.flag (O.cxSyncLock c) = true ∧ s.dev.ctxOnly e c ∧ ((s.dev.ctx c).ana.detWas = none →
        (s.dev.cxEff c (O.cxAmMode c) = 0 → e.nat (O.cxAmSideband c) = max 1 (s.dev.nat (O.cxAmSideband c))) ∧
        (s.dev.cxEff c (O.cxAmMode c) = 1 → e.nat (O.cxAmSideband c) = 0)) ∧
      ((s.dev.ctx c).ana.detWas.isSome = true → e.nat (O.cxAmSideband c) = s.dev.nat (O.cxAmSideband c))) := by
  refine (pll_completes (f := fun d => d.pllLock c) true hc rfl (if_pos ⟨ham, hl⟩)).imp fun e ⟨h1, h2, h3, h4⟩ => ⟨h1, h2, fun hw => ?_, h4⟩
  rw [h3 hw, Dev.detNow_setB]
  exact ⟨fun h => by rw [h]; rfl, fun h => by rw [h]; rfl⟩

theorem amPllUnlock_completes (s : State) (hc : c < 64) (ham : s.dev.cxAm c = true) (hl : 20 ≤ (s.dev.ctx c).ana.phHigh) :
    Completes (.amPllUnlock c) s [.cx] (among [O.cxSyncLock c, O.cxAmSideband c]) [] (fun e =>
      e.flag (O.cxSyncLock c) = false ∧ s.dev.ctxOnly e c ∧ ((s.dev.ctx c).ana.detWas = none →
        (s.dev.cxEff c (O.cxAmMode c) = 0 → e.nat (O.cxAmSideband c) = 0) ∧
        (2 ≤ s.dev.cxEff c (O.cxAmMode c) → e.nat (O.cxAmSideband c) = (s.dev.cxEff c (O.cxAmMode c)).toNat - 1)) ∧
      ((s.dev.ctx c).ana.detWas.isSome = true → e.nat (O.cxAmSideband c) = s.dev.nat (O.cxAmSideband c))) := by
  refine (pll_completes (f := fun d => d.pllUnlock c) false hc rfl (if_pos ⟨ham, hl⟩)).imp fun e ⟨h1, h2, h3, h4⟩ => ⟨h1, h2, fun hw => ?_, h4⟩
  rw [h3 hw, Dev.detNow_setB]
  exact ⟨fun h => by rw [h]; rfl, fun h => if_neg (by omega)⟩

theorem amDetectorChange_completes (s : State) (v : Nat) (hc : c < 64) (h1 : s.dev.cxAm c = true) (h2 : s.dev.cxEff c (O.cxAmMode c) = 0)
    (h3 : s.dev.flag (O.cxSyncLock c) = true) (h4 : (s.dev.ctx c).ana.detWants = some v) :
    Completes (.amDetectorChange c v) s [.cx] (only (O.cxAmSideband c)) [] (fun e =>
      s.dev.ctxOnly e c ∧
      ((s.dev.ctx c).ana.detWas = none → e.nat (O.cxAmSideband c) = v ∧
        (e.ctx c).ana.detWas = if s.dev.nat (O.cxAmSideband c) = v then none else some (s.dev.nat (O.cxAmSideband c), 0)) ∧
      ((s.dev.ctx c).ana.detWas.isSome = true → e.nat (O.cxAmSideband c) = s.dev.nat (O.cxAmSideband c) ∧
        (e.ctx c).ana.detNext = if v = s.dev.nat (O.cxAmSideband c) then none else some v)) := by
  have hk : s.dev.DetAsked (s.dev.detChange c v) c v := by
    rw [show s.dev.detChange c v = s.dev.detSet c v from if_pos ⟨h1, h2, h3, h4⟩]
    exact s.dev.detSet_asked hc v
  refine completes_of (f := fun d => d.detChange c v) rfl hk.frame fun e ha => ?_
  rw [ha.nat quiet_cxItem, ha.ctx]
  exact ⟨hk.others.alike ha, hk.idle, hk.fading⟩

/-! ### Bandwidth (R172) -/

/-- Applying setting `w` shows its bandwidth and touches nothing but the context and that object. -/
theorem Dev.bwSet_spec (d : Dev) (hc : c < 64) (w : Nat) :
    Frame d (d.bwSet c w) [.cx] (only (O.cxIfbw c)) [] ∧ d.ctxOnly (d.bwSet c w) c ∧ ((d.bwSet c w).ctx c).bw = w ∧
    (d.bwSet c w).nat (O.cxIfbw c) = (if d.cxKind c = 0 then fmIf else amIf).getD w 0 ∧ (d.bwSet c w).mono = d.mono := by
  refine ⟨((Frame.refl _ _ _ _).setCtx (by simp) c _).setN _ (frees_cxItem rfl),
    (d.ctxOnly_refl c).setCtx _, congrArg (·.bw) (Dev.ctx_setCtx_same d c _), ?_, rfl⟩
  rw [Dev.bwSet, Dev.nat_setN, if_pos rfl, Int.toNat_natCast]

/-- A decision at mono time `m` keeps the setting in a crossfade, and where the target calls for none or for a wider one before its release;
else it sets `n`: the target where that is narrower, the next wider setting where it is wider. -/
theorem Dev.bwDecide_cases (lo hi : Int) (h1 : d.cxAnalogue c = true) (h2 : d.cxWorks c = true) (h3 : d.bwAuto c = true) :
    ∃ a m t, let x := d.ctx c
      let w := d.bwTarget c lo hi
      let free := x.bwAt + (d.cxEff c (O.cxIfbwReleaseMs c)).toNat * 1000000
      (m < x.bwFade ∨ w ≤ x.bw ∧ (w < x.bw → m < free)) ∧ d.bwDecide c lo hi = d.clocked a m t ∨
      ∃ n, x.bwFade ≤ m ∧ (x.bw < w ∧ n = w ∨ w < x.bw ∧ free ≤ m ∧ n = x.bw - 1) ∧ d.bwDecide c lo hi = (d.clocked a m t).bwSet c n := by
  obtain ⟨a, m, t, hk⟩ := d.sampleTick_eq (8320 + c) 1000000
  have hq : d.bwDecide c lo hi =
      if m < (d.ctx c).bwFade then d.clocked a m t
      else if (d.ctx c).bw < d.bwTarget c lo hi then (d.clocked a m t).bwSet c (d.bwTarget c lo hi)
      else if d.bwTarget c lo hi < (d.ctx c).bw ∧ (d.ctx c).bwAt + (d.cxEff c (O.cxIfbwReleaseMs c)).toNat * 1000000 ≤ m then
        (d.clocked a m t).bwSet c ((d.ctx c).bw - 1)
      else d.clocked a m t := by
    unfold Dev.bwDecide
    rw [if_neg (by simp [h1, h2, h3]), hk]
    rfl
  refine ⟨a, m, t, ?_⟩
  dsimp only
  split at hq
  case isTrue fading => exact .inl ⟨.inl fading, hq⟩
  case isFalse steady =>
    split at hq
    case isTrue narrower => exact .inr ⟨_, by omega, .inl ⟨narrower, rfl⟩, hq⟩
    case isFalse =>
      split at hq
      case isTrue wider => exact .inr ⟨_, by omega, .inr ⟨wider.1, wider.2, rfl⟩, hq⟩
      case isFalse => exact .inl ⟨.inr ⟨by omega, by omega⟩, hq⟩

theorem ifbwDecision_completes (s : State) (lo hi : Int) (hc : c < 64) (h1 : s.dev.cxAnalogue c = true) (h2 : s.dev.cxWorks c = true)
    (h3 : s.dev.bwAuto c = true) :
    Completes (.ifbwDecision c lo hi) s [.cx, .ticks, .time] (only (O.cxIfbw c)) [] (fun e =>
      let x := s.dev.ctx c
      let t := s.dev.bwTarget c lo hi
      let l := if s.dev.cxKind c = 0 then fmIf else amIf
      let free := x.bwAt + (s.dev.cxEff c (O.cxIfbwReleaseMs c)).toNat * 1000000
      (e.mono < x.bwFade → e.ctx c = x) ∧ (x.bw = t → e.ctx c = x) ∧
      (x.bwFade ≤ e.mono → x.bw < t → (e.ctx c).bw = t ∧ e.nat (O.cxIfbw c) = l.getD t 0) ∧
      (x.bwFade ≤ e.mono → t < x.bw → free ≤ e.mono → (e.ctx c).bw = x.bw - 1 ∧ e.nat (O.cxIfbw c) = l.getD (x.bw - 1) 0) ∧
      (t < x.bw → e.mono < free → e.ctx c = x) ∧ s.dev.ctxOnly e c) := by
  obtain ⟨a, m, k, hk⟩ := s.dev.bwDecide_cases lo hi h1 h2 h3
  have still : Frame s.dev (s.dev.clocked a m k) [.cx, .ticks, .time] (only (O.cxIfbw c)) [] :=
    (Frame.refl _ _ _ _).clocked (by simp) (by simp) a m k
  dsimp only at hk ⊢
  rcases hk with ⟨keep, hq⟩ | ⟨n, steady, step, hq⟩
  · refine completes_of (f := fun d => d.bwDecide c lo hi) rfl (hq ▸ still) fun e ha => ?_
    rw [hq] at ha
    have hm : e.mono = m := (ha.part .time).2
    have hx : e.ctx c = s.dev.ctx c := ha.ctx c
    exact ⟨fun _ => hx, fun _ => hx, fun _ _ => by omega, fun _ _ _ => by omega, fun _ _ => hx, fun j _ => ha.ctx j⟩
  · obtain ⟨moved, others, hb, hn, hmono⟩ := (s.dev.clocked a m k).bwSet_spec hc n
    refine completes_of (f := fun d => d.bwDecide c lo hi) rfl
      (hq ▸ still.trans (moved.weaken (by simp) (fun _ h => h) (by simp))) fun e ha => ?_
    rw [hq] at ha
    have hm : e.mono = m := (ha.part .time).2.trans hmono
    have hset : (e.ctx c).bw = n ∧ e.nat (O.cxIfbw c) = (if s.dev.cxKind c = 0 then fmIf else amIf).getD n 0 :=
      ⟨by rw [ha.ctx, hb], (ha.nat quiet_cxItem).trans hn⟩
    have target : (s.dev.ctx c).bw < s.dev.bwTarget c lo hi → n = s.dev.bwTarget c lo hi := fun _ => by omega
    have wider : s.dev.bwTarget c lo hi < (s.dev.ctx c).bw → n = (s.dev.ctx c).bw - 1 := fun _ => by omega
    exact ⟨fun _ => by omega, fun _ => by omega, fun _ h => target h ▸ hset, fun _ h _ => wider h ▸ hset, fun _ _ => by omega,
      fun j hj => (ha.ctx j).trans (others j hj)⟩

/-! ### Blend, high-cut and mute (R178, R179) -/

/-- The target of the blend (R178): that of AQ, and 0 without stereo (log 111). -/
def Dev.blendTarget (d : Dev) (c : Nat) : Int :=
  if !d.flag (O.cxStereo c) || decide (d.cxEff c (O.cxStereoMode c) = 1) then 0
  else unitRatio (d.qNow c (O.cxQAq c) - d.cxEff c (O.cxBlendLo c)) (d.cxEff c (O.cxBlendHi c) - d.cxEff c (O.cxBlendLo c))

theorem Dev.blendTarget_eq (d : Dev) (c : Nat) : d.blendTarget c =
    if d.flag (O.cxStereo c) = true ∧ d.cxEff c (O.cxStereoMode c) ≠ 1 then
      unitRatio (d.qNow c (O.cxQAq c) - d.cxEff c (O.cxBlendLo c)) (d.cxEff c (O.cxBlendHi c) - d.cxEff c (O.cxBlendLo c))
    else 0 := by
  unfold Dev.blendTarget
  by_cases h1 : d.flag (O.cxStereo c) = true
  · by_cases h2 : d.cxEff c (O.cxStereoMode c) = 1 <;> simp [h1, h2]
  · simp [h1]

/-- The target of the mute (R178). -/
def Dev.muteTarget (d : Dev) (c : Nat) : Int :=
  d.cxEff c (O.cxMuteMax c) *
    unitRatio (d.cxEff c (O.cxMuteHi c) - d.qNow c (O.cxQAq c)) (d.cxEff c (O.cxMuteHi c) - d.cxEff c (O.cxMuteLo c))

/-- The blend after one tick, in fixed point. -/
def Dev.blendNext (d : Dev) (c : Nat) : Int :=
  if d.nat (O.cxType c) = 1 then smooth (d.ctx c).alpha (d.blendTarget c)
    (if d.blendTarget c < (d.ctx c).alpha then (d.cxEff c (O.cxAttackMs c)).toNat else (d.cxEff c (O.cxReleaseMs c)).toNat)
  else 0

/-- The mute after one tick, in fixed point. -/
def Dev.muteNext (d : Dev) (c : Nat) : Int :=
  smooth (d.ctx c).mute (d.muteTarget c)
    (if (d.ctx c).mute < d.muteTarget c then (d.cxEff c (O.cxAttackMs c)).toNat else (d.cxEff c (O.cxReleaseMs c)).toNat)

/-- A tick without an AQ moves nothing; one with an AQ takes one step and shows it. -/
theorem Dev.aqTick_cases (ht : d.nat (O.cxType c) = 1 ∨ d.nat (O.cxType c) = 2) (hs : d.cxSt c = 3 ∨ d.cxSt c = 4) :
    ∃ a m t, d.qNow c (O.cxQAq c) = -32768 ∧ d.aqTick c = d.clocked a m t ∨
      d.qNow c (O.cxQAq c) ≠ -32768 ∧ ∃ (v : CtxSt) (h : Int), v.alpha = d.blendNext c ∧ v.mute = d.muteNext c ∧
        d.aqTick c = (((((d.clocked a m t).setCtx c v).setN (O.cxBlend c) (divRound (100 * v.alpha) fxOne)).setN (O.cxHicut c) h).setN
          (O.cxMuteAtten c) (divRound v.mute fxOne)) := by
  obtain ⟨a, m, t, hk⟩ := d.sampleTick_eq (8384 + c) 1000000
  have go : ¬ ((d.nat (O.cxType c) ≠ 1 ∧ d.nat (O.cxType c) ≠ 2) ∨ (d.cxSt c ≠ 3 ∧ d.cxSt c ≠ 4)) := by omega
  refine ⟨a, m, t, ?_⟩
  unfold Dev.aqTick
  dsimp only
  rw [if_neg go, hk]
  by_cases hq : d.qNow c (O.cxQAq c) = -32768
  · exact .inl ⟨hq, if_pos hq⟩
  · exact .inr ⟨hq, _, _, rfl, rfl, if_neg hq⟩

theorem audioQualityTick_completes (s : State) (hc : c < 64) (ht : s.dev.nat (O.cxType c) = 1 ∨ s.dev.nat (O.cxType c) = 2)
    (hs : s.dev.cxSt c = 3 ∨ s.dev.cxSt c = 4) :
    Completes (.audioQualityTick c) s [.cx, .ticks, .time] (among [O.cxBlend c, O.cxHicut c, O.cxMuteAtten c]) [] (fun e =>
      (s.dev.qNow c (O.cxQAq c) = -32768 → e.ctx c = s.dev.ctx c) ∧
      (s.dev.qNow c (O.cxQAq c) ≠ -32768 →
        (e.ctx c).mute = s.dev.muteNext c ∧ e.num (O.cxMuteAtten c) = divRound (e.ctx c).mute fxOne ∧
        (e.ctx c).alpha = s.dev.blendNext c ∧ e.num (O.cxBlend c) = divRound (100 * (e.ctx c).alpha) fxOne) ∧
      s.dev.ctxOnly e c) := by
  have ticked : ∀ a m t, Frame s.dev (s.dev.clocked a m t) [.cx, .ticks, .time] (among [O.cxBlend c, O.cxHicut c, O.cxMuteAtten c]) [] :=
    fun a m t => (Frame.refl _ _ _ _).clocked (by simp) (by simp) a m t
  obtain ⟨a, m, t, ⟨hq, hk⟩ | ⟨hq, v, h, hb, hm, hk⟩⟩ := Dev.aqTick_cases ht hs
  · refine completes_of (f := fun d => d.aqTick c) rfl (hk ▸ ticked a m t) fun e ha => ?_
    rw [hk] at ha
    exact ⟨fun _ => ha.ctx c, fun n => absurd hq n, fun n _ => ha.ctx n⟩
  · refine completes_of (f := fun d => d.aqTick c) rfl ?_ fun e ha => ?_
    · simp only [hk]
      exact ((((ticked a m t).setCtx (by simp) c v).setN _ (frees_cxItem (by simp [among]))).setN _
        (frees_cxItem (by simp [among]))).setN _ (frees_cxItem (by simp [among]))
    · rw [hk] at ha
      have hx : e.ctx c = v := (ha.ctx c).trans (Dev.ctx_setCtx_same _ c v)
      have n1 : O.cxBlend c ≠ O.cxHicut c := cxItem_ne
      have n2 : O.cxBlend c ≠ O.cxMuteAtten c := cxItem_ne
      have hB : e.num (O.cxBlend c) = divRound (100 * v.alpha) fxOne := by
        rw [ha.num quiet_cxItem]
        simp only [Dev.num_setN, n1, n2, if_false, if_true]
      have hM : e.num (O.cxMuteAtten c) = divRound v.mute fxOne := by
        rw [ha.num quiet_cxItem]
        simp only [Dev.num_setN, if_true]
      refine ⟨fun n => absurd n hq, fun _ => ?_, Dev.ctxOnly.alike ?_ ha⟩
      · rw [hx]
        exact ⟨hm, hM, hb, hB⟩
      · exact (s.dev.ctxOnly_refl c).setCtx v

/-- In HOLD nothing moves (R179). -/
theorem audioQualityTick_hold (s : State) (hs : s.dev.cxSt c = 5) :
    Completes (.audioQualityTick c) s [] noObj [] (fun e => e.ctx c = s.dev.ctx c) := by
  have hk : s.dev.aqTick c = s.dev := if_pos (.inr (by omega))
  exact completes_of (f := fun d => d.aqTick c) rfl (hk.symm ▸ Frame.refl _ _ _ _) fun e ha => (hk ▸ ha).ctx c

/-! ### INDICATOR_INTERVAL (R177, R189) -/

/-- `e` is `d` but for what context `c` holds beside its indicators. -/
structure Dev.KeepsShown (d e : Dev) (c : Nat) : Prop where
  eq : ∃ z, e = { d with cx := z }
  others : d.ctxOnly e c
  shown : (e.ctx c).shown = (d.ctx c).shown
  intervals : (e.ctx c).intervals = (d.ctx c).intervals

theorem Dev.KeepsShown.refl (d : Dev) (c : Nat) : d.KeepsShown d c := ⟨⟨_, rfl⟩, d.ctxOnly_refl c, rfl, rfl⟩

theorem Dev.KeepsShown.setCtx (d : Dev) {c : Nat} {v : CtxSt} (hs : v.shown = (d.ctx c).shown) (hi : v.intervals = (d.ctx c).intervals) :
    d.KeepsShown (d.setCtx c v) c :=
  ⟨⟨_, rfl⟩, (d.ctxOnly_refl c).setCtx v, by rw [Dev.ctx_setCtx_same, hs], by rw [Dev.ctx_setCtx_same, hi]⟩

theorem Frame.keepsShown (h : Frame d x ps os es) (hp : Part.cx ∈ ps) (k : x.KeepsShown e c) : Frame d e ps os es := by
  obtain ⟨z, rfl⟩ := k.eq
  exact h.set_cx hp z

theorem Dev.indVerify_keepsShown (d : Dev) (c : Nat) (r : SigIn) : d.KeepsShown (d.indVerify c r) c := by
  unfold Dev.indVerify
  dsimp only
  split
  · split
    · exact .setCtx d rfl rfl
    · exact .refl d c
  · exact .setCtx d rfl rfl
  · exact .refl d c

theorem Dev.pcmOut_keepsShown (d : Dev) (c m : Nat) (l : List (Int × Int)) : d.KeepsShown (d.pcmOut c m l) c := by
  unfold Dev.pcmOut
  exact ite_both (P := fun x => d.KeepsShown x c) (.refl d c) (.setCtx d rfl rfl)

/-- The indicators of context `c` that an interval ending at `t` shows: `v` as measured, and its AQ. -/
def indShown (c : Nat) (v : List (Option Int)) (aq : Option Int) (t : Nat) : List (Nat × Int × Int) :=
  [(O.cxQLevel c, levelOr (v.getD 0 none), -32768), (O.cxQSnr c, levelOr (v.getD 1 none), -32768),
    (O.cxQUsn c, levelOr (v.getD 2 none), -32768), (O.cxQMultipath c, levelOr (v.getD 3 none), -32768), (O.cxQOffset c, (v.getD 4 none).getD 0, 0),
    (O.cxQDeviation c, (v.getD 5 none).getD 0, 0), (O.cxQPilot c, (v.getD 6 none).getD 0, 0), (O.cxQAq c, levelOr aq, -32768),
    (O.cxQTime c, (t : Int), (t : Int))]

/-- Whether an interval can measure nothing: in HOLD, or without tap samples. -/
def Dev.indDead (d : Dev) (c : Nat) (r : SigIn) : Bool := decide (d.cxSt c = 5) || r.taps.all (·.isEmpty)

/-- The device at the end of an interval of context `c`, its hypothesis or held signal checked: what the chain works on. -/
def Dev.indStart (d : Dev) (c : Nat) (r : SigIn) : Dev := (d.sampleTick (8192 + c) 1000000).1.indVerify c r

/-- It differs from the device in time and in what the context holds beside its indicators. -/
theorem Dev.indStart_eq (d : Dev) (c : Nat) (r : SigIn) : ∃ a m t, (d.clocked a m t).KeepsShown (d.indStart c r) c := by
  obtain ⟨a, m, t, hk⟩ := d.sampleTick_eq (8192 + c) 1000000
  exact ⟨a, m, t, by rw [← hk]; exact Dev.indVerify_keepsShown _ c r⟩

/-- What an interval measures, the chain giving the last four: LEVEL, SNR, USN, MULTIPATH, offset, deviation and pilot, of which AM has no USN,
MULTIPATH and pilot. -/
def Dev.indMeasured (d : Dev) (c : Nat) (r : SigIn) (usn offset dev pilot : Int) : List (Option Int) :=
  let fm := decide (d.cxKind c = 0)
  if d.indDead c r then List.replicate 7 none
  else [r.level, r.snr, if fm then some usn else none, if fm then r.multipath else none, some offset, some dev, if fm then some pilot else none]

/-- An interval of a working context notes its indicators and counts itself, then counts, shows the gain and the detector, and hands out PCM. -/
theorem Dev.indicate_eq (d : Dev) (c : Nat) (r : SigIn) (h1 : d.cxAnalogue c = true) (h2 : d.cxWorks c = true) :
    ∃ v n k g b p l,
      (∃ usn offset dev pilot t, let w := (d.indStart c r).indMeasured c r usn offset dev pilot
        v.shown = indShown c w ((d.indStart c r).aqOf c w) t) ∧
      v.intervals = ((d.indStart c r).ctx c).intervals + 1 ∧
      d.indicate c r = ((((((d.indStart c r).setCtx c v).count 32 (O.cxBlankCount c) n).count 32 (O.cxAudioSat c) k).setN
        (O.cxDevGain c) g).setN (O.cxAmSideband c) b).pcmOut c p l := by
  unfold Dev.indicate
  rw [if_neg (by simp [h1, h2])]
  refine ⟨_, _, _, _, _, _, _, ?_, ?_, rfl⟩
  · exact ⟨_, _, _, _, _, rfl⟩
  · rfl

theorem Dev.indDead_iff (d : Dev) (c : Nat) (r : SigIn) : d.indDead c r = true ↔ d.cxSt c = 5 ∨ ∀ l ∈ r.taps, l = [] := by
  simp [Dev.indDead]

theorem Dev.indMeasured_dead {r : SigIn} (h : d.indDead c r = true) (usn offset dev pilot : Int) :
    d.indMeasured c r usn offset dev pilot = List.replicate 7 none := if_pos h

theorem Dev.indMeasured_live {r : SigIn} (h : ¬ d.indDead c r = true) (usn offset dev pilot : Int) :
    d.indMeasured c r usn offset dev pilot =
      [r.level, r.snr, if d.cxKind c = 0 then some usn else none, if d.cxKind c = 0 then r.multipath else none, some offset, some dev,
        if d.cxKind c = 0 then some pilot else none] := by
  simp only [Dev.indMeasured, if_neg h, decide_eq_true_eq]

theorem Dev.aqOf_of_no_snr {v : List (Option Int)} (h : v.getD 1 none = none) : d.aqOf c v = none := by
  simp only [Dev.aqOf, h]

theorem Dev.aqOf_of_am {v : List (Option Int)} {q : Int} (hk : d.cxKind c = 1) (h : v.getD 1 none = some q) :
    d.aqOf c v = some (satS 16 q) := by
  simp only [Dev.aqOf, h, hk, if_true]

theorem Dev.aqOf_of_fm {v : List (Option Int)} {q u m : Int} (hk : d.cxKind c = 0) (h1 : v.getD 1 none = some q) (h2 : v.getD 2 none = some u)
    (h3 : v.getD 3 none = some m) : d.aqOf c v = some (satS 16 (min q (min (-u - 600) (-m - 600)))) := by
  simp only [Dev.aqOf, h1, h2, h3, hk]
  rfl

/-- What an interval of an FM or AM context shows (Table 6.12, R177, R189). -/
structure Dev.IndRight (d : Dev) (c : Nat) (r : SigIn) (q : List (Nat × Int × Int)) : Prop where
  dead : (d.cxSt c = 5 ∨ ∀ l ∈ r.taps, l = []) →
    ∀ o ∈ [O.cxQLevel c, O.cxQSnr c, O.cxQUsn c, O.cxQMultipath c, O.cxQAq c], (o, -32768, -32768) ∈ q
  live : ¬ (d.cxSt c = 5 ∨ ∀ l ∈ r.taps, l = []) →
    (O.cxQLevel c, levelOr r.level, -32768) ∈ q ∧ (O.cxQSnr c, levelOr r.snr, -32768) ∈ q ∧
    (d.cxKind c = 0 → (O.cxQMultipath c, levelOr r.multipath, -32768) ∈ q ∧ ∃ u, (O.cxQUsn c, u, -32768) ∈ q ∧
      ∀ v m, r.snr = some v → r.multipath = some m → (O.cxQAq c, satS 16 (min v (min (-u - 600) (-m - 600))), -32768) ∈ q) ∧
    (¬ d.cxKind c = 0 → (O.cxQMultipath c, -32768, -32768) ∈ q ∧ (O.cxQUsn c, -32768, -32768) ∈ q ∧
      ∀ v, r.snr = some v → (O.cxQAq c, satS 16 v, -32768) ∈ q) ∧
    (r.snr = none → (O.cxQAq c, -32768, -32768) ∈ q)

theorem Dev.indShown_right (d : Dev) (c : Nat) (r : SigIn) (hk : d.cxKind c < 2) (usn offset dev pilot : Int) (t : Nat) :
    d.IndRight c r (indShown c (d.indMeasured c r usn offset dev pilot) (d.aqOf c (d.indMeasured c r usn offset dev pilot)) t) := by
  refine ⟨fun h => ?_, fun h => ?_⟩
  · rw [Dev.indMeasured_dead ((d.indDead_iff c r).2 h), Dev.aqOf_of_no_snr (by rfl)]
    simp [indShown, levelOr]
  · rw [← d.indDead_iff c r] at h
    rw [Dev.indMeasured_live h]
    refine ⟨by simp [indShown], by simp [indShown], fun fm => ⟨by simp [indShown, fm], usn, by simp [indShown, fm, levelOr], fun v m hv hm => ?_⟩,
      fun am => ⟨by simp [indShown, am, levelOr], by simp [indShown, am, levelOr], fun v hv => ?_⟩, fun hv => ?_⟩
    · rw [Dev.aqOf_of_fm (q := v) (u := usn) (m := m) fm (by simp [hv]) (by simp [fm]) (by simp [fm, hm])]
      simp [indShown, levelOr]
    · rw [Dev.aqOf_of_am (q := v) (by omega) (by simp [hv])]
      simp [indShown, levelOr]
    · rw [Dev.aqOf_of_no_snr (by simp [hv])]
      simp [indShown, levelOr]

/-- Readings that IndRight takes of a device stay where only time and what contexts hold beside their objects change. -/
theorem Dev.IndRight.of_objs {d y : Dev} {r : SigIn} {q : List (Nat × Int × Int)} (h : y.IndRight c r q) (ho : y.objs = d.objs) :
    d.IndRight c r q := by
  have hs : y.cxSt c = d.cxSt c := by simp only [Dev.cxSt, Dev.nat, Dev.num, Dev.get, ho]
  have hk : y.cxKind c = d.cxKind c := by simp only [Dev.cxKind, Dev.nat, Dev.num, Dev.get, ho]
  obtain ⟨dead, live⟩ := h
  rw [hs] at dead live
  rw [hk] at live
  exact ⟨dead, live⟩

/-- The objects that an interval of context `c` may change before the end of the run. -/
def indObjs (c : Nat) : Nat → Prop := among [O.cxBlankCount c, O.cxAudioSat c, O.cxDevGain c, O.cxAmSideband c]

theorem Dev.indicate_frame (d : Dev) (r : SigIn) (hc : c < 64) (h1 : d.cxAnalogue c = true) (h2 : d.cxWorks c = true) :
    Frame d (d.indicate c r) [.cx, .ticks, .time] (indObjs c) [] := by
  obtain ⟨v, n, k, g, b, p, l, -, -, hq⟩ := d.indicate_eq c r h1 h2
  obtain ⟨a, m, t, hstart⟩ := d.indStart_eq c r
  rw [hq]
  generalize d.indStart c r = y at hstart
  refine Frame.keepsShown ?_ (by simp) (Dev.pcmOut_keepsShown _ c p l)
  refine Frame.setN (Frame.setN (Frame.count (Frame.count ?_ _ _ ?_) _ _ ?_) _ ?_) _ ?_
  · exact (((Frame.refl d _ _ _).clocked (by simp) (by simp) a m t).keepsShown (by simp) hstart).setCtx (by simp) c v
  all_goals exact frees_cxItem (by simp [indObjs, among])

/-- An interval leaves the other contexts alone, counts itself, and shows what it should. -/
theorem Dev.indicate_ctx (d : Dev) (c : Nat) (r : SigIn) (h1 : d.cxAnalogue c = true) (h2 : d.cxWorks c = true) :
    d.IndRight c r ((d.indicate c r).ctx c).shown ∧ ((d.indicate c r).ctx c).intervals = (d.ctx c).intervals + 1 ∧
    d.ctxOnly (d.indicate c r) c := by
  obtain ⟨v, n, k, g, b, p, l, ⟨usn, offset, dev, pilot, t, hs⟩, hi, hq⟩ := d.indicate_eq c r h1 h2
  obtain ⟨a, m, ts, hstart⟩ := d.indStart_eq c r
  have hkind : d.cxKind c < 2 := by
    simp only [Dev.cxAnalogue, Bool.and_eq_true, decide_eq_true_eq] at h1
    exact h1.1
  rw [hq]
  generalize d.indStart c r = y at hstart hs hi
  have hobjs : y.objs = d.objs := by
    obtain ⟨z, rfl⟩ := hstart.eq
    rfl
  have hk : y.cxKind c = d.cxKind c := by simp only [Dev.cxKind, Dev.nat, Dev.num, Dev.get, hobjs]
  generalize hz : ((((y.setCtx c v).count 32 (O.cxBlankCount c) n).count 32 (O.cxAudioSat c) k).setN (O.cxDevGain c) g).setN
    (O.cxAmSideband c) b = z
  have kept : ∀ j, z.ctx j = if j = c then v else y.ctx j := fun j => by
    rw [← hz, Dev.ctx_setN, Dev.ctx_setN, Dev.ctx_count, Dev.ctx_count, Dev.ctx_setCtx]
  have hend := Dev.pcmOut_keepsShown z c p l
  refine ⟨?_, ?_, fun j hj => ?_⟩
  · rw [hend.shown, kept, if_pos rfl, hs]
    exact (y.indShown_right c r (hk ▸ hkind) usn offset dev pilot t).of_objs hobjs
  · rw [hend.intervals, kept, if_pos rfl, hi, hstart.intervals]
    rfl
  · rw [hend.others j hj, kept, if_neg hj, hstart.others j hj]
    rfl

theorem indicatorInterval_completes (s : State) (r : SigIn) (hc : c < 64) (h1 : s.dev.cxAnalogue c = true) (h2 : s.dev.cxWorks c = true) :
    Completes (.indicatorInterval c r) s [.cx, .ticks, .time] (indObjs c) [] (fun e =>
      s.dev.IndRight c r (e.ctx c).shown ∧ (e.ctx c).intervals = (s.dev.ctx c).intervals + 1 ∧ s.dev.ctxOnly e c) := by
  obtain ⟨right, count, others⟩ := s.dev.indicate_ctx c r h1 h2
  refine completes_of (f := fun d => d.indicate c r) rfl (s.dev.indicate_frame r hc h1 h2) fun e ha => ?_
  rw [ha.ctx c]
  exact ⟨right, count, others.alike ha⟩

/-! ### O25 -/

/-- Settles O25: it holds in every state, by what each of its commands does (the theorems named `…_completes` above). -/
theorem analogueReception : Obligations.AnalogueReception := by
  unfold Obligations.AnalogueReception
  intro s c _ hc
  refine ⟨fun r h1 h2 => ?_, fun ht hs => ?_, fun hs => ?_, fun lo hi h1 h2 h3 => ifbwDecision_completes s lo hi hc h1 h2 h3,
    fun v h1 h2 h3 => stereoChange_completes s v hc h1 h2 h3, fun h1 h2 => amPllLock_completes s hc h1 h2,
    fun h1 h2 => amPllUnlock_completes s hc h1 h2, fun v h1 h2 h3 h4 => amDetectorChange_completes s v hc h1 h2 h3 h4⟩
  · exact (indicatorInterval_completes s r hc h1 h2).imp fun e ⟨right, count, others⟩ => ⟨right.dead, right.live, count, others⟩
  · refine (audioQualityTick_completes s hc ht hs).imp fun e ⟨idle, step, others⟩ => ⟨idle, fun hq => ?_, others⟩
    obtain ⟨hm, hM, hb, hB⟩ := step hq
    rw [Dev.blendNext, Dev.blendTarget_eq] at hb
    exact ⟨hm, hM, hb, hB⟩
  · exact audioQualityTick_hold s hs

end Sys2Proof.Machine
end

section
/-! RDS blocks (R183, R184) and measurement windows (R191, R192): what one of each does to a context, and O26. -/

namespace Sys2Proof.Machine

variable {d x e : Dev} {ps : List Part} {os : Nat → Prop} {es : List Nat} {c : Nat}

/-! ### Offsets (R184, log 19) -/

theorem rdsNext_lt {o k : Nat} (h : k ∈ rdsNext o) : k < 6 := by
  unfold rdsNext at h
  split at h <;> simp only [List.mem_cons, List.not_mem_nil, or_false] at h <;> omega

theorem rdsOffsets_inj : ∀ j < 6, ∀ k < 6, rdsOffsets.getD j 0 = rdsOffsets.getD k 0 → j = k := by decide

/-- The six offset words differ, so a search for the one that a remainder equals finds it. -/
theorem find_rdsOffset {l : List Nat} {k n : Nat} (hl : ∀ j ∈ l, j < 6) (hk : k ∈ l) (h : n = rdsOffsets.getD k 0) :
    l.find? (fun j => decide (n = rdsOffsets.getD j 0)) = some k := by
  cases hf : l.find? (fun j => decide (n = rdsOffsets.getD j 0)) with
  | none => exact absurd h (by simpa using List.find?_eq_none.1 hf k hk)
  | some j =>
    have hj : n = rdsOffsets.getD j 0 := by simpa using List.find?_some hf
    rw [rdsOffsets_inj j (hl j (List.mem_of_find?_eq_some hf)) k (hl k hk) (hj.symm.trans h)]

theorem rdsRem_ne_of_rdsFix {w off b : Nat} (h : rdsFix w off b = none) : rdsRem 16 w ≠ off := by
  intro k
  rw [rdsFix, if_pos k] at h
  cases h

/-! ### The stream's synchronisation -/

/-- Stream `stream` of context `c` holds `y`, and its bit of RDS_SYNC says whether it is synchronised. -/
def Dev.rdsPut (d : Dev) (c stream : Nat) (y : RdsSync) : Dev :=
  (d.setCtx c { d.ctx c with rds := Tab.set {} (d.ctx c).rds stream y }).setN (O.cxRdsSync c)
    (withBit (d.nat (O.cxRdsSync c)) stream y.sync : Nat)

/-- The objects that a block of context `c` may change. -/
def rdsObjs (c : Nat) : Nat → Prop := among [O.cxRdsSync c, O.cxRdsBlocks c, O.cxRdsUncorr c]

theorem Dev.rdsPut_frame (d : Dev) (stream : Nat) (y : RdsSync) (hc : c < 64) : Frame d (d.rdsPut c stream y) [.cx] (rdsObjs c) [] :=
  ((Frame.refl _ _ _ _).setCtx (by simp) c _).setN _ (frees_cxItem (by simp [rdsObjs, among]))

theorem Dev.rdsPut_others (d : Dev) (c stream : Nat) (y : RdsSync) : d.ctxOnly (d.rdsPut c stream y) c := (d.ctxOnly_refl c).setCtx _

theorem Dev.rdsPut_ctx (d : Dev) (c stream : Nat) (y : RdsSync) :
    (d.rdsPut c stream y).ctx c = { d.ctx c with rds := Tab.set {} (d.ctx c).rds stream y } := Dev.ctx_setCtx_same ..

theorem Dev.rdsPut_bit (d : Dev) (c stream : Nat) (y : RdsSync) :
    ((d.rdsPut c stream y).nat (O.cxRdsSync c)).testBit stream = y.sync := by
  rw [Dev.rdsPut, Dev.nat_setN, if_pos rfl, Int.toNat_natCast, withBit_testBit, if_pos rfl]

theorem Dev.rdsPut_nat (d : Dev) (c stream : Nat) (y : RdsSync) {o : Nat} (h : o ≠ O.cxRdsSync c) :
    (d.rdsPut c stream y).nat o = d.nat o := by
  rw [Dev.rdsPut, Dev.nat_setN, if_neg h]
  rfl

/-- An entry for the next frame, and the PIs kept. -/
def Dev.rdsNote (d : Dev) (c : Nat) (x : Nat × Nat × List Byte) (pis : List Nat) : Dev :=
  d.setCtx c { d.ctx c with rdsOut := (d.ctx c).rdsOut ++ [x], pis := pis }

section
variable {stream chips sample first w : Nat} {last : Bool} {y : RdsSync}

/-- Unsynchronised, a block whose offset may follow the one before it synchronises the stream. -/
theorem Dev.rdsBlock_of_follow {p k : Nat} (hr : d.rdsOn c stream = true) (hy : Tab.get {} (d.ctx c).rds stream = y)
    (hd : rdsWord y.last chips = (last, w)) (hs : y.sync = false) (hp : y.prev = some p) (hk : k ∈ rdsNext p)
    (hw : rdsRem 16 w = rdsOffsets.getD k 0) :
    d.rdsBlock c stream chips sample first =
      d.rdsPut c stream { sync := true, expect := k, fresh := true, last := last, lostAt := y.lostAt } := by
  have hit := find_rdsOffset (l := List.range 6) (by simp) (List.mem_range.2 (rdsNext_lt hk)) hw
  have follows : (rdsNext p).any (fun n => decide (n = k)) = true := by simpa using hk
  unfold Dev.rdsBlock
  simp only [hr, hy, hd, hs, hit, hp, Option.any_some, follows, Bool.not_true, Bool.false_eq_true, if_false, Bool.not_false, if_true, Bool.and_self]
  rfl

/-- Unsynchronised, a block with none of the offsets leaves nothing to follow. -/
theorem Dev.rdsBlock_of_miss (hr : d.rdsOn c stream = true) (hy : Tab.get {} (d.ctx c).rds stream = y)
    (hd : rdsWord y.last chips = (last, w)) (hs : y.sync = false) (hw : ∀ k < 6, rdsRem 16 w ≠ rdsOffsets.getD k 0) :
    d.rdsBlock c stream chips sample first = d.rdsPut c stream { last := last, lostAt := y.lostAt } := by
  have miss : (List.range 6).find? (fun k => decide (rdsRem 16 w = rdsOffsets.getD k 0)) = none :=
    List.find?_eq_none.2 fun k hk => by simpa using hw k (List.mem_range.1 hk)
  unfold Dev.rdsBlock
  simp only [hr, hy, hd, hs, miss, Bool.not_true, Bool.false_eq_true, if_false, Bool.not_false, if_true, Bool.false_and]
  rfl

/-- In synchronisation a block with an expected offset is counted and entered with its information word, no bit of it corrected. -/
theorem Dev.rdsBlock_of_expected {k : Nat} (hr : d.rdsOn c stream = true) (hy : Tab.get {} (d.ctx c).rds stream = y)
    (hd : rdsWord y.last chips = (last, w)) (hs : y.sync = true) (hk : k ∈ rdsNext y.expect) (hw : rdsRem 16 w = rdsOffsets.getD k 0) :
    ∃ z f pis, d.rdsBlock c stream chips sample first = ((d.rdsPut c stream z).inc (O.cxRdsBlocks c)).rdsNote c
      (sample, stream, leBytes 2 (w / 1024) ++ leBytes 1 stream ++ leBytes 1 k ++ leBytes 1 0 ++ leBytes 1 f) pis := by
  have found := find_rdsOffset (fun j => rdsNext_lt) hk hw
  unfold Dev.rdsBlock
  simp only [hr, hy, hd, hs, found, Bool.not_true, Bool.false_eq_true, if_false, Option.isNone_some, Nat.xor_zero]
  exact ⟨_, _, _, rfl⟩

/-- In synchronisation a block that no correction fits is counted, and counted as uncorrectable. -/
theorem Dev.rdsBlock_of_uncorrectable (hr : d.rdsOn c stream = true) (hy : Tab.get {} (d.ctx c).rds stream = y)
    (hd : rdsWord y.last chips = (last, w)) (hs : y.sync = true)
    (hw : ∀ k ∈ rdsNext y.expect, rdsFix w (rdsOffsets.getD k 0) (d.cxEff c (O.cxRdsErrMax c)).toNat = none) :
    ∃ z b pis, d.rdsBlock c stream chips sample first =
      (((d.rdsPut c stream z).inc (O.cxRdsBlocks c)).inc (O.cxRdsUncorr c)).rdsNote c (sample, stream, b) pis := by
  have miss : (rdsNext y.expect).find? (fun k => decide (rdsRem 16 w = rdsOffsets.getD k 0)) = none :=
    List.find?_eq_none.2 fun k hk => by simpa using rdsRem_ne_of_rdsFix (hw k hk)
  have unfit : (rdsNext y.expect).findSome? (fun k =>
      (rdsFix w (rdsOffsets.getD k 0) (d.cxEff c (O.cxRdsErrMax c)).toNat).map (fun e => (k, e))) = none :=
    List.findSome?_eq_none_iff.2 fun k hk => by rw [hw k hk]; rfl
  unfold Dev.rdsBlock
  simp only [hr, hy, hd, hs, miss, unfit, Bool.not_true, Bool.false_eq_true, if_false, Option.isNone_none, if_true]
  exact ⟨_, _, _, rfl⟩

end

/-! ### RDS_BLOCK -/

theorem Dev.rdsNote_others (d : Dev) (c : Nat) (x : Nat × Nat × List Byte) (pis : List Nat) : d.ctxOnly (d.rdsNote c x pis) c :=
  (d.ctxOnly_refl c).setCtx _

theorem Dev.rdsNote_rdsOut (d : Dev) (c : Nat) (x : Nat × Nat × List Byte) (pis : List Nat) :
    ((d.rdsNote c x pis).ctx c).rdsOut = (d.ctx c).rdsOut ++ [x] := congrArg (·.rdsOut) (Dev.ctx_setCtx_same d c _)

theorem Dev.rdsNote_nat (d : Dev) (c : Nat) (x : Nat × Nat × List Byte) (pis : List Nat) (o : Nat) : (d.rdsNote c x pis).nat o = d.nat o := rfl

theorem Dev.nat_inc {o : Nat} (h : d.nat o + 1 < 2 ^ 32) : (d.inc o).nat o = d.nat o + 1 := d.nat_count 32 o 1 h
theorem Dev.nat_inc_ne {o n : Nat} (h : n ≠ o) : (d.inc o).nat n = d.nat n := d.nat_count_ne 32 o 1 n h

theorem cxRdsBlocks_ne_sync (c : Nat) : O.cxRdsBlocks c ≠ O.cxRdsSync c := cxItem_ne
theorem cxRdsUncorr_ne_sync (c : Nat) : O.cxRdsUncorr c ≠ O.cxRdsSync c := cxItem_ne
theorem cxRdsBlocks_ne_uncorr (c : Nat) : O.cxRdsBlocks c ≠ O.cxRdsUncorr c := cxItem_ne

section
variable {s : State} {stream chips sample first w : Nat} {last : Bool} {y : RdsSync}

/-- A block that leaves no more than the stream's synchronisation. -/
theorem rdsPut_completes (hc : c < 64) (h : s.dev.rdsBlock c stream chips sample first = s.dev.rdsPut c stream y) :
    Completes (.rdsBlock c stream chips sample first) s [.cx] (rdsObjs c) [] (fun e =>
      Tab.get {} (e.ctx c).rds stream = y ∧ (e.nat (O.cxRdsSync c)).testBit stream = y.sync ∧ s.dev.ctxOnly e c) := by
  refine completes_of (f := fun d => d.rdsBlock c stream chips sample first) rfl (h ▸ s.dev.rdsPut_frame stream y hc) fun e ha => ?_
  rw [h] at ha
  refine ⟨?_, ?_, (s.dev.rdsPut_others c stream y).alike ha⟩
  · rw [ha.ctx, Dev.rdsPut_ctx, Tab.get_set, if_pos rfl]
  · rw [ha.nat quiet_cxItem, Dev.rdsPut_bit]

theorem rdsExpected_completes {k : Nat} (hc : c < 64) (hr : s.dev.rdsOn c stream = true) (hy : Tab.get {} (s.dev.ctx c).rds stream = y)
    (hd : rdsWord y.last chips = (last, w)) (hs : y.sync = true) (hk : k ∈ rdsNext y.expect) (hw : rdsRem 16 w = rdsOffsets.getD k 0) :
    Completes (.rdsBlock c stream chips sample first) s [.cx] (rdsObjs c) [] (fun e =>
      s.dev.counted e (O.cxRdsBlocks c) 1 ∧ e.nat (O.cxRdsUncorr c) = s.dev.nat (O.cxRdsUncorr c) ∧ s.dev.ctxOnly e c ∧
      ∃ b, (e.ctx c).rdsOut = (s.dev.ctx c).rdsOut ++ [(sample, stream, b)] ∧
        b.take 5 = leBytes 2 (w / 1024) ++ leBytes 1 stream ++ leBytes 1 k ++ leBytes 1 0) := by
  obtain ⟨z, f, pis, hq⟩ := Dev.rdsBlock_of_expected (sample := sample) (first := first) hr hy hd hs hk hw
  refine completes_of (f := fun d => d.rdsBlock c stream chips sample first) rfl ?_ fun e ha => ?_
  · simp only [hq]
    exact ((s.dev.rdsPut_frame stream z hc).inc (frees_cxItem (by simp [rdsObjs, among]))).setCtx (by simp) c _
  · rw [hq] at ha
    refine ⟨fun hn => ?_, ?_, fun m hm => ?_, leBytes 2 (w / 1024) ++ leBytes 1 stream ++ leBytes 1 k ++ leBytes 1 0 ++ leBytes 1 f, ?_, rfl⟩
    · rw [← s.dev.rdsPut_nat c stream z (cxRdsBlocks_ne_sync c)] at hn ⊢
      rw [ha.nat quiet_cxItem, Dev.rdsNote_nat, Dev.nat_inc hn]
    · rw [ha.nat quiet_cxItem, Dev.rdsNote_nat, Dev.nat_inc_ne (cxRdsBlocks_ne_uncorr c).symm,
        Dev.rdsPut_nat _ _ _ _ (cxRdsUncorr_ne_sync c)]
    · rw [ha.ctx, Dev.rdsNote_others _ c _ pis m hm, Dev.ctx_inc, s.dev.rdsPut_others c stream z m hm]
    · rw [ha.ctx, Dev.rdsNote_rdsOut, Dev.ctx_inc, Dev.rdsPut_ctx]

theorem rdsUncorrectable_completes (hc : c < 64) (hr : s.dev.rdsOn c stream = true) (hy : Tab.get {} (s.dev.ctx c).rds stream = y)
    (hd : rdsWord y.last chips = (last, w)) (hs : y.sync = true)
    (hw : ∀ k ∈ rdsNext y.expect, rdsFix w (rdsOffsets.getD k 0) (s.dev.cxEff c (O.cxRdsErrMax c)).toNat = none) :
    Completes (.rdsBlock c stream chips sample first) s [.cx] (rdsObjs c) [] (fun e =>
      s.dev.counted e (O.cxRdsBlocks c) 1 ∧ s.dev.counted e (O.cxRdsUncorr c) 1 ∧ s.dev.ctxOnly e c) := by
  obtain ⟨z, b, pis, hq⟩ := Dev.rdsBlock_of_uncorrectable (sample := sample) (first := first) hr hy hd hs hw
  refine completes_of (f := fun d => d.rdsBlock c stream chips sample first) rfl ?_ fun e ha => ?_
  · simp only [hq]
    exact (((s.dev.rdsPut_frame stream z hc).inc (frees_cxItem (by simp [rdsObjs, among]))).inc
      (frees_cxItem (by simp [rdsObjs, among]))).setCtx (by simp) c _
  · rw [hq] at ha
    refine ⟨fun hn => ?_, fun hn => ?_, fun m hm => ?_⟩
    · rw [← s.dev.rdsPut_nat c stream z (cxRdsBlocks_ne_sync c)] at hn ⊢
      rw [ha.nat quiet_cxItem, Dev.rdsNote_nat, Dev.nat_inc_ne (cxRdsBlocks_ne_uncorr c), Dev.nat_inc hn]
    · have hu : ((s.dev.rdsPut c stream z).inc (O.cxRdsBlocks c)).nat (O.cxRdsUncorr c) = s.dev.nat (O.cxRdsUncorr c) := by
        rw [Dev.nat_inc_ne (cxRdsBlocks_ne_uncorr c).symm, Dev.rdsPut_nat _ _ _ _ (cxRdsUncorr_ne_sync c)]
      rw [← hu] at hn ⊢
      rw [ha.nat quiet_cxItem, Dev.rdsNote_nat, Dev.nat_inc hn]
    · rw [ha.ctx, Dev.rdsNote_others _ c _ pis m hm, Dev.ctx_inc, Dev.ctx_inc, s.dev.rdsPut_others c stream z m hm]

end

/-! ### MEAS_WINDOW_END (R191, R192) -/

/-- With FM the objects of a window show its record's figures. -/
def Dev.measShow (d : Dev) (c : Nat) (x : List Byte × Int × Nat) : Dev :=
  if d.cxKind c = 0 then (d.setN (O.cxMpxPower c) x.2.1).setN (O.cxDevExceed c) x.2.2 else d

/-- A record shown, and carried in this run's frame. -/
def Dev.measPut (d : Dev) (c : Nat) (x : List Byte × Int × Nat) : Dev :=
  (d.measShow c x).setCtx c { (d.measShow c x).ctx c with meas := ((d.measShow c x).ctx c).meas ++ [x.1] }

/-- The objects that a window of context `c` may change. -/
def measObjs (c : Nat) : Nat → Prop := among [O.cxMpxPower c, O.cxDevExceed c]

theorem Frame.measPut (h : Frame d x ps (measObjs c) es) (hc : c < 64) (hp : Part.cx ∈ ps) (r : List Byte × Int × Nat) :
    Frame d (x.measPut c r) ps (measObjs c) es := by
  refine Frame.setCtx (ite_both (P := fun z => Frame d z ps (measObjs c) es) ((h.setN _ ?_).setN _ ?_) h) hp c _
  all_goals exact frees_cxItem (by simp [measObjs, among])

theorem Dev.measShow_ctx (d : Dev) (c : Nat) (r : List Byte × Int × Nat) (m : Nat) : (d.measShow c r).ctx m = d.ctx m :=
  ite_both (P := fun z : Dev => z.ctx m = d.ctx m) rfl rfl

theorem Dev.measPut_ctx (d : Dev) (c : Nat) (r : List Byte × Int × Nat) (m : Nat) :
    (d.measPut c r).ctx m = if m = c then { d.ctx c with meas := (d.ctx c).meas ++ [r.1] } else d.ctx m := by
  rw [Dev.measPut, Dev.ctx_setCtx, Dev.measShow_ctx, Dev.measShow_ctx]

theorem Dev.measPut_shows (d : Dev) (c : Nat) (r : List Byte × Int × Nat) (h : d.cxKind c = 0) :
    ((d.measPut c r).num (O.cxMpxPower c), (d.measPut c r).nat (O.cxDevExceed c)) = r.2 := by
  have ne : O.cxMpxPower c ≠ O.cxDevExceed c := cxItem_ne
  show ((d.measShow c r).num (O.cxMpxPower c), (d.measShow c r).nat (O.cxDevExceed c)) = r.2
  rw [Dev.measShow, if_pos h, Dev.num_setN, if_neg ne, Dev.num_setN, if_pos rfl, Dev.nat_setN, if_pos rfl, Int.toNat_natCast]

/-- What a window shows of itself depends neither on when it ends nor on whether it was cut short, nor on the time. -/
theorem Dev.measRecord_shown (d : Dev) (c a m : Nat) (t : List (Nat × Nat)) (w : MeasWin) (b : Nat) (cut : Bool) (r : MeasRep) :
    ((d.clocked a m t).measRecord c w b cut r).2 = (d.measRecord c w 0 false r).2 := rfl

/-- The window whose record is due: one cut short before the open one. -/
def Dev.measDue (d : Dev) (c : Nat) : MeasWin :=
  match (d.ctx c).cuts with
  | w :: _ => w.1
  | [] => (d.ctx c).window

theorem Dev.measEnd_of_cut {r : MeasRep} {w : MeasWin × Nat} {l : List (MeasWin × Nat)} (ht : d.nat (O.cxType c) = 9) (hw : d.cxWorks c = true)
    (hl : (d.ctx c).cuts = w :: l) :
    d.measEnd c r = (d.setCtx c { d.ctx c with cuts := l }).measPut c (d.measRecord c w.1 w.2 true r) := by
  unfold Dev.measEnd
  rw [if_neg (by simp [ht, hw])]
  simp only [hl]
  rfl

/-- The device as the open window of context `c` ends. -/
def Dev.measTick (d : Dev) (c : Nat) : Dev := d.tick (8448 + c) (max 1 (d.cxEff c (O.cxMeasWindowMs c)).toNat * 1000000) 0

theorem Dev.measEnd_of_whole {r : MeasRep} (ht : d.nat (O.cxType c) = 9) (hw : d.cxWorks c = true) (hl : (d.ctx c).cuts = []) :
    ∃ b, d.measEnd c r = ((d.measTick c).setCtx c { (d.measTick c).ctx c with window := { start := b } }).measPut c
      ((d.measTick c).measRecord c ((d.measTick c).ctx c).window b false r) := by
  unfold Dev.measEnd
  rw [if_neg (by simp [ht, hw]), hl]
  exact ⟨_, rfl⟩

/-- MEAS_WINDOW_END takes a window off the context, which then holds `v`, and puts a record with the figures of the window due. -/
theorem Dev.measEnd_eq {r : MeasRep} (ht : d.nat (O.cxType c) = 9) (hw : d.cxWorks c = true) :
    ∃ a m t v x, d.measEnd c r = ((d.clocked a m t).setCtx c v).measPut c x ∧ x.2 = (d.measRecord c (d.measDue c) 0 false r).2 ∧
      v.meas = (d.ctx c).meas ∧ ((d.ctx c).cuts = [] → v.window.rows = []) ∧ ∀ w l, (d.ctx c).cuts = w :: l → v.cuts = l := by
  cases hl : (d.ctx c).cuts with
  | cons w l =>
    have due : d.measDue c = w.1 := by rw [Dev.measDue, hl]
    refine ⟨d.now, d.mono, d.ticks, _, _, Dev.measEnd_of_cut ht hw hl, ?_, rfl, (fun h => by cases h), fun _ _ h => ?_⟩
    · rw [due]
      exact d.measRecord_shown c d.now d.mono d.ticks w.1 w.2 true r
    · cases h
      rfl
  | nil =>
    have due : d.measDue c = (d.ctx c).window := by rw [Dev.measDue, hl]
    obtain ⟨b, hq⟩ := Dev.measEnd_of_whole (r := r) ht hw hl
    obtain ⟨a, m, t, hk⟩ : ∃ a m t, d.measTick c = d.clocked a m t := d.tick_eq ..
    rw [hk] at hq
    refine ⟨a, m, t, _, _, hq, ?_, rfl, fun _ => rfl, (fun _ _ h => by cases h)⟩
    rw [due]
    exact d.measRecord_shown c a m t (d.ctx c).window b false r

theorem measWindowEnd_completes (s : State) (r : MeasRep) (hc : c < 64) (ht : s.dev.nat (O.cxType c) = 9) (hw : s.dev.cxWorks c = true) :
    Completes (.measWindowEnd c r) s [.cx, .ticks, .time] (measObjs c) [] (fun e =>
      (∃ b, (e.ctx c).meas = (s.dev.ctx c).meas ++ [b]) ∧ s.dev.ctxOnly e c ∧
      (s.dev.cxKind c = 0 → (e.num (O.cxMpxPower c), e.nat (O.cxDevExceed c)) = (s.dev.measRecord c (s.dev.measDue c) 0 false r).2) ∧
      ((s.dev.ctx c).cuts = [] → (e.ctx c).window.rows = []) ∧ (∀ w l, (s.dev.ctx c).cuts = w :: l → (e.ctx c).cuts = l)) := by
  obtain ⟨a, m, t, v, x, hq, hx, hmeas, hrows, hcuts⟩ := Dev.measEnd_eq (r := r) ht hw
  refine completes_of (f := fun d => d.measEnd c r) rfl ?_ fun e ha => ?_
  · simp only [hq]
    exact (((Frame.refl _ _ _ _).clocked (by simp) (by simp) a m t).setCtx (by simp) c v).measPut hc (by simp) x
  · rw [hq] at ha
    have hctx : e.ctx c = { v with meas := v.meas ++ [x.1] } := by
      rw [ha.ctx, Dev.measPut_ctx, if_pos rfl, Dev.ctx_setCtx_same]
    rw [hctx, hmeas, ha.num quiet_cxItem, ha.nat quiet_cxItem]
    refine ⟨⟨x.1, rfl⟩, fun n hn => ?_, fun fm => (((s.dev.clocked a m t).setCtx c v).measPut_shows c x fm).trans hx, hrows, hcuts⟩
    rw [ha.ctx, Dev.measPut_ctx, if_neg hn, Dev.ctx_setCtx, if_neg hn]
    rfl

/-! ### O26 -/

/-- Settles O26: it holds in every state. Of a stream's blocks it names four kinds, by the synchronisation and the offset found; a window is whole
or cut short. -/
theorem rdsAndMeasurement : Obligations.RdsAndMeasurement := by
  unfold Obligations.RdsAndMeasurement
  intro s c _ hc
  refine ⟨fun stream chips sample first hr => ⟨fun p k _ hs hp hk hw => ?_, fun hs hw => ?_, fun k hs hk hw => ?_, fun hs hw => ?_⟩, fun r ht hw => ?_⟩
  · exact rdsPut_completes hc (Dev.rdsBlock_of_follow hr rfl rfl hs hp hk hw)
  · exact rdsPut_completes hc (Dev.rdsBlock_of_miss hr rfl rfl hs hw)
  · exact rdsExpected_completes hc hr rfl rfl hs hk hw
  · exact rdsUncorrectable_completes hc hr rfl rfl hs hw
  · exact measWindowEnd_completes s r hc ht hw

end Sys2Proof.Machine
end
